-- ==== Sys2Proof/Word.lean ====
section
/-!
DEFINITION. The plain value types of the BK16C model and their plainest arithmetic.
Registers are 32-bit words (R56); a byte is 8 bits; a frame number is an unsigned 32-bit count that wraps (R17).
-/

namespace Sys2Proof

/-- One byte. -/
abbrev Byte := BitVec 8

/-- A register word: every register is 32 bits wide (R56). -/
abbrev Word := BitVec 32

/-- A raster frame number, wrapping from 0xFFFF_FFFF to 0 (R17). -/
abbrev Frame := BitVec 32

/-- A buffer handle (R279); 0 means "none". -/
abbrev Handle := BitVec 32

/-- `(f - cur) mod 2^32 ≥ 2^31`: the modular rule of R39, R486 and R487 for "has passed". -/
def Frame.passed (f cur : Frame) : Bool := decide (2 ^ 31 ≤ (f - cur).toNat)

/-- `f` is `cur` or lies ahead of it under the same modular rule. -/
def Frame.atOrAfter (f start : Frame) : Bool := !(Frame.passed f start)

/-- Smallest multiple of `m` that is at least `n`. -/
def roundUp (n m : Nat) : Nat := ((n + m - 1) / m) * m

/-- Ceiling division. -/
def ceilDiv (n m : Nat) : Nat := (n + m - 1) / m

end Sys2Proof
end

