-- ==== Sys2Proof/Config.lean ====
section
/-!
DEFINITION. What one part fixes, and the values the spec leaves open.
Every constant below is opaque: no proof can see a value of it, so a claim holds whatever it is.
Each is named in a row of the assumption log.
-/

namespace Sys2Proof

/-- Bits one coding-tree unit costs under each of the three ways R221 may code it. -/
structure CtuBits where
  normal : Nat
  squeezed : Nat
  minimal : Nat
deriving DecidableEq, Repr, Inhabited

/-- What an encoder core makes of one picture or tile; its content is the encoder's own choice (R219). -/
structure Coded where
  bytes : List Byte
  qpAvg : Int
  nonVclBits : Nat
  rows : List (List CtuBits)
  refPoison : Bool
  sourcePoison : Bool
deriving DecidableEq, Repr, Inhabited

/-- What an H.265 parser finds at the head of a decode context's input: the next picture, under the published
standard that R228 names and does not restate. -/
structure ParsedPicture where
  /-- bytes of the input that the picture uses up -/
  used : Nat
  /-- the parameter sets in force after it -/
  sets : List Byte
  /-- PicOrderCntVal -/
  poc : Int
  /-- the size before cropping, and the conformance window -/
  width : Nat
  height : Nat
  left : Nat
  top : Nat
  cropW : Nat
  cropH : Nat
  /-- CHROMA in the coding of R177, BitDepth and the CTU size -/
  chroma : Nat
  bitDepth : Nat
  ctb : Nat
  irap : Bool
  rasl : Bool
  /-- the picture begins a coded video sequence; prior pictures are then not output -/
  newSequence : Bool
  noOutputPrior : Bool
  /-- PicOutputFlag -/
  output : Bool
  /-- PicOrderCntVal of every picture in the reference picture set, and of those in the reference lists -/
  refs : List Int
  listed : List Int
  /-- sps_max_dec_pic_buffering, sps_max_num_reorder_pics, and SpsMaxLatencyPictures (0 = no limit) -/
  maxBuffering : Nat
  maxReorder : Nat
  maxLatency : Nat
  /-- 1 = the profile, 2 = the level lies outside R228; 0 = neither -/
  outside : Nat
  /-- error kinds of R237 found, each with the CTUs it loses -/
  errors : List (Nat × List Nat)
  /-- the picture's first slice header was lost: it cannot be identified (R237) -/
  headerLost : Bool
deriving DecidableEq, Repr, Inhabited

/-- The 64-bit device serial: fused per part, stated by no rule. DESIGN CHOICE, safe (log entry 10): serial, AVS fuse,
certificate and flash contents are opaque. -/
opaque Config.serial : BitVec 64

/-- The fused AVS code of the part, 0 to 80 (R449). DESIGN CHOICE, safe (log entry 10): serial, AVS fuse, certificate and
flash contents are opaque. -/
opaque Config.avsFuse : Nat

/-- XMSS-SHAKE256_20_256 verification (R432): public key number (0 firmware, 1 debug), message, signature. -/
opaque Config.xmssVerify : Nat → List Byte → List Byte → Bool

/-- XMSSMT-SHAKE256_20/2_256 signature with one-time key index `i` (R432, R438). -/
opaque Config.xmssSign : Nat → List Byte → List Byte

/-- What the board's boot flash holds in a slot before the device first writes it (R433): stated by no rule. -/
opaque Config.flash : Nat → List Byte

/-- The device certificate written at manufacture (R439). DESIGN CHOICE, safe (log entry 10): serial, AVS fuse,
certificate and flash contents are opaque. -/
opaque Config.certificate : List Byte

/-- The fresh 32-byte challenges of SEC_DEBUG_CHALLENGE, one per draw (R442). -/
opaque Config.challenge : Nat → List Byte

/-- The DEFLATE encoder: level, preset history, input. Its output is a function of these (R253, R254); which valid stream
it writes is not stated byte for byte. DESIGN CHOICE, safe (log entry 13): HEVC, DEFLATE encoding, XMSS, ISO boxes and
challenges are opaque functions. -/
opaque Config.deflate : Nat → List Byte → List Byte → List Byte

/-- What a core codes (R195 to R221): a free value per picture coded. DESIGN CHOICE, safe (log entry 13): HEVC, DEFLATE
encoding, XMSS, ISO boxes and challenges are opaque functions. -/
opaque Config.coded : Nat → Coded

/-- The H.265 parse of the head of an input (R228, R237): parameter sets in force, input with `none` for a byte returned
poisoned, and whether the input ends there; `none` when no whole picture is queued. DESIGN CHOICE, safe (log entry 13):
HEVC, DEFLATE encoding, XMSS, ISO boxes and challenges are opaque functions. -/
opaque Config.parsePicture : List Byte → List (Option Byte) → Bool → Option ParsedPicture

/-- The decoded planes of a picture before concealment (R228): parameter sets, input, and the reference planes with
their PicOrderCntVal. -/
opaque Config.decodePicture : List Byte → List (Option Byte) → List (Int × List (List (List Nat))) → List (List (List Nat))

/-- The error of TRANSFER 1 to 3 (R172), by TRANSFER and argument in Q0.24: modulo 3, 0 = none, 1 = one unit of 2^-16 above the
rounded exact value, 2 = one below. -/
opaque Config.transferError : Nat → Nat → Nat

/-- The ftyp and moov boxes of a rendition file (R317), under ISO/IEC 14496-12 and 14496-15, which the spec does not
restate: track timescale and sample duration, and the first access unit, whose parameter sets hvcC holds. -/
opaque Config.isoHead : Nat → Nat → List Byte → List Byte

/-- A moof box (R317): fragment number, tfdt, and per sample its size, duration and whether it is a sync sample; then
the bytes that stand between the moof and the samples. -/
opaque Config.isoMoof : Nat → Nat → List (Nat × Nat × Bool) → Nat → List Byte

/-- The bytes a freed or never described place returns where the spec states none; drawn by number. -/
opaque Config.freeByte : Nat → Byte

/-- A free number, drawn by a counter, where the spec states an effect but not its value. DESIGN CHOICE, safe (log entry
9): values that the spec leaves open are free values drawn by State.fresh. -/
opaque Config.freeNat : Nat → Nat

end Sys2Proof
end

