-- ==== Sys2Proof/Syntax.lean ====
section
/-!
DEFINITION. The commands the block takes: one constructor per row of spec/opcode_table.json.
A row that names a mailbox command carries a `Call`: the mailbox it comes through, its header's tag and form and its
payload items, as they stand at the command's apply instant (R64).
A row that names an event at a pin, a lane, a bus or a timer carries what the outside world delivers with it.
-/

namespace Sys2Proof

/-- The register blocks that own a wide window (R50, R59, R81 and each chapter's register rule). -/
inductive Blk where
  | sys | ras | ina | inb | mil | lks | shf | dec | cmp | grn | rcd | net | mon | aud | evt | tbl | bus | sec | pwr
deriving DecidableEq, Repr

/-- The two paths into the device (R52, R54). -/
inductive Path where
  | controlPort | pcie
deriving DecidableEq, Repr

/-- One payload item: TYPE and value; LEN is the value's length (R66). -/
structure Item where
  ty : Nat
  val : List Byte
deriving DecidableEq, Repr, Inhabited

/-- A mailbox command at its apply instant: mailbox 0 to 15 (R60), header form (2 or 3) and minor version, TAG,
BY_HANDLE and the payload items (R65, R66, R73). `cut` is the TYPE of a last item that the payload does not hold
whole. -/
structure Call where
  mb : Nat
  major : Nat
  minor : Nat
  tag : Nat
  byHandle : Bool
  items : List Item
  cut : Option Nat := none
deriving DecidableEq, Repr, Inhabited

/-- A Device Clock value (R35). -/
structure Clk where
  sec : BitVec 48
  ns : BitVec 30
  frac : BitVec 16
deriving DecidableEq, Repr, Inhabited

/-- A SMPTE ST 12-1 time address (R44). -/
structure Timecode where
  hours : Nat
  minutes : Nat
  seconds : Nat
  frames : Nat
  drop : Bool
deriving DecidableEq, Repr, Inhabited

/-- What the genlock shell publishes after a vertical interval (R23). -/
structure GenlockMeasure where
  ampl : Nat
  tip : Int
  syncType : Nat
  offsetCode : Nat
  dacCode : Nat
deriving DecidableEq, Repr, Inhabited

/-- What a re-evaluation measured (R25): a frame sync and edges were found, the rate lies in range and GEN_RATIO
fits, the phase error in phase units, the line period in 2^-16 ns, the frame period in ns and lines per frame. -/
structure Reeval where
  syncsFound : Bool
  rateInRange : Bool
  phaseErr : Int
  linePeriod : Nat
  framePeriod : Nat
  refLines : Nat
deriving DecidableEq, Repr, Inhabited

/-- Head of a sideband reply: its SEQ, and whether it passes CHECK (R111, R113). -/
structure SbHead where
  seq : Nat
  ok : Bool
deriving DecidableEq, Repr, Inhabited

/-- The payload of CAP_REPLY (R112). -/
structure SensorCap where
  version : Nat
  maxLanes : Nat
  rates : Nat
  bits : Nat
  maxExposures : Nat
  maxWidth : Nat
  maxLines : Nat
  history : Nat
  flags : Nat
  vendor : Nat
deriving DecidableEq, Repr, Inhabited

/-- One entry of TAP_REPORT (R112). -/
structure TapEntry where
  lane : Nat
  pre : Nat
  main : Nat
  post : Nat
  reject : Bool
deriving DecidableEq, Repr, Inhabited

/-- One channel as the controller reads it at boot (R276): trained, capacity code of CHn_STATUS, ranks. -/
structure ChannelInfo where
  trained : Bool
  capacity : Nat
  ranks : Nat
deriving DecidableEq, Repr, Inhabited

/-- The superblock of a Breka Clip Volume (R307); CHECK is said by `good`. -/
structure Superblock where
  good : Bool
  verMajor : Nat
  volumeId : List Byte
  driveIndex : Nat
  members : Nat
  layout : Nat
  extentShift : Nat
  journalBlocks : Nat
  extents : Nat
  memberSn : List (List Byte)
deriving DecidableEq, Repr, Inhabited

/-- One journal record (R309): its TYPE, clip number and the fields from byte 6 onwards, in the rule's order. -/
structure JournalRec where
  ty : Nat
  clip : Nat
  body : List Nat
deriving DecidableEq, Repr, Inhabited

/-- The bytes that a drive holds of one extent ordinal of a clip (R308, R310). -/
structure DriveClip where
  clip : Nat
  ordinal : Nat
  bytes : List Byte
deriving DecidableEq, Repr, Inhabited

/-- What Identify and the LBAs of a freshly trained drive tell (R304, R305, R307). -/
structure DriveInfo where
  width : Nat
  gen : Nat
  serial : List Byte
  model : List Byte
  firmware : List Byte
  smart : List Byte
  format4k : Bool
  bytes : Nat
  maxTransfer : Nat
  super : Option Superblock
  journal : List JournalRec
  clips : List DriveClip
deriving DecidableEq, Repr, Inhabited

/-- A control datagram (R324): receiving port, source, transport header, and the fill with its length. -/
structure Datagram where
  port : Nat
  srcIp : Word
  srcPort : Nat
  ver : Nat
  mailbox : Nat
  flags : Nat
  reserved : Nat
  msgSeq : Nat
  fillNo : Nat
  fill : List Byte
deriving DecidableEq, Repr, Inhabited

/-- An ARP packet (R323). -/
structure ArpPacket where
  request : Bool
  senderIp : Word
  senderMac : Nat
  targetIp : Word
deriving DecidableEq, Repr, Inhabited

/-- A PTP Sync or Follow_Up (R327, R328): its sender, sequence number, twoStepFlag, originTimestamp and receive
stamp in 2^-16 ns, and correctionField in the same units. -/
structure PtpSync where
  source : Nat
  seq : Nat
  twoStep : Bool
  origin : Int
  received : Int
  correction : Int
deriving DecidableEq, Repr, Inhabited

/-- A PTP Delay_Resp (R328): the master's receive stamp and correctionField, in 2^-16 ns. -/
structure PtpDelayResp where
  source : Nat
  seq : Nat
  received : Int
  correction : Int
deriving DecidableEq, Repr, Inhabited

/-- The dataset an Announce carries (R326). -/
structure PtpAnnounce where
  source : Nat
  priority1 : Nat
  clockClass : Nat
  accuracy : Nat
  variance : Nat
  priority2 : Nat
  grandmaster : Nat
  steps : Nat
  utcOffset : Int
  utcValid : Bool
  syncTlv : List Byte
deriving DecidableEq, Repr, Inhabited

/-- Which pending audio change a zero crossing or a timeout applies (R363). -/
inductive GateTarget where
  | captureChannel (capture channel : Nat)
  | outputSlot (port slot : Nat)
deriving DecidableEq, Repr

/-- A BELL-class flit: position and sequence number (R389, R408). -/
structure BellFlit where
  frame : Frame
  line : Nat
  phase : Nat
  seq : Word
deriving DecidableEq, Repr, Inhabited

/-- What an EXCHANGE flit carries (R394). -/
structure ExchangeInfo where
  versions : List Nat
  serial : Nat
  role : Nat
  flags : Nat
deriving DecidableEq, Repr, Inhabited

/-- What a TIME flit carries, with the member's offset at its arrival in ps (R405, R406). -/
structure TimeFlit where
  frame : Frame
  line : Nat
  phase : Nat
  rateNum : Nat
  rateDen : Nat
  totalLines : Nat
  activeLines : Nat
  mark : Nat
  tc : Timecode
  sub : Nat
  user : Word
  t1 : Int
  delay : Int
  t2 : Int
  offset : Int
deriving DecidableEq, Repr, Inhabited

/-- A tree event (R409). -/
structure TreeEvent where
  source : Nat
  gen : Nat
  originNode : Nat
  originSource : Nat
  frame : Frame
  line : Nat
  tag : Nat
deriving DecidableEq, Repr, Inhabited

/-- What ASSIGN carries (R402). -/
structure AssignInfo where
  first : Nat
  depth : Nat
  topology : Nat
  ringPort : Nat
  tolerance : Nat
  bellMargin : Nat
  minMinor : Nat
  pushTimeout : Nat
  epoch : Word
  version : Nat
deriving DecidableEq, Repr, Inhabited

/-- A member's REPORT (R402). -/
structure NodeReport where
  node : Nat
  serial : Nat
  depth : Nat
  upstream : Nat
  links : List Nat
  version : Nat
  epoch : Word
  runMap : BitVec 128
  /-- the sum of one-way cable delays on the path from the head, in ps (R407) -/
  pathDelay : Nat
deriving DecidableEq, Repr, Inhabited

/-- How an I2C transfer ended on the wires (R419): index of the segment that ended it, its status, BYTE and BIT,
and the bytes read. -/
structure I2cResult where
  segment : Nat
  status : Nat
  byteIndex : Nat
  bitIndex : Nat
  data : List Byte
deriving DecidableEq, Repr, Inhabited

/-- The commands of the block, one constructor per row of spec/opcode_table.json, in the table's order. -/
inductive Instr where
  /-- RASTER_POSITION_REACHED (R41): The raster reaches a position at which periods, commits or other actions are due, and everything due there takes effect in the fixed order. -/
  | rasterPositionReached (line phase : Nat)
  /-- SYNC_WINDOW_OPEN (R24): The window of the next expected reference line sync opens and the previous sync is classed in window, outlier or missing. -/
  | syncWindowOpen (inside elsewhere : Bool)
  /-- GENLOCK_CALIBRATE (R23): In each reference vertical blanking interval the shell measures levels, recalibrates the slicer and publishes its measurements. -/
  | genlockCalibrate (m : GenlockMeasure)
  /-- REF_FRAME_SYNC (R37): A reference frame sync arrives and is stamped in Device Clock. -/
  | refFrameSync (line phase : Nat)
  /-- REEVAL_DONE (R25): Re-evaluation ends its measurement and enters LOCKED, relock or holdover. -/
  | reevalDone (m : Reeval)
  /-- HOLDOVER_FALLBACK (R29): After HOLD_FRAMES frames of holdover the raster changes to the fallback source. -/
  | holdoverFallback
  /-- UPSTREAM_TIME_MISSING (R33): Three expected TIME flits fail to arrive and the raster enters holdover. -/
  | upstreamTimeMissing
  /-- LTC_CODEWORD (R45): An LTC codeword is received and used for jam or continuous correction, or rejected and counted. -/
  | ltcCodeword (good : Bool) (tc : Timecode) (user : Word)
  /-- TC_DAILY_JAM (R45): At TC_DAILY_JAM seconds after local midnight the PTP timecode is re-derived. -/
  | tcDailyJam
  /-- RAS_CONFIG_SET (R48): Writes or holds the raster rate and line counts for group 0. -/
  | rasConfigSet (c : Call)
  /-- RAS_CONFIG_GET (R48): Returns the raster configuration in force and in shadow. -/
  | rasConfigGet (c : Call)
  /-- RAS_SOURCE_SET (R48): Selects primary and fallback raster sources, holdover length, relock mode and GEN_RATIO. -/
  | rasSourceSet (c : Call)
  /-- RAS_STATUS_GET (R48): Returns raster state, source, phase error, line period and counters. -/
  | rasStatusGet (c : Call)
  /-- RAS_FRAME_PRESET (R34): Sets the number that a chosen future frame start takes. -/
  | rasFramePreset (c : Call)
  /-- RAS_CLOCK_SET (R36): Sets the Device Clock at the next frame start when PTP has not set it. -/
  | rasClockSet (c : Call)
  /-- RAS_COUNTERS_CLEAR (R48): Clears the selected RAS counters. -/
  | rasCountersClear (c : Call)
  /-- TT_PERIOD_SET (R38): Writes a Timetable period's shadow. -/
  | ttPeriodSet (c : Call)
  /-- TT_PERIOD_GET (R48): Returns a period's fields in force and the frame it last fired. -/
  | ttPeriodGet (c : Call)
  /-- TT_PERIOD_CLEAR (R48): Resets the shadows of the listed periods. -/
  | ttPeriodClear (c : Call)
  /-- TC_CONFIG_SET (R44): Writes the timecode and LTC configuration for group 0. -/
  | tcConfigSet (c : Call)
  /-- TC_PRESET (R45): Presets the free-running timecode at a named frame. -/
  | tcPreset (c : Call)
  /-- TC_GET (R48): Returns the current timecode, sub-frame index and user bits. -/
  | tcGet (c : Call)
  /-- WIDE_SEL_WRITE (R59): A write to a block's wide window selector clears VALID and starts capture of the selected value. -/
  | wideSelWrite (b : Blk) (v : Word)
  /-- WIDE_VALUE_VALID (R59): The selected wide value is in the data words and VALID sets. -/
  | wideValueValid (b : Blk)
  /-- CP_READ (R53): Control Port READ instruction reads words from the address onward. -/
  | cpRead (addr : Word) (count : Nat)
  /-- CP_WRITE (R53): Control Port WRITE instruction writes words from the address onward, discarding a partial final word. -/
  | cpWrite (addr : Word) (data : List Word) (cut : Bool)
  /-- CP_STATUS (R53): Control Port STATUS instruction returns the status byte. -/
  | cpStatus
  /-- QUAD_ON (R53): Switches later Control Port transactions to four lines. -/
  | quadOn
  /-- QUAD_OFF (R53): Switches later Control Port transactions to one line. -/
  | quadOff
  /-- CP_UNKNOWN_INSTRUCTION (R53): An unknown instruction makes the port ignore the transaction and count CP_ERR. -/
  | cpUnknownInstruction
  /-- REGISTER_WRITE (R56): A write to a register with no behaviour of its own updates its writable fields. -/
  | registerWrite (p : Path) (addr : Word) (v : Word)
  /-- AO_WRITE_APPLY (R58): At the next always-on clock edge the merged pending word of an AO register is applied. -/
  | aoWriteApply
  /-- MBX_IN_DOORBELL (R62): A doorbell write hands a fill of the in-slot to Oluhenu, binding the mailbox, or is ignored under R63. -/
  | mbxInDoorbell (p : Path) (n : Nat) (v : Word)
  /-- FILL_TAKEN (R62): Oluhenu has taken an in-slot fill, IN_EMPTY sets and a complete message is executed. -/
  | fillTaken (n : Nat)
  /-- MBX_OUT_ACK (R62): The host releases the out-slot fill and OUT_FULL clears. -/
  | mbxOutAck (p : Path) (n : Nat)
  /-- SESSION_RESET (R62): Unbinds the mailbox, discards partial messages and notices, clears the subscription and returns the session to unnegotiated. -/
  | sessionReset (p : Path) (n : Nat)
  /-- OUT_FILL_PLACED (R71): Oluhenu places the next reply or notice fill in the out-slot and OUT_FULL sets. -/
  | outFillPlaced (n : Nat)
  /-- HELLO (R72): Negotiates the mailbox session version. -/
  | hello (c : Call)
  /-- SYS_INFO_GET (R74): Returns identity, firmware version, serial and supported versions. -/
  | sysInfoGet (c : Call)
  /-- SYS_NOTICE_SUBSCRIBE (R74): Sets the mailbox's notice subscription mask. -/
  | sysNoticeSubscribe (c : Call)
  /-- SYS_GROUP_BIND (R74): Binds a unit's FRAME fields to a commit group. -/
  | sysGroupBind (c : Call)
  /-- SYS_GROUP_STATUS (R74): Returns a group's COMMIT_SEQ, last commit frame, pending state and units. -/
  | sysGroupStatus (c : Call)
  /-- SYS_COMMIT (R78): Schedules a commit of a group at a frame start and returns its commit number. -/
  | sysCommit (c : Call)
  /-- SYS_RESET (R74): Resets the mailbox session after its reply is acknowledged, or the whole device 1 ms later. -/
  | sysReset (c : Call)
  /-- SYS_ECHO (R74): Returns its data unchanged. -/
  | sysEcho (c : Call)
  /-- COMMAND_RESET (R450): 1 ms after SYS_RESET with SCOPE 1 the device resets with cause COMMAND. -/
  | commandReset
  /-- LANE_DETECT_RETRY (R85): Every 1 ms in DETECT the transmitter retries sensing the receiver's termination. -/
  | laneDetectRetry (lane : Nat)
  /-- RECEIVER_DETECTED (R85): The transmitter senses the far termination and the lane enters TRAIN. -/
  | receiverDetected (lane : Nat)
  /-- TRAINING_SET_RECEIVED (R88): A training set passing CHECK is taken, and a request on the partner lane is applied or rejected. -/
  | trainingSetReceived (lane : Nat) (symbols : List Byte)
  /-- TAP_REQUEST_TIMEOUT (R91): A tap request unanswered for 20 µs is resent once, then skipped. -/
  | tapRequestTimeout (lane : Nat)
  /-- EQ_MEASURE_DONE (R90): An eye measurement ends and the equalisation search takes its next step. -/
  | eqMeasureDone (lane openPoints : Nat)
  /-- PRBS_RUN_DONE (R93): The PRBS31 run ends and the lane leaves TRAIN for LOCK or fails. -/
  | prbsRunDone (lane errors : Nat)
  /-- SYMBOL_LOCK_ACQUIRED (R85): A lane takes bit and symbol lock on commas in LOCK. -/
  | symbolLockAcquired (lane skew : Nat)
  /-- LANE_STATE_TIMEOUT (R85): A lane state exceeds its time limit and the lane fails or the port returns to DETECT. -/
  | laneStateTimeout (lane : Nat)
  /-- FAILED_LANE_RETRAIN (R85): 1 ms after FAILED a lane starts a full retrain from DETECT. -/
  | failedLaneRetrain (lane : Nat)
  /-- LANE_FAULT (R94): Loss of symbol lock or ERR_LIMIT violations put a lane into RETRAIN. -/
  | laneFault (lane : Nat) (lockLost : Bool) (violations : Nat)
  /-- FAST_RETRAIN_DONE (R95): A fast retrain ends in ACTIVE or fails. -/
  | fastRetrainDone (lane : Nat) (locked : Bool) (openPoints : Nat)
  /-- K28_4_RECEIVED (R96): K28.4 arrives on all lanes and from the next symbol the new lane map is in use. -/
  | k284Received (port : Nat)
  /-- FULL_RETRAIN (R101): LANE_CTRL.FULL_RETRAIN restarts bring-up from DETECT. -/
  | fullRetrain (lane : Nat)
  /-- FAST_RETRAIN (R101): LANE_CTRL.FAST_RETRAIN starts a fast retrain of an ACTIVE or STANDBY lane. -/
  | fastRetrain (lane : Nat)
  /-- LANE_CTRL_CNT_CLEAR (R101): LANE_CTRL.CNT_CLEAR clears the lane's counters. -/
  | laneCtrlCntClear (lane : Nat)
  /-- SENSOR_FRAME_START (R122): A K28.1 begins a sensor frame numbered by the raster frame in progress. -/
  | sensorFrameStart (port : Nat) (frameLo : Nat)
  /-- LINE_PACKET_RECEIVED (R116): A line packet is checked and stored, discarded, or found damaged. -/
  | linePacketReceived (port : Nat) (bytes : List Byte) (laneGood framed : Bool)
  /-- SENSOR_FRAME_END (R123): A K28.6 ends the sensor frame as complete or short. -/
  | sensorFrameEnd (port : Nat)
  /-- FRAME_STALL (R123): No packet accepted for 64 line times or 250 µs ends the frame by stall. -/
  | frameStall (port : Nat)
  /-- RESEND_DEADLINE (R117): A damaged row without an undamaged copy 8 line times after detection is concealed. -/
  | resendDeadline (port row exposure : Nat)
  /-- ROW_CONCEAL (R119): Once its neighbours are settled a concealed row is interpolated, copied or set to black. -/
  | rowConceal (port row exposure : Nat)
  /-- SIDEBAND_POLL (R113): After 100 µs without a request the intake sends POLL. -/
  | sidebandPoll (port : Nat)
  /-- SIDEBAND_TIMEOUT (R113): A request without a valid reply in 20 µs is resent once, then fails. -/
  | sidebandTimeout (port : Nat)
  /-- CAP_REPLY (R114): The sensor's capabilities are checked and LINK_CONFIG is sent or the exchange fails. -/
  | capReply (port : Nat) (h : SbHead) (cap : SensorCap)
  /-- CONFIG_ACK (R114): The sensor accepts or refuses the configuration; the port becomes ACTIVE or the exchange fails. -/
  | configAck (port : Nat) (h : SbHead) (code : Nat)
  /-- TAP_REPORT (R112): The sensor reports applied or rejected taps. -/
  | tapReport (port : Nat) (h : SbHead) (entries : List TapEntry)
  /-- PRBS_ACK (R93): The sensor confirms or refuses the PRBS31 run. -/
  | prbsAck (port : Nat) (h : SbHead) (code : Nat)
  /-- BURST_ACK (R95): The sensor acknowledges the burst request. -/
  | burstAck (port : Nat) (h : SbHead)
  /-- MAP_ACK (R96): The sensor acknowledges the map change before sending K28.4. -/
  | mapAck (port : Nat) (h : SbHead)
  /-- RESEND_ACK (R117): The sensor will re-send the row, or does not hold it and the row is concealed. -/
  | resendAck (port : Nat) (h : SbHead) (code : Nat)
  /-- REG_ACK (R112): The sensor reports a register write done or refused. -/
  | regAck (port : Nat) (h : SbHead) (code : Nat)
  /-- REG_DATA (R112): The sensor returns register data. -/
  | regData (port : Nat) (h : SbHead) (code : Nat) (data : List Word)
  /-- EMPTY (R113): The sensor answers a poll with no alert. -/
  | sbEmpty (port : Nat) (h : SbHead)
  /-- ALERT (R113): The sensor answers a poll with an alert. -/
  | alert (port : Nat) (h : SbHead) (code : Nat) (data : Word)
  /-- LOOP_ACK (R112): The sensor acknowledges the loop mode. -/
  | loopAck (port : Nat) (h : SbHead)
  /-- REPLAY_FRAME_START (R133): At a raster frame start with the previous frame granted and the next ready, Replay starts a frame. -/
  | replayFrameStart
  /-- MILL_GRANT (R134): When the Mill is free it grants one ready line pair by priority. -/
  | millGrant
  /-- INX_CTRL_CNT_CLEAR (R138): INx_CTRL.CNT_CLEAR clears the source's counters. -/
  | inxCtrlCntClear (port : Nat)
  /-- INTAKE_PORT_SET (R136): Writes a sensor port's mode, geometry, lane fields, priority and re-send. -/
  | intakePortSet (c : Call)
  /-- INTAKE_PORT_GET (R136): Returns a port's fields, state, version and sensor capabilities. -/
  | intakePortGet (c : Call)
  /-- INTAKE_LINEARISE_SET (R127): Writes a linearisation curve and black code. -/
  | intakeLineariseSet (c : Call)
  /-- INTAKE_MERGE_SET (R128): Writes per-exposure merge gains, knees and widths. -/
  | intakeMergeSet (c : Call)
  /-- INTAKE_DEFECT_SET (R129): Writes the static defect list and dynamic correction settings. -/
  | intakeDefectSet (c : Call)
  /-- INTAKE_TAP_SET (R131): Sets a raw tap's ring and enable. -/
  | intakeTapSet (c : Call)
  /-- INTAKE_START (R126): Starts a source at the first K28.1 after its frame. -/
  | intakeStart (c : Call)
  /-- INTAKE_STOP (R126): Stops a source at the end of the frame in progress. -/
  | intakeStop (c : Call)
  /-- INTAKE_SENSOR_WRITE (R136): Writes sensor registers over the sideband. -/
  | intakeSensorWrite (c : Call)
  /-- INTAKE_SENSOR_READ (R136): Reads sensor registers over the sideband. -/
  | intakeSensorRead (c : Call)
  /-- INTAKE_STATUS_GET (R136): Returns intake status, counters and backlog. -/
  | intakeStatusGet (c : Call)
  /-- INTAKE_COUNTERS_CLEAR (R136): Clears selected intake counters. -/
  | intakeCountersClear (c : Call)
  /-- REPLAY_SET (R132): Configures Replay's source, entry tap, geometry and frame range. -/
  | replaySet (c : Call)
  /-- REPLAY_STATUS_GET (R136): Returns Replay's next index, frames delivered and slips. -/
  | replayStatusGet (c : Call)
  /-- STATS_RECORD_COMPLETE (R161): A Mill statistics record is complete in memory. -/
  | statsRecordComplete (ctx : Nat)
  /-- MILL_NOISE_SET (R163): Writes per-exposure noise models. -/
  | millNoiseSet (c : Call)
  /-- MILL_SNR_SET (R163): Writes spatial noise reduction fields. -/
  | millSnrSet (c : Call)
  /-- MILL_TNR_SET (R163): Writes temporal noise reduction fields and reference. -/
  | millTnrSet (c : Call)
  /-- MILL_TNR_RESET (R163): Schedules a temporal-noise pass-through at a frame. -/
  | millTnrReset (c : Call)
  /-- MILL_WB_SET (R163): Writes white-balance gains. -/
  | millWbSet (c : Call)
  /-- MILL_RECON_SET (R163): Writes the reconstruction mode. -/
  | millReconSet (c : Call)
  /-- MILL_MATRIX_SET (R163): Writes the camera matrix and offsets. -/
  | millMatrixSet (c : Call)
  /-- MILL_STATS_SET (R163): Writes statistics points, clip level, ring and notify. -/
  | millStatsSet (c : Call)
  /-- MILL_CONFIG_GET (R163): Returns a context's fields in force and in shadow. -/
  | millConfigGet (c : Call)
  /-- MILL_STATUS_GET (R163): Returns a context's status, flags, counters and utilisation. -/
  | millStatusGet (c : Call)
  /-- MILL_COUNTERS_CLEAR (R163): Clears selected Mill counters. -/
  | millCountersClear (c : Call)
  /-- MIL_CTRL_CNT_CLEAR (R165): MIL_CTRL.CNT_CLEAR clears a context's counters. -/
  | milCtrlCntClear (ctx : Nat)
  /-- REND_SLOT_READY (R186): A rendition's planes are complete and its slot becomes READY. -/
  | rendSlotReady (rend : Nat)
  /-- LOOK_TABLES_LOADED (R174): A table bank load completes and the shadow bank is set. -/
  | lookTablesLoaded (look : Nat)
  /-- LOOK_SET (R192): Writes a Look's fields. -/
  | lookSet (c : Call)
  /-- LOOK_TABLES_LOAD (R174): Starts loading a Look's other table bank. -/
  | lookTablesLoad (c : Call)
  /-- LOOK_GET (R192): Returns a Look's fields and load state. -/
  | lookGet (c : Call)
  /-- REND_SET (R192): Writes a rendition's fields. -/
  | rendSet (c : Call)
  /-- REND_FILTER_SET (R180): Writes a rendition's host filter tables. -/
  | rendFilterSet (c : Call)
  /-- REND_START (R188): Starts a rendition from a frame. -/
  | rendStart (c : Call)
  /-- REND_STOP (R188): Stops a rendition after the frame in progress. -/
  | rendStop (c : Call)
  /-- REND_GET (R192): Returns a rendition's fields and slot states. -/
  | rendGet (c : Call)
  /-- REND_SLOT_RELEASE (R186): Returns a HELD slot to FREE. -/
  | rendSlotRelease (c : Call)
  /-- REND_CAPTURE (R192): Requests COUNT frames for an on-request rendition. -/
  | rendCapture (c : Call)
  /-- LKS_STATUS_GET (R192): Returns Look and rendition status and counters. -/
  | lksStatusGet (c : Call)
  /-- LKS_COUNTERS_CLEAR (R192): Clears selected Look and rendition counters. -/
  | lksCountersClear (c : Call)
  /-- LKS_CTRL_CNT_CLEAR (R194): LKS_CTRL.CNT_CLEAR clears every Look and rendition counter. -/
  | lksCtrlCntClear
  /-- CORE_PICTURE_START (R216): A core starts its next planned picture whose slot is READY, or sheds it as LATE. -/
  | corePictureStart (core : Nat) (late : Bool)
  /-- CORE_PICTURE_DONE (R195): A core completes a picture or tile and the AU is published. -/
  | corePictureDone (core : Nat)
  /-- CORE_FAULT (R217): A core check failure abandons the picture as a FAULT repeat. -/
  | coreFault (core : Nat)
  /-- MOTION_FIELD_COMPLETE (R212): The motion field of a developed frame is complete. -/
  | motionFieldComplete (ctx : Nat)
  /-- SHF_CONTEXT_SET (R225): Writes a context's fields. -/
  | shfContextSet (c : Call)
  /-- SHF_CONTEXT_GET (R225): Returns a context's fields, format and planned core. -/
  | shfContextGet (c : Call)
  /-- SHF_CONTEXT_START (R201): Starts a context. -/
  | shfContextStart (c : Call)
  /-- SHF_CONTEXT_STOP (R201): Stops a context after the frame in progress. -/
  | shfContextStop (c : Call)
  /-- SHF_POOL_SET (R209): Defines the reference pool size classes. -/
  | shfPoolSet (c : Call)
  /-- SHF_MOTION_SET (R225): Sets a Mill context's motion field buffer. -/
  | shfMotionSet (c : Call)
  /-- SHF_LADDER_SET (R207): Writes the ladder period and anchor. -/
  | shfLadderSet (c : Call)
  /-- SHF_IRAP_REQUEST (R206): Forces an IRAP at a named frame. -/
  | shfIrapRequest (c : Call)
  /-- SHF_STATUS_GET (R225): Returns Sheaf status, load, counters and pool counts. -/
  | shfStatusGet (c : Call)
  /-- SHF_COUNTERS_CLEAR (R225): Clears selected Sheaf counters. -/
  | shfCountersClear (c : Call)
  /-- SHF_CTRL_CNT_CLEAR (R227): SHF_CTRL.CNT_CLEAR clears every Sheaf counter. -/
  | shfCtrlCntClear
  /-- DEC_PICTURE_START (R229): The free decoder core takes the next decodable picture by priority. -/
  | decPictureStart
  /-- DEC_PICTURE_DONE (R229): A picture ends, with any concealment, and outputs follow the bumping process. -/
  | decPictureDone
  /-- DEC_CORE_FAULT (R237): A decoder core check failure loses the rest of the picture. -/
  | decCoreFault
  /-- DEC_CONTEXT_SET (R242): Writes a decode context's fields. -/
  | decContextSet (c : Call)
  /-- DEC_CONTEXT_GET (R242): Returns a decode context's fields and buffer states. -/
  | decContextGet (c : Call)
  /-- DEC_START (R241): Starts a decode context. -/
  | decStart (c : Call)
  /-- DEC_STOP (R241): Stops a decode context and discards its queue. -/
  | decStop (c : Call)
  /-- DEC_FEED (R234): Queues an input chunk. -/
  | decFeed (c : Call)
  /-- DEC_SLOT_RELEASE (R242): Releases READY output buffers. -/
  | decSlotRelease (c : Call)
  /-- DEC_STATUS_GET (R242): Returns decoder status, load and counters. -/
  | decStatusGet (c : Call)
  /-- DEC_COUNTERS_CLEAR (R242): Clears selected decoder counters. -/
  | decCountersClear (c : Call)
  /-- DEC_CTRL_CNT_CLEAR (R244): DEC_CTRL.CNT_CLEAR clears every decoder counter. -/
  | decCtrlCntClear
  /-- CMP_TAP_FRAME_WHOLE (R258): A tap frame becomes whole and the session reserves the chunk's worst case or skips the frame. -/
  | cmpTapFrameWhole (session : Nat)
  /-- CMP_JOB_START (R256): A ready compression job starts on the lowest free engine. -/
  | cmpJobStart
  /-- CMP_JOB_DONE (R256): A compression job ends, saves history and, with its frame's last job, publishes the chunk. -/
  | cmpJobDone (engine : Nat)
  /-- ENGINE_CHECK_FAILURE (R259): An engine check failure restarts the job, or skips or fails it on a second failure. -/
  | engineCheckFailure (engine : Nat)
  /-- REPLAY_DECOMP_START (R256): With 32 engines free Replay starts the 32 decompression jobs of a frame. -/
  | replayDecompStart
  /-- DECOMP_JOB_DONE (R262): A decompression job ends or fails with its first cause. -/
  | decompJobDone (engine : Nat)
  /-- CMP_SESSION_SET (R273): Writes a compression session's fields. -/
  | cmpSessionSet (c : Call)
  /-- CMP_SESSION_START (R261): Starts a compression session. -/
  | cmpSessionStart (c : Call)
  /-- CMP_SESSION_STOP (R261): Stops a compression session after its last frame. -/
  | cmpSessionStop (c : Call)
  /-- CMP_KEY_REQUEST (R255): Requests a key frame. -/
  | cmpKeyRequest (c : Call)
  /-- CMP_SESSION_GET (R273): Returns a session's fields and status. -/
  | cmpSessionGet (c : Call)
  /-- CMP_VERIFY (R273): Decompresses a frame chunk without delivering it. -/
  | cmpVerify (c : Call)
  /-- CMP_STATUS_GET (R273): Returns compression status and counters. -/
  | cmpStatusGet (c : Call)
  /-- CMP_COUNTERS_CLEAR (R273): Clears selected compression counters. -/
  | cmpCountersClear (c : Call)
  /-- CMP_CTRL_CNT_CLEAR (R275): CMP_CTRL.CNT_CLEAR clears sessions' counters. -/
  | cmpCtrlCntClear (session : Nat)
  /-- CMP_CTRL_CNT_CLEAR_D (R275): CMP_CTRL.CNT_CLEAR_D clears the decompression counters. -/
  | cmpCtrlCntClearD
  /-- MEMORY_CLEAR_DONE (R280): A new buffer's memory is cleared and the GRN_ALLOC reply is sent. -/
  | memoryClearDone (h : Handle)
  /-- MIGRATION_COPY_START (R285): A migration's copy starts with writes mirrored. -/
  | migrationCopyStart
  /-- MIGRATION_COPY_DONE (R285): A migration's copy ends and the switch awaits the next frame start. -/
  | migrationCopyDone
  /-- MIGRATION_RELEASE (R285): After the last old access completes, the old place is freed. -/
  | migrationRelease
  /-- BLOCK_CHECK_FAIL (R299): A block fails its check on read and is re-read or returned poisoned. -/
  | blockCheckFail (h : Handle) (block : Nat) (rereadPasses : Bool)
  /-- MR4_POLL (R296): Every 4 ms the controller reads MR4 and sets each channel's band. -/
  | mr4Poll (bands : List Nat)
  /-- REFRESH_INTERVAL (R297): Each tREFI lowers a rank's refresh balance and refreshes are issued. -/
  | refreshInterval (channel rank : Nat)
  /-- TRAINING_DUE (R298): 1 s after its last training a channel's periodic training falls due. -/
  | trainingDue (channel : Nat)
  /-- FORCED_RETRAIN (R298): A channel untrained 1 s after falling due is trained at once. -/
  | forcedRetrain (channel : Nat)
  /-- RANK_POWER_DOWN (R295): A rank idle for PD_TIMER cycles powers down. -/
  | rankPowerDown (channel rank : Nat)
  /-- APERTURE_ACCESS (R290): A BAR2 access reaches a mapped handle range or is counted as outside. -/
  | apertureAccess (offset : Nat) (write : Option (List Byte)) (length : Nat)
  /-- GRN_ALLOC (R279): Allocates and places a buffer. -/
  | grnAlloc (c : Call)
  /-- GRN_FREE (R280): Frees a buffer. -/
  | grnFree (c : Call)
  /-- GRN_INFO (R301): Returns a buffer's properties and referrers. -/
  | grnInfo (c : Call)
  /-- GRN_PIN (R284): Sets a buffer's PINNED field. -/
  | grnPin (c : Call)
  /-- GRN_READ (R291): Reads a handle's bytes. -/
  | grnRead (c : Call)
  /-- GRN_WRITE (R291): Writes a handle's bytes. -/
  | grnWrite (c : Call)
  /-- GRN_APERTURE_MAP (R290): Maps a handle range into a BAR2 window. -/
  | grnApertureMap (c : Call)
  /-- GRN_RING_ATTACH (R288): Attaches a host reader to a ring. -/
  | grnRingAttach (c : Call)
  /-- GRN_RING_DETACH (R288): Detaches a ring reader. -/
  | grnRingDetach (c : Call)
  /-- GRN_RING_RELEASE (R288): Moves a ring reader forward. -/
  | grnRingRelease (c : Call)
  /-- GRN_RING_STATUS (R301): Returns a ring's positions and entries. -/
  | grnRingStatus (c : Call)
  /-- GRN_RING_PUBLISH (R288): Publishes a host-written ring entry. -/
  | grnRingPublish (c : Call)
  /-- GRN_DRAM_SET (R301): Writes the Granary-wide DRAM and migration fields. -/
  | grnDramSet (c : Call)
  /-- GRN_STATUS_GET (R301): Returns Granary status, free space and counters. -/
  | grnStatusGet (c : Call)
  /-- GRN_COUNTERS_CLEAR (R301): Clears selected Granary counters. -/
  | grnCountersClear (c : Call)
  /-- GRN_CTRL_CNT_CLEAR (R303): GRN_CTRL.CNT_CLEAR clears every Granary counter. -/
  | grnCtrlCntClear
  /-- NVME_COMPLETION (R311): An NVMe completion arrives and the write is done, retried or the drive fails. -/
  | nvmeCompletion (drive cid status : Nat)
  /-- NVME_COMMAND_TIMEOUT (R311): A command without completion after CMD_TIMEOUT is aborted and resubmitted. -/
  | nvmeCommandTimeout (drive cid : Nat)
  /-- PCIE_LINK_DOWN (R304): A root port link goes down and its drive fails. -/
  | pcieLinkDown (drive : Nat)
  /-- JOURNAL_INTERVAL (R310): JOURNAL_INTERVAL after its last record a partly written extent is journalled. -/
  | journalInterval (clip ordinal : Nat)
  /-- REC_VOLUME_FORMAT (R318): Formats a Breka Clip Volume. -/
  | recVolumeFormat (c : Call)
  /-- REC_VOLUME_MOUNT (R310): Mounts a volume and recovers open clips. -/
  | recVolumeMount (c : Call)
  /-- REC_VOLUME_UNMOUNT (R318): Unmounts the volume. -/
  | recVolumeUnmount (c : Call)
  /-- REC_VOLUME_INFO (R318): Returns volume information. -/
  | recVolumeInfo (c : Call)
  /-- REC_SESSION_SET (R313): Writes a recording session's fields. -/
  | recSessionSet (c : Call)
  /-- REC_START (R315): Starts a recording session at frame F. -/
  | recStart (c : Call)
  /-- REC_STOP (R315): Stops a recording session at frame S. -/
  | recStop (c : Call)
  /-- REC_METADATA_ADD (R318): Queues host metadata items. -/
  | recMetadataAdd (c : Call)
  /-- REC_CLIP_LIST (R318): Lists clips. -/
  | recClipList (c : Call)
  /-- REC_CLIP_READ (R318): Copies clip bytes into a buffer. -/
  | recClipRead (c : Call)
  /-- REC_DRIVE_INFO (R318): Returns a drive's identity, SMART log and status. -/
  | recDriveInfo (c : Call)
  /-- REC_STATUS_GET (R318): Returns recording status and counters. -/
  | recStatusGet (c : Call)
  /-- REC_COUNTERS_CLEAR (R318): Clears selected recording counters. -/
  | recCountersClear (c : Call)
  /-- REC_CTRL_CNT_CLEAR (R320): REC_CTRL.CNT_CLEAR clears every recording counter. -/
  | recCtrlCntClear
  /-- CONTROL_FILL_DATAGRAM (R325): A UDP control datagram carrying a fill is taken, acknowledged and delivered to its mailbox. -/
  | controlFillDatagram (d : Datagram)
  /-- CONTROL_ACK_DATAGRAM (R325): A UDP acknowledgement releases the device's outstanding fill. -/
  | controlAckDatagram (d : Datagram)
  /-- CONTROL_RESET_DATAGRAM (R325): A datagram with RESET resets the session and binds the sender. -/
  | controlResetDatagram (d : Datagram)
  /-- CONTROL_RESEND_TIMER (R325): An unacknowledged fill is resent every 20 ms, and after five the binding ends. -/
  | controlResendTimer (mailbox : Nat)
  /-- CONTROL_BIND_TIMEOUT (R325): A binding ends after BIND_TIMEOUT without datagrams. -/
  | controlBindTimeout (mailbox : Nat)
  /-- ARP_PACKET (R323): An ARP packet is answered or updates the cache. -/
  | arpPacket (port : Nat) (p : ArpPacket)
  /-- ARP_REFRESH (R323): An ARP cache entry is refreshed after 60 s. -/
  | arpRefresh (port : Nat) (ip : Word)
  /-- ICMP_ECHO_REQUEST (R323): An ICMP echo request is answered. -/
  | icmpEchoRequest (port : Nat) (src : Word) (dst : Word) (data : List Byte)
  /-- ETH_LINK_CHANGE (R321): An Ethernet port's link goes up or down. -/
  | ethLinkChange (port : Nat) (up : Bool)
  /-- SYNC_RECEIVED (R328): A PTP Sync from the master runs the servo, the step or outlier rule. -/
  | syncReceived (port : Nat) (m : PtpSync)
  /-- FOLLOW_UP_RECEIVED (R327): A two-step Follow_Up completes a Sync's timestamps. -/
  | followUpReceived (port : Nat) (m : PtpSync)
  /-- DELAY_RESP_RECEIVED (R328): A Delay_Resp gives the mean path delay. -/
  | delayRespReceived (port : Nat) (m : PtpDelayResp)
  /-- ANNOUNCE_RECEIVED (R326): An Announce is taken into the BMCA. -/
  | announceReceived (port : Nat) (m : PtpAnnounce)
  /-- ANNOUNCE_RECEIPT_TIMEOUT (R330): announceReceiptTimeout expires and the clock enters HOLDOVER. -/
  | announceReceiptTimeout
  /-- DELAY_REQ_TIMER (R326): A Delay_Req is sent at LOG_DELAY_REQ intervals. -/
  | delayReqTimer
  /-- SYNC_TX_TIMER (R327): As master the device sends a one-step Sync. -/
  | syncTxTimer
  /-- ANNOUNCE_TX_TIMER (R326): As master the device sends an Announce. -/
  | announceTxTimer
  /-- RTP_PACKET_SEND (R335): A stream sends its next paced RTP packet. -/
  | rtpPacketSend (stream : Nat)
  /-- RTP_AU_LATE (R335): An AU unsent two frame periods after publication is dropped. -/
  | rtpAuLate (stream : Nat)
  /-- RTCP_SENDER_REPORT (R336): Each second a stream sends an RTCP sender report. -/
  | rtcpSenderReport (stream : Nat)
  /-- RTCP_RECEIVED (R336): A received RTCP packet is counted. -/
  | rtcpReceived (port : Nat)
  /-- NET_PORT_SET (R337): Writes an Ethernet port's fields. -/
  | netPortSet (c : Call)
  /-- NET_PORT_GET (R337): Returns a port's fields, status and ARP cache. -/
  | netPortGet (c : Call)
  /-- NET_CONTROL_SET (R337): Sets BIND_TIMEOUT. -/
  | netControlSet (c : Call)
  /-- PTP_CONFIG_SET (R337): Writes PTP fields. -/
  | ptpConfigSet (c : Call)
  /-- PTP_STATUS_GET (R337): Returns PTP status and counters. -/
  | ptpStatusGet (c : Call)
  /-- PTP_RESTEP (R337): Returns PTP to UNCALIBRATED so that the clock is stepped again. -/
  | ptpRestep (c : Call)
  /-- RTP_STREAM_SET (R332): Writes an RTP stream's fields. -/
  | rtpStreamSet (c : Call)
  /-- RTP_START (R337): Starts an RTP stream. -/
  | rtpStart (c : Call)
  /-- RTP_STOP (R337): Stops an RTP stream. -/
  | rtpStop (c : Call)
  /-- NET_STATUS_GET (R337): Returns network status and counters. -/
  | netStatusGet (c : Call)
  /-- NET_COUNTERS_CLEAR (R337): Clears selected network counters. -/
  | netCountersClear (c : Call)
  /-- NET_CTRL_CNT_CLEAR (R339): NET_CTRL.CNT_CLEAR clears every network counter. -/
  | netCtrlCntClear
  /-- FLIP (R344): At each output frame start the monitor takes the newest READY slot, or repeats or shows black. -/
  | flip
  /-- MON_OUTPUT_FRAME_END (R348): At the end of an output frame the check rectangle results are published. -/
  | monOutputFrameEnd
  /-- MON_SET (R350): Writes the monitor format and timing. -/
  | monSet (c : Call)
  /-- MON_START (R350): Starts the monitor output. -/
  | monStart (c : Call)
  /-- MON_STOP (R350): Stops the monitor output. -/
  | monStop (c : Call)
  /-- MON_OVERLAY_SET (R347): Writes the overlay fields. -/
  | monOverlaySet (c : Call)
  /-- MON_CHECK_SET (R348): Writes a check rectangle. -/
  | monCheckSet (c : Call)
  /-- MON_STATUS_GET (R350): Returns monitor status, counters and results. -/
  | monStatusGet (c : Call)
  /-- MON_COUNTERS_CLEAR (R350): Clears selected monitor counters. -/
  | monCountersClear (c : Call)
  /-- MON_CTRL_CNT_CLEAR (R352): MON_CTRL.CNT_CLEAR clears every monitor counter. -/
  | monCtrlCntClear
  /-- AUDIO_BLOCK_COMPLETE (R364): A capture block of BLOCK samples completes and is written or lost. -/
  | audioBlockComplete (capture : Nat) (samples : List (List Int))
  /-- MASK_APPLY (R360): A shadow slot mask applies at the next sample, ending the block and writing a LAYOUT record. -/
  | maskApply (capture : Nat) (samples : List (List Int))
  /-- SLIP_APPLY (R361): A due slip is applied at a zero crossing. -/
  | slipApply (port index : Nat)
  /-- SLIP_FORCED (R361): A slip without a zero crossing is applied at the 1,024th sample. -/
  | slipForced (port index : Nat)
  /-- GATED_CHANGE_APPLY (R363): A start, stop or gain change applies at a zero crossing. -/
  | gatedChangeApply (g : GateTarget)
  /-- GATE_TIMEOUT (R363): A gated change without a zero crossing applies at GATE_TIMEOUT. -/
  | gateTimeout (g : GateTarget)
  /-- AUDIO_LOCK_LOSS (R357): An external-clock input loses lock. -/
  | audioLockLoss (port : Nat)
  /-- AUDIO_RELOCK (R357): After 64 good frames an input relocks. -/
  | audioRelock (port : Nat)
  /-- CS_BLOCK_RECEIVED (R368): An AES3 channel status block is checked and held or counted. -/
  | csBlockReceived (port : Nat) (status : List Byte) (parityErrors : Nat)
  /-- PLAYOUT_BLOCK_PLAY (R367): An output plays a block at its FIRST, or discards it late or underruns. -/
  | playoutBlockPlay (port : Nat)
  /-- AUD_PORT_SET (R369): Writes an audio port's fields. -/
  | audPortSet (c : Call)
  /-- AUD_PORT_GET (R369): Returns an audio port's fields and status. -/
  | audPortGet (c : Call)
  /-- AUD_CAPTURE_SET (R358): Writes a capture's fields. -/
  | audCaptureSet (c : Call)
  /-- AUD_CAPTURE_START (R369): Starts a capture. -/
  | audCaptureStart (c : Call)
  /-- AUD_CAPTURE_STOP (R369): Stops a capture. -/
  | audCaptureStop (c : Call)
  /-- AUD_MASK_SET (R360): Writes a capture's slot mask for a port. -/
  | audMaskSet (c : Call)
  /-- AUD_GAIN_SET (R362): Sets channel or slot gains. -/
  | audGainSet (c : Call)
  /-- AUD_OUTPUT_START (R369): Starts an output port. -/
  | audOutputStart (c : Call)
  /-- AUD_OUTPUT_STOP (R369): Stops an output port. -/
  | audOutputStop (c : Call)
  /-- AUD_STATUS_GET (R369): Returns audio status and counters. -/
  | audStatusGet (c : Call)
  /-- AUD_COUNTERS_CLEAR (R369): Clears selected audio counters. -/
  | audCountersClear (c : Call)
  /-- AUD_CTRL_CNT_CLEAR (R371): AUD_CTRL.CNT_CLEAR clears every audio counter. -/
  | audCtrlCntClear
  /-- EVENT_RAISE (R372): A source raises an event that the router delivers to its consumers. -/
  | eventRaise (source : Nat)
  /-- GPIO_PULSE_END (R374): A GPIO output pulse of PIN_PULSE ends and the pin returns to OUT. -/
  | gpioPulseEnd (pin : Nat)
  /-- BELL_IN_EDGE (R385): A rising edge on BELL_IN that passes its filter triggers the Bell. -/
  | bellInEdge
  /-- BELL_FLIT_RECEIVED (R408): A tree Bell flit arms the Bell at its position, or is ignored or late. -/
  | bellFlitReceived (port : Nat) (f : BellFlit)
  /-- EVT_MODE_SET (R379): Selects routed or channel mode at a frame. -/
  | evtModeSet (c : Call)
  /-- EVT_ROUTE_SET (R376): Writes route words. -/
  | evtRouteSet (c : Call)
  /-- EVT_ROUTE_GET (R390): Returns a route word. -/
  | evtRouteGet (c : Call)
  /-- EVT_CHANNEL_SET (R377): Writes a channel's SECURE field. -/
  | evtChannelSet (c : Call)
  /-- EVT_SUBSCRIBE_SET (R377): Writes consumer subscriptions. -/
  | evtSubscribeSet (c : Call)
  /-- EVT_GROUP_SET (R378): Writes group states directly. -/
  | evtGroupSet (c : Call)
  /-- EVT_OWNER_SET (R380): Hands a route or channel to another owner. -/
  | evtOwnerSet (c : Call)
  /-- EVT_RAISE (R390): Raises a software event. -/
  | evtRaise (c : Call)
  /-- EVT_LOG_SET (R390): Sets LOG_RING and PIN_PULSE. -/
  | evtLogSet (c : Call)
  /-- BELL_CONFIG_SET (R390): Writes Bell configuration. -/
  | bellConfigSet (c : Call)
  /-- BELL_RING (R389): Rings the Bell now or at a position, or sends a tree Bell. -/
  | bellRing (c : Call)
  /-- EVT_STATUS_GET (R390): Returns event status, Bell state and counters. -/
  | evtStatusGet (c : Call)
  /-- EVT_COUNTERS_CLEAR (R390): Clears selected event counters. -/
  | evtCountersClear (c : Call)
  /-- EVT_CTRL_RING (R392): EVT_CTRL.RING rings the Bell with cause SOFTWARE. -/
  | evtCtrlRing
  /-- EVT_CTRL_CNT_CLEAR (R392): EVT_CTRL.CNT_CLEAR clears every event counter. -/
  | evtCtrlCntClear
  /-- EVT_SW_RAISE (R392): EVT_SW_RAISE raises the selected software events. -/
  | evtSwRaise (mask : Nat)
  /-- SEQUENCED_FLIT_RECEIVED (R397): A sequenced flit is accepted in order and routed, or discarded with a NAK. -/
  | sequencedFlitReceived (port : Nat) (flit : List Byte)
  /-- NAK_RECEIVED (R397): A NAK makes the transmitter replay unacknowledged flits. -/
  | nakReceived (port ack : Nat)
  /-- REPLAY_TIMEOUT (R397): After 4 µs without ACK progress unacknowledged flits are replayed. -/
  | replayTimeout (port : Nat)
  /-- ACK_FLIT_TIMER (R397): A LINK flit carries the ACK within 1 µs of an acceptance. -/
  | ackFlitTimer (port : Nat)
  /-- IDLE_FLIT_TIMER (R398): After 8 µs without a flit an IDLE flit is sent. -/
  | idleFlitTimer (port : Nat)
  /-- LINK_DOWN_TIMEOUT (R399): 70 µs without an accepted flit, or 8 fruitless replays, take the link down. -/
  | linkDownTimeout (port : Nat)
  /-- EXCHANGE_FLIT_TIMER (R394): Every 10 µs in EXCHANGE a LINK EXCHANGE flit is sent. -/
  | exchangeFlitTimer (port : Nat)
  /-- EXCHANGE_FLIT_RECEIVED (R394): The partner's EXCHANGE flit settles the link version or fails the exchange. -/
  | exchangeFlitReceived (port : Nat) (x : ExchangeInfo)
  /-- TIME_FLIT_RECEIVED (R406): A member steers its raster to the upstream position and answers with an ECHO. -/
  | timeFlitReceived (port : Nat) (t : TimeFlit)
  /-- ECHO_RECEIVED (R405): An ECHO gives the upstream device the link delay D. -/
  | echoReceived (port : Nat) (t1 t2 t3 t4 : Int)
  /-- EVENT_FLIT_RECEIVED (R409): A tree event flit is re-raised and forwarded. -/
  | eventFlitReceived (port : Nat) (e : TreeEvent)
  /-- CALL_RECEIVED (R402): A CALL sets the upstream port and is passed on, or blocks the port or closes the ring. -/
  | callReceived (port : Nat)
  /-- COUNT_RECEIVED (R402): A child's COUNT is taken into the subtree size. -/
  | countReceived (port count : Nat)
  /-- COUNT_TIMEOUT (R402): 10 ms after its CALL a device sends COUNT without missing children. -/
  | countTimeout
  /-- ASSIGN_RECEIVED (R402): ASSIGN gives the identifier, ranges and tree fields and selects the upstream raster. -/
  | assignReceived (port : Nat) (a : AssignInfo)
  /-- REPORT_RECEIVED (R402): The head checks a member's REPORT and settles Roll Call. -/
  | reportReceived (r : NodeReport)
  /-- TBL_ANNOUNCE_RECEIVED (R403): The head receives an ANNOUNCE and runs Roll Call towards it. -/
  | tblAnnounceReceived (port : Nat) (serial : Nat)
  /-- TBL_ANNOUNCE_TIMER (R403): A late-joining or quarantined member sends ANNOUNCE every second. -/
  | tblAnnounceTimer
  /-- STATE_REPORT_RECEIVED (R414): The head checks a STATE report for epoch, offset and RUN_MAP disagreement. -/
  | stateReportReceived (node : Nat) (epoch : Word) (offset : Int) (runMap : BitVec 128)
  /-- RESYNC_RECEIVED (R414): A member starts and stops units to match the head's record. -/
  | resyncReceived (runMap : BitVec 128)
  /-- BUNDLE_RECEIVED (R411): A member executes a configuration bundle and acknowledges or reports failure. -/
  | bundleReceived (bytes : List Byte) (epoch : Word)
  /-- EPOCH_ACK_RECEIVED (R411): The head records a member's epoch acknowledgement. -/
  | epochAckReceived (node : Nat) (epoch : Word) (failed : Option (Nat × Nat))
  /-- PUSH_TIMEOUT (R411): A member that has not acknowledged within PUSH_TIMEOUT is treated as disagreeing. -/
  | pushTimeout
  /-- EPOCH_REPUSH_TIMER (R412): Each second the head re-pushes its bundle to an epoch-quarantined member. -/
  | epochRepushTimer (node : Nat)
  /-- HEAL_RECEIVED (R410): A HEAL flit reverses a member's ports or completes the ring heal at the head. -/
  | healReceived (port origin : Nat)
  /-- CONTROL_MESSAGE_FLIT (R404): CONTROL flits carry a mailbox fill to a member's upstream mailbox. -/
  | controlMessageFlit (port offset : Nat) (bytes : List Byte) (last : Bool)
  /-- TBL_PORT_SET (R415): Writes a Tabsout port's lane fields and delay asymmetry. -/
  | tblPortSet (c : Call)
  /-- TBL_TREE_SET (R415): Writes the tree fields. -/
  | tblTreeSet (c : Call)
  /-- TBL_ROLL_CALL (R402): Runs Roll Call from the head. -/
  | tblRollCall (c : Call)
  /-- TBL_NODE_LIST (R415): Returns the node list. -/
  | tblNodeList (c : Call)
  /-- TBL_CONFIG_PUSH (R411): Pushes a configuration bundle with an epoch. -/
  | tblConfigPush (c : Call)
  /-- TBL_FORWARD (R415): Forwards a message to a member's mailbox. -/
  | tblForward (c : Call)
  /-- TBL_STATE_SET (R414): Sets the head's RUN_MAP record for a member. -/
  | tblStateSet (c : Call)
  /-- TBL_STATUS_GET (R415): Returns tree status and counters. -/
  | tblStatusGet (c : Call)
  /-- TBL_COUNTERS_CLEAR (R415): Clears selected tree counters. -/
  | tblCountersClear (c : Call)
  /-- TBL_CTRL_CNT_CLEAR (R417): TBL_CTRL.CNT_CLEAR clears every tree counter. -/
  | tblCtrlCntClear
  /-- I2C_XFER_START (R422): A controller starts its next queued transfer, after a bus clear if SDA is stuck. -/
  | i2cXferStart (c : Nat) (sdaStuck freedByClear : Bool)
  /-- I2C_XFER_DONE (R419): An I²C transfer ends with its status. -/
  | i2cXferDone (c : Nat) (r : I2cResult)
  /-- I2C_SCL_TIMEOUT (R418): A stretch longer than SCL_TIMEOUT ends the transfer. -/
  | i2cSclTimeout (c : Nat)
  /-- I2C_ARB_RETRY (R420): After lost arbitration, a STOP and bus-free time, the transfer is repeated. -/
  | i2cArbRetry (c : Nat)
  /-- TWI_T_ADDRESS_WRITE (R424): A target write transaction sets the register address. -/
  | twiTAddressWrite (target : Nat) (bytes : List Byte)
  /-- TWI_T_READ (R424): A target read transaction returns register words. -/
  | twiTRead (target words : Nat)
  /-- TWI_T_ABORT (R425): A START in place of an acknowledge aborts the target transaction. -/
  | twiTAbort
  /-- UART_BYTE_RECEIVED (R426): A received byte joins the open record. -/
  | uartByteReceived (uart : Nat) (b : Byte) (parityErr framingErr brk : Bool)
  /-- UART_IDLE_GAP (R426): After IDLE_GAP bit times idle the record is closed and written. -/
  | uartIdleGap (uart : Nat)
  /-- GPIO_INPUT_EDGE (R428): A debounced pad edge raises the GPIO input source. -/
  | gpioInputEdge (pin : Nat) (level : Bool)
  /-- GPIO_OUT_WRITE (R428): A write to BUS_GPIO_OUT sets OUT, deferred to the end of a pulse. -/
  | gpioOutWrite (high : Bool) (v : Word)
  /-- BUS_I2C_SET (R429): Writes a controller's fields. -/
  | busI2cSet (c : Call)
  /-- BUS_I2C_XFER (R419): Queues an I²C transfer. -/
  | busI2cXfer (c : Call)
  /-- BUS_I2C_CLEAR (R421): Runs a bus clear. -/
  | busI2cClear (c : Call)
  /-- BUS_TARGET_SET (R423): Sets the target addresses. -/
  | busTargetSet (c : Call)
  /-- BUS_UART_SET (R426): Writes a UART's fields. -/
  | busUartSet (c : Call)
  /-- BUS_UART_SEND (R426): Sends bytes on a UART. -/
  | busUartSend (c : Call)
  /-- BUS_LENS_SET (R427): Assigns and configures the lens service. -/
  | busLensSet (c : Call)
  /-- BUS_GPIO_SET (R428): Writes GPIO pin fields. -/
  | busGpioSet (c : Call)
  /-- BUS_STATUS_GET (R429): Returns bus status, GPIO levels and counters. -/
  | busStatusGet (c : Call)
  /-- BUS_COUNTERS_CLEAR (R429): Clears selected bus counters. -/
  | busCountersClear (c : Call)
  /-- BUS_CTRL_CNT_CLEAR (R431): BUS_CTRL.CNT_CLEAR clears every bus counter. -/
  | busCtrlCntClear
  /-- NVM_RECORD_DURABLE (R438): The index record is durable and signing with index i begins. -/
  | nvmRecordDurable
  /-- SIGNATURE_COMPLETE (R438): An identity signature completes and leaves in the reply. -/
  | signatureComplete
  /-- SIGNING_TOKEN_RETURN (R437): Each 675 s powered up one signing token returns. -/
  | signingTokenReturn
  /-- FLASH_WRITE_DONE (R436): An image slot is written, read back and checked. -/
  | flashWriteDone
  /-- SEC_INFO_GET (R444): Returns security state and digests. -/
  | secInfoGet (c : Call)
  /-- SEC_CERT_GET (R439): Returns the device certificate. -/
  | secCertGet (c : Call)
  /-- SEC_KEY_STATUS (R444): Returns identity key index and budget. -/
  | secKeyStatus (c : Call)
  /-- SEC_ATTEST (R441): Produces a signed attestation report. -/
  | secAttest (c : Call)
  /-- SEC_IMAGE_INSTALL (R436): Installs a firmware image into a slot. -/
  | secImageInstall (c : Call)
  /-- SEC_BOOT_SLOT_SET (R436): Names the slot to boot first. -/
  | secBootSlotSet (c : Call)
  /-- SEC_ROLLBACK_ADVANCE (R435): Raises the rollback counter. -/
  | secRollbackAdvance (c : Call)
  /-- SEC_DEBUG_CHALLENGE (R442): Returns a fresh debug challenge. -/
  | secDebugChallenge (c : Call)
  /-- SEC_DEBUG_UNLOCK (R442): Opens debug scopes with a signed token. -/
  | secDebugUnlock (c : Call)
  /-- SEC_COUNTERS_CLEAR (R444): Clears selected security counters. -/
  | secCountersClear (c : Call)
  /-- SEC_CTRL_CNT_CLEAR (R446): SEC_CTRL.CNT_CLEAR clears every security counter. -/
  | secCtrlCntClear
  /-- POWER_ON_RESET (R448): Power-on resets the whole device. -/
  | powerOnReset
  /-- VDD_AO_BROWNOUT (R448): VDD_AO below 0.72 V for more than 2 µs causes a power-on reset. -/
  | vddAoBrownout
  /-- PWR_OK_LOW (R448): PWR_OK going low causes a power-on reset. -/
  | pwrOkLow
  /-- RESET_BALL (R450): RESET_N held low for at least 1 µs resets all but the always-on domain. -/
  | resetBall
  /-- RESET_END (R451): A reset ends, BOOT_STRAP is sampled and the boot begins. -/
  | resetEnd (straps twiAddr : Nat)
  /-- BOOT_ROM_DONE (R452): PLLs lock, straps and NVM are checked and firmware verification begins. -/
  | bootRomDone (refOk nvmOk : Bool)
  /-- FIRMWARE_VERIFIED (R434): A slot passes its checks and its body starts, or both fail and the boot ends. -/
  | firmwareVerified
  /-- DRAM_TRAINING_DONE (R276): Boot training of the DRAM channels completes or fails. -/
  | dramTrainingDone (channels : List ChannelInfo)
  /-- MAILBOX_READY (R452): Oluhenu reaches mailbox-ready and selects routed mode unless recovering. -/
  | mailboxReady
  /-- BOOT_STAGE_TIMEOUT (R452): A boot stage overruns its limit by 500 ms and the boot fails. -/
  | bootStageTimeout
  /-- AVS_STEP (R449): Every 10 µs the AVS code moves by at most 1 towards its target. -/
  | avsStep
  /-- TEMP_SAMPLE (R456): Every 1 ms the sensors are sampled and the thermal states updated. -/
  | tempSample (readings : List Int)
  /-- SHUTDOWN_TIMEOUT (R458): 20 ms after PWR_SHUTDOWN the device enters reset. -/
  | shutdownTimeout
  /-- HARD_STOP (R459): The analogue comparator at 158 °C stops all clocks and asserts PWR_FAULT_N. -/
  | hardStop
  /-- LOCKSTEP_MISMATCH (R461): The active control pair fails on a lockstep mismatch. -/
  | lockstepMismatch
  /-- CHECKPOINT_MISSED (R461): A pair that takes no checkpoint for 100 µs fails. -/
  | checkpointMissed
  /-- CHECKPOINT (R461): The active pair takes a checkpoint at an apply instant or at most every 50 µs. -/
  | checkpoint
  /-- PAIR_TAKEOVER (R461): The standby pair resumes from the last checkpoint. -/
  | pairTakeover
  /-- PWR_STATUS_GET (R463): Returns power and thermal status and counters. -/
  | pwrStatusGet (c : Call)
  /-- PWR_THERMAL_SET (R463): Writes thermal dwell, protect and minimum level. -/
  | pwrThermalSet (c : Call)
  /-- PWR_FAULT_LOG_GET (R463): Returns fault log entries. -/
  | pwrFaultLogGet (c : Call)
  /-- PWR_POWER_DOWN (R458): Starts an orderly shutdown at a frame. -/
  | pwrPowerDown (c : Call)
  /-- PWR_COUNTERS_CLEAR (R463): Clears selected power counters. -/
  | pwrCountersClear (c : Call)
  /-- PWR_CTRL_CNT_CLEAR (R465): PWR_CTRL.CNT_CLEAR clears every power counter. -/
  | pwrCtrlCntClear
  /-- SOURCE_RETURN (R29): The genlock reference's syncs return while the raster is in holdover, and re-evaluation starts. -/
  | sourceReturn
  /-- DELAY_REQ_RECEIVED (R326): As grandmaster, the BK16C receives a slave's Delay_Req and answers it with a Delay_Resp. -/
  | delayReqReceived (port : Nat) (src : Nat) (seq : Nat)
  /-- PCIE_LINK_UP (R304): A root port link trains and its NVMe drive is set up under R305 and becomes ready. -/
  | pcieLinkUp (drive : Nat) (info : DriveInfo)
  /-- LINK_ACK_RECEIVED (R397): A LINK or TIME flit carrying ACK_WORD is received and frees acknowledged flits from the transmitter's replay window. -/
  | linkAckReceived (port ack : Nat)
  /-- FORWARD_REPLY_RECEIVED (R404): The head receives a member's reply envelope in CONTROL flits and returns it as the result of TBL_FORWARD. -/
  | forwardReplyReceived (node : Nat) (message : List Byte)
  /-- NODE_TIMEOUT (R415): A TBL_FORWARD without a member reply for 100 ms is answered with NODE_TIMEOUT. -/
  | nodeTimeout (node : Nat)
  /-- MSIX_MASK_CLEAR (R54): The host clears an MSI-X function or vector mask and a pending vector is sent. -/
  | msixMaskClear (vector : Option Nat)
deriving DecidableEq, Repr

end Sys2Proof
end

