-- ==== Sys2Proof/Decode.lean ====
section
/-!
DEFINITION. The commands that the table's bits spell. spec/opcode_table.json gives no row any bits: the block takes
commands, not words, so no word spells a command.
-/

namespace Sys2Proof

/-- The command that the word `w` of `nbits` bits spells: none, since no row of the table has bits. -/
def decodeTableWord (_nbits _w : Nat) : Option Instr := none

end Sys2Proof
end

