-- ==== Sys2Proof/Machine/Operands.lean ====
section
/-!
DEFINITION. Payload items and configuration fields: how an item's bytes read, how items are judged in position
order, and how field tables are written and returned (R66, R67, R68, R76, R488).
-/

namespace Sys2Proof.Machine

/-! ## Little-endian bytes -/

/-- The unsigned number that little-endian bytes spell. -/
def leNat : List Byte → Nat
  | [] => 0
  | b :: bs => b.toNat + 256 * leNat bs

/-- The two's complement number that little-endian bytes spell. -/
def leInt (bs : List Byte) : Int :=
  if 2 * leNat bs < 2 ^ (8 * bs.length) then (leNat bs : Int) else (leNat bs : Int) - 2 ^ (8 * bs.length)

/-- `v` in `n` little-endian bytes, modulo 2^(8n). -/
def toLe : Nat → Nat → List Byte
  | 0, _ => []
  | n + 1, v => BitVec.ofNat 8 v :: toLe n (v / 256)

/-- `v` in two's complement in `n` little-endian bytes. -/
def toLeInt (n : Nat) (v : Int) : List Byte := toLe n (v % (2 ^ (8 * n) : Int)).toNat

/-- Zero bytes up to the next multiple of 4 (R66). -/
def padTo4 (bs : List Byte) : List Byte := bs ++ List.replicate ((4 - bs.length % 4) % 4) 0

/-- A Device Clock value in the 12-byte layout of R35. -/
def clkBytes (c : Clk) : List Byte :=
  toLe 2 c.frac.toNat ++ toLe 4 c.ns.toNat ++ toLe 6 c.sec.toNat

/-- The Device Clock value that 12 bytes spell (R35). -/
def clkOf (bs : List Byte) : Clk :=
  { frac := BitVec.ofNat 16 (leNat (bs.take 2)), ns := BitVec.ofNat 30 (leNat ((bs.drop 2).take 4))
    sec := BitVec.ofNat 48 (leNat ((bs.drop 6).take 6)) }

/-- A Device Clock item is refused with RANGE when NS is above 999,999,999 or has bit 30 or 31 set (R67). -/
def clkOk (bs : List Byte) : Bool := decide (leNat ((bs.drop 2).take 4) ≤ 999999999)

/-! ## Item values -/

/-- The value of an item: an integer (R67) or plain bytes. -/
inductive Val where
  | n (v : Int)
  | b (v : List Byte)
deriving DecidableEq, Repr, Inhabited

/-- A value as an unsigned number; bytes and negative numbers read as 0. -/
def Val.nat : Val → Nat
  | .n v => v.toNat
  | .b _ => 0

/-- A value as a signed number. -/
def Val.int : Val → Int
  | .n v => v
  | .b _ => 0

/-- A value as bytes. -/
def Val.bytes : Val → List Byte
  | .n _ => []
  | .b v => v

/-- How an item's bytes read. `nat` and `int` take 1, 2, 4 or 8 bytes (R67); `bytes lo hi` takes that many bytes. -/
inductive Form where
  | nat
  | int
  | bytes (lo hi : Nat)
deriving DecidableEq, Repr, Inhabited

/-- The value that an item's bytes spell; `none` for a malformed item. -/
def Form.read : Form → List Byte → Option Val
  | .nat, bs => if bs.length ∈ [1, 2, 4, 8] then some (.n (leNat bs)) else none
  | .int, bs => if bs.length ∈ [1, 2, 4, 8] then some (.n (leInt bs)) else none
  | .bytes lo hi, bs => if lo ≤ bs.length ∧ bs.length ≤ hi then some (.b bs) else none

/-- The smallest of 1, 2, 4 and 8 bytes that hold 0 to `hi` (R67). DEDUCED, unsafe (log entry 16): number items have the
smallest size that holds the field's range (R67). -/
def natSize (hi : Nat) : Nat :=
  if hi < 2 ^ 8 then 1 else if hi < 2 ^ 16 then 2 else if hi < 2 ^ 32 then 4 else 8

/-- The smallest of 1, 2, 4 and 8 bytes that hold `lo` to `hi` in two's complement (R67). -/
def intSize (lo hi : Int) : Nat :=
  if -2 ^ 7 ≤ lo ∧ hi < 2 ^ 7 then 1 else if -2 ^ 15 ≤ lo ∧ hi < 2 ^ 15 then 2
  else if -2 ^ 31 ≤ lo ∧ hi < 2 ^ 31 then 4 else 8

/-- An unsigned result item in `size` bytes. DEDUCED, unsafe (log entry 16): number items have the smallest size that
holds the field's range (R67). -/
def itemN (ty size v : Nat) : Item := { ty := ty, val := toLe size v }

/-- A signed result item in `size` bytes. DEDUCED, unsafe (log entry 16): number items have the smallest size that holds
the field's range (R67). -/
def itemI (ty size : Nat) (v : Int) : Item := { ty := ty, val := toLeInt size v }

/-- A result item of plain bytes. -/
def itemB (ty : Nat) (bs : List Byte) : Item := { ty := ty, val := bs }

/-- An item holding a group of 32-bit words in the order of its register map (R66). -/
def itemW (ty : Nat) (ws : List Word) : Item := { ty := ty, val := ws.flatMap fun w => toLe 4 w.toNat }

/-! ## Status codes (R69) -/

def stOk : Nat := 0x0000
def stUnknownOpcode : Nat := 0x0001
def stBadEnvelope : Nat := 0x0002
def stBadItem : Nat := 0x0003
def stRange : Nat := 0x0004
def stBusy : Nat := 0x0005
def stNoResource : Nat := 0x0006
def stDenied : Nat := 0x0007
def stExpired : Nat := 0x0008
def stSourceOwns : Nat := 0x0009
def stRefAbsent : Nat := 0x000A
def stVersion : Nat := 0x000B
def stTooLarge : Nat := 0x000C
def stBadHandle : Nat := 0x000D
def stInternal : Nat := 0x000E

/-- Commit classes of configuration fields (R76). -/
inductive Cls where
  | live | frame | idle
deriving DecidableEq, Repr

/-! ## Judged items -/

/-- A well-formed item: its position (R66), its TYPE, its index among the items of that TYPE, and its value. -/
structure Got where
  pos : Nat
  ty : Nat
  idx : Nat
  val : Val
deriving DecidableEq, Repr, Inhabited

/-- The first value of TYPE `ty`. -/
def gotVal (gs : List Got) (ty : Nat) : Option Val := (gs.find? fun g => g.ty == ty).map (·.val)

/-- The first value of TYPE `ty` as a number; 0 when absent. -/
def gotN (gs : List Got) (ty : Nat) : Nat := ((gotVal gs ty).map Val.nat).getD 0

/-- The first value of TYPE `ty` as a number, when present. -/
def gotN? (gs : List Got) (ty : Nat) : Option Nat := (gotVal gs ty).map Val.nat

/-- The first value of TYPE `ty` as a signed number, when present. -/
def gotI? (gs : List Got) (ty : Nat) : Option Int := (gotVal gs ty).map Val.int

/-- The first value of TYPE `ty` as bytes. -/
def gotB (gs : List Got) (ty : Nat) : List Byte := ((gotVal gs ty).map Val.bytes).getD []

/-- Every value of TYPE `ty`, in order. -/
def gotAll (gs : List Got) (ty : Nat) : List Val := (gs.filter fun g => g.ty == ty).map (·.val)

/-- Every value of TYPE `ty` as numbers. -/
def gotNs (gs : List Got) (ty : Nat) : List Nat := (gotAll gs ty).map Val.nat

/-- Position of the first item of TYPE `ty`; 0 when absent. -/
def gotPos (gs : List Got) (ty : Nat) : Nat := ((gs.find? fun g => g.ty == ty).map (·.pos)).getD 0

/-- One payload item that a command takes: its TYPE, form, whether it must be present (R488), how many may come,
the width of its packed form (0 = none), and the judgement of its value against the state (R68): range first. -/
structure Arg (σ : Type) where
  ty : Nat
  form : Form
  need : Bool := true
  count : Nat := 1
  packed : Nat := 0
  /-- an item of no bytes spells an empty list -/
  empty : Bool := false
  judge : σ → List Got → Nat → Val → Option Nat

/-- An unsigned argument from `lo` to `hi`. -/
def Arg.nat {σ : Type} (ty lo hi : Nat) (need : Bool := true)
    (judge : σ → List Got → Val → Option Nat := fun _ _ _ => none) : Arg σ :=
  { ty, form := .nat, need, judge := fun s gs _ v =>
      if lo ≤ v.nat ∧ v.nat ≤ hi then judge s gs v else some stRange }

/-- A list of unsigned arguments from `lo` to `hi`. -/
def Arg.nats {σ : Type} (ty lo hi count : Nat) (need : Bool := true)
    (judge : σ → List Got → Val → Option Nat := fun _ _ _ => none) : Arg σ :=
  { ty, form := .nat, need, count, judge := fun s gs _ v =>
      if lo ≤ v.nat ∧ v.nat ≤ hi then judge s gs v else some stRange }

/-- An argument of `lo` to `hi` bytes. -/
def Arg.bytes {σ : Type} (ty lo hi : Nat) (need : Bool := true) (count : Nat := 1)
    (judge : σ → List Got → Val → Option Nat := fun _ _ _ => none) : Arg σ :=
  { ty, form := .bytes lo hi, need, count, judge := fun s gs _ v => judge s gs v }

/-- A judgement of the value made before the argument's own. -/
def Arg.first {σ : Type} (pre : σ → List Got → Val → Option Nat) (a : Arg σ) : Arg σ :=
  { a with judge := fun s gs i v => match pre s gs v with
      | some st => some st
      | none => a.judge s gs i v }

/-- The judgement that the argument of TYPE `ty` is given in a list of arguments. -/
def firstAt {σ : Type} (ty : Nat) (pre : σ → List Got → Val → Option Nat) (as : List (Arg σ)) : List (Arg σ) :=
  as.map fun a => if a.ty = ty then a.first pre else a

/-- A list of signed arguments from `lo` to `hi`, in packed form `packed` bytes each. -/
def Arg.ints {σ : Type} (ty : Nat) (lo hi : Int) (count packed : Nat) (need : Bool := true)
    (judge : σ → List Got → Val → Option Nat := fun _ _ _ => none) : Arg σ :=
  { ty, form := .int, need, count, packed, judge := fun s gs _ v =>
      if lo ≤ v.int ∧ v.int ≤ hi then judge s gs v else some stRange }

/-- Cuts bytes into pieces of `w`; the fuel is the number of bytes. -/
def chunks (w : Nat) : Nat → List Byte → List (List Byte)
  | 0, _ => []
  | n + 1, bs => if bs.isEmpty then [] else bs.take w :: chunks w n (bs.drop w)

/-- The values that an item of argument `a` spells: one, or several in the packed form. -/
def Arg.read {σ : Type} (a : Arg σ) (bs : List Byte) : Option (List Val) :=
  match a.form.read bs with
  | some v => some [v]
  | none =>
    if a.packed ≠ 0 ∧ (bs ≠ [] ∨ a.empty) ∧ bs.length % a.packed = 0 then
      (chunks a.packed bs.length bs).mapM fun c =>
        match a.form with
        | .nat => some (Val.n (leNat c))
        | .int => some (Val.n (leInt c))
        | .bytes _ _ => none
    else none

/-- Number of values of TYPE `ty` among those already read. -/
def seenCount (gs : List Got) (ty : Nat) : Nat := (gs.filter fun g => g.ty == ty).length

/-- Reads every well-formed item of a known TYPE, for judgements that look at other items of the command. -/
def readItems {σ : Type} (args : List (Arg σ)) : Nat → List Item → List Got → List Got
  | _, [], gs => gs
  | p, it :: rest, gs =>
    match args.find? fun a => a.ty == it.ty with
    | none => readItems args (p + 1) rest gs
    | some a =>
      match a.read it.val with
      | none => readItems args (p + 1) rest gs
      | some vs =>
        let n := seenCount gs it.ty
        readItems args (p + 1) rest
          (gs ++ vs.zipIdx.map fun vi => { pos := p, ty := it.ty, idx := n + vi.2, val := vi.1 })

/-- The first judgement that refuses one of `vs`. -/
def firstRefusal (f : Nat → Val → Option Nat) (n : Nat) : List Val → Option Nat
  | [] => none
  | v :: vs => match f n v with
    | some st => some st
    | none => firstRefusal f (n + 1) vs

/-- What an item of argument `a` is refused with, its form before its value, its value before the state (R68). A TYPE
repeated beyond the argument's count is malformed. DEDUCED, unsafe (log entry 17): form, repetition, packing and the place
of an error are read from R66 and R68. -/
def judgeItem {σ : Type} (a : Arg σ) (s : σ) (all : List Got) (seen : Nat) (it : Item) : Option Nat :=
  match a.read it.val with
  | none => some stBadItem
  | some vs => if seen + vs.length > a.count then some stBadItem else firstRefusal (a.judge s all) seen vs

/-- Judges the items in position order; answers status, position and TYPE of the first one refused. An unknown item whose
TYPE bit 15 is set is ignored (R66). DEDUCED, unsafe (log entry 17): form, repetition, packing and the place of an error
are read from R66 and R68. -/
def judgeItems {σ : Type} (args : List (Arg σ)) (s : σ) (all : List Got) :
    Nat → List Item → List Nat → Option (Nat × Nat × Nat)
  | _, [], _ => none
  | p, it :: rest, seen =>
    match args.find? fun a => a.ty == it.ty with
    | none => if it.ty ≥ 0x8000 then judgeItems args s all (p + 1) rest seen else some (stBadItem, p, it.ty)
    | some a =>
      match judgeItem a s all (seen.filter (· == it.ty)).length it with
      | some st => some (st, p, it.ty)
      | none => judgeItems args s all (p + 1) rest
          (List.replicate (((a.read it.val).map List.length).getD 1) it.ty ++ seen)

/-- The lowest TYPE of a required item that is missing (R68). -/
def missingItem {σ : Type} (args : List (Arg σ)) (items : List Item) : Option Nat :=
  let m := (args.filter fun a => a.need && !(items.any fun it => it.ty == a.ty)).map (·.ty)
  m.foldl (fun acc t => match acc with | none => some t | some u => some (min t u)) none

/-- The whole judgement of a command's items (R68): the refusal with its ERROR_ITEM, or the values read. DEDUCED, unsafe
(log entry 17): form, repetition, packing and the place of an error are read from R66 and R68. -/
def judgeAll {σ : Type} (args : List (Arg σ)) (s : σ) (items : List Item) : Except (Nat × Nat × Nat) (List Got) :=
  let gs := readItems args 0 items []
  match judgeItems args s gs 0 items [] with
  | some e => .error e
  | none =>
    match missingItem args items with
    | some ty => .error (stBadItem, items.length, ty)
    | none => .ok gs

/-! ## Field tables -/

/-- One configuration field of a record `α`: its class, how it reads, how many values it holds, its range, the size
of a reply item, and how it is read and written. -/
structure Fld (α : Type) where
  cls : Cls
  form : Form
  size : Nat
  count : Nat := 1
  packed : Nat := 0
  ok : Val → Bool
  get : α → List Val
  set : Nat → Val → α → α

/-- An unsigned field from `lo` to `hi`, with a further condition on its value. -/
def Fld.nat {α : Type} (cls : Cls) (lo hi : Nat) (get : α → Nat) (set : Nat → α → α)
    (also : Nat → Bool := fun _ => true) : Fld α :=
  { cls, form := .nat, size := natSize hi, ok := fun v => decide (lo ≤ v.nat) && decide (v.nat ≤ hi) && also v.nat,
    get := fun a => [.n (get a)], set := fun _ v a => set v.nat a }

/-- A signed field from `lo` to `hi`. -/
def Fld.int {α : Type} (cls : Cls) (lo hi : Int) (get : α → Int) (set : Int → α → α) : Fld α :=
  { cls, form := .int, size := intSize lo hi, ok := fun v => decide (lo ≤ v.int) && decide (v.int ≤ hi),
    get := fun a => [.n (get a)], set := fun _ v a => set v.int a }

/-- A field of `lo` to `hi` bytes. -/
def Fld.bytes {α : Type} (cls : Cls) (lo hi : Nat) (get : α → List Byte) (set : List Byte → α → α) : Fld α :=
  { cls, form := .bytes lo hi, size := 0, ok := fun _ => true,
    get := fun a => [.b (get a)], set := fun _ v a => set v.bytes a }

/-- Writes element `i` of a list; an index past the end changes nothing. -/
def setAt {α : Type} (l : List α) (i : Nat) (v : α) : List α := l.set i v

/-- A field of `count` unsigned numbers, written from index 0 in order (R488). -/
def Fld.nats {α : Type} (cls : Cls) (count lo hi packed : Nat) (get : α → List Nat) (set : List Nat → α → α) : Fld α :=
  { cls, form := .nat, size := natSize hi, count, packed,
    ok := fun v => decide (lo ≤ v.nat) && decide (v.nat ≤ hi),
    get := fun a => (get a).map (fun (x : Nat) => Val.n (x : Int)), set := fun i v a => set (setAt (get a) i v.nat) a }

/-- A field of `count` signed numbers, written from index 0 in order (R488). -/
def Fld.ints {α : Type} (cls : Cls) (count : Nat) (lo hi : Int) (packed : Nat) (get : α → List Int)
    (set : List Int → α → α) : Fld α :=
  { cls, form := .int, size := intSize lo hi, count, packed,
    ok := fun v => decide (lo ≤ v.int) && decide (v.int ≤ hi),
    get := fun a => (get a).map .n, set := fun i v a => set (setAt (get a) i v.int) a }

/-- A unit's fields in force and in shadow (R76). -/
structure Shadowed (α : Type) where
  force : α
  shadow : α
deriving DecidableEq, Repr

/-- A unit with both copies at `a`. -/
def Shadowed.of {α : Type} (a : α) : Shadowed α := { force := a, shadow := a }

/-- A commit copies the whole shadow into force (R78). -/
def Shadowed.commit {α : Type} (c : Shadowed α) : Shadowed α := { force := c.shadow, shadow := c.shadow }

/-- Writes one field by its class: FRAME into the shadow, LIVE and IDLE into both copies (R76). -/
def putField {α : Type} (f : Fld α) (i : Nat) (v : Val) (c : Shadowed α) : Shadowed α :=
  match f.cls with
  | .frame => { c with shadow := f.set i v c.shadow }
  | .live => { force := f.set i v c.force, shadow := f.set i v c.shadow }
  | .idle => { force := f.set i v c.force, shadow := f.set i v c.shadow }

/-- Writes every field that the items carry; field `j` of the table has TYPE `base + j` (R66). -/
def putFields {α : Type} (base : Nat) (flds : List (Fld α)) (gs : List Got) (c : Shadowed α) : Shadowed α :=
  gs.foldl (fun c g => if base ≤ g.ty then
      match flds[g.ty - base]? with
      | some f => putField f g.idx g.val c
      | none => c
    else c) c

/-- The plain record that the items give when every field takes effect at once. -/
def putPlain {α : Type} (base : Nat) (flds : List (Fld α)) (gs : List Got) (c : α) : α :=
  gs.foldl (fun c g => if base ≤ g.ty then
      match flds[g.ty - base]? with
      | some f => f.set g.idx g.val c
      | none => c
    else c) c

/-- Whether the items write a FRAME field of the table. -/
def writesFrame {α : Type} (base : Nat) (flds : List (Fld α)) (gs : List Got) : Bool :=
  gs.any fun g => decide (base ≤ g.ty) && ((flds[g.ty - base]?).any fun f => f.cls == .frame)

/-- The table's fields as a command's arguments: range before BUSY (R68, R76), then the service's own judgement of
field `j`. `keep` says which fields the command takes. -/
def fieldArgs {σ α : Type} (base : Nat) (flds : List (Fld α)) (running : σ → List Got → Bool)
    (own : σ → List Got → Nat → Nat → Val → Option Nat := fun _ _ _ _ _ => none)
    (keep : Nat → Bool := fun _ => true) : List (Arg σ) :=
  (flds.zipIdx.filter fun fj => keep fj.2).map fun fj =>
    { ty := base + fj.2, form := fj.1.form, need := false, count := fj.1.count, packed := fj.1.packed,
      judge := fun s gs i v =>
        if !fj.1.ok v then some stRange
        else if fj.1.cls == .idle && running s gs then some stBusy
        else own s gs fj.2 i v }

/-- The table's fields of `a` as result items with TYPE `base + j` (R66). DESIGN CHOICE, unsafe (log entry 15): R66's
numbering is applied to referenced tables as 0x0100 + j, 0x4100 + j, 0x4200 + j. -/
def fieldItems {α : Type} (base : Nat) (flds : List (Fld α)) (a : α)
    (keep : Nat → Bool := fun _ => true) : List Item :=
  (flds.zipIdx.filter fun fj => keep fj.2).flatMap fun fj =>
    (fj.1.get a).map fun v => match fj.1.form with
      | .nat => itemN (base + fj.2) fj.1.size v.nat
      | .int => itemI (base + fj.2) fj.1.size v.int
      | .bytes _ _ => itemB (base + fj.2) v.bytes

/-- Fields in force (TYPE 0x4100 + j) and in shadow (TYPE 0x4200 + j) (R66). DESIGN CHOICE, unsafe (log entry 15): R66's
numbering is applied to referenced tables as 0x0100 + j, 0x4100 + j, 0x4200 + j. -/
def shadowedItems {α : Type} (flds : List (Fld α)) (c : Shadowed α) : List Item :=
  fieldItems 0x4100 flds c.force ++ fieldItems 0x4200 flds c.shadow

/-- Refuses with RANGE at the first present item of `tys` when a relation between fields fails on the values that
would result (R488). -/
def relation (gs : List Got) (tys : List Nat) (holds : Bool) : Option (Nat × Nat × Nat) :=
  if holds then none
  else match gs.find? fun g => tys.contains g.ty with
    | some g => some (stRange, g.pos, g.ty)
    | none => none

end Sys2Proof.Machine
end

