-- ==== Sys2Proof/Machine/ControlState.lean ====
section
/-!
DEFINITION. State of the control block: the two paths, the SYS registers, the 16 mailboxes, commit groups and wide
windows (03_control_model.md, R52 to R81).
-/

namespace Sys2Proof.Machine

/-- Sparse memory in canonical form: addresses strictly rising, no entry equal to 0, which is what an unlisted address
reads as. -/
abbrev Mem := List Host.Cell

/-- A mailbox's session (R72). -/
inductive Session where
  | unnegotiated
  | v2 (minor : Nat)
  | v3
deriving DecidableEq, Repr, Inhabited

/-- A reply or a notice on its way to an out-slot (R65, R73): the header form it is written in, its opcode, TAG and
STATUS, and its items. -/
structure Post where
  notice : Bool
  major : Nat
  minor : Nat
  op : Nat
  tag : Nat
  status : Nat
  items : List Item
  /-- the session reset of SYS_RESET with SCOPE 0 waits for the acknowledgement of this reply's last fill (R74) -/
  thenReset : Bool := false
deriving DecidableEq, Repr, Inhabited

/-- A command waiting in a mailbox behind one that has not yet been replied to (R64); `busy` marks a HELLO that found
an earlier command without its reply (R72). -/
structure Queued where
  op : Nat
  call : Call
  busy : Bool := false
deriving DecidableEq, Repr, Inhabited

/-- Why a command's reply waits: what completes it, and what the reply then needs. -/
inductive Await where
  /-- SYS_RESET with SCOPE 0 has been answered: nothing more executes until its session ends (R74) -/
  | sessionEnd
  /-- RAS_CLOCK_SET waits for the next frame start (R48) -/
  | clockSet
  /-- INTAKE_SENSOR_WRITE or INTAKE_SENSOR_READ waits for the sideband under its number (R136) -/
  | sensor (id : Nat)
  /-- LOOK_TABLES_LOAD waits for the load (R174) -/
  | lookLoad (look : Nat)
  /-- CMP_VERIFY waits for its decompression jobs under its ticket (R273) -/
  | verify (ticket : Nat)
  /-- GRN_ALLOC waits for the clearing of the memory (R280) -/
  | clear (h : Handle)
  /-- BUS_I2C_XFER or BUS_I2C_CLEAR waits for its controller under its ticket (R419, R421) -/
  | i2c (ticket : Nat)
  /-- SEC_ATTEST waits for its signature under its ticket (R438, R441) -/
  | attest (ticket : Nat)
  /-- SEC_IMAGE_INSTALL waits for the flash under its ticket (R436) -/
  | flash (ticket : Nat)
  /-- TBL_FORWARD waits for the member's reply (R404) -/
  | forward (node : Nat)
  /-- TBL_ROLL_CALL waits for Roll Call to settle (R402) -/
  | rollCall
deriving DecidableEq, Repr, Inhabited

/-- The command that a mailbox is executing and has not replied to. -/
structure Waiting where
  op : Nat
  call : Call
  why : Await
deriving DecidableEq, Repr, Inhabited

/-- One mailbox (R60 to R64, R71). Mailboxes 0 to 7 are the host's, 8 to 11 Ethernet's, 12 to 15 Tabsout's. -/
structure Mailbox where
  path : Option Path := none
  session : Session := .unnegotiated
  /-- MBXn_STATUS.IN_EMPTY -/
  inEmpty : Bool := true
  /-- COUNT and LAST of the last accepted doorbell -/
  bellCount : Nat := 0
  bellLast : Bool := false
  /-- the fills of the message that are taken but not final -/
  partialMsg : List Byte := []
  /-- OUT_FULL, OUT_COUNT and OUT_LAST of the fill in the out-slot -/
  outFull : Bool := false
  outCount : Nat := 0
  outLast : Bool := false
  /-- the message being sent: bytes not yet placed, and its session reset, if any -/
  sending : List Byte := []
  sendingReset : Bool := false
  /-- the fill in the slot ends a reply whose acknowledgement resets the session -/
  resetOnAck : Bool := false
  /-- replies and notices in the order they were made -/
  posts : List Post := []
  waiting : Option Waiting := none
  queue : List Queued := []
  /-- SERVICE_MASK of SYS_NOTICE_SUBSCRIBE -/
  subs : BitVec 18 := 0
  noticeSeq : Nat := 0
  /-- notices discarded since the last SYS_NOTICE_LOST, and the opcode of the first -/
  lost : Nat := 0
  lostOp : Nat := 0
  /-- MBXn_CNT_ERR -/
  cntErr : Word := 0
deriving DecidableEq, Repr

/-- A wide window (R59): selector, VALID and the four data words. -/
structure Wide where
  sel : Nat := 0
  valid : Bool := false
  data : List Word := [0, 0, 0, 0]
deriving DecidableEq, Repr

/-- One commit group (R77, R78): COMMIT_SEQ and the frame of its last commit. -/
structure Group where
  seq : Word := 0
  lastFrame : Option Frame := none
deriving DecidableEq, Repr

/-- A SYS_COMMIT that waits for its frame (R78). -/
structure PendingCommit where
  group : Nat
  frame : Frame
deriving DecidableEq, Repr

/-- The MSI-X capability of PCIe port 0 (R54): masks and pending bits. PRESUMED, unsafe (log entry 7): R54 does not give
the MSI-X masks' reset state; PCI Express's is taken. -/
structure Msix where
  functionMask : Bool := false
  masks : List Bool := List.replicate 9 true
  pending : List Bool := List.replicate 9 false
deriving DecidableEq, Repr

/-- The control block. -/
structure ControlState where
  /-- SYS_BOOT: STAGE, PCIE0_EP and FAIL_CODE -/
  stage : Nat := 0
  pcie0Ep : Bool := false
  failCode : Nat := 0
  /-- SYS_FW_VERSION: 0 until Oluhenu runs -/
  fwVersion : Word := 0
  /-- SYS_RESET_CAUSE, the copy the host reads, and the merged W1C word that waits for the always-on edge (R58) -/
  resetCause : Word := 1
  resetCauseCopy : Word := 1
  aoPending : Option Word := none
  /-- CONFIG_DIGEST (R440) -/
  configDigest : List Byte := List.replicate 32 0
  /-- the sticky bits of SYS_IRQ_STATUS: IN_EMPTY_n in 15:8, FAULT 24, THERMAL 25, CP_ERR 26 -/
  irq : Word := 0
  /-- SYS_IRQ_ENABLE -/
  irqEnable : Word := 0
  /-- SYS_CNT_CP_ERR -/
  cntCpErr : Word := 0
  /-- STATUS bit 2: the previous Control Port transaction was discarded (R53) -/
  cpDiscarded : Bool := false
  /-- four lines are in use (R52) -/
  quad : Bool := false
  /-- the bytes the Control Port sent in its last transaction -/
  cpOut : List Byte := []
  mailboxes : List Mailbox := List.replicate 16 {}
  /-- the in-slots and out-slots of the MBX window (R61), by offset in the window -/
  slots : Mem := []
  wides : List Wide := List.replicate 19 {}
  /-- the snapshot registers as the Bell latched them: address and value (R386) -/
  snaps : List (Nat × Word) := []
  groups : List Group := List.replicate 64 {}
  /-- unit and group of every unit that SYS_GROUP_BIND has moved from group 2 (R77) -/
  bound : List (Nat × Nat) := []
  commits : List PendingCommit := []
  msix : Msix := {}
  /-- SYS_RESET with SCOPE 1 has been accepted: COMMAND_RESET follows in 1 ms (R74) -/
  resetAsked : Bool := false
  /-- nanoseconds since power-good, for SYS_WIDE_SEL 1 -/
  sincePowerGood : BitVec 64 := 0
deriving DecidableEq, Repr

end Sys2Proof.Machine
end

