-- ==== Sys2Proof/Machine/AudioState.lean ====
section
/-!
DEFINITION. State of the audio block: eight ports and four captures (15_audio.md, R353 to R371).
-/

namespace Sys2Proof.Machine

/-- One audio port's fields in the order of R355. -/
structure AudPortConfig where
  /-- DIRECTION: 0 = in, 1 = out -/
  direction : Nat := 0
  /-- RATE: 44.1, 48, 96, 192 kHz -/
  rate : Nat := 1
  /-- CLOCK: 0 = raster, 1 = reference, 2 = external -/
  clock : Nat := 0
  /-- SLOTS -/
  slots : Nat := 8
  /-- ZC_THRESH -/
  zcThresh : Nat := 16
  /-- GATE_TIMEOUT, ms -/
  gateTimeout : Nat := 20
  /-- OUT_SOURCE: capture 0 to 3, or 4 = PLAYOUT -/
  outSource : Nat := 0
  /-- OUT_MAP -/
  outMap : List Nat := List.replicate 16 255
  /-- OUT_DELAY -/
  outDelay : Nat := 64
  /-- PLAYOUT handle -/
  playout : Nat := 0
  /-- AES_CS: channel status bytes 0 to 22 -/
  aesCs : List Byte := 0x81 :: List.replicate 22 0
  /-- CS_PASS -/
  csPass : Nat := 0
deriving DecidableEq, Repr

/-- The field table of one audio port's fields in the order of R355. -/
def audPortFlds : List (Fld AudPortConfig) :=
  [ Fld.nat .idle 0 1 (·.direction) (fun v c => { c with direction := v }),
    Fld.nat .idle 0 3 (·.rate) (fun v c => { c with rate := v }),
    Fld.nat .idle 0 2 (·.clock) (fun v c => { c with clock := v }),
    Fld.nat .idle 2 16 (·.slots) (fun v c => { c with slots := v }) (fun v => v == 2 || v == 4 || v == 8 || v == 16),
    Fld.nat .live 0 65535 (·.zcThresh) (fun v c => { c with zcThresh := v }),
    Fld.nat .live 1 255 (·.gateTimeout) (fun v c => { c with gateTimeout := v }),
    Fld.nat .idle 0 4 (·.outSource) (fun v c => { c with outSource := v }),
    { Fld.nats .idle 16 0 255 1 (·.outMap) (fun v c => { c with outMap := v }) with ok := fun v => ((fun v => v < 64 || v == 255)) v.nat },
    Fld.nat .idle 16 4096 (·.outDelay) (fun v c => { c with outDelay := v }),
    Fld.nat .idle 0 4294967295 (·.playout) (fun v c => { c with playout := v }),
    Fld.bytes .live 23 23 (·.aesCs) (fun v c => { c with aesCs := v }),
    Fld.nat .idle 0 1 (·.csPass) (fun v c => { c with csPass := v }) ]

/-- How a channel or slot passes its samples (R363). -/
inductive GatePhase where
  | silent | starting | passing | stopping
deriving DecidableEq, Repr

/-- The gate of one capture channel or output slot. -/
structure Gate where
  phase : GatePhase := .silent
  /-- GAIN in force, and the change that waits for a zero crossing -/
  gain : Nat := 16384
  pendGain : Option Nat := none
  /-- what has changed within the block in progress: from this sample on, whether samples pass, and their GAIN -/
  steps : List (Nat × Bool × Nat) := []
deriving DecidableEq, Repr

/-- One audio port. DESIGN CHOICE, unsafe (log entry 21): how many starts and stops can wait. -/
structure AudPort where
  cfg : AudPortConfig := {}
  /-- an output that runs; a start or stop that waits for its frame; a stop in progress -/
  running : Bool := false
  startAt : Option Frame := none
  stopAt : Option Frame := none
  /-- the external clock is locked -/
  locked : Bool := false
  /-- samples in the elastic buffer -/
  fill : Nat := 8
  gates : List Gate := List.replicate 16 {}
  /-- an underrun run is in progress -/
  underrun : Bool := false
  status : List Byte := List.replicate 24 0
  /-- AUDp_CNT_SLIP, SLIP_FORCED, UNLOCK, CS_ERR, PARITY, UNDERRUN, LATE -/
  cnt : List Word := List.replicate 7 0
deriving DecidableEq, Repr

/-- One capture (R358, R364). -/
structure AudCapture where
  lead : Nat := 255
  ring : Handle := 0
  block : Nat := 256
  /-- MASK_0 to MASK_5 in force and in shadow (R360) -/
  masks : List Nat := List.replicate 6 0
  maskShadow : List Nat := List.replicate 6 0
  running : Bool := false
  startAt : Option Frame := none
  stopAt : Option Frame := none
  /-- the capture has stopped and its last block is still to be written -/
  ending : Bool := false
  gates : List Gate := []
  gains : List Nat := List.replicate 64 16384
  /-- the block in progress: SEQ, FIRST, FRAME, FLAGS, SLIP_INDEX -/
  seq : Nat := 0
  first : Clk := { sec := 0, ns := 0, frac := 0 }
  frame : Frame := 0
  flags : Nat := 0
  slipIndex : Nat := 0xFFFF
  /-- the next block carries CUT; blocks are being lost, and the next one written carries GAP -/
  cutNext : Bool := false
  losing : Bool := false
  lastSeq : Nat := 0
  /-- AUDc_CNT_BLOCKS, OVERRUN -/
  cnt : List Word := List.replicate 2 0
deriving DecidableEq, Repr

/-- The audio block. -/
structure AudioState where
  ports : List AudPort := (List.range 8).map fun p => if p = 4 ∨ p = 5 then { cfg := { clock := 2 } } else {}
  captures : List AudCapture := List.replicate 4 {}
  cntGate : Word := 0
  lastFirst : Clk := { sec := 0, ns := 0, frac := 0 }
deriving DecidableEq, Repr

end Sys2Proof.Machine
end

