-- ==== Sys2Proof/Machine/BusState.lean ====
section
/-!
DEFINITION. State of the board buses: four I²C controllers, the I²C target, two UARTs, the lens service and GPIO
(18_board_buses.md, R418 to R431).
-/

namespace Sys2Proof.Machine

/-- One I²C controller's fields in the order of R418. -/
structure I2cConfig where
  /-- SCL_HZ -/
  sclHz : Nat := 100000
  /-- FILTER -/
  filter : Nat := 3
  /-- SCL_TIMEOUT, ms -/
  sclTimeout : Nat := 25
  /-- RETRIES -/
  retries : Nat := 0
deriving DecidableEq, Repr

/-- The field table of one I²C controller's fields in the order of R418. -/
def i2cFlds : List (Fld I2cConfig) :=
  [ Fld.nat .live 10000 1000000 (·.sclHz) (fun v c => { c with sclHz := v }),
    Fld.nat .live 0 31 (·.filter) (fun v c => { c with filter := v }),
    Fld.nat .live 1 100 (·.sclTimeout) (fun v c => { c with sclTimeout := v }),
    Fld.nat .live 0 7 (·.retries) (fun v c => { c with retries := v }) ]

/-- One segment of a transfer (R419): data to write, or a count to read. -/
structure Segment where
  addr : Nat
  read : Bool
  count : Nat
  data : List Byte
deriving DecidableEq, Repr

/-- Who waits for a transfer: the command under its ticket, or the lens service with the frame of its poll. -/
inductive I2cFor where
  | mailbox (ticket : Nat)
  | lens (poll : Frame)
deriving DecidableEq, Repr

/-- A transfer, or a bus clear on demand when it has no segment (R419, R421). -/
structure Transfer where
  segments : List Segment
  for_ : I2cFor
  losses : Nat := 0
deriving DecidableEq, Repr

/-- One controller: its transfer on the wires, or waiting for a STOP after a lost arbitration, and those that wait (R420, R422). -/
structure I2cController where
  cfg : I2cConfig := {}
  active : Option Transfer := none
  waitsStop : Bool := false
  queue : List Transfer := []
  cntArb : Word := 0
  cntClear : Word := 0
deriving DecidableEq, Repr

/-- The I²C target (R423, R424): its addresses, or one address with a mask, and the register address of the next word. -/
structure I2cTarget where
  addrs : List Nat := [0x58]
  mask : Option Nat := none
  next : Word := 0
  /-- TWI_ADDR[2:0] sampled when reset ended -/
  strap : Nat := 0
  /-- the bytes of the last read -/
  out : List Byte := []
  cntProto : Word := 0
deriving DecidableEq, Repr

/-- One UART's fields in the order of R426. -/
structure UartConfig where
  /-- BAUD -/
  baud : Nat := 1200
  /-- DATA bits -/
  data : Nat := 8
  /-- PARITY -/
  parity : Nat := 0
  /-- STOP bits -/
  stop : Nat := 1
  /-- IDLE_GAP, bit times -/
  idleGap : Nat := 10
  /-- RX_RING handle -/
  rxRing : Nat := 0
deriving DecidableEq, Repr

/-- The field table of one UART's fields in the order of R426. -/
def uartFlds : List (Fld UartConfig) :=
  [ Fld.nat .idle 1200 4000000 (·.baud) (fun v c => { c with baud := v }),
    Fld.nat .idle 7 8 (·.data) (fun v c => { c with data := v }),
    Fld.nat .idle 0 2 (·.parity) (fun v c => { c with parity := v }),
    Fld.nat .idle 1 2 (·.stop) (fun v c => { c with stop := v }),
    Fld.nat .idle 2 255 (·.idleGap) (fun v c => { c with idleGap := v }),
    Fld.nat .idle 0 4294967295 (·.rxRing) (fun v c => { c with rxRing := v }) ]

/-- One UART: the record that is open, with its first start bit and flags. -/
structure Uart where
  cfg : UartConfig := {}
  rx : List Byte := []
  first : Option Clk := none
  flags : Nat := 0
  /-- a record has been lost: the next carries bit 3 -/
  lost : Bool := false
  errFrame : Option Frame := none
  cntErr : Word := 0
deriving DecidableEq, Repr

/-- The fields of BUS_LENS_SET in the order of R427. -/
structure LensConfig where
  /-- BUS: controller 0 to 3, UART 4 to 5, 0xFF = off -/
  bus : Nat := 255
  /-- ADDRESS -/
  address : Nat := 8
  /-- REQUEST -/
  request : List Byte := []
  /-- REPLY_LEN -/
  replyLen : Nat := 1
  /-- LENS_LINE -/
  lensLine : Nat := 0
  /-- PERIOD -/
  period : Nat := 1
deriving DecidableEq, Repr

/-- The field table of the fields of BUS_LENS_SET in the order of R427. -/
def lensFlds : List (Fld LensConfig) :=
  [ Fld.nat .live 0 255 (·.bus) (fun v c => { c with bus := v }) (fun v => v < 6 || v == 255),
    Fld.nat .live 8 119 (·.address) (fun v c => { c with address := v }),
    Fld.bytes .live 0 64 (·.request) (fun v c => { c with request := v }),
    Fld.nat .live 1 236 (·.replyLen) (fun v c => { c with replyLen := v }),
    Fld.nat .live 0 65535 (·.lensLine) (fun v c => { c with lensLine := v }),
    Fld.nat .live 1 255 (·.period) (fun v c => { c with period := v }) ]

/-- A poll of the lens: its frame and instant, the reply so far, and its status once it is complete. -/
structure LensPoll where
  frame : Frame
  time : Clk
  bus : Nat
  reply : List Byte := []
  status : Option Nat := none
deriving DecidableEq, Repr

/-- The lens service. -/
structure Lens where
  cfg : LensConfig := {}
  poll : Option LensPoll := none
  /-- the last complete poll -/
  last : Option LensPoll := none
  lastRequest : Clk := { sec := 0, ns := 0, frac := 0 }
  cntMiss : Word := 0
deriving DecidableEq, Repr

/-- One GPIO pin's fields in the order of R428. -/
structure PinConfig where
  /-- MODE -/
  mode : Nat := 0
  /-- IN_EDGE -/
  inEdge : Nat := 0
  /-- DEBOUNCE -/
  debounce : Nat := 0
  /-- PULSE_LEVEL -/
  pulseLevel : Nat := 0
deriving DecidableEq, Repr

/-- The field table of one GPIO pin's fields in the order of R428. -/
def pinFlds : List (Fld PinConfig) :=
  [ Fld.nat .live 0 2 (·.mode) (fun v c => { c with mode := v }),
    Fld.nat .live 0 3 (·.inEdge) (fun v c => { c with inEdge := v }),
    Fld.nat .live 0 255 (·.debounce) (fun v c => { c with debounce := v }),
    Fld.nat .live 0 1 (·.pulseLevel) (fun v c => { c with pulseLevel := v }) ]

/-- The board buses. -/
structure BusState where
  i2c : List I2cController := List.replicate 4 {}
  target : I2cTarget := {}
  uarts : List Uart := List.replicate 2 {}
  lens : Lens := {}
  pins : List PinConfig := List.replicate 32 {}
  /-- pad levels after DEBOUNCE, and OUT -/
  gpioIn : Word := 0
  gpioOut : Word := 0
deriving DecidableEq, Repr

end Sys2Proof.Machine
end

