-- ==== Sys2Proof/Machine/IntakeState.lean ====
section
/-!
DEFINITION. State of the three intake sources A, B and Replay (05_sensor_intake.md, R102 to R138).
-/

namespace Sys2Proof.Machine

/-- Mode, geometry, arbitration and re-send of a sensor port, in the order of R103. -/
structure PortConfig where
  /-- MODE: 0 = independent, 1 = ganged -/
  mode : Nat := 0
  /-- WIDTH -/
  width : Nat := 64
  /-- LINES -/
  lines : Nat := 16
  /-- EXPOSURES -/
  exposures : Nat := 1
  /-- BITS -/
  bits : Nat := 10
  /-- CFA_PHASE -/
  cfaPhase : Nat := 0
  /-- PRIORITY -/
  priority : Nat := 0
  /-- RESEND_ENABLE -/
  resendEnable : Nat := 1
deriving DecidableEq, Repr

/-- The field table of mode, geometry, arbitration and re-send of a sensor port, in the order of R103. -/
def portFlds : List (Fld PortConfig) :=
  [ Fld.nat .idle 0 1 (·.mode) (fun v c => { c with mode := v }),
    Fld.nat .idle 64 16384 (·.width) (fun v c => { c with width := v }) (fun v => v % 16 == 0),
    Fld.nat .idle 16 16384 (·.lines) (fun v c => { c with lines := v }) (fun v => v % 2 == 0),
    Fld.nat .idle 1 4 (·.exposures) (fun v c => { c with exposures := v }),
    Fld.nat .idle 10 16 (·.bits) (fun v c => { c with bits := v }) (fun v => v % 2 == 0),
    Fld.nat .idle 0 4 (·.cfaPhase) (fun v c => { c with cfaPhase := v }),
    Fld.nat .live 0 3 (·.priority) (fun v c => { c with priority := v }),
    Fld.nat .live 0 1 (·.resendEnable) (fun v c => { c with resendEnable := v }) ]

/-- One linearisation curve: the knots written so far from index 0; knot n beyond them is n · 2^13 (R127). -/
structure Curve where
  knots : List Int := []
  black : Nat := 0
deriving DecidableEq, Repr

/-- The merge fields of one source, per exposure (R128). -/
structure MergeConfig where
  gain : List Nat := List.replicate 4 65536
  knee : List Int := List.replicate 4 8388608
  ws : List Nat := List.replicate 4 0
deriving DecidableEq, Repr

/-- The defect fields of one source (R129): each static entry holds X in [15:0] and Y in [31:16]. -/
structure DefectConfig where
  static : List Nat := []
  dynamic : Nat := 0
  thresh : Int := 0
deriving DecidableEq, Repr

/-- One raw tap (R131): `live` says that it takes the frames that start. -/
structure Tap where
  ring : Handle := 0
  enable : Bool := false
  live : Bool := false
deriving DecidableEq, Repr

/-- How a row of an exposure stands. DESIGN CHOICE, unsafe (log entry 31): which row completes a short frame. -/
inductive RowStatus where
  /-- not yet seen -/
  | missing
  | received
  | resent
  /-- damaged, waiting for an undamaged copy until its deadline (R117) -/
  | damaged
  /-- to be concealed once its neighbours are settled (R119) -/
  | toConceal
  | concealed
deriving DecidableEq, Repr

/-- One row of one exposure, in sensor codes. -/
structure Row where
  row : Nat
  exposure : Nat
  status : RowStatus := .missing
  codes : List Nat := []
deriving DecidableEq, Repr

/-- A frame on its way through an intake: being received, or ended with rows unsettled. -/
structure FrameIn where
  frame : Frame
  frameLo : Nat
  mark : BitVec 16
  start : Clk
  width : Nat
  lines : Nat
  exposures : Nat
  bits : Nat
  cfa : Nat
  rows : List Row := []
  /-- the frame has ended (R123), and the rows that a short frame keeps -/
  ended : Bool := false
  /-- ended by a cut or stall: later copies are discarded (R124) -/
  closed : Bool := false
  kept : Nat := 0
  /-- INTAKE_FLAGS so far -/
  flags : BitVec 16 := 0
  /-- dropped whole (R122) or dropped from development (R124, R135) -/
  rateDrop : Bool := false
  devDrop : Bool := false
  /-- a rising row seen last per exposure, for the gaps and the order of R116 -/
  lastRow : List (Option Nat) := [none, none, none, none]
  /-- ring entry ids of taps T0 to T3 -/
  entries : List (Option Nat) := [none, none, none, none]
  /-- line pairs already in the port buffer or beyond -/
  pairsSent : Nat := 0
deriving DecidableEq, Repr

/-- One line pair after defect correction, in L40 (R134). -/
structure Pair where
  frame : Frame
  index : Nat
  last : Bool
  top : List Int
  bottom : List Int
  /-- exposure tags of the two rows (R145) -/
  topTags : List Nat
  bottomTags : List Nat
  /-- a completion pair of R124, which takes no place in the port buffer -/
  filler : Bool := false
  /-- what R15 makes the pair carry: the frame's mark, its INTAKE_FLAGS so far, rows and CFA_PHASE -/
  mark : BitVec 16 := 0
  flags : BitVec 16 := 0
  lines : Nat := 0
  cfa : Nat := 0
  start : Clk := { sec := 0, ns := 0, frac := 0 }
deriving DecidableEq, Repr

/-- What a tap's entry holds, for the units that read its ring (R131, R268). -/
structure TapFrame where
  id : Nat
  tap : Nat
  frame : Frame
  width : Nat
  bits : Nat
  cfa : Nat
  tc : Timecode
  sub : Nat
  millFlags : BitVec 16 := 0
  /-- BRMD items 0x0001 to 0x0006 in force for the frame (R267): the intake's, then the Mill's -/
  intakeMeta : List Item := []
  millMeta : List Item := []
deriving DecidableEq, Repr

/-- What a sideband request is for (R112). -/
inductive Ask where
  | capQuery | linkConfig
  | taps (lanes : List Nat)
  | burst (lane : Nat)
  | mapChange
  | resend (frame : Frame) (row exposure : Nat)
  /-- INTAKE_SENSOR_WRITE and INTAKE_SENSOR_READ, by the number that their reply waits under -/
  | regWrite (id : Nat)
  | regRead (id : Nat)
  | poll
  | loopSet
  | prbs (lanes : List Nat)
deriving DecidableEq, Repr

/-- A sideband request (R111, R112). -/
structure SbRequest where
  ty : Nat
  ask : Ask
  payload : List Byte
  seq : Nat := 0
  resent : Bool := false
deriving DecidableEq, Repr

/-- One sensor port with its intake; Replay uses the fields of processing, the buffer and the counters. DESIGN CHOICE,
unsafe (log entry 21): how many starts and stops can wait. -/
structure IntakeUnit where
  cfg : PortConfig := {}
  /-- PORT_STATE: 0 = down, 1 = bring-up, 2 = exchange, 3 = active, 4 = exchange failed, held -/
  portState : Nat := 0
  version : Nat := 0
  cap : Option SensorCap := none
  exchangeFails : Nat := 0
  /-- the source is started; starts (true) and stops (false) that wait for their frames, in the order of their commands
  (R126, R136) -/
  running : Bool := false
  turns : List (Frame × Bool) := []
  /-- a start has come and the source begins with the next K28.1; a stop acts at the end of the frame in progress -/
  armed : Bool := false
  stopping : Bool := false
  curves : List (List Curve) := List.replicate 4 (List.replicate 4 {})
  merge : MergeConfig := {}
  defect : DefectConfig := {}
  taps : List Tap := List.replicate 4 {}
  /-- between a K28.1 and the frame's end -/
  inFrame : Bool := false
  flight : List FrameIn := []
  buffer : List Pair := []
  peakRows : Nat := 0
  /-- raster number and Device Clock of the last K28.1, and the interval before it in ns -/
  lastStart : Option (Frame × Clk) := none
  interval : Nat := 0
  lastEnd : Clk := { sec := 0, ns := 0, frac := 0 }
  lastFrame : Frame := 0
  lastMark : BitVec 16 := 0
  lastFlags : BitVec 16 := 0
  /-- a K28.1 came in the raster frame in progress -/
  gotFrame : Bool := false
  /-- entries of T2 and T3 that the Mill has still to write: frame, tap and ring entry id -/
  tapIds : List (Frame × Nat × Nat) := []
  /-- what the newest entries of the four taps hold -/
  tapped : List TapFrame := []
  /-- frame records (R120), newest last -/
  records : List (List Byte) := []
  /-- the sideband; `answering`: the sensor answered the last request (R136 PORT_DOWN) -/
  answering : Bool := false
  sbSeq : Nat := 0
  sbOut : Option SbRequest := none
  sbQueue : List SbRequest := []
  /-- R138 in offset order: FRAMES, DAMAGED, RESEND_REQ, RESEND_OK, CONCEALED, LATE, OUT_OF_ORDER, LONG_LINES, SHORT,
  STALL, ARB_DROP, RATE_DROP, MISSED, DPC_DYNAMIC, TAP_OVERRUN, SB_ERR -/
  cnt : List Word := List.replicate 16 0
deriving DecidableEq, Repr

/-- The fields of REPLAY_SET (R132, R136), in its order. -/
structure ReplayConfig where
  /-- SOURCE: a REPLAY_SOURCE handle -/
  source : Nat := 0
  /-- ENTRY_TAP -/
  entryTap : Nat := 0
  /-- WIDTH -/
  width : Nat := 64
  /-- LINES -/
  lines : Nat := 16
  /-- EXPOSURES -/
  exposures : Nat := 1
  /-- CFA_PHASE -/
  cfaPhase : Nat := 0
  /-- FIRST -/
  first : Nat := 0
  /-- COUNT -/
  count : Nat := 0
  /-- LOOP -/
  loop : Nat := 0
deriving DecidableEq, Repr

/-- The field table of the fields of REPLAY_SET (R132, R136), in its order. -/
def replayFlds : List (Fld ReplayConfig) :=
  [ Fld.nat .idle 0 4294967295 (·.source) (fun v c => { c with source := v }),
    Fld.nat .idle 0 3 (·.entryTap) (fun v c => { c with entryTap := v }),
    Fld.nat .idle 64 16384 (·.width) (fun v c => { c with width := v }) (fun v => v % 16 == 0),
    Fld.nat .idle 16 16384 (·.lines) (fun v c => { c with lines := v }) (fun v => v % 2 == 0),
    Fld.nat .idle 1 4 (·.exposures) (fun v c => { c with exposures := v }),
    Fld.nat .idle 0 4 (·.cfaPhase) (fun v c => { c with cfaPhase := v }),
    Fld.nat .idle 0 4294967295 (·.first) (fun v c => { c with first := v }),
    Fld.nat .idle 0 4294967295 (·.count) (fun v c => { c with count := v }),
    Fld.nat .idle 0 1 (·.loop) (fun v c => { c with loop := v }) ]

/-- A frame that the decompression jobs have restored for Replay: its planes of codes or L40 values, row by row. -/
structure ReplayFrame where
  index : Nat
  bits : Nat
  flags : BitVec 16
  planes : List (List (List Int))
deriving DecidableEq, Repr

/-- Replay (R132, R133). -/
structure ReplayState where
  cfg : ReplayConfig := {}
  next : Nat := 0
  delivered : Nat := 0
  /-- the frame being granted, and the one restored and waiting -/
  inFrame : Bool := false
  ready : Option ReplayFrame := none
  lastFrame : Frame := 0
  cntFrames : Word := 0
  cntSlip : Word := 0
deriving DecidableEq, Repr

/-- The intake block: sources 0 = A, 1 = B, 2 = Replay. -/
structure IntakeState where
  units : List IntakeUnit := List.replicate 3 {}
  replay : ReplayState := {}
  /-- the source granted last, for R134's "granted less recently" -/
  lastGrant : Nat := 1
deriving DecidableEq, Repr

end Sys2Proof.Machine
end

