-- ==== Sys2Proof/Machine/CompressState.lean ====
section
/-!
DEFINITION. State of raw compression: four sessions, 32 engines, the history slots, Replay's decompression and CMP_VERIFY
(10_raw_compression.md, R245 to R275).
-/

namespace Sys2Proof.Machine

/-- One compression session's fields in the order of R245. -/
structure CmpConfig where
  /-- SOURCE: 0 = intake A, 1 = intake B -/
  source : Nat := 0
  /-- TAP -/
  tap : Nat := 1
  /-- OUT_RING handle -/
  outRing : Nat := 0
  /-- Q -/
  q : Nat := 1
  /-- LEVEL -/
  level : Nat := 0
  /-- KEY_INTERVAL -/
  keyInterval : Nat := 48
deriving DecidableEq, Repr

/-- The field table of one compression session's fields in the order of R245. -/
def cmpFlds : List (Fld CmpConfig) :=
  [ Fld.nat .idle 0 1 (·.source) (fun v c => { c with source := v }),
    Fld.nat .idle 0 3 (·.tap) (fun v c => { c with tap := v }),
    Fld.nat .idle 0 4294967295 (·.outRing) (fun v c => { c with outRing := v }),
    Fld.nat .idle 1 255 (·.q) (fun v c => { c with q := v }),
    Fld.nat .idle 0 9 (·.level) (fun v c => { c with level := v }),
    Fld.nat .idle 1 65535 (·.keyInterval) (fun v c => { c with keyInterval := v }) ]

/-- A finished stream of one stripe. -/
structure CmpStream where
  bytes : List Byte
  rawLen : Nat
  rawCrc : Word
deriving DecidableEq, Repr

/-- A tap frame that a session compresses. -/
structure CmpFrame where
  /-- the tap ring's entry, and the reservation in OUT_RING -/
  entry : Nat
  outId : Nat
  info : TapFrame
  /-- the frame record of R120 -/
  record : List Byte
  key : Bool
  distance : Nat
  streams : List (Option CmpStream) := List.replicate 32 none
  poison : Bool := false
  retry : Bool := false
deriving DecidableEq, Repr

/-- One compression session. -/
structure CmpSession where
  cfg : CmpConfig := {}
  running : Bool := false
  startAt : Frame := 0
  /-- the first frame that a stop leaves out, once one has been named -/
  stopAt : Option Frame := none
  /-- no chunk has been begun since the start -/
  first : Bool := true
  keyReq : List Frame := []
  /-- the ring that the session reads, when it is configured -/
  reads : Option Handle := none
  /-- entries read and not yet released, oldest first: entry, and whether the session has done with it -/
  taken : List (Nat × Bool) := []
  frames : List CmpFrame := []
  /-- the newest frame begun, and its distance from the last key frame -/
  begun : Option (Frame × Nat) := none
  /-- the newest frame that the session skipped, for the recording service -/
  skipped : List Frame := []
  lastFrame : Frame := 0
  ratio : Nat := 0
  /-- CMPs_CNT_FRAMES, KEY, SKIPPED, RETRY -/
  cnt : List Word := List.replicate 4 0
deriving DecidableEq, Repr

/-- What an engine runs (R256). -/
inductive CmpJob where
  /-- session, tap entry, stripe, and whether its stream is CARRIED -/
  | comp (session entry stripe : Nat) (carried : Bool)
  | replay (stripe : Nat)
  | verify (stripe : Nat)
deriving DecidableEq, Repr

/-- One engine. -/
structure Engine where
  job : Option CmpJob := none
  retried : Bool := false
deriving DecidableEq, Repr

/-- A chunk that is being decompressed: its bytes, whether a block of it is poisoned per stripe, the engines' results. -/
structure DecompChunk where
  index : Nat
  frame : Frame
  bytes : List Byte
  poison : List Nat
  results : List (Option (Nat × List Byte)) := List.replicate 32 none
deriving DecidableEq, Repr

/-- A CMP_VERIFY: its mailbox, handle, offset and, once it has begun, its chunk. -/
structure Verify where
  mb : Nat
  handle : Handle
  offset : Nat
  work : DecompChunk
  started : List Nat := []
deriving DecidableEq, Repr

/-- Raw compression. -/
structure CompressState where
  sessions : List CmpSession := List.replicate 4 {}
  engines : List Engine := List.replicate 32 {}
  /-- 160 history slots (R257) -/
  history : List (List Byte) := List.replicate 160 []
  /-- the Replay chunk in the engines; the index that Replay's slots follow; frame chunks already released from a ring -/
  replay : Option DecompChunk := none
  replayAt : Option Nat := none
  replayBase : Nat := 0
  verifies : List Verify := []
  /-- the chunk verified last: handle, frame, and the 32 histories it left -/
  verified : Option (Handle × Frame × List (List Byte)) := none
  chunkTime : Clk := { sec := 0, ns := 0, frac := 0 }
  replayTime : Clk := { sec := 0, ns := 0, frac := 0 }
  /-- engine clocks of the frame in progress; UTIL and PEAK -/
  clocks : Nat := 0
  util : Nat := 0
  peak : Nat := 0
  lastStripe : Nat := 0
  lastCause : Nat := 0
  /-- CMPD_CNT_STREAMS, FAULT, VERIFY -/
  cnt : List Word := List.replicate 3 0
deriving DecidableEq, Repr

end Sys2Proof.Machine
end

