-- ==== Sys2Proof/Machine/Fixed.lean ====
section
/-!
DEFINITION. Fixed-point arithmetic: rounding to nearest with ties to even, saturation (R8), the pipeline sample L40
(R7) and the 16-bit storage code RC16 (R130).
-/

namespace Sys2Proof.Machine

/-- `n / d` rounded to nearest, ties to the even value (R8); `d` is not 0 where it is used. -/
def roundDiv (n : Int) (d : Nat) : Int :=
  let q := n / (d : Int)
  let r := n % (d : Int)
  if 2 * r < d then q else if (d : Int) < 2 * r then q + 1 else if q % 2 = 0 then q else q + 1

/-- Saturation to `lo … hi` (R8). -/
def sat (lo hi v : Int) : Int := if v < lo then lo else if hi < v then hi else v

/-- Limits of L40: signed Q16.23 in 40 bits (R7). -/
def l40Min : Int := -(2 ^ 39)
def l40Max : Int := 2 ^ 39 - 1

/-- Saturation to L40. -/
def satL40 (v : Int) : Int := sat l40Min l40Max v

/-- Saturation to an unsigned code of `n` bits. -/
def satU (n : Nat) (v : Int) : Int := sat 0 (2 ^ n - 1) v

/-- The largest e ≤ 31 with `m ≥ 1024 · 2^(e - 3)` in L40 units, or 0. -/
def rc16Exp (m : Nat) : Nat :=
  (List.range 31).foldl (fun acc k => if 1024 * 2 ^ (k + 1) ≤ 8 * m then k + 1 else acc) 0

/-- L40 to RC16, rounded under R8; a mantissa carry raises E, and the magnitude saturates at E = 31, M = 1,023. -/
def toRc16 (v : Int) : Nat :=
  let m := v.natAbs
  let e := rc16Exp m
  let code :=
    if e = 0 then 4 * m
    else
      let mant := (roundDiv (8 * m : Nat) (2 ^ e)).toNat
      let (e, mant) := if 2048 ≤ mant then (e + 1, 1024) else (e, mant)
      if 31 < e then 31 * 1024 + 1023 else e * 1024 + (mant - 1024)
  if v < 0 ∧ code ≠ 0 then 32768 + code else code

/-- RC16 to L40, rounded under R8. -/
def ofRc16 (c : Nat) : Int :=
  let e := c / 1024 % 32
  let m := c % 1024
  let mag := if e = 0 then roundDiv (m : Nat) 4 else roundDiv ((1024 + m) * 2 ^ e : Nat) 8
  if 32768 ≤ c % 65536 then -mag else mag

/-- A sorted copy of a short list. -/
def sortInts (l : List Int) : List Int := l.mergeSort (fun a b => decide (a ≤ b))

/-- The median of up to four values as R129 takes it; 0 for none. -/
def median4 (l : List Int) : Int :=
  match sortInts l with
  | [] => 0
  | [a] => a
  | [a, b] => roundDiv (a + b) 2
  | [_, b, _] => b
  | _ :: b :: c :: _ => roundDiv (b + c) 2

/-- Element `(r, c)` of a picture held as rows; 0 outside. -/
def px (p : List (List Int)) (r c : Nat) : Int := (p.getD r []).getD c 0

/-- An index mirrored about the edge elements of `0 … n - 1`. -/
def mirror (n : Nat) (k : Int) : Nat :=
  if n ≤ 1 then 0
  else
    let j := if k < 0 then -k else k
    let j := if (n : Int) - 1 < j then 2 * ((n : Int) - 1) - j else j
    if j < 0 then 0 else j.toNat

/-- A position moved by `d` places of its own colour phase (`st` = 2, or 1 in monochrome), mirrored about the edge
sample of the same phase. -/
def stepAt (st n i : Nat) (d : Int) : Nat :=
  let par := i % st
  let cnt := (n - par + st - 1) / st
  par + st * mirror cnt ((i / st : Nat) + d)

/-! ## Logarithm and power, in units of 2^-64 -/

/-- Binary digits of log2 y, y in [1, 2) in units of 2^-128: each squaring gives one. -/
def logDigits : Nat → Nat → Nat → Nat
  | 0, _, acc => acc
  | n + 1, y, acc =>
    let z := y * y / 2 ^ 128
    if 2 ^ 129 ≤ z then logDigits n (z / 2) (2 * acc + 1) else logDigits n z (2 * acc)

/-- log2 (num / den) in units of 2^-64; both are above 0. -/
def log2Fix (num den : Nat) : Int :=
  let y := num * 2 ^ 128 / den
  let e := Nat.log2 y
  ((e : Int) - 128) * 2 ^ 64 + (logDigits 64 (if 128 ≤ e then y / 2 ^ (e - 128) else y * 2 ^ (128 - e)) 0 : Nat)

/-- ln 2 in units of 2^-64. -/
def ln2Fix : Nat := 12786308645202655660

/-- The terms of e^t from the `i`-th on, all in units of 2^-64. -/
def expTerms : Nat → Nat → Nat → Nat → Nat
  | 0, _, _, _ => 0
  | n + 1, i, t, term => term + expTerms n (i + 1) t (term * t / 2 ^ 64 / i)

/-- 2^v, argument and result in units of 2^-64. -/
def exp2Fix (v : Int) : Nat :=
  let k := v / 2 ^ 64
  let m := expTerms 32 1 ((v % 2 ^ 64).toNat * ln2Fix / 2 ^ 64) (2 ^ 64)
  if 0 ≤ k then m * 2 ^ k.toNat else m / 2 ^ (-k).toNat

/-- (num / den)^(pn / pd) in units of 2^-64; 0 to a power above 0 is 0. -/
def powFix (num den pn pd : Nat) : Nat := if num = 0 then 0 else exp2Fix (log2Fix num den * (pn : Int) / (pd : Int))

end Sys2Proof.Machine
end

