-- ==== Sys2Proof/Machine/MillState.lean ====
section
/-!
DEFINITION. State of the Mill's three contexts (06_the_mill.md, R139 to R165).
-/

namespace Sys2Proof.Machine

/-- One Mill context's fields in the order of R162. -/
structure MillConfig where
  /-- SHOT_0, unsigned Q0.24 -/
  shot0 : Nat := 0
  /-- SHOT_1 -/
  shot1 : Nat := 0
  /-- SHOT_2 -/
  shot2 : Nat := 0
  /-- SHOT_3 -/
  shot3 : Nat := 0
  /-- READ_0, unsigned Q8.40 -/
  read0 : Nat := 0
  /-- READ_1 -/
  read1 : Nat := 0
  /-- READ_2 -/
  read2 : Nat := 0
  /-- READ_3 -/
  read3 : Nat := 0
  /-- SNR_ENABLE -/
  snrEnable : Nat := 0
  /-- SNR_STRENGTH, unsigned Q4.12 -/
  snrStrength : Nat := 8192
  /-- SPATIAL_1 -/
  spatial1 : Nat := 192
  /-- SPATIAL_2 -/
  spatial2 : Nat := 160
  /-- SPATIAL_3 -/
  spatial3 : Nat := 96
  /-- SPATIAL_4 -/
  spatial4 : Nat := 64
  /-- SPATIAL_5 -/
  spatial5 : Nat := 16
  /-- TNR_ENABLE -/
  tnrEnable : Nat := 0
  /-- TNR_STRENGTH, unsigned Q4.12 -/
  tnrStrength : Nat := 8192
  /-- ALPHA_MAX -/
  alphaMax : Nat := 49152
  /-- TNR_REF: MILL_TNR_REF handle or 0 -/
  tnrRef : Nat := 0
  /-- GAIN_TL, unsigned Q8.16 -/
  gainTl : Nat := 65536
  /-- GAIN_TR -/
  gainTr : Nat := 65536
  /-- GAIN_BL -/
  gainBl : Nat := 65536
  /-- GAIN_BR -/
  gainBr : Nat := 65536
  /-- RECON_MODE -/
  reconMode : Nat := 0
  /-- M00, signed Q4.20 -/
  m00 : Int := 1048576
  /-- M01 -/
  m01 : Int := 0
  /-- M02 -/
  m02 : Int := 0
  /-- M10 -/
  m10 : Int := 0
  /-- M11 -/
  m11 : Int := 1048576
  /-- M12 -/
  m12 : Int := 0
  /-- M20 -/
  m20 : Int := 0
  /-- M21 -/
  m21 : Int := 0
  /-- M22 -/
  m22 : Int := 1048576
  /-- O0, L40 -/
  o0 : Int := 0
  /-- O1 -/
  o1 : Int := 0
  /-- O2 -/
  o2 : Int := 0
  /-- HIST_POINT_0 -/
  histPoint0 : Nat := 255
  /-- HIST_POINT_1 -/
  histPoint1 : Nat := 255
  /-- HIST_POINT_2 -/
  histPoint2 : Nat := 255
  /-- ZONE_POINT -/
  zonePoint : Nat := 255
  /-- ZONE_CLIP, L40 -/
  zoneClip : Int := 8388608
  /-- STATS_RING: META_RING handle or 0 -/
  statsRing : Nat := 0
  /-- STATS_NOTIFY -/
  statsNotify : Nat := 0
deriving DecidableEq, Repr

/-- The field table of one Mill context's fields in the order of R162. -/
def millFlds : List (Fld MillConfig) :=
  [ Fld.nat .frame 0 16777215 (·.shot0) (fun v c => { c with shot0 := v }),
    Fld.nat .frame 0 16777215 (·.shot1) (fun v c => { c with shot1 := v }),
    Fld.nat .frame 0 16777215 (·.shot2) (fun v c => { c with shot2 := v }),
    Fld.nat .frame 0 16777215 (·.shot3) (fun v c => { c with shot3 := v }),
    Fld.nat .frame 0 281474976710655 (·.read0) (fun v c => { c with read0 := v }),
    Fld.nat .frame 0 281474976710655 (·.read1) (fun v c => { c with read1 := v }),
    Fld.nat .frame 0 281474976710655 (·.read2) (fun v c => { c with read2 := v }),
    Fld.nat .frame 0 281474976710655 (·.read3) (fun v c => { c with read3 := v }),
    Fld.nat .frame 0 1 (·.snrEnable) (fun v c => { c with snrEnable := v }),
    Fld.nat .frame 0 65535 (·.snrStrength) (fun v c => { c with snrStrength := v }),
    Fld.nat .frame 0 256 (·.spatial1) (fun v c => { c with spatial1 := v }),
    Fld.nat .frame 0 256 (·.spatial2) (fun v c => { c with spatial2 := v }),
    Fld.nat .frame 0 256 (·.spatial3) (fun v c => { c with spatial3 := v }),
    Fld.nat .frame 0 256 (·.spatial4) (fun v c => { c with spatial4 := v }),
    Fld.nat .frame 0 256 (·.spatial5) (fun v c => { c with spatial5 := v }),
    Fld.nat .frame 0 1 (·.tnrEnable) (fun v c => { c with tnrEnable := v }),
    Fld.nat .frame 0 65535 (·.tnrStrength) (fun v c => { c with tnrStrength := v }),
    Fld.nat .frame 0 61440 (·.alphaMax) (fun v c => { c with alphaMax := v }),
    Fld.nat .idle 0 4294967295 (·.tnrRef) (fun v c => { c with tnrRef := v }),
    Fld.nat .frame 0 16777215 (·.gainTl) (fun v c => { c with gainTl := v }),
    Fld.nat .frame 0 16777215 (·.gainTr) (fun v c => { c with gainTr := v }),
    Fld.nat .frame 0 16777215 (·.gainBl) (fun v c => { c with gainBl := v }),
    Fld.nat .frame 0 16777215 (·.gainBr) (fun v c => { c with gainBr := v }),
    Fld.nat .frame 0 1 (·.reconMode) (fun v c => { c with reconMode := v }),
    Fld.int .frame (-16777216) 16777215 (·.m00) (fun v c => { c with m00 := v }),
    Fld.int .frame (-16777216) 16777215 (·.m01) (fun v c => { c with m01 := v }),
    Fld.int .frame (-16777216) 16777215 (·.m02) (fun v c => { c with m02 := v }),
    Fld.int .frame (-16777216) 16777215 (·.m10) (fun v c => { c with m10 := v }),
    Fld.int .frame (-16777216) 16777215 (·.m11) (fun v c => { c with m11 := v }),
    Fld.int .frame (-16777216) 16777215 (·.m12) (fun v c => { c with m12 := v }),
    Fld.int .frame (-16777216) 16777215 (·.m20) (fun v c => { c with m20 := v }),
    Fld.int .frame (-16777216) 16777215 (·.m21) (fun v c => { c with m21 := v }),
    Fld.int .frame (-16777216) 16777215 (·.m22) (fun v c => { c with m22 := v }),
    Fld.int .frame (-549755813888) 549755813887 (·.o0) (fun v c => { c with o0 := v }),
    Fld.int .frame (-549755813888) 549755813887 (·.o1) (fun v c => { c with o1 := v }),
    Fld.int .frame (-549755813888) 549755813887 (·.o2) (fun v c => { c with o2 := v }),
    Fld.nat .frame 0 255 (·.histPoint0) (fun v c => { c with histPoint0 := v }) (fun v => decide (v ≤ 3) || v == 255),
    Fld.nat .frame 0 255 (·.histPoint1) (fun v c => { c with histPoint1 := v }) (fun v => decide (v ≤ 3) || v == 255),
    Fld.nat .frame 0 255 (·.histPoint2) (fun v c => { c with histPoint2 := v }) (fun v => decide (v ≤ 3) || v == 255),
    Fld.nat .frame 0 255 (·.zonePoint) (fun v c => { c with zonePoint := v }) (fun v => decide (v ≤ 3) || v == 255),
    Fld.int .frame (-549755813888) 549755813887 (·.zoneClip) (fun v c => { c with zoneClip := v }),
    Fld.nat .idle 0 4294967295 (·.statsRing) (fun v c => { c with statsRing := v }),
    Fld.nat .live 0 1 (·.statsNotify) (fun v c => { c with statsNotify := v }) ]

/-- A frame inside the Mill: what R15 makes it carry, and the rows granted so far. -/
structure MillFrame where
  frame : Frame
  mark : BitVec 16
  intakeFlags : BitVec 16
  width : Nat
  lines : Nat
  cfa : Nat
  start : Clk
  /-- the Replay frame index, and the tap at which it enters (R132); ports enter at T1's place -/
  replayIndex : Nat := 0
  entryTap : Nat := 1
  cfg : MillConfig
  rows : List (List Int) := []
  tags : List (List Nat) := []
  completed : Bool := false
  /-- reservation of the statistics record, or the reason for having none (R161) -/
  stats : Option Nat := none
  statsSkip : Nat := 0
deriving DecidableEq, Repr

/-- What R152 compares the next frame with. -/
structure MillPrev where
  frame : Frame
  replayIndex : Nat
  abandoned : Bool
  cut : Bool
  /-- width, lines, CFA_PHASE and TNR_REF -/
  shape : Nat × Nat × Nat × Nat
  /-- the temporal stage did not run -/
  off : Bool
deriving DecidableEq, Repr

/-- A statistics record that is not yet complete in memory (R161). -/
structure StatsRecord where
  ring : Handle
  id : Nat
  frame : Frame
  notify : Bool
  bytes : List Byte
deriving DecidableEq, Repr

/-- A developed frame on its way to the Looks, in RGB rows. -/
structure Developed where
  ctx : Nat
  frame : Frame
  mark : BitVec 16
  intakeFlags : BitVec 16
  millFlags : BitVec 16
  width : Nat
  lines : Nat
  start : Clk
  /-- none of R152's conditions 1 to 5 applies and the geometry is the previous frame's (R212) -/
  follows : Bool
  red : List (List Int)
  green : List (List Int)
  blue : List (List Int)
deriving DecidableEq, Repr

/-- One Mill context. -/
structure MillContext where
  cfg : Shadowed MillConfig := .of {}
  taking : Option MillFrame := none
  prev : Option MillPrev := none
  /-- the next frame is the first that the context develops after its source started -/
  fresh : Bool := true
  /-- pass-throughs that MILL_TNR_RESET asks for, by frame (R163) -/
  resets : List Frame := []
  records : List StatsRecord := []
  lastFrame : Frame := 0
  lastMark : BitVec 16 := 0
  lastFlags : BitVec 16 := 0
  outTime : Clk := { sec := 0, ns := 0, frac := 0 }
  tnrCause : Nat := 0
  refValid : Bool := false
  /-- R165 in offset order: FRAMES, ABANDONED, TNR_RESTART, TNR_POISON, STATS_SKIPPED, SATURATED -/
  cnt : List Word := List.replicate 6 0
deriving DecidableEq, Repr

/-- The Mill. -/
structure MillState where
  ctxs : List MillContext := List.replicate 3 {}
  /-- context granted last, 3 = none, and the Device Clock at which the clocks of its grant are over -/
  granted : Nat := 3
  heldTo : Clk := { sec := 0, ns := 0, frac := 0 }
  /-- clocks spent on grants and flushes in the raster frame in progress; MIL_UTIL of the last one and its PEAK -/
  clocks : Nat := 0
  util : Nat := 0
  peak : Nat := 0
  /-- the frame that has just left the Mill and that the Looks take -/
  out : Option Developed := none
deriving DecidableEq, Repr

end Sys2Proof.Machine
end

