-- ==== Sys2Proof/Machine/LooksState.lean ====
section
/-!
DEFINITION. State of the eight Looks, the 48 renditions and the scaler pool (07_looks_and_renditions.md, R166 to R194).
-/

namespace Sys2Proof.Machine

/-- One Look's fields in the order of R176. -/
structure LookConfig where
  /-- LOOK_SOURCE: Mill context -/
  source : Nat := 0
  /-- LOOK_MODE: 0 = display, 1 = scene-linear -/
  mode : Nat := 0
  /-- LM00, signed Q4.20 -/
  m00 : Int := 1048576
  /-- LM01 -/
  m01 : Int := 0
  /-- LM02 -/
  m02 : Int := 0
  /-- LM10 -/
  m10 : Int := 0
  /-- LM11 -/
  m11 : Int := 1048576
  /-- LM12 -/
  m12 : Int := 0
  /-- LM20 -/
  m20 : Int := 0
  /-- LM21 -/
  m21 : Int := 0
  /-- LM22 -/
  m22 : Int := 1048576
  /-- LO0, L40 -/
  o0 : Int := 0
  /-- LO1 -/
  o1 : Int := 0
  /-- LO2 -/
  o2 : Int := 0
  /-- SHAPER_ENABLE -/
  shaperEnable : Nat := 0
  /-- LUT_ENABLE -/
  lutEnable : Nat := 0
  /-- TONE_ENABLE -/
  toneEnable : Nat := 0
  /-- SHAPER_MODE: 0 = linear, 1 = octave -/
  shaperMode : Nat := 1
  /-- SHAPER_BASE -/
  shaperBase : Int := -16
  /-- LO, L40 -/
  lo : Int := 0
  /-- HI, L40 -/
  hi : Int := 8388608
  /-- TABLE_BANK -/
  tableBank : Nat := 0
  /-- TRANSFER of R172 -/
  transfer : Nat := 1
  /-- ENCODING of R173 -/
  encoding : Nat := 1
  /-- RANGE: 0 = narrow, 1 = full -/
  range : Nat := 0
  /-- BIT_DEPTH -/
  bitDepth : Nat := 10
deriving DecidableEq, Repr

/-- The field table of one Look's fields in the order of R176. -/
def lookFlds : List (Fld LookConfig) :=
  [ Fld.nat .frame 0 2 (·.source) (fun v c => { c with source := v }),
    Fld.nat .frame 0 1 (·.mode) (fun v c => { c with mode := v }),
    Fld.int .frame (-16777216) 16777215 (·.m00) (fun v c => { c with m00 := v }),
    Fld.int .frame (-16777216) 16777215 (·.m01) (fun v c => { c with m01 := v }),
    Fld.int .frame (-16777216) 16777215 (·.m02) (fun v c => { c with m02 := v }),
    Fld.int .frame (-16777216) 16777215 (·.m10) (fun v c => { c with m10 := v }),
    Fld.int .frame (-16777216) 16777215 (·.m11) (fun v c => { c with m11 := v }),
    Fld.int .frame (-16777216) 16777215 (·.m12) (fun v c => { c with m12 := v }),
    Fld.int .frame (-16777216) 16777215 (·.m20) (fun v c => { c with m20 := v }),
    Fld.int .frame (-16777216) 16777215 (·.m21) (fun v c => { c with m21 := v }),
    Fld.int .frame (-16777216) 16777215 (·.m22) (fun v c => { c with m22 := v }),
    Fld.int .frame (-549755813888) 549755813887 (·.o0) (fun v c => { c with o0 := v }),
    Fld.int .frame (-549755813888) 549755813887 (·.o1) (fun v c => { c with o1 := v }),
    Fld.int .frame (-549755813888) 549755813887 (·.o2) (fun v c => { c with o2 := v }),
    Fld.nat .frame 0 1 (·.shaperEnable) (fun v c => { c with shaperEnable := v }),
    Fld.nat .frame 0 1 (·.lutEnable) (fun v c => { c with lutEnable := v }),
    Fld.nat .frame 0 1 (·.toneEnable) (fun v c => { c with toneEnable := v }),
    Fld.nat .frame 0 1 (·.shaperMode) (fun v c => { c with shaperMode := v }),
    Fld.int .frame (-23) (-16) (·.shaperBase) (fun v c => { c with shaperBase := v }),
    Fld.int .frame (-549755813888) 549755813887 (·.lo) (fun v c => { c with lo := v }),
    Fld.int .frame (-549755813888) 549755813887 (·.hi) (fun v c => { c with hi := v }),
    Fld.nat .frame 0 1 (·.tableBank) (fun v c => { c with tableBank := v }),
    Fld.nat .frame 0 4 (·.transfer) (fun v c => { c with transfer := v }),
    Fld.nat .frame 0 2 (·.encoding) (fun v c => { c with encoding := v }),
    Fld.nat .frame 0 1 (·.range) (fun v c => { c with range := v }),
    Fld.nat .frame 8 16 (·.bitDepth) (fun v c => { c with bitDepth := v }) (fun v => v == 8 || v == 10 || v == 12 || v == 16) ]

/-- One table bank (R174): the bytes of each part as a LOOK_LUT buffer lays them out, or `none` for the identity tables of
R176. -/
structure Bank where
  shapers : Option (List Byte) := none
  lut : Option (List Byte) := none
  tone : Option (List Byte) := none
  custom : Option (List Byte) := none
deriving DecidableEq, Repr

/-- A table load in progress (R174): the buffer, the bank it fills and what that bank will hold. -/
structure TableLoad where
  handle : Handle
  bank : Nat
  content : Bank
deriving DecidableEq, Repr

/-- One Look. -/
structure Look where
  cfg : Shadowed LookConfig := .of {}
  banks : List Bank := [{}, {}]
  loading : Option TableLoad := none
  cntFrames : Word := 0
  cntLoads : Word := 0
deriving DecidableEq, Repr

/-- One rendition's fields in the order of R177. -/
structure RendConfig where
  /-- LOOK -/
  look : Nat := 0
  /-- CROP_X -/
  cropX : Nat := 0
  /-- CROP_Y -/
  cropY : Nat := 0
  /-- CROP_W -/
  cropW : Nat := 64
  /-- CROP_H -/
  cropH : Nat := 64
  /-- OUT_W -/
  outW : Nat := 64
  /-- OUT_H -/
  outH : Nat := 64
  /-- FILTER: 0 = built-in, 1 = host tables -/
  filter : Nat := 0
  /-- FINE_ANGLE, 2^-10 degree -/
  fineAngle : Int := 0
  /-- FILL_0 -/
  fill0 : Int := 0
  /-- FILL_1 -/
  fill1 : Int := 32768
  /-- FILL_2 -/
  fill2 : Int := 32768
  /-- MIRROR -/
  mirror : Nat := 0
  /-- ROTATE, degrees clockwise -/
  rotate : Nat := 0
  /-- CHROMA: 0 = 4:4:4, 1 = 4:2:2, 2 = 4:2:0 -/
  chroma : Nat := 2
  /-- PLANE_FORMAT: 0 = code planes, 1 = P20 -/
  planeFormat : Nat := 0
  /-- DEST: 0 = Sheaf, 1 = monitor, 2 = memory, 3 = statistics -/
  dest : Nat := 2
  /-- TARGET: Sheaf context -/
  target : Nat := 0
  /-- PLANES handle -/
  planes : Nat := 0
  /-- NSLOTS -/
  nslots : Nat := 3
  /-- CAPTURE_MODE -/
  captureMode : Nat := 0
  /-- CAPTURE_N -/
  captureN : Nat := 2
  /-- PRIORITY -/
  priority : Nat := 8
deriving DecidableEq, Repr

/-- The field table of one rendition's fields in the order of R177. -/
def rendFlds : List (Fld RendConfig) :=
  [ Fld.nat .frame 0 7 (·.look) (fun v c => { c with look := v }),
    Fld.nat .frame 0 65535 (·.cropX) (fun v c => { c with cropX := v }) (fun v => v % 2 == 0),
    Fld.nat .frame 0 65535 (·.cropY) (fun v c => { c with cropY := v }) (fun v => v % 2 == 0),
    Fld.nat .frame 16 16384 (·.cropW) (fun v c => { c with cropW := v }) (fun v => v % 2 == 0),
    Fld.nat .frame 16 16384 (·.cropH) (fun v c => { c with cropH := v }) (fun v => v % 2 == 0),
    Fld.nat .idle 16 16384 (·.outW) (fun v c => { c with outW := v }),
    Fld.nat .idle 16 16384 (·.outH) (fun v c => { c with outH := v }),
    Fld.nat .frame 0 1 (·.filter) (fun v c => { c with filter := v }),
    Fld.int .frame (-10240) 10240 (·.fineAngle) (fun v c => { c with fineAngle := v }),
    Fld.int .frame (-549755813888) 549755813887 (·.fill0) (fun v c => { c with fill0 := v }),
    Fld.int .frame (-549755813888) 549755813887 (·.fill1) (fun v c => { c with fill1 := v }),
    Fld.int .frame (-549755813888) 549755813887 (·.fill2) (fun v c => { c with fill2 := v }),
    Fld.nat .frame 0 1 (·.mirror) (fun v c => { c with mirror := v }),
    Fld.nat .idle 0 270 (·.rotate) (fun v c => { c with rotate := v }) (fun v => v % 90 == 0),
    Fld.nat .idle 0 2 (·.chroma) (fun v c => { c with chroma := v }),
    Fld.nat .idle 0 1 (·.planeFormat) (fun v c => { c with planeFormat := v }),
    Fld.nat .idle 0 3 (·.dest) (fun v c => { c with dest := v }),
    Fld.nat .idle 0 47 (·.target) (fun v c => { c with target := v }),
    Fld.nat .idle 0 4294967295 (·.planes) (fun v c => { c with planes := v }),
    Fld.nat .idle 2 8 (·.nslots) (fun v c => { c with nslots := v }),
    Fld.nat .live 0 2 (·.captureMode) (fun v c => { c with captureMode := v }),
    Fld.nat .live 2 65535 (·.captureN) (fun v c => { c with captureN := v }),
    Fld.nat .live 0 15 (·.priority) (fun v c => { c with priority := v }) ]

/-- Host filter tables of a rendition (R180): 64 phases of 8 and of 6 coefficients; `none` until first written. DESIGN
CHOICE, unsafe (log entry 56): unset filter tables, CLASS items. -/
structure FilterTables where
  h : Option (List Int) := none
  v : Option (List Int) := none
deriving DecidableEq, Repr

/-- States of a slot (R186). -/
inductive SlotState where
  | free | writing | ready | held
deriving DecidableEq, Repr

/-- One slot with what its slot record tells (R185). -/
structure Slot where
  st : SlotState := .free
  frame : Frame := 0
  mark : BitVec 16 := 0
  intakeFlags : BitVec 16 := 0
  millFlags : BitVec 16 := 0
  rendFlags : BitVec 16 := 0
  start : Clk := { sec := 0, ns := 0, frac := 0 }
  /-- width, height, CHROMA, BIT_DEPTH, ENCODING, RANGE and TRANSFER of the picture -/
  fmt : List Nat := []
  readyAt : Clk := { sec := 0, ns := 0, frac := 0 }
deriving DecidableEq, Repr

/-- A frame that a rendition writes: the values in force when its first line entered the Mill (R15), its slot or its
ring reservation, and, once rendered, the record's bytes before and after READY. -/
structure RendJob where
  ctx : Nat
  frame : Frame
  look : Nat
  lookCfg : LookConfig
  cfg : RendConfig
  filters : FilterTables
  slot : Nat
  ringId : Nat := 0
  done : Option (List Byte × List Byte) := none
deriving DecidableEq, Repr

/-- REND_CAPTURE (R192): frames from `first` on, COUNT of them. -/
structure Capture where
  first : Frame
  count : Nat
deriving DecidableEq, Repr

/-- One rendition. DESIGN CHOICE, unsafe (log entry 21): how many starts and stops can wait. -/
structure Rendition where
  cfg : Shadowed RendConfig := .of {}
  filters : Shadowed FilterTables := .of {}
  running : Bool := false
  /-- starts (true) and stops (false) that wait for their frames, in the order of their commands (R188) -/
  turns : List (Frame × Bool) := []
  /-- a stop waits for the frame in progress -/
  stopping : Bool := false
  captures : List Capture := []
  slots : List Slot := List.replicate 8 {}
  jobs : List RendJob := []
  /-- recent frames of the source, newest first: whether the rendition takes them -/
  fates : List (Frame × Bool) := []
  lastFrame : Frame := 0
  lastSkip : Nat := 0
  shed : Bool := false
  /-- RENDr_CNT_FRAMES, SHED, SKIPPED -/
  cnt : List Word := List.replicate 3 0
deriving DecidableEq, Repr

/-- The Looks block. -/
structure LooksState where
  looks : List Look := List.replicate 8 {}
  rends : List Rendition := List.replicate 48 {}
  /-- demand admitted in the raster frame in progress; USED and PEAK of LKS_POOL -/
  demand : Nat := 0
  used : Nat := 0
  peak : Nat := 0
  /-- REND_SHED has been sent for the frame -/
  readyTime : Clk := { sec := 0, ns := 0, frac := 0 }
deriving DecidableEq, Repr

end Sys2Proof.Machine
end

