-- ==== Sys2Proof/Machine/DecoderState.lean ====
section
/-!
DEFINITION. State of the review decoder: one core and eight decode contexts (09_review_decoding.md, R228 to R244).
-/

namespace Sys2Proof.Machine

/-- One decode context's fields in the order of R230. -/
structure DecConfig where
  /-- INPUT_FORMAT: 0 = Sheaf entries, 1 = Annex B -/
  format : Nat := 0
  /-- SOURCE_CONTEXT -/
  source : Nat := 0
  /-- POOL handle -/
  pool : Nat := 0
  /-- NBUF -/
  nbuf : Nat := 8
  /-- MAX_W -/
  maxW : Nat := 3840
  /-- MAX_H -/
  maxH : Nat := 2160
  /-- MAX_CHROMA -/
  maxChroma : Nat := 2
  /-- START_MODE: 0 = wait for an IRAP, 1 = decode at once -/
  startMode : Nat := 0
  /-- PRIORITY -/
  priority : Nat := 8
  /-- NOTIFY -/
  notify : Nat := 1
deriving DecidableEq, Repr

/-- The field table of one decode context's fields in the order of R230. -/
def decFlds : List (Fld DecConfig) :=
  [ Fld.nat .idle 0 1 (·.format) (fun v c => { c with format := v }),
    Fld.nat .idle 0 47 (·.source) (fun v c => { c with source := v }),
    Fld.nat .idle 0 4294967295 (·.pool) (fun v c => { c with pool := v }),
    Fld.nat .idle 3 32 (·.nbuf) (fun v c => { c with nbuf := v }),
    Fld.nat .idle 16 8192 (·.maxW) (fun v c => { c with maxW := v }),
    Fld.nat .idle 16 4352 (·.maxH) (fun v c => { c with maxH := v }),
    Fld.nat .idle 1 2 (·.maxChroma) (fun v c => { c with maxChroma := v }),
    Fld.nat .idle 0 1 (·.startMode) (fun v c => { c with startMode := v }),
    Fld.nat .live 0 15 (·.priority) (fun v c => { c with priority := v }),
    Fld.nat .live 0 1 (·.notify) (fun v c => { c with notify := v }) ]

/-- A chunk in a context's input queue (R234). -/
structure Chunk where
  handle : Handle
  offset : Nat
  length : Nat
  final : Bool
deriving DecidableEq, Repr

/-- States of a buffer (R232). -/
inductive DecSlotState where
  | free | decoding | reference | ready | heldRef
deriving DecidableEq, Repr

/-- One buffer of a context's pool with what its record tells (R233). -/
structure DecSlot where
  st : DecSlotState := .free
  /-- marked as used for reference; awaiting output; pictures that have passed it in output order -/
  isRef : Bool := false
  waiting : Bool := false
  latency : Nat := 0
  poc : Int := 0
  frame : Nat := 0xFFFFFFFF
  flags : Nat := 0
  auFlags : Nat := 0
  chroma : Nat := 2
  bitDepth : Nat := 8
  concealed : Nat := 0
  cropW : Nat := 0
  cropH : Nat := 0
  /-- the decoded planes before cropping, which later pictures refer to -/
  planes : List (List (List Nat)) := []
deriving DecidableEq, Repr

/-- One decode context. -/
structure DecContext where
  cfg : DecConfig := {}
  running : Bool := false
  chunks : List Chunk := []
  /-- bytes of the first chunk already read -/
  pos : Nat := 0
  /-- the rest of the first chunk reads as Annex B after an input error (R235) -/
  annexB : Bool := false
  slots : List DecSlot := List.replicate 32 {}
  /-- parameter sets in force -/
  sets : List Byte := []
  /-- no picture has been decoded since the start; pictures are discarded (R238); the stream was unsupported -/
  first : Bool := true
  skipping : Bool := false
  unsupported : Bool := false
  /-- a picture has been discarded since decoding last began; RASL pictures of the starting CRA are discarded -/
  discarded : Bool := false
  raslSkip : Bool := false
  outputs : Nat := 0
  lastPoc : Int := 0
  lastFlags : Nat := 0
  /-- number of the last picture that the core took from this context -/
  served : Nat := 0
  /-- DECc_CNT_PICTURES, ERRORS, CONCEALED, SUBSTITUTED, LOST, DISCARDED -/
  cnt : List Word := List.replicate 6 0
deriving DecidableEq, Repr

/-- The picture that the core is decoding. -/
structure DecJob where
  ctx : Nat
  slot : Nat
  pic : ParsedPicture
  input : List (Option Byte)
  /-- bytes of the context's input that the picture uses up -/
  used : Nat
  frame : Nat
  auFlags : Nat
  flags : Nat
  /-- the references with their planes, and how many of them were replaced -/
  refs : List (Int × List (List (List Nat)))
  substituted : Nat
deriving DecidableEq, Repr

/-- The decoder. -/
structure DecoderState where
  ctxs : List DecContext := List.replicate 8 {}
  job : Option DecJob := none
  recovering : Bool := false
  lastCtx : Option Nat := none
  served : Nat := 0
  /-- core time of the frame in progress in ns; BUSY and PEAK of DEC_LOAD -/
  busy : Nat := 0
  load : Nat := 0
  peak : Nat := 0
  readyTime : Clk := { sec := 0, ns := 0, frac := 0 }
deriving DecidableEq, Repr

end Sys2Proof.Machine
end

