-- ==== Sys2Proof/Machine/RasterState.lean ====
section
/-!
DEFINITION. State of the raster, the Device Clock, the Timetable and timecode (02_raster_time.md, R17 to R51).
-/

namespace Sys2Proof.Machine

/-- The raster configuration of R18, in its field order. -/
structure RasConfig where
  /-- RATE_NUM -/
  rateNum : Nat := 24
  /-- RATE_DEN -/
  rateDen : Nat := 1
  /-- TOTAL_LINES -/
  totalLines : Nat := 2250
  /-- ACTIVE_LINES -/
  activeLines : Nat := 2160
deriving DecidableEq, Repr

/-- The field table of the raster configuration of R18, in its field order. -/
def rasConfigFlds : List (Fld RasConfig) :=
  [ Fld.nat .frame 1 65535 (·.rateNum) (fun v c => { c with rateNum := v }),
    Fld.nat .frame 1 65535 (·.rateDen) (fun v c => { c with rateDen := v }),
    Fld.nat .frame 16 65535 (·.totalLines) (fun v c => { c with totalLines := v }),
    Fld.nat .frame 1 65527 (·.activeLines) (fun v c => { c with activeLines := v }) ]

/-- The source selection of RAS_SOURCE_SET (R48). -/
structure RasSource where
  /-- PRIMARY: source code of R21 -/
  primary : Nat := 0
  /-- FALLBACK: source code or 0xFF for none -/
  fallback : Nat := 255
  /-- HOLD_FRAMES -/
  holdFrames : Nat := 0
  /-- RELOCK_MODE: 0 = slew, 1 = crash -/
  relockMode : Nat := 0
  /-- GEN_RATIO: 1, 2 or 4 -/
  genRatio : Nat := 1
deriving DecidableEq, Repr

/-- The field table of the source selection of RAS_SOURCE_SET (R48). -/
def rasSourceFlds : List (Fld RasSource) :=
  [ Fld.nat .live 0 5 (·.primary) (fun v c => { c with primary := v }),
    Fld.nat .live 0 255 (·.fallback) (fun v c => { c with fallback := v }) (fun v => decide (v ≤ 5) || v == 255),
    Fld.nat .live 0 65535 (·.holdFrames) (fun v c => { c with holdFrames := v }),
    Fld.nat .live 0 1 (·.relockMode) (fun v c => { c with relockMode := v }),
    Fld.nat .live 1 4 (·.genRatio) (fun v c => { c with genRatio := v }) (fun v => v != 3) ]

/-- One Timetable period in the field order of R38. -/
structure Period where
  /-- ENABLE -/
  enable : Nat := 0
  /-- LINE -/
  line : Nat := 0
  /-- PHASE -/
  phase : Nat := 0
  /-- SELECTOR: 0 = EVERY, 1 = EVERY_N, 2 = ONCE (R39) -/
  selector : Nat := 0
  /-- N -/
  n : Nat := 2
  /-- FRAME_VALUE -/
  frameValue : Nat := 0
  /-- ACTION of R40 -/
  action : Nat := 0
  /-- ARG -/
  arg : Nat := 0
deriving DecidableEq, Repr

/-- The field table of one Timetable period in the field order of R38. -/
def periodFlds : List (Fld Period) :=
  [ Fld.nat .frame 0 1 (·.enable) (fun v c => { c with enable := v }),
    Fld.nat .frame 0 65534 (·.line) (fun v c => { c with line := v }),
    Fld.nat .frame 0 255 (·.phase) (fun v c => { c with phase := v }),
    Fld.nat .frame 0 2 (·.selector) (fun v c => { c with selector := v }),
    Fld.nat .frame 2 65535 (·.n) (fun v c => { c with n := v }),
    Fld.nat .frame 0 4294967295 (·.frameValue) (fun v c => { c with frameValue := v }),
    Fld.nat .frame 0 12 (·.action) (fun v c => { c with action := v }),
    Fld.nat .frame 0 65535 (·.arg) (fun v c => { c with arg := v }) ]

/-- The timecode fields of TC_CONFIG_SET (R44, R45, R48). -/
structure TcConfig where
  /-- TC_SOURCE: 0 = LTC_IN, 1 = PTP, 2 = UPSTREAM, 3 = FREE -/
  source : Nat := 3
  /-- TC_BASE -/
  base : Nat := 24
  /-- TC_1001 -/
  tc1001 : Nat := 0
  /-- TC_DROP -/
  drop : Nat := 0
  /-- LTC_MODE: 0 = JAM, 1 = CONTINUOUS -/
  ltcMode : Nat := 0
  /-- TC_LOCAL_OFFSET, signed seconds -/
  localOffset : Int := 0
  /-- TC_DAILY_JAM, seconds after local midnight -/
  dailyJam : Nat := 0
  /-- USER_BITS_SRC: 0 = LTC input, 1 = TC_USER_BITS -/
  userBitsSrc : Nat := 1
  /-- TC_USER_BITS -/
  userBits : Nat := 0
  /-- LTC_OUT_EN -/
  ltcOutEn : Nat := 0
  /-- LTC_OUT_LINE -/
  ltcOutLine : Nat := 0
deriving DecidableEq, Repr

/-- The field table of the timecode fields of TC_CONFIG_SET (R44, R45, R48). -/
def tcConfigFlds : List (Fld TcConfig) :=
  [ Fld.nat .frame 0 3 (·.source) (fun v c => { c with source := v }),
    Fld.nat .frame 24 30 (·.base) (fun v c => { c with base := v }) (fun v => v == 24 || v == 25 || v == 30),
    Fld.nat .frame 0 1 (·.tc1001) (fun v c => { c with tc1001 := v }),
    Fld.nat .frame 0 1 (·.drop) (fun v c => { c with drop := v }),
    Fld.nat .frame 0 1 (·.ltcMode) (fun v c => { c with ltcMode := v }),
    Fld.int .frame (-86400) 86400 (·.localOffset) (fun v c => { c with localOffset := v }),
    Fld.nat .frame 0 86399 (·.dailyJam) (fun v c => { c with dailyJam := v }),
    Fld.nat .frame 0 1 (·.userBitsSrc) (fun v c => { c with userBitsSrc := v }),
    Fld.nat .frame 0 4294967295 (·.userBits) (fun v c => { c with userBits := v }),
    Fld.nat .frame 0 1 (·.ltcOutEn) (fun v c => { c with ltcOutEn := v }),
    Fld.nat .frame 0 65535 (·.ltcOutLine) (fun v c => { c with ltcOutLine := v }) ]

/-- A time address as the records hold it: frames, seconds, minutes, hours, one BCD byte each, bit 6 of the first =
drop-frame (R223, R312). -/
def tcBytes (t : Timecode) : List Byte :=
  let bcd (v : Nat) : Nat := v / 10 * 16 + v % 10
  toLe 1 (bcd t.frames + (if t.drop then 64 else 0)) ++ toLe 1 (bcd t.seconds) ++ toLe 1 (bcd t.minutes) ++ toLe 1 (bcd t.hours)

/-- STATE of RAS_STATUS (R50). -/
inductive RasMode where
  | free | acquire | locked | slew | crashPending | holdover
deriving DecidableEq, Repr

/-- One period with its shadow, and what TT_PERIOD_GET tells of it (R38, R48). -/
structure TtEntry where
  cfg : Shadowed Period := .of {}
  /-- written or cleared since the last frame start -/
  written : Bool := false
  expired : Bool := false
  fired : Option Frame := none
  /-- last written through a member's upstream mailbox (R413) -/
  fromHead : Bool := false
deriving DecidableEq, Repr

/-- A position on the raster (R17). -/
structure Pos where
  frame : Frame
  line : Nat
  phase : Nat
deriving DecidableEq, Repr, Inhabited

/-- A period carried to a later line: its index, and the ACTION and ARG that it was due with (R42). -/
structure Carried where
  index : Nat
  action : Nat
  arg : Nat
deriving DecidableEq, Repr

/-- The raster block. -/
structure RasterState where
  cfg : Shadowed RasConfig := .of {}
  /-- a configuration held for AT_FRAME (R48) -/
  held : Option (Frame × RasConfig) := none
  /-- the configuration that upstream's TIME flits carry, for the next frame start (R33, R199) -/
  upCfg : Option RasConfig := none
  src : RasSource := {}
  /-- SOURCE_IN_USE -/
  inUse : Nat := 0
  mode : RasMode := .free
  /-- the raster runs: from mailbox-ready onwards (R19) -/
  running : Bool := false
  frame : Frame := 0
  line : Nat := 0
  phase : Nat := 0
  /-- the frame mark word of the frame in progress (R30) -/
  mark : BitVec 16 := 0
  /-- marks that the next frame start takes -/
  nextMark : BitVec 16 := 0
  /-- number of the raster frame within its reference frame (R22) -/
  inGroup : Nat := 0
  refPresent : Bool := true
  refMismatch : Bool := false
  gen : GenlockMeasure := { ampl := 0, tip := 0, syncType := 0, offsetCode := 0, dacCode := 0 }
  /-- RAS_PHASE_ERR, in phase units (1/256 line) -/
  phaseErr : Int := 0
  /-- the period of the source's line last measured, 2^-16 ns; 0 = none measured -/
  linePeriod : Nat := 0
  /-- RAS_CNT_GLITCH, REEVAL, MISS, RELOCK, HOLDOVER, DEFER, CUT, LTC_ERR -/
  cnt : List Word := List.replicate 8 0
  /-- the last expected line sync was an outlier; expected syncs in a row without an in-window one (R24) -/
  lastOutlier : Bool := false
  noWindow : Nat := 0
  /-- consecutive frames with a phase error below 1 phase unit (R28), and of holdover (R29) -/
  goodFrames : Nat := 0
  holdRun : Nat := 0
  /-- RAS_FRAME_PRESET: FRAME_AT and NEW_NUMBER (R34) -/
  preset : Option (Frame × Frame) := none
  /-- RAS_CLOCK_SET for the next frame start (R36) -/
  clockSet : Option Clk := none
  /-- the frame number that upstream's next frame start takes (R33) -/
  upstreamNext : Option Frame := none
  /-- with PTP as source, the next frame start takes its number from the Device Clock (R32) -/
  renumber : Bool := false
  clock : Clk := { sec := 0, ns := 0, frac := 0 }
  /-- the part of a step of 2^-16 ns that the clock's last advance left over, in 2^-40 of it -/
  clockRest : Nat := 0
  frameStamp : Clk := { sec := 0, ns := 0, frac := 0 }
  refStamp : Clk := { sec := 0, ns := 0, frac := 0 }
  bellStamp : Clk := { sec := 0, ns := 0, frac := 0 }
  periods : List TtEntry := List.replicate 256 {}
  /-- periods carried to phase 0 of the next line, in their original order (R42, R43) -/
  carried : List Carried := []
  /-- periods fired on the line in progress, and periods carried in the frame in progress (R42) -/
  firedOnLine : Nat := 0
  deferred : Nat := 0
  tc : Shadowed TcConfig := .of {}
  tcNow : Timecode := { hours := 0, minutes := 0, seconds := 0, frames := 0, drop := false }
  tcSub : Nat := 0
  tcUser : Word := 0
  /-- a jam, correction or daily jam that the next timecode frame takes in place of the count -/
  tcNext : Option Timecode := none
  tcPreset : Option (Frame × Timecode) := none
  /-- frame, timecode and sub-frame index of the last TIME flit -/
  tcUp : Option (Frame × Timecode × Nat) := none
  /-- the last LTC codeword when it was valid; LTC_LOCKED; LTC_IN_PRESENT, and transitions seen since -/
  ltcPrev : Option Timecode := none
  ltcLocked : Bool := false
  ltcPresent : Bool := false
  ltcSeen : Bool := false
  /-- user bits of the last LTC codeword -/
  ltcUser : Word := 0
  /-- LTC output codewords still to start: lines from the start of the frame in progress (R47) -/
  ltcOut : List (Nat × Timecode × Word) := []
deriving DecidableEq, Repr

end Sys2Proof.Machine
end

