-- ==== Sys2Proof/Machine/EventState.lean ====
section
/-!
DEFINITION. State of the event router and the Bell (16_events_and_the_bell.md, R372 to R392).
-/

namespace Sys2Proof.Machine

/-- The route word of one source in the field order of R376; OWNER and SECURE stand at their places. -/
structure Route where
  /-- BELL_EN -/
  bellEn : Nat := 0
  /-- HOST_EN -/
  hostEn : Nat := 0
  /-- FW_EN -/
  fwEn : Nat := 0
  /-- TREE_EN -/
  treeEn : Nat := 0
  /-- TREE_TAG -/
  treeTag : Nat := 0
  /-- PIN_EN -/
  pinEn : Nat := 0
  /-- PIN -/
  pin : Nat := 0
  /-- OWNER: 0 = Oluhenu, 1 = host, 2 = tree head -/
  owner : Nat := 1
  /-- SECURE -/
  secure : Nat := 0
  /-- PUBLISH: channel, or 0xFF for none (R377) -/
  publish : Nat := 255
deriving DecidableEq, Repr

/-- The field table of the route word of one source in the field order of R376; OWNER and SECURE stand at their places. -/
def routeFlds : List (Fld Route) :=
  [ Fld.nat .live 0 1 (·.bellEn) (fun v c => { c with bellEn := v }),
    Fld.nat .live 0 1 (·.hostEn) (fun v c => { c with hostEn := v }),
    Fld.nat .live 0 1 (·.fwEn) (fun v c => { c with fwEn := v }),
    Fld.nat .live 0 1 (·.treeEn) (fun v c => { c with treeEn := v }),
    Fld.nat .live 0 7 (·.treeTag) (fun v c => { c with treeTag := v }),
    Fld.nat .live 0 1 (·.pinEn) (fun v c => { c with pinEn := v }),
    Fld.nat .live 0 31 (·.pin) (fun v c => { c with pin := v }),
    Fld.nat .live 0 2 (·.owner) (fun v c => { c with owner := v }),
    Fld.nat .live 0 1 (·.secure) (fun v c => { c with secure := v }) ]

/-- One channel of channel mode (R377). -/
structure Channel where
  owner : Nat := 1
  secure : Bool := false
deriving DecidableEq, Repr

/-- The Bell configuration of BELL_CONFIG_SET (R390). -/
structure BellConfig where
  /-- BELL_SRC_EN (R385) -/
  srcEn : Nat := 0x37
  /-- HOLDOFF_LINES -/
  holdoff : Nat := 0
  /-- BELL_IN_FILTER -/
  inFilter : Nat := 2
  /-- HOLD -/
  hold : Nat := 0
  /-- BELL_NOTIFY -/
  notify : Nat := 0
deriving DecidableEq, Repr

/-- The field table of the Bell configuration of BELL_CONFIG_SET (R390). -/
def bellConfigFlds : List (Fld BellConfig) :=
  [ Fld.nat .live 0 63 (·.srcEn) (fun v c => { c with srcEn := v }),
    Fld.nat .live 0 65535 (·.holdoff) (fun v c => { c with holdoff := v }),
    Fld.nat .live 1 15 (·.inFilter) (fun v c => { c with inFilter := v }),
    Fld.nat .live 0 1 (·.hold) (fun v c => { c with hold := v }),
    Fld.nat .live 0 1 (·.notify) (fun v c => { c with notify := v }) ]

/-- One event on its way to its consumers (R373). -/
structure Ev where
  source : Nat
  gen : Nat
  originNode : Nat
  originSource : Nat
  originFrame : Frame
  originLine : Nat
  frame : Frame
  line : Nat
  phase : Nat
  time : Clk
  reRaise : Bool
  fromTree : Bool
deriving DecidableEq, Repr, Inhabited

/-- What waits to be delivered within the present instant: an event at the router, or a Bell trigger of the named
cause bit that no event carries (R385). -/
inductive Due where
  | event (e : Ev)
  | bell (cause : Nat)
  /-- the tree's Bell with its number (R389) -/
  | treeBell (seq : Word)
  /-- BELL_RUNG_NOTICE of the Bell that has just rung -/
  | notice
deriving DecidableEq, Repr

/-- A Bell asked for at a raster position: `tree` carries the tree's number (R389, R390). -/
structure BellAt where
  pos : Pos
  tree : Option Word
deriving DecidableEq, Repr

/-- The event block. -/
structure EventState where
  /-- channel mode; a change of mode waits for its frame (R379) -/
  channelMode : Bool := true
  modeNext : Option (Frame × Bool) := none
  routes : List Route := (List.range 512).map fun n =>
    if n = 8 ∨ 0xF0 ≤ n ∧ n ≤ 0xFF then { owner := 0, secure := 1 } else {}
  channels : List Channel := (List.range 128).map fun c => if c < 8 then { owner := 0, secure := true } else {}
  /-- SUBSCRIBE of consumers 0x00 to 0x4F; 0xFF = none -/
  subscribe : List Nat := List.replicate 0x50 0xFF
  /-- EVT_GROUPS -/
  groups : BitVec 16 := 1
  logRing : Handle := 0
  pinPulse : Nat := 100
  bell : BellConfig := {}
  /-- EVT_BELL_SEQ and EVT_BELL_CAUSE -/
  seq : Word := 0
  cause : BitVec 6 := 0
  /-- position of the last Bell, and whether it rang within the present instant, so that a trigger joins it -/
  lastBell : Option Pos := none
  bellNow : Bool := false
  bellsAt : List BellAt := []
  /-- R392 in offset order: RAISED, GEN_DROP, LOOP_DROP, LOG_LOST, BELL, MERGED, IGNORED, LATE, EXCLUDED,
  SECURE_BLOCK, GATED -/
  cnt : List Word := List.replicate 11 0
  /-- generation drops, same-line drops and records lost in the frame in progress -/
  genDrops : Nat := 0
  loopDrops : Nat := 0
  logLost : Nat := 0
  logTime : Clk := { sec := 0, ns := 0, frac := 0 }
  /-- GPIO pins with an event output pulse, the event that a re-raise by its edges takes up, and whether the pulse has
  ended and only its last edge is still to come -/
  pulses : List (Nat × Ev × Bool) := []
  /-- what waits to be delivered within the present instant -/
  due : List Due := []
  /-- events delivered to FW: source and generation, for Oluhenu's services -/
  delivered : List (Nat × Nat) := []
deriving DecidableEq, Repr

end Sys2Proof.Machine
end

