-- ==== Sys2Proof/Machine/GranaryState.lean ====
section
/-!
DEFINITION. State of the Granary and the LPDDR5X controller (11_granary.md, R276 to R303, R489).
-/

namespace Sys2Proof.Machine

/-- How an entry of a ring stands (R287). -/
inductive EntryState where
  | reserved | published | withdrawn
deriving DecidableEq, Repr

/-- One entry of a ring; `start` counts bytes since the ring's first entry, so its position is `start` mod SIZE (R286). -/
structure Entry where
  id : Nat
  start : Nat
  span : Nat
  len : Nat
  state : EntryState
  unit : Nat
deriving DecidableEq, Repr

/-- One attached reader: the unit of R489 it serves, and its read position in bytes since the ring's first entry. -/
structure Reader where
  unit : Nat
  pos : Nat
deriving DecidableEq, Repr

/-- A ring (R286 to R288). -/
structure Ring where
  head : Nat := 0
  entries : List Entry := []
  readers : List (Option Reader) := [none, none, none, none]
  /-- open reservations of producers that place at completion: id and byte count -/
  open_ : List (Nat × Nat) := []
deriving DecidableEq, Repr

/-- Where a buffer lives: PLACE of R281. -/
inductive Place where
  | sram | ordinary | priv
deriving DecidableEq, Repr

/-- PLACE as the replies code it. -/
def Place.code : Place → Nat
  | .sram => 0
  | .ordinary => 1
  | .priv => 2

/-- A run of granules: granule `i` of the run lies on channel (or SRAM bank) `chans[i mod length]` (R281, R282). -/
structure Run where
  chans : List Nat
  count : Nat
deriving DecidableEq, Repr

/-- One buffer (R279 to R282). -/
structure Buffer where
  handle : Handle
  role : Nat
  size : Nat
  pattern : Nat
  rt : Bool
  place : Place
  /-- its granules, in order: 4 KiB each, or 1 KiB each for a random buffer in DRAM -/
  runs : List Run
  pinned : Bool := false
  /-- bytes by offset; a new buffer reads 0 -/
  data : Mem := []
  /-- 64-byte blocks returned poisoned and not wholly written since (R299) -/
  poison : List Nat := []
  ring : Option Ring := none
  /-- it is being cleared: the GRN_ALLOC reply waits (R280) -/
  clearing : Bool := false
  /-- order of allocation, for "the oldest such buffer" of R284 -/
  born : Nat := 0
deriving DecidableEq, Repr

/-- Reasons of a migration in the coding of GRN_MIGRATED (R284, R302). -/
inductive MigKind where
  | promotion | retirement | spill
deriving DecidableEq, Repr

/-- Stages of a migration (R285). -/
inductive MigStage where
  | waiting | copying | copied | switched
deriving DecidableEq, Repr

/-- A migration: a whole buffer for a promotion, one granule (by its number in the buffer) otherwise. -/
structure Migration where
  kind : MigKind
  handle : Handle
  granule : Nat
  stage : MigStage
  oldPlace : Place
  newPlace : Place
  /-- the new place, taken when the copy starts, and the old one, freed at the release -/
  newRuns : List Run := []
  oldRuns : List Run := []
  frame : Frame
deriving DecidableEq, Repr

/-- One rank of a channel: refresh balance (R297) and power-down (R295). -/
structure Rank where
  balance : Int := 0
  down : Bool := false
  /-- all-bank refreshes in the present window -/
  inWindow : Nat := 0
deriving DecidableEq, Repr

/-- One DRAM channel (R303). -/
structure DramChannel where
  up : Bool := false
  capacity : Nat := 0
  ranks : List Rank := []
  band : Nat := 0
  retrainDue : Bool := false
  /-- lines left of an open refresh window -/
  window : Nat := 0
  cntReread : Word := 0
  cntPoison : Word := 0
  /-- CHn_UTIL: PEAK and the last frame's busy time -/
  peak : Nat := 0
  util : Nat := 0
  /-- bytes read and written in the last complete frame (R300) -/
  lastRead : Nat := 0
  lastWritten : Nat := 0
  /-- physical 4 KiB granules that whole buffers use, 1 KiB quarters that random buffers use, granules retired -/
  whole : Nat := 0
  quarters : Nat := 0
  retired : Nat := 0
deriving DecidableEq, Repr

/-- A BAR2 window (R290). -/
structure Aperture where
  handle : Handle := 0
  offset : Nat := 0
  length : Nat := 0
deriving DecidableEq, Repr

/-- The Granary-wide fields of GRN_DRAM_SET (R301). -/
structure DramConfig where
  /-- PRIV_CHANNELS -/
  privChannels : Nat := 0
  /-- PD_TIMER -/
  pdTimer : Nat := 256
  /-- PD_PRIV -/
  pdPriv : Nat := 0
  /-- MIG_BW -/
  migBw : Nat := 2000000000
  /-- MIGRATE_ENABLE -/
  migrateEnable : Nat := 1
deriving DecidableEq, Repr

/-- The field table of the Granary-wide fields of GRN_DRAM_SET (R301). -/
def dramFlds : List (Fld DramConfig) :=
  [ Fld.nat .idle 0 4 (·.privChannels) (fun v c => { c with privChannels := v }),
    Fld.nat .live 16 65535 (·.pdTimer) (fun v c => { c with pdTimer := v }),
    Fld.nat .live 0 1 (·.pdPriv) (fun v c => { c with pdPriv := v }),
    Fld.nat .live 100000000 16000000000 (·.migBw) (fun v c => { c with migBw := v }),
    Fld.nat .live 0 1 (·.migrateEnable) (fun v c => { c with migrateEnable := v }) ]

/-- The Granary. -/
structure GranaryState where
  cfg : DramConfig := {}
  dramReady : Bool := false
  /-- data rate strapped at boot, MT/s (R276, R451) -/
  dataRate : Nat := 6400
  channels : List DramChannel := List.replicate 24 {}
  /-- granules in use in each of the 48 SRAM banks of 512 granules -/
  banks : List Nat := List.replicate 48 0
  buffers : List Buffer := []
  /-- free indices, longest free first, and the generation last issued for each index (R279) -/
  freeIdx : List Nat := List.range 4096
  gens : List Nat := List.replicate 4096 0
  /-- channel that follows the start of the last buffer placed in the ordinary and the privileged class (R282) -/
  nextOrd : Nat := 0
  nextPriv : Nat := 0
  born : Nat := 0
  nextId : Nat := 1
  migrations : List Migration := []
  /-- Device Clock of the last migration switch -/
  switchTime : Clk := { sec := 0, ns := 0, frac := 0 }
  apertures : List Aperture := List.replicate 16 {}
  /-- data of the last aperture read, and its EP bit (R290) -/
  apertureOut : List Byte := []
  aperturePoison : Bool := false
  /-- R303 in offset order: REREAD_OK, POISON, RETIRED, MIGRATIONS, ALLOC_FAIL, RING_REFUSED, REFRESH_ACTIVE,
  FORCED_RETRAIN, APERTURE_ERR -/
  cnt : List Word := List.replicate 9 0
deriving DecidableEq, Repr

end Sys2Proof.Machine
end

