-- ==== Sys2Proof/Machine/LaneState.lean ====
section
/-!
DEFINITION. State of the 80 lane macros and the six lane ports (04_serial_lanes.md, R82 to R101).
-/

namespace Sys2Proof.Machine

/-- Lane states of R85, in the order of their codes. -/
inductive LanePhase where
  | disabled | detect | train | lock | exchange | active | standby | retrain | failed | loop
deriving DecidableEq, Repr

/-- A transmitter setting (R89). -/
structure Taps where
  pre : Nat := 0
  main : Nat := 0
  post : Nat := 0
deriving DecidableEq, Repr, Inhabited

/-- Where the equalisation of R91 to R93 stands. -/
inductive SearchStep where
  /-- a request is out and not yet answered; `resent` once repeated -/
  | asked (resent : Bool)
  /-- the eye monitor measures the setting -/
  | measuring
  /-- the final setting is requested -/
  | finalAsked (resent : Bool)
  /-- the final setting is measured -/
  | finalMeasuring
  /-- the PRBS31 run is asked for or in progress -/
  | prbs
deriving DecidableEq, Repr

/-- The search of R91: settings still to try in the present pass, the best so far, and the step it is at. -/
structure Search where
  cur : Taps
  todo : List Taps
  best : Option (Taps × Nat) := none
  tried : Nat := 0
  presets : Bool := true
  improved : Bool := false
  step : SearchStep := .asked false
deriving DecidableEq, Repr

/-- Why a lane is in FAILED: FAIL_CAUSE of LANE_STATUS (R101). -/
inductive FailCause where
  | none | train | fom | prbs | lock | skew | fast
deriving DecidableEq, Repr

/-- One lane macro (R101). -/
structure Lane where
  phase : LanePhase := .disabled
  /-- in LOCK: bit lock, symbol lock and skew are done, and the lane waits for its port's deskew -/
  locked : Bool := false
  /-- the state that a fast retrain returns to -/
  back : LanePhase := .active
  /-- ROLE: 0 = unused, 1 = carries a logical lane, 2 = spare, 3 = failed -/
  role : Nat := 0
  logical : Nat := 0
  failCause : FailCause := .none
  tx : Bool := false
  taps : Taps := {}
  fom : Nat := 0
  stored : Taps := {}
  storedFom : Nat := 0
  skew : Nat := 0
  storedSkew : Nat := 0
  search : Option Search := none
  /-- taps the far transmitter last reported -/
  farTaps : Taps := {}
  /-- consecutive failed bring-ups (R85) -/
  fails : Nat := 0
  /-- LANE_CNT_CODE, LOCK_LOSS, FAST, FULL, FAIL, PRBS_ERR -/
  cnt : List Word := List.replicate 6 0
deriving DecidableEq, Repr

/-- The lane fields of R100, in its order. -/
structure LaneConfig where
  /-- LANE_RATE -/
  rate : Nat := 0
  /-- LANE_ENABLE -/
  enable : Nat := 0
  /-- SPARE_MASK -/
  spares : Nat := 0
  /-- LANE_MAP: physical lane for each logical lane -/
  map : List Nat := List.range 64
  /-- AUTO_SPARE -/
  autoSpare : Nat := 1
  /-- FOM_MIN -/
  fomMin : Nat := 64
  /-- ERR_LIMIT -/
  errLimit : Nat := 16
  /-- TAP_MODE -/
  tapMode : Nat := 0
  /-- FIXED_PRE -/
  fixedPre : Nat := 0
  /-- FIXED_MAIN -/
  fixedMain : Nat := 63
  /-- FIXED_POST -/
  fixedPost : Nat := 0
  /-- LOOP_MODE -/
  loopMode : Nat := 0
deriving DecidableEq, Repr

/-- The field table of the lane fields of R100, in its order. -/
def laneFlds : List (Fld LaneConfig) :=
  [ Fld.nat .idle 0 2 (·.rate) (fun v c => { c with rate := v }),
    Fld.nat .idle 0 18446744073709551615 (·.enable) (fun v c => { c with enable := v }),
    Fld.nat .idle 0 18446744073709551615 (·.spares) (fun v c => { c with spares := v }),
    Fld.nats .idle 64 0 63 1 (·.map) (fun v c => { c with map := v }),
    Fld.nat .live 0 1 (·.autoSpare) (fun v c => { c with autoSpare := v }),
    Fld.nat .live 0 255 (·.fomMin) (fun v c => { c with fomMin := v }),
    Fld.nat .live 1 65535 (·.errLimit) (fun v c => { c with errLimit := v }),
    Fld.nat .idle 0 1 (·.tapMode) (fun v c => { c with tapMode := v }),
    Fld.nat .idle 0 63 (·.fixedPre) (fun v c => { c with fixedPre := v }),
    Fld.nat .idle 0 63 (·.fixedMain) (fun v c => { c with fixedMain := v }),
    Fld.nat .idle 0 63 (·.fixedPost) (fun v c => { c with fixedPost := v }),
    Fld.nat .idle 0 3 (·.loopMode) (fun v c => { c with loopMode := v }) ]

/-- One lane port: 0 and 1 = sensor ports A and B, 2 + t = Tabsout port t. -/
structure LanePort where
  cfg : LaneConfig := {}
  /-- logical lane `l` is on physical lane `map[l]`: LANE_MAP as it stands after takeovers (R84, R96) -/
  map : List Nat := []
  cntTakeover : Word := 0
  maxSkew : Nat := 0
  /-- the far transmitter declared SPARE_CAPABLE and LOOP_CAPABLE -/
  spareCapable : Bool := false
  loopCapable : Bool := false
  /-- lanes whose takeover waits for K28.4: failed physical lane and spare (R96) -/
  takeovers : List (Nat × Nat) := []
deriving DecidableEq, Repr

/-- All lanes: macros 0 to 31 under port A, 32 to 63 under port B, 64 + 4t + j under Tabsout port t (R82). -/
structure LaneState where
  lanes : List Lane := List.replicate 80 {}
  ports : List LanePort := List.replicate 6 {}
deriving DecidableEq, Repr

end Sys2Proof.Machine
end

