-- ==== Sys2Proof/Machine/MonitorState.lean ====
section
/-!
DEFINITION. State of the monitor output (14_monitor_output.md, R340 to R352).
-/

namespace Sys2Proof.Machine

/-- The fields of MON_SET (R349, R350). -/
structure MonConfig where
  /-- FORMAT -/
  format : Nat := 5
  /-- OUT_LINE, below TOTAL_LINES -/
  outLine : Nat := 0
  /-- OUT_PHASE -/
  outPhase : Nat := 0
  /-- FLIP_NOTIFY -/
  flipNotify : Nat := 0
deriving DecidableEq, Repr

/-- The field table of the fields of MON_SET (R349, R350). -/
def monFlds : List (Fld MonConfig) :=
  [ Fld.nat .idle 0 6 (·.format) (fun v c => { c with format := v }),
    Fld.nat .idle 0 65535 (·.outLine) (fun v c => { c with outLine := v }),
    Fld.nat .idle 0 255 (·.outPhase) (fun v c => { c with outPhase := v }),
    Fld.nat .live 0 1 (·.flipNotify) (fun v c => { c with flipNotify := v }) ]

/-- The fields of MON_OVERLAY_SET (R347, R349). -/
structure OvlConfig where
  /-- OVL_ENABLE -/
  enable : Nat := 0
  /-- OVL_HANDLE -/
  handle : Nat := 0
  /-- OVL_OFFSET -/
  offset : Nat := 0
  /-- PALETTE: ALPHA, CR, CB, LUMA from the highest byte -/
  palette : List Nat := List.replicate 256 0
deriving DecidableEq, Repr

/-- The field table of the fields of MON_OVERLAY_SET (R347, R349). -/
def ovlFlds : List (Fld OvlConfig) :=
  [ Fld.nat .frame 0 1 (·.enable) (fun v c => { c with enable := v }),
    Fld.nat .frame 0 4294967295 (·.handle) (fun v c => { c with handle := v }),
    Fld.nat .frame 0 4294967295 (·.offset) (fun v c => { c with offset := v }) (fun v => v % 256 == 0),
    { Fld.nats .frame 256 0 4294967295 4 (·.palette) (fun v c => { c with palette := v }) with ok := fun v => ((fun v => decide (v / 16777216 ≤ 128))) v.nat } ]

/-- One check rectangle's fields (R348). -/
structure RectConfig where
  /-- ENABLE -/
  enable : Nat := 0
  /-- X -/
  x : Nat := 0
  /-- Y -/
  y : Nat := 0
  /-- W -/
  w : Nat := 0
  /-- H -/
  h : Nat := 0
  /-- EXPECTED -/
  expected : Nat := 0
  /-- COMPARE -/
  compare : Nat := 0
deriving DecidableEq, Repr

/-- The field table of one check rectangle's fields (R348). -/
def rectFlds : List (Fld RectConfig) :=
  [ Fld.nat .frame 0 1 (·.enable) (fun v c => { c with enable := v }),
    Fld.nat .frame 0 65535 (·.x) (fun v c => { c with x := v }) (fun v => v % 2 == 0),
    Fld.nat .frame 0 65535 (·.y) (fun v c => { c with y := v }),
    Fld.nat .frame 0 65535 (·.w) (fun v c => { c with w := v }) (fun v => v % 2 == 0),
    Fld.nat .frame 0 65535 (·.h) (fun v c => { c with h := v }),
    Fld.nat .frame 0 4294967295 (·.expected) (fun v c => { c with expected := v }),
    Fld.nat .frame 0 1 (·.compare) (fun v c => { c with compare := v }) ]

/-- The slot on the screen: rendition, slot, FRAME, and the picture's format in the order of `Slot.fmt`. -/
structure Shown where
  rend : Nat
  slot : Nat
  frame : Frame
  fmt : List Nat
deriving DecidableEq, Repr

/-- The monitor. -/
structure MonitorState where
  cfg : MonConfig := {}
  ovl : Shadowed OvlConfig := .of {}
  rects : Shadowed (List RectConfig) := .of (List.replicate 8 {})
  /-- the overlay and rectangles that the last flip took up -/
  ovlNow : OvlConfig := {}
  rectsNow : List RectConfig := List.replicate 8 {}
  running : Bool := false
  startAt : Option Frame := none
  /-- a stop waits for the flip after the output frame in progress at its frame; `some none` = at the next flip -/
  stopAt : Option (Option Frame) := none
  unlocked : Bool := false
  /-- the slot held, and whether the output shows black all the same -/
  held : Option Shown := none
  black : Bool := false
  /-- ENCODING and TRANSFER of the last shown slot -/
  colour : Nat × Nat := (1, 1)
  /-- a run of slots refused under R344 is in progress -/
  mismatch : Bool := false
  /-- the output frame in progress has been cut -/
  cut : Bool := false
  /-- raster frame of the last flip, and its instant -/
  lastFlip : Option Frame := none
  flipTime : Clk := { sec := 0, ns := 0, frac := 0 }
  frameCount : Word := 0
  failed : List Bool := List.replicate 8 false
  results : List Word := List.replicate 8 0
  /-- MON_CNT_FLIPS, REPEAT, DROPPED, MISMATCH, REALIGN, CHECK_FAIL -/
  cnt : List Word := List.replicate 6 0
deriving DecidableEq, Repr

end Sys2Proof.Machine
end

