-- ==== Sys2Proof/Machine/NetState.lean ====
section
/-!
DEFINITION. State of the Ethernet ports, control over UDP, PTP and RTP (13_network_and_time.md, R321 to R339).
-/

namespace Sys2Proof.Machine

/-- One Ethernet port's fields in the order of R322. -/
structure NetPortConfig where
  /-- PORT_ENABLE -/
  portEnable : Nat := 0
  /-- SPEED -/
  speed : Nat := 1
  /-- FEC -/
  fec : Nat := 0
  /-- MTU -/
  mtu : Nat := 1500
  /-- MAC, unicast; the first octet is the most significant -/
  mac : Nat := 0
  /-- VLAN -/
  vlan : Nat := 0
  /-- IP_ADDR; the first octet is the most significant -/
  ipAddr : Nat := 0
  /-- NETMASK -/
  netmask : Nat := 0
  /-- GATEWAY -/
  gateway : Nat := 0
deriving DecidableEq, Repr

/-- The field table of one Ethernet port's fields in the order of R322. -/
def netPortFlds : List (Fld NetPortConfig) :=
  [ Fld.nat .live 0 1 (·.portEnable) (fun v c => { c with portEnable := v }),
    Fld.nat .idle 0 1 (·.speed) (fun v c => { c with speed := v }),
    Fld.nat .idle 0 2 (·.fec) (fun v c => { c with fec := v }),
    Fld.nat .idle 1280 9000 (·.mtu) (fun v c => { c with mtu := v }),
    Fld.nat .idle 0 281474976710655 (·.mac) (fun v c => { c with mac := v }) (fun v => !(v.testBit 40)),
    Fld.nat .idle 0 4094 (·.vlan) (fun v c => { c with vlan := v }),
    Fld.nat .idle 0 4294967295 (·.ipAddr) (fun v c => { c with ipAddr := v }),
    Fld.nat .idle 0 4294967295 (·.netmask) (fun v c => { c with netmask := v }),
    Fld.nat .idle 0 4294967295 (·.gateway) (fun v c => { c with gateway := v }) ]

/-- The MAC of port `p` at reset (R322). -/
def resetMac (p : Nat) : Nat := 0x02B16C * 2 ^ 24 + (Config.serial.toNat % 2 ^ 23) * 2 + p

/-- One Ethernet port. -/
structure NetPort where
  cfg : NetPortConfig
  linkUp : Bool := false
  /-- the ARP cache: address and MAC, oldest first -/
  arp : List (Nat × Nat) := []
  /-- NETp_CNT_RX_FRAMES, TX_FRAMES, RX_ERR, RX_DROP -/
  cnt : List Word := List.replicate 4 0
deriving DecidableEq, Repr

/-- A fill that the device has sent and that is not acknowledged (R325). -/
structure OutFill where
  msgSeq : Nat
  fillNo : Nat
  last : Bool
  bytes : List Byte
  resends : Nat := 0
deriving DecidableEq, Repr

/-- The transport of one Ethernet mailbox (R324, R325). -/
structure Transport where
  /-- port, address and UDP port of the client -/
  client : Option (Nat × Word × Nat) := none
  /-- MSG_SEQ and FILL_NO of the last fill taken, and whether its message goes on -/
  rx : Option (Nat × Nat × Bool) := none
  out : Option OutFill := none
  nextSeq : Nat := 0
  nextFill : Nat := 0
deriving DecidableEq, Repr

/-- The PTP fields in the order of R331. -/
structure PtpConfig where
  /-- PTP_ENABLE -/
  enable : Nat := 0
  /-- PTP_PORT -/
  port : Nat := 0
  /-- DOMAIN -/
  domain : Nat := 127
  /-- LOG_SYNC -/
  logSync : Int := -3
  /-- LOG_ANNOUNCE -/
  logAnnounce : Int := -2
  /-- LOG_DELAY_REQ -/
  logDelayReq : Int := -3
  /-- ANNOUNCE_TIMEOUT -/
  announceTimeout : Nat := 3
  /-- DELAY_UNICAST -/
  delayUnicast : Nat := 0
  /-- MASTER_CAPABLE -/
  masterCapable : Nat := 0
  /-- PRIORITY1 -/
  priority1 : Nat := 128
  /-- PRIORITY2 -/
  priority2 : Nat := 128
  /-- DELAY_ASYM, ns -/
  delayAsym : Int := 0
  /-- KP -/
  kp : Nat := 256
  /-- KI -/
  ki : Nat := 4
  /-- LOCK_NS -/
  lockNs : Nat := 100
  /-- OUTLIER_NS -/
  outlierNs : Nat := 10000
  /-- STEP_THRESHOLD, ns -/
  stepThreshold : Nat := 1000000
deriving DecidableEq, Repr

/-- The field table of the PTP fields in the order of R331. -/
def ptpFlds : List (Fld PtpConfig) :=
  [ Fld.nat .live 0 1 (·.enable) (fun v c => { c with enable := v }),
    Fld.nat .idle 0 1 (·.port) (fun v c => { c with port := v }),
    Fld.nat .idle 0 127 (·.domain) (fun v c => { c with domain := v }),
    Fld.int .idle (-7) (-1) (·.logSync) (fun v c => { c with logSync := v }),
    Fld.int .idle (-3) 1 (·.logAnnounce) (fun v c => { c with logAnnounce := v }),
    Fld.int .idle (-7) 0 (·.logDelayReq) (fun v c => { c with logDelayReq := v }),
    Fld.nat .idle 2 10 (·.announceTimeout) (fun v c => { c with announceTimeout := v }),
    Fld.nat .idle 0 1 (·.delayUnicast) (fun v c => { c with delayUnicast := v }),
    Fld.nat .idle 0 1 (·.masterCapable) (fun v c => { c with masterCapable := v }),
    Fld.nat .live 0 255 (·.priority1) (fun v c => { c with priority1 := v }),
    Fld.nat .live 0 255 (·.priority2) (fun v c => { c with priority2 := v }),
    Fld.int .live (-100000) 100000 (·.delayAsym) (fun v c => { c with delayAsym := v }),
    Fld.nat .live 0 65535 (·.kp) (fun v c => { c with kp := v }),
    Fld.nat .live 0 65535 (·.ki) (fun v c => { c with ki := v }),
    Fld.nat .live 1 100000 (·.lockNs) (fun v c => { c with lockNs := v }),
    Fld.nat .live 100 1000000 (·.outlierNs) (fun v c => { c with outlierNs := v }),
    Fld.nat .live 1000 1000000000 (·.stepThreshold) (fun v c => { c with stepThreshold := v }) ]

/-- States of R329 in the coding of PTP_STATUS. -/
inductive PtpMode where
  | disabled | listening | uncalibrated | tracking | locked | holdover | master
deriving DecidableEq, Repr

/-- STATE of PTP_STATUS. -/
def PtpMode.code : PtpMode → Nat
  | .disabled => 0
  | .listening => 1
  | .uncalibrated => 2
  | .tracking => 3
  | .locked => 4
  | .holdover => 5
  | .master => 6

/-- PTP (R326 to R330). Offsets and delays are in 2^-16 ns; `integ` is in 2^-16 units of RATE_ADJ. -/
structure Ptp where
  cfg : PtpConfig := {}
  mode : PtpMode := .disabled
  /-- the masters heard: dataset, and how many Announce messages, saturating at 2 -/
  foreign : List (PtpAnnounce × Nat) := []
  /-- the selected master; the grandmaster identity that the clock last followed -/
  master : Option PtpAnnounce := none
  grandmaster : Nat := 0
  stepped : Bool := false
  /-- the next lock steps the clock -/
  stepDue : Bool := true
  /-- Syncs accepted since the master was selected, saturating at 16 -/
  accepted : Nat := 0
  lastOffset : Option Int := none
  outliers : Nat := 0
  offset : Int := 0
  pathDelay : Option Int := none
  integ : Int := 0
  rateAdj : Int := 0
  /-- accepted Syncs in a row inside LOCK_NS, and at or beyond four times it -/
  goodRun : Nat := 0
  badRun : Nat := 0
  largeSent : Bool := false
  /-- a two-step Sync that waits for its Follow_Up; t2 − t1 − corrections of the last complete Sync -/
  pendingSync : Option PtpSync := none
  lastForward : Option Int := none
  /-- sequence number and departure of the last Delay_Req -/
  delayReq : Option (Nat × Int) := none
  reqSeq : Nat := 0
  syncSeq : Nat := 0
  announceSeq : Nat := 0
  utcOffset : Int := 0
  tlv : List Byte := []
  lastSync : Clk := { sec := 0, ns := 0, frac := 0 }
deriving DecidableEq, Repr

/-- One RTP stream's fields in the order of R332. -/
structure RtpConfig where
  /-- CONTEXT -/
  context : Nat := 0
  /-- PORT -/
  port : Nat := 0
  /-- DEST_ADDR -/
  destAddr : Nat := 0
  /-- DEST_PORT -/
  destPort : Nat := 5004
  /-- TTL -/
  ttl : Nat := 16
  /-- DSCP -/
  dscp : Nat := 34
  /-- PAYLOAD_TYPE -/
  payloadType : Nat := 96
  /-- SSRC -/
  ssrc : Nat := 0
  /-- EXT_ID -/
  extId : Nat := 1
  /-- MAX_RATE, bit/s -/
  maxRate : Nat := 100000000
deriving DecidableEq, Repr

/-- The field table of one RTP stream's fields in the order of R332. -/
def rtpFlds : List (Fld RtpConfig) :=
  [ Fld.nat .idle 0 47 (·.context) (fun v c => { c with context := v }),
    Fld.nat .idle 0 1 (·.port) (fun v c => { c with port := v }),
    Fld.nat .idle 0 4294967295 (·.destAddr) (fun v c => { c with destAddr := v }),
    Fld.nat .idle 1024 65535 (·.destPort) (fun v c => { c with destPort := v }),
    Fld.nat .idle 1 255 (·.ttl) (fun v c => { c with ttl := v }),
    Fld.nat .idle 0 63 (·.dscp) (fun v c => { c with dscp := v }),
    Fld.nat .idle 96 127 (·.payloadType) (fun v c => { c with payloadType := v }),
    Fld.nat .idle 0 4294967295 (·.ssrc) (fun v c => { c with ssrc := v }),
    Fld.nat .idle 0 14 (·.extId) (fun v c => { c with extId := v }),
    Fld.nat .idle 1000000 10000000000 (·.maxRate) (fun v c => { c with maxRate := v }) ]

/-- An AU that a stream is sending: its entry, frame, payloads still to send (a payload, whether it ends the AU) and
the words its packets carry. -/
structure RtpAu where
  entry : Nat
  frame : Frame
  payloads : List (List Byte × Bool)
  stamp : Nat
  flags : Nat
  begun : Bool := false
deriving DecidableEq, Repr

/-- One RTP stream. -/
structure RtpStream where
  cfg : RtpConfig
  /-- the stream is set: it reads its context's queue -/
  set : Bool := false
  running : Bool := false
  firstFrame : Frame := 0
  stopAt : Option Frame := none
  aus : List RtpAu := []
  seq : Nat := 0
  packets : Nat := 0
  octets : Nat := 0
  /-- RTPn_CNT_AU, PACKETS, DROPPED -/
  cnt : List Word := List.replicate 3 0
deriving DecidableEq, Repr

/-- The network block. -/
structure NetState where
  ports : List NetPort := (List.range 2).map fun p => { cfg := { mac := resetMac p } }
  /-- BIND_TIMEOUT, s -/
  bindTimeout : Nat := 10
  transports : List Transport := List.replicate 4 {}
  ptp : Ptp := {}
  streams : List RtpStream := (List.range 16).map fun n => { cfg := { ssrc := (Config.serial.toNat + n) % 2 ^ 32 } }
  /-- PTP_CNT_SYNC, OUTLIER, ANNOUNCE_TIMEOUT, MASTER_CHANGE, NET_CNT_CTL_DROP, CTL_RESEND -/
  cnt : List Word := List.replicate 6 0
  /-- AUs released unsent in the frame in progress: stream and cause -/
  drops : List (Nat × Nat) := []
  /-- Device Clock of the last raster frame starts, newest first -/
  stamps : List (Frame × Clk) := []
deriving DecidableEq, Repr

/-- What an Ethernet port sends. DESIGN CHOICE, unsafe (log entry 45): which datagrams look into the ARP cache, and how it
ages out by number. -/
inductive NetMsg where
  | arpRequest (ip : Nat)
  | arpReply (ip mac : Nat)
  | icmpReply (dst : Word) (data : List Byte)
  /-- a control datagram: client, MAILBOX, FLAGS, MSG_SEQ, FILL_NO, fill -/
  | control (dst : Word) (port mailbox flags msgSeq fillNo : Nat) (fill : List Byte)
  | ptpSync (seq : Nat) (origin : Clk)
  | ptpAnnounce (seq : Nat) (a : PtpAnnounce)
  | ptpDelayReq (unicast : Bool) (seq : Nat)
  | ptpDelayResp (dst seq : Nat) (received : Clk)
  /-- a UDP packet of an RTP stream or its sender report: address, port, TTL, DSCP, payload -/
  | udp (dst port ttl dscp : Nat) (payload : List Byte)
deriving DecidableEq, Repr

end Sys2Proof.Machine
end

