-- ==== Sys2Proof/Machine/TreeState.lean ====
section
/-!
DEFINITION. State of the Tabsout links and the tree service (17_tabsout_trees.md, R393 to R417).
-/

namespace Sys2Proof.Machine

/-- Classes of R395, in the order in which a transmitter chooses (R396): TIME first. -/
inductive FlitClass where
  | time | bell | control | event | bulk | link
deriving DecidableEq, Repr

/-- CLASS as R395 codes it. -/
def FlitClass.code : FlitClass → Nat
  | .time => 0
  | .bell => 1
  | .control => 2
  | .event => 3
  | .bulk => 4
  | .link => 7

/-- ROUTE of R395. -/
inductive Route4 where
  | node | up | down | link
deriving DecidableEq, Repr

/-- What a flit carries: the kinds that the chapter names. -/
inductive FlitBody where
  | exchange (versions : List Nat) (serial : Nat) (role flags : Nat)
  | idle
  | ack
  | nak
  | heal (origin : Nat)
  /-- a member tells the head that its downstream link in a ring is lost (R410) -/
  | loss (node : Nat)
  | time (pos : Frame × Nat × Nat) (rate lines : Nat × Nat) (mark : Nat) (tc : Timecode) (sub : Nat) (user : Word) (t1 : Int) (delay : Int)
  | echo (t1 t2 t3 : Int)
  | bell (pos : Frame × Nat × Nat) (seq : Word)
  | call
  | count (n : Nat)
  | assign (a : AssignInfo)
  | report (r : NodeReport)
  | announce (serial : Nat)
  | state (epoch : Word) (offset : Int) (runMap : BitVec 128)
  | resync (runMap : BitVec 128)
  | epochAck (epoch : Word) (failed : Option (Nat × Nat))
  | message (offset : Nat) (bytes : List Byte) (last : Bool)
  | event (e : TreeEvent)
  | bundle (bytes : List Byte) (epoch : Word)
  /-- a flit forwarded as it came -/
  | raw (bytes : List Byte)
deriving DecidableEq, Repr

/-- One flit on its way (R395). -/
structure Flit where
  cls : FlitClass
  route : Route4
  dest : Nat
  src : Nat
  hops : Nat := 0
  body : FlitBody
deriving DecidableEq, Repr

/-- USE of TBLp_STATUS. -/
inductive PortUse where
  | none | upstream | downstream | blocked | standby
deriving DecidableEq, Repr

/-- One Tabsout port. -/
structure TreePort where
  /-- EXCHANGE is in progress; the link is up -/
  exchanging : Bool := false
  up : Bool := false
  use : PortUse := .none
  version : Nat := 0
  partnerSerial : Nat := 0
  /-- DELAY_ASYM and the measured D, ps -/
  asym : Int := 0
  delay : Int := 0
  /-- identifiers below this port (R401); `none` = empty -/
  range : Option (Nat × Nat) := none
  /-- COUNT of the child on this port in the present Roll Call -/
  count : Option Nat := none
  /-- CALL has gone out on this port in the present Roll Call -/
  called : Bool := false
  /-- transmitter: next SEQ, flits that wait, flits not acknowledged, replays without progress -/
  txSeq : BitVec 12 := 0
  waiting : List Flit := []
  unacked : List (BitVec 12 × Flit) := []
  fruitless : Nat := 0
  replaying : Bool := false
  /-- receiver: last SEQ accepted, whether a NAK has gone out since, whether an ACK is owed -/
  rxSeq : BitVec 12 := 0xFFF
  nakSent : Bool := false
  ackDue : Bool := false
  /-- TBLp_CNT_CRC, REPLAY, DOWN, FLITS -/
  cnt : List Word := List.replicate 4 0
deriving DecidableEq, Repr

/-- The tree fields of R415 but for DELAY_ASYM, in its order. -/
structure TreeConfig where
  /-- ROLE: 0 = standalone, 1 = head, 2 = member -/
  role : Nat := 0
  /-- TOPOLOGY: 0 = tree, 1 = ring -/
  topology : Nat := 0
  /-- RING_PORT -/
  ringPort : Nat := 3
  /-- TREE_TOLERANCE, ns -/
  tolerance : Nat := 100
  /-- BELL_MARGIN, µs -/
  bellMargin : Nat := 10
  /-- TREE_MIN_MINOR -/
  minMinor : Nat := 0
  /-- PUSH_TIMEOUT, ms -/
  pushTimeout : Nat := 100
deriving DecidableEq, Repr

/-- The field table of the tree fields of R415 but for DELAY_ASYM, in its order. -/
def treeFlds : List (Fld TreeConfig) :=
  [ Fld.nat .idle 0 2 (·.role) (fun v c => { c with role := v }),
    Fld.nat .idle 0 1 (·.topology) (fun v c => { c with topology := v }),
    Fld.nat .idle 0 3 (·.ringPort) (fun v c => { c with ringPort := v }),
    Fld.nat .live 10 100000 (·.tolerance) (fun v c => { c with tolerance := v }),
    Fld.nat .live 1 1000 (·.bellMargin) (fun v c => { c with bellMargin := v }),
    Fld.nat .live 0 255 (·.minMinor) (fun v c => { c with minMinor := v }),
    Fld.nat .live 10 10000 (·.pushTimeout) (fun v c => { c with pushTimeout := v }) ]

/-- What the head keeps of one member (R402, R412, R414). -/
structure NodeRec where
  id : Nat
  serial : Nat
  depth : Nat
  upstream : Nat
  links : List Nat
  version : Nat
  epoch : Word
  offset : Int := 0
  /-- RUN_MAP last seen, and the head's own record of it -/
  runMap : BitVec 128
  record : BitVec 128
  pathDelay : Nat := 0
  badVersion : Bool := false
  badEpoch : Bool := false
  outOfStep : Bool := false
  /-- consecutive reports that disagree, and TIME-flit offsets in a row below half the tolerance -/
  disagree : Nat := 0
  inStep : Nat := 0
deriving DecidableEq, Repr

/-- A bundle that this member executes (R411): its epoch, the messages to come with the index of the next, whether the reply
of the last one is awaited, and the index and status of the first that failed. -/
structure BundleRun where
  epoch : Word
  rest : List (List Byte)
  index : Nat := 0
  awaits : Bool := false
  failed : Option (Nat × Nat) := none
deriving DecidableEq, Repr

/-- The tree block. -/
structure TreeState where
  ports : List TreePort := List.replicate 4 {}
  cfg : TreeConfig := {}
  /-- the identifier that this device holds, and its depth -/
  nodeId : Option Nat := none
  depth : Nat := 0
  upstream : Option Nat := none
  epoch : Word := 0
  /-- own offset in ps, and the offsets in a row below half the tolerance -/
  offset : Int := 0
  inStep : Nat := 0
  lastTime : Clk := { sec := 0, ns := 0, frac := 0 }
  lead : Nat := 0
  ringHealed : Bool := false
  /-- the RUN_MAP of a RESYNC that is being applied -/
  resyncTo : Option (BitVec 128) := none
  bundles : List BundleRun := []
  quarantined : Bool := false
  outOfStep : Bool := false
  /-- Roll Call runs here: this device has sent CALL and waits for counts or reports -/
  rollCall : Bool := false
  countSent : Bool := false
  /-- on the head: the one port over which a rejoined subtree is called (R403), the identifiers whose REPORT is awaited -/
  rollPort : Option Nat := none
  awaited : List Nat := []
  /-- a member whose upstream link came up after Roll Call ended, and which sends ANNOUNCE -/
  announcing : Bool := false
  nodes : List NodeRec := []
  /-- the bundle of the last push: handle, length, and the members that have not acknowledged -/
  bundle : Option (Handle × Nat) := none
  pushWaiting : List Nat := []
  pushAcked : Nat := 0
  pushFailed : Nat := 0
  /-- HEAL, RESYNC, QUARANTINE_SKIP, UNROUTABLE, BLOCKED -/
  cnt : List Word := List.replicate 5 0
deriving DecidableEq, Repr

end Sys2Proof.Machine
end

