-- ==== Sys2Proof/Machine/Outbox.lean ====
section
/-!
DEFINITION. What the block sends out, in the order it is sent: the model keeps it as a list, newest last.
-/

namespace Sys2Proof.Machine

/-- One thing sent to the outside world. DESIGN CHOICE, safe (log entry 57): the outbox is the model's record of what was
sent. -/
inductive Output where
  /-- a sideband request on a sensor port: TYPE, SEQ and payload (R111, R112) -/
  | sideband (port ty seq : Nat) (payload : List Byte)
  /-- a training set on a transmitting lane: taps asked of the far transmitter, when any (R88) -/
  | trainingSet (lane : Nat) (ask : Option Taps) (reject prbs : Bool)
  /-- a transmitter senses for the far termination (R85) -/
  | detectPulse (lane : Nat)
  /-- a transmitter sends its PRBS31 run (R93) -/
  | prbsRun (lane : Nat)
  /-- a transmitter sends the burst of a fast retrain (R95) -/
  | burst (lane : Nat)
  /-- a flit on a Tabsout port, with its SEQ when it is sequenced, and its ACK (R395) -/
  | flit (port : Nat) (seq : Option (BitVec 12)) (ack : BitVec 12) (f : Flit)
  /-- K28.4 on every lane of a Tabsout port (R96) -/
  | laneMapChange (port : Nat) (map : List Nat)
  /-- an MSI-X vector (R54) -/
  | msix (vector : Nat)
  /-- a pulse on a GPIO output (R374) -/
  | pinPulse (pin ns : Nat)
  /-- PWR_FAULT_N asserted (R459) -/
  | powerFault
  /-- an LTC codeword (R47) -/
  | ltc (tc : Timecode) (user : Word)
  /-- samples on an audio output, sample-major, so many sample periods later (R367) -/
  | audio (port delay : Nat) (samples : List (List Int))
  /-- a GPIO output driven to a level (R428) -/
  | pin (pin : Nat) (level : Bool)
  /-- bytes on a UART (R426) -/
  | uart (n : Nat) (bytes : List Byte)
  /-- the words that the I²C target returns (R424) -/
  | twiT (bytes : List Byte)
  /-- an NVMe I/O command on a drive: identifier, opcode, LBA, data and FUA (R305) -/
  | nvme (drive cid op lba : Nat) (data : List Byte) (fua : Bool)
  /-- an NVMe Abort (R311) -/
  | nvmeAbort (drive cid : Nat)
  /-- a frame on an Ethernet port -/
  | net (port : Nat) (m : NetMsg)
  /-- an output frame of the monitor begins: FORMAT, RATE_NUM, RATE_DEN, ENCODING and TRANSFER, as the payload identifier
  packet gives them, and the frame shown (R341, R344) -/
  | monFrame (format rateNum rateDen encoding transfer : Nat) (shown : Option Frame)
deriving DecidableEq, Repr

end Sys2Proof.Machine
end

