-- ==== Sys2Proof/Machine/PowerState.lean ====
section
/-!
DEFINITION. State of start-up, power, heat and the fault log (20_power_heat_and_faults.md, R447 to R465).
-/

namespace Sys2Proof.Machine

/-- One entry of the fault log (R462); TYPE is always 0x1101. -/
structure FaultEntry where
  code : Nat
  seq : Word
  unit : Nat
  frame : Frame
  time : Clk
  data : Nat
deriving DecidableEq, Repr

/-- The fields of PWR_THERMAL_SET (R463). -/
structure ThermalConfig where
  /-- RISE_DWELL -/
  riseDwell : Nat := 24
  /-- FALL_DWELL -/
  fallDwell : Nat := 96
  /-- PROTECT -/
  protect : Nat := 15
  /-- THROTTLE_MIN -/
  throttleMin : Nat := 0
deriving DecidableEq, Repr

/-- The field table of the fields of PWR_THERMAL_SET (R463). -/
def thermalFlds : List (Fld ThermalConfig) :=
  [ Fld.nat .live 1 65535 (·.riseDwell) (fun v c => { c with riseDwell := v }),
    Fld.nat .live 1 65535 (·.fallDwell) (fun v c => { c with fallDwell := v }),
    Fld.nat .live 0 16 (·.protect) (fun v c => { c with protect := v }),
    Fld.nat .live 0 19 (·.throttleMin) (fun v c => { c with throttleMin := v }) ]

/-- Why the device is held in reset, and until when (R450, R458, R459). -/
inductive Held where
  /-- a reset that ends by itself -/
  | no
  /-- after a thermal shutdown: until J < 110 °C or a power-on reset -/
  | thermal
  /-- after PWR_POWER_DOWN: until RESET_N or a power-on reset -/
  | command
  /-- after the hard stop: until a power-on reset -/
  | hardStop
deriving DecidableEq, Repr

/-- The power block. -/
structure PowerState where
  /-- the device is in reset; RESET_END has not come yet -/
  inReset : Bool := true
  held : Held := .no
  /-- PWR_FAULT_N is asserted (R459) -/
  faultN : Bool := false
  bifurcation : Nat := 0
  /-- a first firmware slot failed: the limits grow by 70 ms (R452) -/
  slotFailed : Bool := false
  /-- FAIL_CODE waiting for the entries of the next boot: hard stop and watchdog are logged then (R462) -/
  bootFaults : List Nat := []
  cfg : ThermalConfig := {}
  level : Nat := 0
  /-- frames since LEVEL last changed; `none` = it has not changed since reset -/
  dwell : Option Nat := none
  temps : List Int := List.replicate 16 0
  /-- the highest J since the counters were last cleared -/
  peak : Option Int := none
  warning : Bool := false
  throttle : Bool := false
  shutdown : Bool := false
  /-- an orderly shutdown is in progress, with its cause (1 = thermal, 2 = command) -/
  shuttingDown : Option Nat := none
  /-- clips were open when it began: it ends once the last of them is closed (R458) -/
  awaitClips : Bool := false
  /-- PWR_POWER_DOWN waits for its frame -/
  downAt : Option Frame := none
  recovery : Bool := false
  /-- AVS code in force and the code it moves towards (R449) -/
  avs : Nat := 40
  avsTarget : Nat := 40
  activePair : Nat := 0
  pairOk : List Bool := [true, true]
  /-- the active pair has failed and its standby has not yet resumed -/
  takeover : Option Nat := none
  /-- Device Clock of the active pair's last checkpoint (R461) -/
  checkpointAt : Option Clk := none
  /-- cycles of sixteen that the Mill keeps, and the Sheaf clock's divisor (R457) -/
  millCycles : Nat := 16
  sheafDiv : Nat := 1
  log : List FaultEntry := []
  logNext : Word := 0
  /-- WARN, THROTTLE_STEP, THERMAL_DROP, TAKEOVER, FAULT -/
  cnt : List Word := List.replicate 5 0
deriving DecidableEq, Repr

end Sys2Proof.Machine
end

