-- ==== Sys2Proof/Machine/RecordState.lean ====
section
/-!
DEFINITION. State of the recording service: drives, the mounted volume, its open clips and the recording sessions
(12_recording_and_storage.md, R304 to R320).
-/

namespace Sys2Proof.Machine

/-- One recording session's fields in the order of R313. -/
structure RecConfig where
  /-- RAW_SESSION -/
  rawSession : Nat := 255
  /-- CONTEXTS -/
  contexts : Nat := 0
  /-- AUDIO_RING handle -/
  audioRing : Nat := 0
  /-- PRE_ROLL handle -/
  preRoll : Nat := 0
  /-- PRE_FRAMES -/
  preFrames : Nat := 0
deriving DecidableEq, Repr

/-- The field table of one recording session's fields in the order of R313. -/
def recFlds : List (Fld RecConfig) :=
  [ Fld.nat .idle 0 255 (·.rawSession) (fun v c => { c with rawSession := v }) (fun v => v < 4 || v == 255),
    Fld.nat .idle 0 281474976710655 (·.contexts) (fun v c => { c with contexts := v }),
    Fld.nat .idle 0 4294967295 (·.audioRing) (fun v c => { c with audioRing := v }),
    Fld.nat .idle 0 4294967295 (·.preRoll) (fun v c => { c with preRoll := v }),
    Fld.nat .idle 0 65535 (·.preFrames) (fun v c => { c with preFrames := v }) ]

/-- One NVMe command: opcode, LBA, data, FUA, the clip, extent ordinal and offset in the extent that a clip's write
carries, and how often it has been resubmitted. -/
structure NvmeCmd where
  op : Nat
  lba : Nat
  data : List Byte
  fua : Bool
  target : Option (Nat × Nat × Nat) := none
  tries : Nat := 0
  /-- the last error status -/
  status : Nat := 0
deriving DecidableEq, Repr

/-- One drive (R304, R305): what it told when its link trained, its outstanding commands by command identifier, those
that wait for a place in the queue, and the number of its next free extent. -/
structure Drive where
  info : Option DriveInfo := none
  failed : Bool := false
  member : Bool := false
  out : List (Nat × NvmeCmd) := []
  queue : List NvmeCmd := []
  next : Nat := 0
  extents : Nat := 0
  /-- DRVd_CNT_COMMANDS, RETRY, TIMEOUT -/
  cnt : List Word := List.replicate 3 0
deriving DecidableEq, Repr

/-- One copy of an extent: where it lies, the bytes whose writes have been made, and BYTES of its last record. -/
structure Copy where
  drive : Nat
  extentNo : Nat
  issued : Nat := 0
  recorded : Nat := 0
  lost : Bool := false
deriving DecidableEq, Repr

/-- An extent ordinal of a clip, with its copies (R308). -/
structure Extent where
  ordinal : Nat
  copies : List Copy
deriving DecidableEq, Repr

/-- A ring entry held until the clip's bytes up to `upTo` are written to every copy (R312). -/
structure Hold where
  upTo : Nat
  ring : Handle
  unit : Nat
  entry : Nat
deriving DecidableEq, Repr

/-- Where the bytes of one frame lie in a clip. -/
structure ClipMark where
  start : Nat
  len : Nat
  frame : Frame
  flags : Nat
deriving DecidableEq, Repr

/-- One sample of a rendition file's open fragment (R317). -/
structure Sample where
  record : List Byte
  bytes : List Byte
  frame : Frame
  sync : Bool
deriving DecidableEq, Repr

/-- A clip of the mounted volume; `data` is its stream while it is open. -/
structure Clip where
  no : Nat
  kind : Nat
  source : Nat
  session : Nat
  clipId : List Byte
  start : Clk
  firstFrame : Frame
  isOpen : Bool := true
  data : List Byte := []
  chunks : Nat := 0
  marks : List ClipMark := []
  last : Frame := 0
  lastStart : Clk := { sec := 0, ns := 0, frac := 0 }
  frames : Nat := 0
  extents : List Extent := []
  holds : List Hold := []
  samples : List Sample := []
  fragments : Nat := 0
  /-- CLOSE, once the stream is whole -/
  finish : Option Nat := none
  /-- BYTES of its CLIP_CLOSE, or what the last mount found -/
  bytes : Nat := 0
deriving DecidableEq, Repr

/-- The mounted volume (R306 to R310). -/
structure Volume where
  id : List Byte
  members : Nat
  layout : Nat
  shift : Nat
  journalBlocks : Nat
  dataLba : Nat
  clips : List Clip := []
  nextClip : Nat := 0
  journal : List JournalRec := []
  low : Bool := false
  full : Bool := false
  recovered : Bool := false
  /-- bytes written since mount -/
  written : Nat := 0
deriving DecidableEq, Repr

/-- One recording session (R313 to R315). -/
structure RecSession where
  cfg : RecConfig := {}
  running : Bool := false
  startAt : Option Frame := none
  stopAt : Option Frame := none
  /-- F; S with the reason of REC_STOPPED, once a stop has acted -/
  first : Frame := 0
  stop : Option (Frame × Nat) := none
  /-- CLOSE that the stop asks of every clip -/
  close : Nat := 0
  /-- clip numbers: the raw clip's, and each context's -/
  rawClip : Option Nat := none
  ctxClips : List (Nat × Nat) := []
  /-- the frame of the PRE_ROLL chunk that becomes the first BRFR -/
  preFirst : Option Frame := none
  /-- REC_STARTED has been sent -/
  announced : Bool := false
  /-- host items for the next BRMD -/
  host : List Item := []
  /-- the BRMD items and the LENS item written last -/
  metaSent : List Item := []
  lensSent : List Byte := []
  /-- the last BRFR, whose BRAU is still to be written: its FRAME and START -/
  brau : Option (Frame × Clk) := none
  audioGap : Option (Frame × Nat) := none
  /-- CHANNELS and RATE of the last audio block read -/
  audio : Nat × Nat := (0, 0)
  lastFrame : Frame := 0
  /-- RECs_CNT_FRAMES, GAPS -/
  cnt : List Word := List.replicate 2 0
deriving DecidableEq, Repr

/-- The recording service. -/
structure RecordState where
  drives : List Drive := List.replicate 4 {}
  volume : Option Volume := none
  sessions : List RecSession := List.replicate 16 {}
  /-- ring entries read and not yet released: ring, unit and entry -/
  taken : List (Handle × Nat × Nat) := []
  journalTime : Clk := { sec := 0, ns := 0, frac := 0 }
  /-- JOURNAL_INTERVAL in ms, CMD_TIMEOUT in ms and RETRY_LIMIT: no command writes them -/
  journalMs : Nat := 1000
  timeoutMs : Nat := 20
  retryLimit : Nat := 3
deriving DecidableEq, Repr

end Sys2Proof.Machine
end

