-- ==== Sys2Proof/Machine/SecState.lean ====
section
/-!
DEFINITION. State of the security service: what the NVM keeps, the boot flash, debug and the signer
(19_trust_and_identity.md, R432 to R446).
-/

namespace Sys2Proof.Machine

/-- What survives every reset (R435, R437, R434). -/
structure Nvm where
  rollback : Nat := 0
  index : Nat := 0
  tokens : Nat := 128
  bootSlot : Nat := 0
deriving DecidableEq, Repr

/-- A SEC_ATTEST: its ticket, the report's bytes before and after KEY_INDEX as they stood at the apply instant, the index
once its turn has come, and whether the record is durable (R438, R441). -/
structure Attest where
  ticket : Nat
  head : List Byte
  tail : List Byte
  index : Nat := 0
  durable : Bool := false
deriving DecidableEq, Repr

/-- The security service. DESIGN CHOICE, unsafe (log entry 8): state index and first boot slot of a new part are not
stated; 0 and 0. -/
structure SecState where
  nvm : Nvm := {}
  /-- image slots 0 and 1 of the boot flash -/
  flash : List (List Byte) := [Config.flash 0, Config.flash 1]
  /-- the slot that booted, SVN of the running image, and FW_DIGEST (R440) -/
  booted : Nat := 0
  svn : Nat := 0
  fwDigest : List Byte := List.replicate 32 0
  scopes : Nat := 0
  secureOpened : Bool := false
  challenge : Option (List Byte) := none
  signing : Option Attest := none
  attests : List Attest := []
  /-- installations: ticket, slot and image, the first being written -/
  installs : List (Nat × Nat × List Byte) := []
  /-- SEC_CNT_SIGN, REFUSED, UNLOCK_FAIL -/
  cnt : List Word := List.replicate 3 0
deriving DecidableEq, Repr

end Sys2Proof.Machine
end

