-- ==== Sys2Proof/Machine/SheafState.lean ====
section
/-!
DEFINITION. State of the Sheaf: 48 contexts, four cores, the reference pool and three motion-field units
(08_sheaf_encoding.md, R195 to R227).
-/

namespace Sys2Proof.Machine

/-- One encoding context's fields in the order of R200. -/
structure ShfConfig where
  /-- PROFILE -/
  profile : Nat := 1
  /-- LEVEL -/
  level : Nat := 153
  /-- TIER -/
  tier : Nat := 0
  /-- GOP -/
  gop : Nat := 1
  /-- SUBGOP -/
  subgop : Nat := 4
  /-- REF_LIMIT -/
  refLimit : Nat := 4
  /-- LTR_INTERVAL -/
  ltrInterval : Nat := 0
  /-- IRAP_PERIOD -/
  irapPeriod : Nat := 48
  /-- IRAP_TYPE: 0 = IDR, 1 = CRA -/
  irapType : Nat := 0
  /-- LADDER -/
  ladder : Nat := 0
  /-- SPLIT -/
  split : Nat := 0
  /-- RC_MODE -/
  rcMode : Nat := 0
  /-- BITRATE -/
  bitrate : Nat := 50000000
  /-- MAX_BITRATE -/
  maxBitrate : Nat := 80000000
  /-- CPB_SIZE -/
  cpbSize : Nat := 80000000
  /-- AU_MAX_BYTES -/
  auMaxBytes : Nat := 16777216
  /-- COLOUR_PRIMARIES -/
  colourPrimaries : Nat := 1
  /-- TC_SEI -/
  tcSei : Nat := 1
  /-- QUEUE handle -/
  queue : Nat := 0
  /-- QP_I -/
  qpI : Int := 27
  /-- QP_P -/
  qpP : Int := 29
  /-- QP_B -/
  qpB : Int := 30
  /-- QP_MIN -/
  qpMin : Int := 0
  /-- QP_MAX -/
  qpMax : Int := 51
  /-- QUALITY -/
  quality : Nat := 28
  /-- SQUEEZE_RESERVE -/
  squeezeReserve : Nat := 192
  /-- SEARCH_H -/
  searchH : Nat := 32
  /-- SEARCH_V -/
  searchV : Nat := 16
  /-- PRIORITY -/
  priority : Nat := 8
deriving DecidableEq, Repr

/-- The field table of one encoding context's fields in the order of R200. -/
def shfFlds : List (Fld ShfConfig) :=
  [ Fld.nat .idle 0 3 (·.profile) (fun v c => { c with profile := v }),
    Fld.nat .idle 30 186 (·.level) (fun v c => { c with level := v }) (fun v => [30, 60, 63, 90, 93, 120, 123, 150, 153, 156, 180, 183, 186].contains v),
    Fld.nat .idle 0 1 (·.tier) (fun v c => { c with tier := v }),
    Fld.nat .idle 0 2 (·.gop) (fun v c => { c with gop := v }),
    Fld.nat .idle 2 8 (·.subgop) (fun v c => { c with subgop := v }) (fun v => v == 2 || v == 4 || v == 8),
    Fld.nat .idle 1 16 (·.refLimit) (fun v c => { c with refLimit := v }),
    Fld.nat .idle 0 65535 (·.ltrInterval) (fun v c => { c with ltrInterval := v }),
    Fld.nat .idle 0 65535 (·.irapPeriod) (fun v c => { c with irapPeriod := v }),
    Fld.nat .idle 0 1 (·.irapType) (fun v c => { c with irapType := v }),
    Fld.nat .idle 0 1 (·.ladder) (fun v c => { c with ladder := v }),
    Fld.nat .idle 0 2 (·.split) (fun v c => { c with split := v }),
    Fld.nat .idle 0 3 (·.rcMode) (fun v c => { c with rcMode := v }),
    Fld.nat .idle 10000 4294967295 (·.bitrate) (fun v c => { c with bitrate := v }),
    Fld.nat .idle 10000 4294967295 (·.maxBitrate) (fun v c => { c with maxBitrate := v }),
    Fld.nat .idle 10000 4294967295 (·.cpbSize) (fun v c => { c with cpbSize := v }),
    Fld.nat .idle 65536 67108864 (·.auMaxBytes) (fun v c => { c with auMaxBytes := v }),
    Fld.nat .idle 1 22 (·.colourPrimaries) (fun v c => { c with colourPrimaries := v }),
    Fld.nat .idle 0 1 (·.tcSei) (fun v c => { c with tcSei := v }),
    Fld.nat .idle 0 4294967295 (·.queue) (fun v c => { c with queue := v }),
    Fld.int .frame (-48) 51 (·.qpI) (fun v c => { c with qpI := v }),
    Fld.int .frame (-48) 51 (·.qpP) (fun v c => { c with qpP := v }),
    Fld.int .frame (-48) 51 (·.qpB) (fun v c => { c with qpB := v }),
    Fld.int .frame (-48) 51 (·.qpMin) (fun v c => { c with qpMin := v }),
    Fld.int .frame (-48) 51 (·.qpMax) (fun v c => { c with qpMax := v }),
    Fld.nat .frame 0 51 (·.quality) (fun v c => { c with quality := v }),
    Fld.nat .frame 8 65535 (·.squeezeReserve) (fun v c => { c with squeezeReserve := v }),
    Fld.nat .frame 8 128 (·.searchH) (fun v c => { c with searchH := v }),
    Fld.nat .frame 8 64 (·.searchV) (fun v c => { c with searchV := v }),
    Fld.nat .live 0 15 (·.priority) (fun v c => { c with priority := v }) ]

/-- The ladder (R207), unit 0x0530. -/
structure LadderConfig where
  /-- LADDER_PERIOD -/
  period : Nat := 48
  /-- LADDER_ANCHOR -/
  anchor : Nat := 0
deriving DecidableEq, Repr

/-- The field table of the ladder (R207), unit 0x0530. -/
def ladderFlds : List (Fld LadderConfig) :=
  [ Fld.nat .frame 1 65535 (·.period) (fun v c => { c with period := v }),
    Fld.nat .frame 0 4294967295 (·.anchor) (fun v c => { c with anchor := v }) ]

/-- The format that a context captures at its start (R198), and that a slot has. -/
structure ShfFormat where
  w : Nat
  h : Nat
  chroma : Nat
  depth : Nat
  encoding : Nat
  range : Nat
  transfer : Nat
deriving DecidableEq, Repr

/-- A reference picture of a context (R205, R210): LONG, or SHORT. -/
structure RefPic where
  frame : Frame
  tid : Nat
  key : Bool
  long : Bool
deriving DecidableEq, Repr

/-- A size class of the reference pool (R209). -/
structure PoolClass where
  handle : Handle
  size : Nat
  count : Nat
deriving DecidableEq, Repr

/-- One encoding context. -/
structure ShfContext where
  cfg : Shadowed ShfConfig := .of {}
  running : Bool := false
  /-- the frame from which a start acts; no AU has been written since -/
  startAt : Frame := 0
  first : Bool := false
  /-- the frame of the LAST AU, once a stop has named it; a stop that waits for AT_FRAME -/
  stopFrame : Option Frame := none
  stopAt : Option Frame := none
  fmt : Option ShfFormat := none
  rate : Nat × Nat := (24, 1)
  /-- reservation in the pool: class and buffers; a buffer is OUTPUT_PENDING -/
  poolClass : Nat := 0
  bufs : Nat := 0
  pendingBuf : Bool := false
  refs : List RefPic := []
  /-- frames since the last IRAP, the next POC, the next sub-GOP position, key pictures since the IRAP -/
  i : Nat := 0
  poc : Nat := 0
  k : Nat := 0
  keys : Nat := 0
  /-- frames of SHF_IRAP_REQUEST; a deferred IRAP with its ladder frame, if it lay on one (R208) -/
  forced : List Frame := []
  deferred : Option (Option Frame) := none
  lost : Bool := false
  /-- CPB fullness times RATE_NUM, in bits, at the next removal (R220) -/
  fullness : Option Int := none
  /-- the fields in force when a frame's first line entered the Mill (R15), newest first -/
  cfgs : List (Frame × ShfConfig × LadderConfig) := []
  core : Nat := 0xFF
  lastFrame : Frame := 0
  lastReason : Nat := 0
  qpLast : Int := 0
  /-- SHFc_CNT_AU, REPEAT, SQUEEZED, MINIMAL, LOST -/
  cnt : List Word := List.replicate 5 0
deriving DecidableEq, Repr

/-- A picture, or one tile of a split picture, in a core's list (R214). -/
structure ShfItem where
  ctx : Nat
  tile : Nat
  split : Bool
deriving DecidableEq, Repr

/-- States of a core. -/
inductive CoreState where
  | idle | coding | waiting | recovering
deriving DecidableEq, Repr

/-- One encoder core. -/
structure ShfCore where
  st : CoreState := .idle
  list : List ShfItem := []
  cur : Option ShfItem := none
  pictures : Nat := 0
deriving DecidableEq, Repr

/-- A picture that cores are coding: what the AU will hold once its tiles are done. -/
structure ShfPic where
  ctx : Nat
  rend : Nat
  slot : Nat
  ringId : Nat
  tilesLeft : Nat
  irap : Bool
  idr : Bool
  ladder : Bool
  deferred : Bool
  ladderDue : Option Frame
  sliceType : Nat
  nal : Nat
  tid : Nat
  key : Bool
  flags : Nat
  qp : Int
  cap : Nat
  au : List Byte
deriving DecidableEq, Repr

/-- A motion-field unit (R211, R212). -/
structure MotionUnit where
  field : Handle := 0
  /-- the previous frame's proxy -/
  proxy : List (List Nat) := []
  /-- the next slot to write; the field on its way: its frame, its validity and its bytes -/
  slot : Nat := 0
  pending : Option (Frame × Bool × List Byte) := none
  /-- the last field complete in memory -/
  complete : Option (Frame × Bool) := none
deriving DecidableEq, Repr

/-- What the raster frame N gave, for the records of its AUs. -/
structure FrameInfo where
  frame : Frame
  mark : BitVec 16
  start : Clk
  tc : Timecode
  sub : Nat
deriving DecidableEq, Repr

/-- The Sheaf. -/
structure SheafState where
  ctxs : List ShfContext := List.replicate 48 {}
  ladder : Shadowed LadderConfig := .of {}
  /-- the frame that the last LADDER_ALL request named -/
  ladderAt : Option Frame := none
  pool : List PoolClass := []
  motion : List MotionUnit := List.replicate 3 {}
  cores : List ShfCore := List.replicate 4 {}
  pics : List ShfPic := []
  /-- the frame that the present plan covers -/
  plan : Option FrameInfo := none
  /-- whether it was made for a running context, and the Device Clock of the last such plan -/
  planMade : Bool := false
  planTime : Clk := { sec := 0, ns := 0, frac := 0 }
  auTime : Clk := { sec := 0, ns := 0, frac := 0 }
  load : Nat := 0
  peak : Nat := 0
  /-- repeats and budget cases of the plan's frame, for its one SHF_REPEAT and SHF_BUDGET -/
  repeats : List (Nat × Nat) := []
  budget : List (Nat × Nat) := []
  /-- SHF_CNT_PLANS, SPLIT, OVERLOAD, LATE, SEED_INVALID, FAULT -/
  cnt : List Word := List.replicate 6 0
deriving DecidableEq, Repr

end Sys2Proof.Machine
end

