-- ==== Sys2Proof/Machine/State.lean ====
section
/-!
DEFINITION. The whole state of the block, the reasons a step can stop, and the state right after a power-on reset.
-/

namespace Sys2Proof.Machine

/-- Reasons a step faults. No command of this block faults: the spec gives every command an effect. The one
constructor stands for the step of a block without any state, which no step answers. -/
inductive Fault where
  /-- raised by nothing; safe -/
  | none
deriving DecidableEq, Repr

/-- Reasons a step refuses. -/
inductive Refusal where
  /-- raised by an arm of `exec` whose command has no meaning yet; safe: the model stops where the block goes on -/
  | notModelled (mnemonic : String)
deriving DecidableEq, Repr

/-- The block: the commands that wait, first in first out; the state of each of its parts; what it has sent out; and
the number of free values drawn. -/
structure State where
  pending : List Instr
  control : ControlState
  raster : RasterState
  events : EventState
  granary : GranaryState
  power : PowerState
  lanes : LaneState
  intake : IntakeState
  mill : MillState
  looks : LooksState
  sheaf : SheafState
  decoder : DecoderState
  compress : CompressState
  audio : AudioState
  bus : BusState
  record : RecordState
  net : NetState
  monitor : MonitorState
  sec : SecState
  tree : TreeState
  outbox : List Output
  fresh : Nat
deriving DecidableEq, Repr

/-- The block right after a power-on reset (R81, R450, R452). DESIGN CHOICE, unsafe (log entry 6): reset values that no
rule states are zero, empty or absent. -/
def State.reset : State :=
  { pending := []
    control := {}
    raster := {}
    events := {}
    granary := {}
    power := {}
    lanes := {}
    intake := {}
    mill := {}
    looks := {}
    sheaf := {}
    decoder := {}
    compress := {}
    audio := {}
    bus := {}
    record := {}
    net := {}
    monitor := {}
    sec := {}
    tree := {}
    outbox := []
    fresh := 0 }

end Sys2Proof.Machine
end

