-- ==== Sys2Proof/Machine/Ops.lean ====
section
/-!
DEFINITION. The named operations over the state that every family uses: parts, lists, counters, sparse memory,
interrupt bits, notices, events at the router's door, and the fault log.
-/

namespace Sys2Proof.Machine

/-! ## Parts -/

def State.onControl (f : ControlState → ControlState) (s : State) : State := { s with control := f s.control }
def State.onRaster (f : RasterState → RasterState) (s : State) : State := { s with raster := f s.raster }
def State.onEvents (f : EventState → EventState) (s : State) : State := { s with events := f s.events }
def State.onGranary (f : GranaryState → GranaryState) (s : State) : State := { s with granary := f s.granary }
def State.onPower (f : PowerState → PowerState) (s : State) : State := { s with power := f s.power }
def State.onLanes (f : LaneState → LaneState) (s : State) : State := { s with lanes := f s.lanes }
def State.onIntake (f : IntakeState → IntakeState) (s : State) : State := { s with intake := f s.intake }
def State.onMill (f : MillState → MillState) (s : State) : State := { s with mill := f s.mill }
def State.onLooks (f : LooksState → LooksState) (s : State) : State := { s with looks := f s.looks }
def State.onSheaf (f : SheafState → SheafState) (s : State) : State := { s with sheaf := f s.sheaf }
def State.onBus (f : BusState → BusState) (s : State) : State := { s with bus := f s.bus }
def State.onRecord (f : RecordState → RecordState) (s : State) : State := { s with record := f s.record }
def State.onNet (f : NetState → NetState) (s : State) : State := { s with net := f s.net }
def State.onMonitor (f : MonitorState → MonitorState) (s : State) : State := { s with monitor := f s.monitor }
def State.onSec (f : SecState → SecState) (s : State) : State := { s with sec := f s.sec }
def State.onTree (f : TreeState → TreeState) (s : State) : State := { s with tree := f s.tree }

/-- Sends one thing out. DESIGN CHOICE, safe (log entry 57): the outbox is the model's record of what was sent. -/
def State.send (o : Output) (s : State) : State := { s with outbox := s.outbox ++ [o] }

/-- Draws the number of the next free value. DESIGN CHOICE, safe (log entry 9): values that the spec leaves open are free
values drawn by State.fresh. -/
def State.draw (s : State) : Nat × State := (s.fresh, { s with fresh := s.fresh + 1 })

/-- Draws `n` free bytes. DESIGN CHOICE, safe (log entry 9): values that the spec leaves open are free values drawn by
State.fresh. -/
def State.drawBytes (n : Nat) (s : State) : List Byte × State :=
  ((List.range n).map fun k => Config.freeByte (s.fresh + k), { s with fresh := s.fresh + n })

/-! ## Lists and counters -/

/-- Changes element `i` of a list; an index past the end changes nothing. -/
def modAt {α : Type} (l : List α) (i : Nat) (f : α → α) : List α := l.modify i f

/-- Adds `n` to counter `i`; counters wrap at 2^32. -/
def addAt (l : List Word) (i n : Nat) : List Word := modAt l i (· + BitVec.ofNat 32 n)

/-- Adds 1 to counter `i`. -/
def bumpAt (l : List Word) (i : Nat) : List Word := addAt l i 1

/-- Clears the counters that the mask names, bit `k` for the k-th (R48 and every COUNTERS_CLEAR command). DESIGN CHOICE,
unsafe (log entry 55): unknown bits of counter masks are ignored. -/
def clearMasked (l : List Word) (mask : Nat) : List Word :=
  l.zipIdx.map fun wi => if mask.testBit wi.2 then 0 else wi.1

/-- Every counter at 0. -/
def clearAll (l : List Word) : List Word := l.map fun _ => 0

/-- Bit `i` of a word set to `b`. -/
def putBit {w : Nat} (v : BitVec w) (i : Nat) (b : Bool) : BitVec w :=
  if b then v ||| (BitVec.ofNat w (2 ^ i)) else v &&& ~~~(BitVec.ofNat w (2 ^ i))

/-- A register word made of fields: value and lowest bit of each. -/
def fieldsWord (fs : List (Nat × Nat)) : Word := BitVec.ofNat 32 ((fs.map fun f => f.1 * 2 ^ f.2).sum)

/-- 1 for true. -/
def bit (b : Bool) : Nat := if b then 1 else 0

/-- Every other item of a list that satisfies `p`, with its index. -/
def indexed {α : Type} (l : List α) : List (Nat × α) := l.zipIdx.map fun xi => (xi.2, xi.1)

/-! ## Sparse memory -/

/-- The byte at an address; an unlisted address reads 0. DESIGN CHOICE, unsafe (log entry 5): the slot memory has no
stated power-on content; the model reads 0 there (buffers: R280 clears them). -/
def Mem.read (m : Mem) (a : Nat) : Byte :=
  match m with
  | [] => 0
  | (k, b) :: rest => if k = a then b else if a < k then 0 else Mem.read rest a

/-- Writes one byte and keeps the canonical form. -/
def Mem.write (m : Mem) (a : Nat) (v : Byte) : Mem :=
  match m with
  | [] => if v = 0 then [] else [(a, v)]
  | (k, b) :: rest =>
    if a < k then (if v = 0 then (k, b) :: rest else (a, v) :: (k, b) :: rest)
    else if a = k then (if v = 0 then rest else (a, v) :: rest)
    else (k, b) :: Mem.write rest a v

/-- `n` bytes from address `a` upwards. -/
def Mem.readN (m : Mem) (a : Nat) : Nat → List Byte
  | 0 => []
  | n + 1 => Mem.read m a :: Mem.readN m (a + 1) n

/-- Writes bytes from address `a` upwards. -/
def Mem.writeN (m : Mem) (a : Nat) : List Byte → Mem
  | [] => m
  | b :: bs => Mem.writeN (Mem.write m a b) (a + 1) bs

/-- The canonical form: addresses strictly rising and no byte 0 listed. -/
def Mem.wf (m : Mem) : Bool :=
  match m with
  | [] => true
  | (k, b) :: rest => b != 0 && (match rest with | [] => true | (k', _) :: _ => decide (k < k')) && Mem.wf rest

/-! ## Time and place -/

/-- The raster position now. -/
def State.here (s : State) : Pos := { frame := s.raster.frame, line := s.raster.line, phase := s.raster.phase }

/-- A Device Clock value as a count of 2^-16 ns. -/
def Clk.units (c : Clk) : Int := ((c.sec.toNat * 1000000000 + c.ns.toNat) * 65536 + c.frac.toNat : Nat)

/-- The Device Clock value of a count of 2^-16 ns; negative counts read as 0. -/
def Clk.ofUnits (u : Int) : Clk :=
  let n := u.toNat
  { frac := BitVec.ofNat 16 n, ns := BitVec.ofNat 30 (n / 65536 % 1000000000)
    sec := BitVec.ofNat 48 (n / 65536 / 1000000000) }

/-! ## Interrupts -/

/-- Sends MSI-X vector `v`, or keeps it pending while a mask holds it back (R54). PRESUMED, unsafe (log entry 7): R54 does
not give the MSI-X masks' reset state; PCI Express's is taken. -/
def State.msixSend (v : Nat) (s : State) : State :=
  if !s.control.pcie0Ep then s
  else if s.control.msix.functionMask || (s.control.msix.masks.getD v true) then
    s.onControl fun c => { c with msix := { c.msix with pending := modAt c.msix.pending v fun _ => true } }
  else s.send (.msix v)

/-- Sets a system bit of SYS_IRQ_STATUS (24 FAULT, 25 THERMAL, 26 CP_ERR); vector 8 goes out when it was 0. -/
def State.setSystemIrq (b : Nat) (s : State) : State :=
  let was := s.control.irq.getLsbD b
  let s := s.onControl fun c => { c with irq := putBit c.irq b true }
  if was then s else s.msixSend 8

/-- Sets IN_EMPTY_n; vector n goes out when the bit was 0 and the mailbox is bound to PCIe (R54). -/
def State.setInEmptyIrq (n : Nat) (s : State) : State :=
  let was := s.control.irq.getLsbD (8 + n)
  let s := s.onControl fun c => { c with irq := putBit c.irq (8 + n) true }
  if was then s
  else if (s.control.mailboxes[n]?.bind (·.path)) = some .pcie then s.msixSend n else s

/-! ## Events and notices -/

/-- Node identifier of this device in its tree. -/
def State.node (s : State) : Nat := s.tree.nodeId.getD 0

/-- An event that source `src` raises by itself now: generation 0, its own origin (R373). -/
def State.newEvent (src : Nat) (s : State) : Ev :=
  { source := src, gen := 0, originNode := s.node, originSource := src, originFrame := s.raster.frame
    originLine := s.raster.line, frame := s.raster.frame, line := s.raster.line, phase := s.raster.phase
    time := s.raster.clock, reRaise := false, fromTree := false }

/-- Puts an event at the router's door; EVT_CNT_RAISED counts it. -/
def State.raiseEv (e : Ev) (s : State) : State :=
  s.onEvents fun v => { v with due := v.due ++ [.event e], cnt := bumpAt v.cnt 0 }

/-- Source `src` raises an event (R372). -/
def State.raise (src : Nat) (s : State) : State := s.raiseEv (s.newEvent src)

/-- A re-raise of source `src` in response to the delivered event `e`: dropped on its origin's node, source, frame and
line (R383), then dropped at generation 8 (R382). -/
def State.reRaise (src : Nat) (e : Ev) (fromTree : Bool) (s : State) : State :=
  if e.originNode == s.node && src == e.originSource && e.originFrame == s.raster.frame && e.originLine == s.raster.line then
    s.onEvents fun v => { v with cnt := bumpAt v.cnt 2, loopDrops := v.loopDrops + 1 }
  else if 7 ≤ e.gen then s.onEvents fun v => { v with cnt := bumpAt v.cnt 1, genDrops := v.genDrops + 1 }
  else s.raiseEv { s.newEvent src with gen := e.gen + 1, originNode := e.originNode, originSource := e.originSource
                                       originFrame := e.originFrame, originLine := e.originLine, reRaise := true, fromTree }

/-- The source that mirrors a notice opcode (R372); port B's intake notices have their own. -/
def mirrorSource (op : Nat) (portB : Bool) : Option Nat :=
  let k := op % 256 - 0x80
  if op % 256 < 0x80 ∨ 8 ≤ k then none else
  match op / 256 with
  | 0x00 => some (0x000 + k)
  | 0x01 => some (0x010 + k)
  | 0x02 => some ((if portB then 0x030 else 0x020) + k)
  | 0x03 => some (0x040 + k)
  | 0x04 => some (0x050 + k)
  | 0x05 => some (0x060 + k)
  | 0x06 => some (0x070 + k)
  | 0x07 => some (0x078 + k)
  | 0x08 => some (0x080 + k)
  | 0x09 => some (0x088 + k)
  | 0x0A => some (0x090 + k)
  | 0x0B => some (0x0A0 + k)
  | 0x0C => some (0x0A8 + k)
  | 0x0E => some (0x0C0 + k)
  | 0x10 => some (0x0F8 + k)
  | 0x11 => some (0x0F0 + k)
  | _ => none

/-- Changes mailbox `n`. -/
def State.onMbx (n : Nat) (f : Mailbox → Mailbox) (s : State) : State :=
  s.onControl fun c => { c with mailboxes := modAt c.mailboxes n f }

/-- Notices that wait in a mailbox's queue. -/
def Mailbox.noticeCount (m : Mailbox) : Nat := (m.posts.filter (·.notice)).length

/-- Whether a mailbox receives the notices of a service (R71). -/
def Mailbox.hears (m : Mailbox) (service : Nat) : Bool := m.session == .v3 && m.subs.getLsbD service

/-- Queues a notice in one mailbox; a full queue of 64 discards and counts it (R71). -/
def Mailbox.queueNotice (op : Nat) (items : List Item) (m : Mailbox) : Mailbox :=
  if 64 ≤ m.noticeCount then
    { m with lost := m.lost + 1, lostOp := if m.lost = 0 then op else m.lostOp }
  else
    { m with noticeSeq := (m.noticeSeq + 1) % 65536
             posts := m.posts ++ [{ notice := true, major := 3, minor := 0, op, tag := m.noticeSeq, status := 0, items }] }

/-- SYS_NOTICE_LOST goes out ahead of any newer notice once there is space (R71, R75). -/
def Mailbox.reportLost (m : Mailbox) : Mailbox :=
  if m.lost = 0 ∨ 64 ≤ m.noticeCount then m
  else
    let m' := { m with lost := 0, lostOp := 0 }
    if m.hears 0 then m'.queueNotice 0x0080 [itemN 1 4 m.lost, itemN 2 2 m.lostOp] else m'

/-- Gives a notice to one host mailbox if it hears the service. DESIGN CHOICE, unsafe (log entry 58): order of notices of
one instant. -/
def Mailbox.give (op : Nat) (items : List Item) (m : Mailbox) : Mailbox :=
  if m.hears (op / 256) then m.reportLost.queueNotice op items else m

/-- Oluhenu makes a notice: every host mailbox that hears the service queues it, and the mirrored source is raised whether
or not any does (R71, R372). DESIGN CHOICE, unsafe (log entry 58): order of notices of one instant. -/
def State.noticeOn (op : Nat) (items : List Item) (portB : Bool) (s : State) : State :=
  let s := s.onControl fun c =>
    { c with mailboxes := c.mailboxes.zipIdx.map fun mi => if mi.2 < 8 then mi.1.give op items else mi.1 }
  match mirrorSource op portB with
  | some src => s.raise src
  | none => s

/-- A notice whose service is not the intake of port B. -/
def State.notice (op : Nat) (items : List Item) (s : State) : State := s.noticeOn op items false

/-! ## The fault log (R462) -/

/-- The 32 bytes of a fault log entry. -/
def FaultEntry.bytes (e : FaultEntry) : List Byte :=
  toLe 2 0x1101 ++ toLe 2 e.code ++ toLe 4 e.seq.toNat ++ toLe 4 e.unit ++ toLe 4 e.frame.toNat ++
    clkBytes e.time ++ toLe 4 e.data

/-- Adds an entry: the oldest of 256 goes first; FAULT sets, source 0x008 is raised, the Bell is triggered with cause
FAULT and PWR_FAULT is sent. DESIGN CHOICE, unsafe (log entry 54): order of a fault entry's consequences. -/
def State.faultLog (code unit data : Nat) (s : State) : State :=
  let e : FaultEntry := { code, seq := s.power.logNext, unit, frame := s.raster.frame, time := s.raster.clock, data }
  let s := s.onPower fun p =>
    { p with log := (p.log ++ [e]).drop ((p.log.length + 1) - 256), logNext := p.logNext + 1, cnt := bumpAt p.cnt 4 }
  let s := (s.setSystemIrq 24).raise 0x008
  let s := s.onEvents fun v => { v with due := v.due ++ [.bell 4] }
  s.notice 0x1183 [itemB 1 e.bytes]

/-! ## Buffers -/

/-- The buffer that a handle names (R279, R280). -/
def State.buffer? (h : Handle) (s : State) : Option Buffer := s.granary.buffers.find? fun b => b.handle == h

/-- Changes the buffer that a handle names. -/
def State.onBuffer (h : Handle) (f : Buffer → Buffer) (s : State) : State :=
  s.onGranary fun g => { g with buffers := g.buffers.map fun b => if b.handle == h then f b else b }

/-- Whether a handle names a buffer of one of the roles. -/
def State.hasRole (h : Handle) (roles : List Nat) (s : State) : Bool :=
  (s.buffer? h).any fun b => roles.contains b.role

/-- 64-byte blocks that a range of bytes touches. -/
def blocksOf (off len : Nat) : List Nat :=
  if len = 0 then [] else (List.range ((off + len - 1) / 64 - off / 64 + 1)).map (· + off / 64)

/-- Writes bytes into a buffer: a block that is wholly written is no longer poisoned (R299). DESIGN CHOICE, unsafe (log
entry 39): what a retirement moves of a shared granule. -/
def Buffer.put (off : Nat) (bs : List Byte) (b : Buffer) : Buffer :=
  { b with data := Mem.writeN b.data off bs
           poison := b.poison.filter fun k => !(decide (off ≤ k * 64) && decide (k * 64 + 64 ≤ off + bs.length)) }

/-- Writes bytes at an offset that may run past the end of a ring and goes on at offset 0 (R286). -/
def Buffer.putWrapped (off : Nat) (bs : List Byte) (b : Buffer) : Buffer :=
  if b.size = 0 then b else
  let o := off % b.size
  let first := bs.take (b.size - o)
  (b.put o first).put 0 (bs.drop (b.size - o))

/-- Reads bytes at an offset that may run past the end of a ring. -/
def Buffer.getWrapped (off len : Nat) (b : Buffer) : List Byte :=
  if b.size = 0 then [] else
  let o := off % b.size
  let n := min len (b.size - o)
  Mem.readN b.data o n ++ Mem.readN b.data 0 (len - n)

/-- Whether a range holds a poisoned block. -/
def Buffer.poisoned (off len : Nat) (b : Buffer) : Bool := (blocksOf off len).any fun k => b.poison.contains k

/-- The bytes of a range of a buffer; none for an unknown handle. -/
def State.bytesOf (h : Handle) (off len : Nat) (s : State) : List Byte :=
  ((s.buffer? h).map fun b => Mem.readN b.data off len).getD []

/-- Writes a range of a buffer. -/
def State.putBytes (h : Handle) (off : Nat) (bs : List Byte) (s : State) : State := s.onBuffer h (Buffer.put off bs)

/-! ## Frame order -/

/-- Whether a jump from the count `prev` to `n` passes frame `f` (R486). -/
def jumpPasses (prev n f : Frame) : Bool :=
  f != n && f != prev && !Frame.passed f prev && Frame.passed f n

/-- Whether a named frame has passed or is the current one (R487). -/
def State.expired (f : Frame) (s : State) : Bool := Frame.passed f s.raster.frame || f == s.raster.frame

/-- Whether the position has come: it lies at or before the raster's position (R487). -/
def State.posExpired (p : Pos) (s : State) : Bool :=
  Frame.passed p.frame s.raster.frame ||
    (p.frame == s.raster.frame && (p.line < s.raster.line || (p.line == s.raster.line && p.phase ≤ s.raster.phase)))

end Sys2Proof.Machine
end

