-- ==== Sys2Proof/Machine/Shake.lean ====
section
/-!
DEFINITION. SHAKE256 with a 256-bit output (R432), the published function of FIPS 202, which the spec names and does not
restate. PRESUMED: written from that standard.
-/

namespace Sys2Proof.Machine

/-- The 25 lanes of the permutation's state, lane (x, y) at index x + 5y. -/
abbrev Lanes25 := List (BitVec 64)

/-- The 24 round constants. -/
def keccakRc : List (BitVec 64) :=
  [0x0000000000000001, 0x0000000000008082, 0x800000000000808A, 0x8000000080008000, 0x000000000000808B, 0x0000000080000001,
   0x8000000080008081, 0x8000000000008009, 0x000000000000008A, 0x0000000000000088, 0x0000000080008009, 0x000000008000000A,
   0x000000008000808B, 0x800000000000008B, 0x8000000000008089, 0x8000000000008003, 0x8000000000008002, 0x8000000000000080,
   0x000000000000800A, 0x800000008000000A, 0x8000000080008081, 0x8000000000008080, 0x0000000080000001, 0x8000000080008008]

/-- How far each lane is rotated, by index. -/
def keccakRot : List Nat :=
  [0, 1, 62, 28, 27, 36, 44, 6, 55, 20, 3, 10, 43, 25, 39, 41, 45, 15, 21, 8, 18, 2, 61, 56, 14]

/-- One round: theta, rho and pi, chi, iota. -/
def keccakRound (a : Lanes25) (rc : BitVec 64) : Lanes25 :=
  let at_ (l : Lanes25) (i : Nat) : BitVec 64 := l.getD i 0
  let c := (List.range 5).map fun x => at_ a x ^^^ at_ a (x + 5) ^^^ at_ a (x + 10) ^^^ at_ a (x + 15) ^^^ at_ a (x + 20)
  let d := (List.range 5).map fun x => at_ c ((x + 4) % 5) ^^^ (at_ c ((x + 1) % 5)).rotateLeft 1
  let t := (List.range 25).map fun i => (at_ a i ^^^ at_ d (i % 5)).rotateLeft (keccakRot.getD i 0)
  let b := (List.range 25).map fun i => at_ t ((i % 5 + 3 * (i / 5)) % 5 + 5 * (i % 5))
  (List.range 25).map fun i =>
    let row := 5 * (i / 5)
    let v := at_ b i ^^^ (~~~(at_ b (row + (i + 1) % 5)) &&& at_ b (row + (i + 2) % 5))
    if i = 0 then v ^^^ rc else v

/-- The permutation. -/
def keccak (a : Lanes25) : Lanes25 := keccakRc.foldl keccakRound a

/-- Eight bytes, lowest first, as a lane. -/
def laneOf (bs : List Byte) : BitVec 64 := BitVec.ofNat 64 (bs.foldr (fun b n => b.toNat + 256 * n) 0)

/-- Absorbs whole blocks of 136 bytes; the last one carries the padding. -/
def keccakAbsorb : Nat → List Byte → Lanes25 → Lanes25
  | 0, _, a => a
  | n + 1, bs, a =>
    let block := if bs.length < 136 then
        let p := bs ++ (0x1F : Byte) :: List.replicate (135 - bs.length) 0
        p.take 135 ++ [p.getD 135 0 ||| 0x80]
      else bs.take 136
    let a' := keccak ((List.range 25).map fun i =>
      a.getD i 0 ^^^ (if i < 17 then laneOf ((block.drop (8 * i)).take 8) else 0))
    if bs.length < 136 then a' else keccakAbsorb n (bs.drop 136) a'

/-- SHAKE256 of a byte string: 32 bytes. PRESUMED, unsafe (log entry 11): FIPS 202 is presumed. -/
def shake256 (bs : List Byte) : List Byte :=
  let a := keccakAbsorb (bs.length / 136 + 1) bs (List.replicate 25 0)
  (List.range 32).map fun k => ((a.getD (k / 8) 0) >>> (8 * (k % 8))).setWidth 8

end Sys2Proof.Machine
end

