-- ==== Sys2Proof/Machine/Control.lean ====
section
/-!
DEFINITION. Mailboxes: how a command is judged, executed and answered, how messages travel in fills, and how a
session begins and ends (R60 to R73, R440).
-/

namespace Sys2Proof.Machine

/-- What a command's own part answers: accepted with result items and the commits that will put its FRAME writes into
force (group and number, R79); refused with status, position and TYPE (R68); refused so although its writes are kept
(REF_ABSENT of R48); or accepted with its reply waiting. -/
inductive Ans where
  | ok (items : List Item) (commits : List (Nat × Word)) (s : State)
  | err (status pos ty : Nat)
  | kept (status pos ty : Nat) (s : State)
  | wait (why : Await) (s : State)

/-- A mailbox command: its opcode, the items it takes, whether it writes a field (R440), and what it does. DESIGN CHOICE,
unsafe (log entry 15): R66's numbering is applied to referenced tables as 0x0100 + j, 0x4100 + j, 0x4200 + j. -/
structure Cmd where
  op : Nat
  args : List (Arg State)
  writes : List Got → Bool := fun _ => false
  run : Call → List Got → State → Ans

/-- A command that is refused when a relation between its items fails. -/
def Ans.orElse (r : Option (Nat × Nat × Nat)) (k : Ans) : Ans :=
  match r with
  | some (st, p, t) => .err st p t
  | none => k

/-- The first of several refusals. -/
def firstErr (rs : List (Option (Nat × Nat × Nat))) : Option (Nat × Nat × Nat) := (rs.filterMap id).head?

/-- A refusal at the item of TYPE `ty`, when `bad`. -/
def refuseAt (gs : List Got) (ty st : Nat) (bad : Bool) : Option (Nat × Nat × Nat) :=
  if bad then some (st, gotPos gs ty, ty) else none

/-! ## Envelopes -/

/-- The bytes of one item with its padding (R66). -/
def itemBytes (it : Item) : List Byte := toLe 2 it.ty ++ toLe 2 it.val.length ++ padTo4 it.val

/-- The bytes of a payload. -/
def payloadBytes (its : List Item) : List Byte := its.flatMap itemBytes

/-- Reads a payload into items; the second part is the TYPE of a last item that is not whole. -/
def parseItems : Nat → List Byte → List Item × Option Nat
  | 0, _ => ([], none)
  | n + 1, bs =>
    if bs.isEmpty then ([], none)
    else if bs.length < 4 then ([], some (leNat (bs.take 2)))
    else
      let ty := leNat (bs.take 2)
      let len := leNat ((bs.drop 2).take 2)
      if bs.length < 4 + len then ([], some ty)
      else
        let (its, cut) := parseItems n (bs.drop (4 + roundUp len 4))
        ({ ty, val := (bs.drop 4).take len } :: its, cut)

/-- The bytes of a command's own envelope, header included (R65, R73, R440). -/
def envelopeBytes (op : Nat) (c : Call) : List Byte :=
  let p := payloadBytes c.items
  if c.major = 3 then
    toLe 1 3 ++ toLe 1 c.minor ++ toLe 2 op ++ toLe 2 c.tag ++ toLe 2 (if c.byHandle then 4 else 0) ++
      toLe 4 p.length ++ toLe 4 0 ++ p
  else toLe 1 2 ++ toLe 1 c.minor ++ toLe 2 op ++ toLe 2 c.tag ++ toLe 2 p.length ++ toLe 4 0 ++ p

/-- The bytes of a reply or notice (R65, R73). -/
def Post.bytes (p : Post) : List Byte :=
  let b := payloadBytes p.items
  if p.major = 3 then
    toLe 1 3 ++ toLe 1 p.minor ++ toLe 2 p.op ++ toLe 2 p.tag ++ toLe 2 (if p.notice then 2 else 1) ++
      toLe 4 b.length ++ toLe 2 p.status ++ toLe 2 0 ++ b
  else toLe 1 2 ++ toLe 1 p.minor ++ toLe 2 p.op ++ toLe 2 p.tag ++ toLe 2 b.length ++ toLe 2 p.status ++ toLe 2 0 ++ b

/-! ## Items in the message and by handle -/

/-- The role HOST_SHARED (R278). -/
def roleHostShared : Nat := 13

/-- The command's items: those of the message, then those of the buffer that PAYLOAD_HANDLE names (R66); with the
TYPE of an item that is not whole. -/
def effItems (c : Call) (s : State) : List Item × Option Nat :=
  match c.cut with
  | some t => (c.items, some t)
  | none =>
    if !c.byHandle then (c.items, none)
    else match c.items.find? fun it => it.ty == 0xC003 with
      | none => (c.items, none)
      | some it =>
        let h : Handle := BitVec.ofNat 32 (leNat (it.val.take 4))
        let n := leNat ((it.val.drop 4).take 4)
        let (its, cut) := parseItems n (s.bytesOf h 0 n)
        (c.items ++ its, cut)

/-- The general items that a command may carry: PAYLOAD_HANDLE, which needs BY_HANDLE, and REPLY_HANDLE (R66). -/
def generalArgs (byHandle : Bool) : List (Arg State) :=
  [ { ty := 0xC003, form := .bytes 8 8, need := false, judge := fun s _ _ v =>
        let h : Handle := BitVec.ofNat 32 (leNat (v.bytes.take 4))
        if !byHandle then some stBadItem
        else if (s.buffer? h).any fun b => b.role == roleHostShared && decide (leNat (v.bytes.drop 4) ≤ b.size)
        then none else some stBadHandle },
    { ty := 0xC004, form := .bytes 4 4, need := false, judge := fun s _ _ v =>
        if s.hasRole (BitVec.ofNat 32 (leNat v.bytes)) [roleHostShared] then none else some stBadHandle } ]

/-! ## Replies -/

/-- Queues a post in a mailbox. -/
def State.post (n : Nat) (p : Post) (s : State) : State := s.onMbx n fun m => { m with posts := m.posts ++ [p] }

/-- The minor version that a session's replies carry. -/
def Session.minor : Session → Nat
  | .v2 m => m
  | _ => 0

/-- A reply in the form of its command (R73). -/
def replyPost (op : Nat) (c : Call) (st : Nat) (items : List Item) (s : State) : Post :=
  { notice := false, major := c.major
    minor := ((s.control.mailboxes[c.mb]?).map fun m => m.session.minor).getD 0
    op, tag := c.tag, status := st, items }

/-- A refusal: the status and ERROR_ITEM alone (R68). -/
def errItems (p ty : Nat) : List Item := [{ ty := 0xC002, val := toLe 2 p ++ toLe 2 ty }]

/-- COMMIT_AT items (R66, R79). -/
def commitItems (cs : List (Nat × Word)) : List Item :=
  cs.map fun gn => { ty := 0xC001, val := toLe 2 gn.1 ++ toLe 4 gn.2.toNat }

/-- The most bytes of result items that a reply of the form can carry (R65, R73). -/
def payloadLimit (major : Nat) : Nat := if major = 3 then 65520 else 4084

/-- Replies to a command that was accepted: in the message when it fits, through REPLY_HANDLE when it does not, and
otherwise TOO_LARGE (R68). -/
def State.answer (op : Nat) (c : Call) (items : List Item) (s : State) : State :=
  if (payloadBytes items).length ≤ payloadLimit c.major then s.post c.mb (replyPost op c stOk items s)
  else match (effItems c s).1.find? fun it => it.ty == 0xC004 with
    | some it =>
      if c.major = 3 then
        let s := s.putBytes (BitVec.ofNat 32 (leNat it.val)) 0 (payloadBytes items)
        s.post c.mb (replyPost op c stOk [] s)
      else s.post c.mb (replyPost op c stTooLarge [] s)
    | none => s.post c.mb (replyPost op c stTooLarge [] s)

/-- Replies to a command that was refused. -/
def State.refuse (op : Nat) (c : Call) (st p ty : Nat) (s : State) : State :=
  s.post c.mb (replyPost op c st (errItems p ty) s)

/-- Extends CONFIG_DIGEST with a command that returned OK and wrote a field (R440). -/
def State.extendDigest (op : Nat) (c : Call) (s : State) : State :=
  s.onControl fun k =>
    { k with configDigest := shake256 (k.configDigest ++ shake256 (envelopeBytes op c)) }

/-! ## Execution -/

/-- The opcodes that a 2.x session accepts (R73). -/
def opInV2 (op : Nat) : Bool := op == 0 || op == 1 || op == 6 || op / 256 == 7 || op / 256 == 9

/-- The version judgement of R72 and R73, before any item is judged. -/
def sessionRefusal (op : Nat) (c : Call) (m : Mailbox) : Option Nat :=
  if c.major ≠ 3 ∧ c.major ≠ 2 then some stVersion
  else if op = 0 then none
  else match m.session with
    | .unnegotiated => some stVersion
    | .v3 => if c.major = 3 then none else some stVersion
    | .v2 _ => if c.major ≠ 2 then some stVersion else if opInV2 op then none else some stUnknownOpcode

/-- The judgement of the command's items, the part of the message that is not whole included. -/
def judgeCall (k : Cmd) (c : Call) (s : State) : Except (Nat × Nat × Nat) (List Got) :=
  let e := effItems c s
  let args := k.args ++ generalArgs c.byHandle
  match judgeItems args s (readItems args 0 e.1 []) 0 e.1 [] with
  | some r => .error r
  | none =>
    match e.2 with
    | some ty => .error (stBadItem, e.1.length, ty)
    | none => judgeAll args s e.1

/-- Executes a command at its apply instant (R64, R68): judged, run, answered. -/
def execute (k : Cmd) (c : Call) (s : State) : State :=
  match s.control.mailboxes[c.mb]? with
  | none => s
  | some m =>
    match sessionRefusal k.op c m with
    | some st => s.post c.mb { replyPost k.op c st [] s with major := if c.major = 2 then 2 else 3 }
    | none =>
      match judgeCall k c s with
      | .error (st, p, ty) => s.refuse k.op c st p ty
      | .ok gs =>
        match k.run c gs s with
        | .err st p ty => s.refuse k.op c st p ty
        | .kept st p ty s' => s'.refuse k.op c st p ty
        | .ok items commits s' =>
          let s' := if k.writes gs then s'.extendDigest k.op c else s'
          s'.answer k.op c (items ++ commitItems commits)
        | .wait why s' =>
          let s' := if k.writes gs then s'.extendDigest k.op c else s'
          s'.onMbx c.mb fun m => { m with waiting := some { op := k.op, call := c, why } }

/-- Whether the device has reached mailbox-ready and runs (R62, R452). -/
def State.ready (s : State) : Bool := s.control.stage == 3

/-- A command that reaches its mailbox: it executes at once, or waits behind one that has no reply yet (R64). Before
mailbox-ready nothing executes. -/
def runCommand (k : Cmd) (c : Call) (s : State) : State :=
  if !s.ready then s
  else match s.control.mailboxes[c.mb]? with
    | none => s
    | some m =>
      if m.waiting.isNone && m.queue.isEmpty then execute k c s
      else s.onMbx c.mb fun m =>
        { m with queue := m.queue ++ [{ op := k.op, call := c, busy := k.op == 0 }] }

/-- Runs the commands that wait in a mailbox until one waits for its own reply (R64); `table` finds a command. -/
def drain (table : Nat → Option Cmd) (n : Nat) : Nat → State → State
  | 0, s => s
  | fuel + 1, s =>
    match s.control.mailboxes[n]? with
    | none => s
    | some m =>
      if m.waiting.isSome then s
      else match m.queue with
        | [] => s
        | q :: rest =>
          let s := s.onMbx n fun m => { m with queue := rest }
          let s := if q.busy then s.post n (replyPost q.op q.call stBusy [] s)
            else match table q.op with
              | some k => execute k q.call s
              | none =>
                match sessionRefusal q.op q.call m with
                | some st => s.post n (replyPost q.op q.call st [] s)
                | none => s.post n (replyPost q.op q.call stUnknownOpcode [] s)
          drain table n fuel s

/-- Completes the command that waits in a mailbox for `why`, with a status and result items; a status other than OK comes
with ERROR_ITEM first. One whose session was reset meanwhile has lost its reply (R62). -/
def complete (why : Await) (status : Nat) (items : List Item) (s : State) : State :=
  match s.control.mailboxes.zipIdx.find? fun mi => (mi.1.waiting.map (·.why)) == some why with
  | none => s
  | some (m, n) =>
    match m.waiting with
    | none => s
    | some w =>
      let s := s.onMbx n fun m => { m with waiting := none }
      if status = stOk then s.answer w.op w.call items
      else s.post n (replyPost w.op w.call status (errItems 0 ((w.call.items.map (·.ty)).headD 0) ++ items) s)

/-- Runs on the queue of every mailbox after a completion. -/
def drainAll (table : Nat → Option Cmd) (s : State) : State :=
  (List.range 16).foldl (fun s n =>
    drain table n (((s.control.mailboxes[n]?).map fun m => m.queue.length).getD 0) s) s

/-! ## Sessions, doorbells and fills -/

/-- The effects of SESSION_RESET (R62) on one mailbox. -/
def Mailbox.reset (m : Mailbox) : Mailbox :=
  { m with path := none, session := .unnegotiated, inEmpty := true, bellCount := 0, bellLast := false, partialMsg := []
           posts := m.posts.filter fun p => !p.notice, waiting := none, queue := [], subs := 0, lost := 0, lostOp := 0
           resetOnAck := false, sendingReset := false }

/-- SESSION_RESET of mailbox `n`. DEDUCED, unsafe (log entry 19): what a SESSION_RESET discards beyond R62's list. -/
def State.sessionReset (n : Nat) (s : State) : State := s.onMbx n Mailbox.reset

/-- Counts an ignored doorbell or acknowledge in MBXn_CNT_ERR. -/
def State.mbxErr (n : Nat) (s : State) : State := s.onMbx n fun m => { m with cntErr := m.cntErr + 1 }

/-- Whether mailbox `m` ignores path `p`: it is bound to the other one (R62). -/
def Mailbox.foreign (m : Mailbox) (p : Path) : Bool := m.path.any fun q => q != p

/-- A doorbell write (R62, R63): COUNT in bits 12:0, LAST in bit 13. -/
def State.doorbell (p : Path) (n : Nat) (v : Word) (s : State) : State :=
  if n ≥ 8 then s else
  match s.control.mailboxes[n]? with
  | none => s
  | some m =>
    let count := v.toNat % 8192
    let last := v.getLsbD 13
    if !s.ready || m.foreign p || !m.inEmpty || count == 0 || decide (4096 < count) || (!last && count != 4096)
    then s.mbxErr n
    else s.onMbx n fun m => { m with path := some p, inEmpty := false, bellCount := count, bellLast := last }

/-- An acknowledge (R62): OUT_FULL clears, and a session whose end waited for it ends (R74). DEDUCED, unsafe (log entry
19): what a SESSION_RESET discards beyond R62's list. -/
def State.outAck (p : Path) (n : Nat) (s : State) : State :=
  if n ≥ 8 then s else
  match s.control.mailboxes[n]? with
  | none => s
  | some m =>
    if !s.ready || m.foreign p then s.mbxErr n
    else
      let s := s.onMbx n fun m => { m with outFull := false, outCount := 0, outLast := false }
      if m.outFull && m.resetOnAck then s.sessionReset n else s

/-- A write of SESSION_RESET to the acknowledge register. DEDUCED, unsafe (log entry 19): what a SESSION_RESET discards
beyond R62's list. -/
def State.sessionResetBy (p : Path) (n : Nat) (s : State) : State :=
  if n ≥ 8 then s else
  match s.control.mailboxes[n]? with
  | none => s
  | some m => if !s.ready || m.foreign p then s.mbxErr n else s.sessionReset n

/-- The next fill that a mailbox has to send: its bytes, whether it ends its message, whether its acknowledgement ends
the session, and the mailbox after it is placed. -/
def Mailbox.nextFill (m : Mailbox) : Option (List Byte × Bool × Mailbox) :=
  let start : Option (List Byte × Bool × List Post) :=
    if m.sending ≠ [] then some (m.sending, m.sendingReset, m.posts)
    else match m.posts with
      | [] => none
      | p :: rest => some (p.bytes, p.thenReset, rest)
  match start with
  | none => none
  | some (bs, r, rest) =>
    let last := decide (bs.length ≤ 4096)
    some (bs.take 4096, last,
      ({ m with sending := bs.drop 4096, sendingReset := r && !last, posts := rest
                resetOnAck := r && last } : Mailbox).reportLost)

/-- Oluhenu places the next fill of host mailbox `n` in its out-slot (R62, R71). -/
def State.placeFill (n : Nat) (s : State) : State :=
  if n ≥ 8 || !s.ready then s else
  match s.control.mailboxes[n]? with
  | none => s
  | some m =>
    if m.outFull then s
    else match m.nextFill with
      | none => s
      | some (bs, last, m') =>
        let s := s.onMbx n fun _ => { m' with outFull := true, outCount := bs.length, outLast := last }
        let s := s.onControl fun c => { c with slots := Mem.writeN c.slots (n * 0x2000 + 0x1000) bs }
        if m.path = some .pcie then s.msixSend n else s

/-- Whether a header is malformed (R65, R73, R63): reserved bits, REPLY or NOTICE, a LENGTH that is not a multiple of 4 or
not that of the message, or a message that is too long. DEDUCED, unsafe (log entry 18): the reply to a message whose
header cannot be read is a reading of R63 and R65. -/
def badEnvelope (bs : List Byte) : Bool :=
  let n := bs.length
  if (bs.headD 0).toNat = 3 then
    n < 16 || leNat ((bs.drop 6).take 2) % 4 != 0 || leNat ((bs.drop 6).take 2) ≥ 8 ||
    leNat ((bs.drop 14).take 2) != 0 || leNat ((bs.drop 8).take 4) % 4 != 0 ||
    n != 16 + leNat ((bs.drop 8).take 4) || n > 65536
  else
    n < 12 || leNat ((bs.drop 10).take 2) != 0 || leNat ((bs.drop 6).take 2) % 4 != 0 ||
    n != 12 + leNat ((bs.drop 6).take 2) || n > 4096

/-- A complete message: its envelope is judged, then its command runs (R63, R65, R72, R73). DEDUCED, unsafe (log entry
18): the reply to a message whose header cannot be read is a reading of R63 and R65. -/
def deliver (table : Nat → Option Cmd) (n : Nat) (bs : List Byte) (s : State) : State :=
  let major := (bs.headD 0).toNat
  let op := leNat ((bs.drop 2).take 2)
  let tag := leNat ((bs.drop 4).take 2)
  let head := if major = 3 then 16 else 12
  let (items, cut) := parseItems bs.length (bs.drop head)
  let c : Call := { mb := n, major, minor := (bs.getD 1 0).toNat, tag
                    byHandle := major = 3 && leNat ((bs.drop 6).take 2) % 8 ≥ 4, items, cut }
  if major ≠ 3 ∧ major ≠ 2 then
    s.post n { replyPost op c stVersion [] s with major := 3, minor := 0 }
  else if badEnvelope bs then s.post n (replyPost op c stBadEnvelope [] s)
  else match table op with
    | some k => runCommand k c s
    | none =>
      match s.control.mailboxes[n]? with
      | none => s
      | some m =>
        if m.waiting.isNone && m.queue.isEmpty then
          match sessionRefusal op c m with
          | some st => s.post n (replyPost op c st [] s)
          | none => s.post n (replyPost op c stUnknownOpcode [] s)
        else s.onMbx n fun m => { m with queue := m.queue ++ [{ op, call := c, busy := false }] }

/-- Takes bytes into a mailbox's message; the final fill delivers it. -/
def takeFill (table : Nat → Option Cmd) (n : Nat) (bs : List Byte) (last : Bool) (s : State) : State :=
  match s.control.mailboxes[n]? with
  | none => s
  | some m =>
    let whole := m.partialMsg ++ bs
    let s := s.onMbx n fun m => { m with partialMsg := if last then [] else whole }
    if last then deliver table n whole s else s

/-- Oluhenu takes the fill of host mailbox `n`'s in-slot (R62). -/
def State.fillTaken (table : Nat → Option Cmd) (n : Nat) (s : State) : State :=
  if n ≥ 8 || !s.ready then s else
  match s.control.mailboxes[n]? with
  | none => s
  | some m =>
    if m.inEmpty then s
    else
      let bs := Mem.readN s.control.slots (n * 0x2000) m.bellCount
      let s := s.onMbx n fun m => { m with inEmpty := true }
      takeFill table n bs m.bellLast (s.setInEmptyIrq n)

/-! ## Commit groups -/

/-- The group that a unit is bound to: 0 and 1 for the raster's own units, 2 at reset for every other (R38, R77). -/
def State.groupOf (unit : Nat) (s : State) : Nat :=
  if unit = 0x0100 then 0 else if unit = 0x0101 then 1
  else ((s.control.bound.find? fun b => b.1 == unit).map (·.2)).getD 2

/-- COMMIT_SEQ of a group. -/
def State.commitSeq (g : Nat) (s : State) : Word := ((s.control.groups[g]?).map (·.seq)).getD 0

/-- The commit that puts a FRAME write of `unit` into force: the group's next one (R79). -/
def State.nextCommit (unit : Nat) (s : State) : Nat × Word :=
  (s.groupOf unit, s.commitSeq (s.groupOf unit) + 1)

/-- The COMMIT_AT of a command that wrote FRAME fields of `unit`. -/
def State.commitAt (unit : Nat) (wrote : Bool) (s : State) : List (Nat × Word) :=
  if wrote then [s.nextCommit unit] else []

/-- AT_FRAME of an optional item: refused with EXPIRED when it lies at or before now (R487). -/
def atFrameArg (ty : Nat) : Arg State :=
  Arg.nat ty 0 0xFFFFFFFF false fun s _ v => if s.expired (BitVec.ofNat 32 v.nat) then some stExpired else none

/-- The frame that an optional AT_FRAME names, or the next frame. DESIGN CHOICE, unsafe (log entry 20): which frame a
start or stop without AT_FRAME names. -/
def State.frameOr (gs : List Got) (ty : Nat) (s : State) : Frame :=
  match gotN? gs ty with
  | some f => BitVec.ofNat 32 f
  | none => s.raster.frame + 1

/-- Whether a call comes from a host mailbox (0 to 7). -/
def Call.fromHost (c : Call) : Bool := decide (c.mb < 8)

/-- Whether an item of any of the TYPEs is present. -/
def hasAny (gs : List Got) (p : Nat → Bool) : Bool := gs.any fun g => p g.ty

/-- Refuses at the first of `tys` that is present when a relation between items fails on the values that would result
(R488). -/
def refuseFirst (gs : List Got) (tys : List Nat) (st : Nat) (holds : Bool) : Option (Nat × Nat × Nat) :=
  if holds then none
  else (tys.find? fun t => gs.any fun g => g.ty == t).map fun t => (st, gotPos gs t, t)

/-- The upstream Tabsout mailbox of a member: its head's commands come through it (R380, R413). -/
def State.fromUpstream (c : Call) (s : State) : Bool := s.tree.cfg.role == 2 && s.tree.upstream.any fun u => c.mb == 12 + u

/-- Accepted without result items. -/
def Ans.done (s : State) : Ans := .ok [] [] s

/-- Accepted with result items. -/
def Ans.items (its : List Item) (s : State) : Ans := .ok its [] s

/-- A counter mask (R48 and every COUNTERS_CLEAR command): 32 bits. DESIGN CHOICE, unsafe (log entry 55): unknown bits of
counter masks are ignored. -/
def maskArg (ty : Nat) : Arg State := Arg.nat ty 0 0xFFFFFFFF

/-- A Device Clock argument (R67). -/
def clkArg (ty : Nat) (judge : State → List Got → Val → Option Nat := fun _ _ _ => none) : Arg State :=
  Arg.bytes ty 12 12 true 1 fun s gs v => if clkOk v.bytes then judge s gs v else some stRange

/-- A handle, or 0 where the command allows none: BAD_HANDLE unless it names a buffer of one of the roles. -/
def handleArg (ty : Nat) (zero : Bool) (roles : List Nat) (need : Bool := true) : Arg State :=
  Arg.nat ty 0 0xFFFFFFFF need fun s _ v =>
    if (zero && v.nat == 0) || s.hasRole (BitVec.ofNat 32 v.nat) roles then none else some stBadHandle

/-- BAD_HANDLE for a handle field: 0, or a buffer of one of the roles that `more` accepts (R69). -/
def badHandle (roles : List Nat) (more : Buffer → Bool) (s : State) (v : Val) : Option Nat :=
  if v.nat = 0 ∨ 0xFFFFFFFF < v.nat then none
  else if (s.buffer? (BitVec.ofNat 32 v.nat)).any fun b => roles.contains b.role && more b then none else some stBadHandle

/-- The handle that an item names. -/
def gotH (gs : List Got) (ty : Nat) : Handle := BitVec.ofNat 32 (gotN gs ty)

/-- The frame that an item names. -/
def gotF (gs : List Got) (ty : Nat) : Frame := BitVec.ofNat 32 (gotN gs ty)

/-- The optional frame that an item names. -/
def gotF? (gs : List Got) (ty : Nat) : Option Frame := (gotN? gs ty).map fun f => BitVec.ofNat 32 f

/-- Whether an item of TYPE `ty` is present. -/
def has (gs : List Got) (ty : Nat) : Bool := gs.any fun g => g.ty == ty

/-- A field is present: TYPE below the general items and not an instance item. -/
def writesAbove (lo : Nat) (gs : List Got) : Bool := gs.any fun g => decide (lo ≤ g.ty) && decide (g.ty < 0x8000)

end Sys2Proof.Machine
end

