-- ==== Sys2Proof/Machine/GranaryOps.lean ====
section
/-!
DEFINITION. Placement of buffers, rings, migration, refresh, training and integrity (11_granary.md).
-/

namespace Sys2Proof.Machine

/-! ## Room -/

/-- Roles that require a ring, and roles that prefer SRAM (R278). -/
def ringRoles : List Nat := [1, 2, 8, 11, 12]
def sramRoles : List Nat := [4, 5, 11, 12]

def State.channel (n : Nat) (s : State) : DramChannel := s.granary.channels.getD n {}

def State.onChannel (n : Nat) (f : DramChannel → DramChannel) (s : State) : State :=
  s.onGranary fun g => { g with channels := modAt g.channels n f }

/-- Adds 1 to Granary counter `k` of R303. -/
def State.countGrn (k : Nat) (s : State) : State := s.onGranary fun g => { g with cnt := bumpAt g.cnt k }

/-- 4 KiB granules of a channel that can be allocated: 31/32 of its capacity, less those retired (R277, R284). -/
def DramChannel.granules (c : DramChannel) : Nat := if c.up then 2 ^ c.capacity * 253952 - c.retired else 0

/-- Free 1 KiB quarters of a channel, and free whole granules: quarters share granules (R282). -/
def DramChannel.freeQuarters (c : DramChannel) : Nat := 4 * (c.granules - c.whole) - c.quarters
def DramChannel.freeWhole (c : DramChannel) : Nat := c.granules - c.whole - ceilDiv c.quarters 4

/-- Free SRAM in granules. -/
def State.sramFree (s : State) : Nat := (s.granary.banks.map fun u => 512 - u).sum

/-- The channels of a class (R283). -/
def State.classChannels (priv : Bool) (s : State) : List Nat :=
  (List.range 24).filter fun n => decide (n < s.granary.cfg.privChannels) == priv

/-- Free granules of a class. -/
def State.classFree (priv : Bool) (s : State) : Nat :=
  ((s.classChannels priv).map fun n => (s.channel n).freeWhole).sum

/-- How many granules of a run fall on channel `c`. -/
def Run.on (c : Nat) (r : Run) : Nat :=
  match r.chans.findIdx? (· == c) with
  | none => 0
  | some i => r.count / r.chans.length + (if i < r.count % r.chans.length then 1 else 0)

/-- The channel (or bank) of granule `g` of a buffer. -/
def runsAt : List Run → Nat → Option Nat
  | [], _ => none
  | r :: rest, g => if g < r.count then r.chans[g % r.chans.length]? else runsAt rest (g - r.count)

/-- Runs with granule `g` moved to channel `c`. -/
def runsMove (rs : List Run) (g c : Nat) : List Run :=
  let all := (List.range ((rs.map (·.count)).sum)).map fun i => if i = g then c else (runsAt rs i).getD 0
  all.map fun k => { chans := [k], count := 1 }

/-- Spreads `n` granules over places in turn, passing over those that are full: `free` lists place and free granules in
the order of the turns (R282). The fuel is the number of places. DESIGN CHOICE, unsafe (log entry 40): placement within a
class, and traffic counts. -/
def spread : Nat → Nat → List (Nat × Nat) → List Run
  | 0, _, _ => []
  | fuel + 1, n, free =>
    let act := free.filter fun cf => decide (0 < cf.2)
    if n = 0 ∨ act.isEmpty then []
    else
      let rounds := act.foldl (fun m cf => min m cf.2) (act.headD (0, 0)).2
      let k := min n (rounds * act.length)
      { chans := act.map (·.1), count := k } :: spread fuel (n - k) (act.map fun cf => (cf.1, cf.2 - rounds))

/-- Spreads `n` granules over the SRAM banks with the most free space (R281): at each level over the banks whose free
space is largest, down to the next lower level. -/
def spreadBanks : Nat → Nat → List (Nat × Nat) → List Run
  | 0, _, _ => []
  | fuel + 1, n, free =>
    let top := free.foldl (fun m cf => max m cf.2) 0
    if n = 0 ∨ top = 0 then []
    else
      let act := free.filter fun cf => cf.2 == top
      let next := (free.filter fun cf => cf.2 != top).foldl (fun m cf => max m cf.2) 0
      let k := min n ((top - next) * act.length)
      { chans := act.map (·.1), count := k } ::
        spreadBanks fuel (n - k) (free.map fun cf => if cf.2 == top then (cf.1, next) else cf)

/-- Turns a list so that it starts at its first element that is at least `k`. -/
def turnTo (k : Nat) (l : List Nat) : List Nat := (l.filter fun c => decide (k ≤ c)) ++ l.filter fun c => decide (c < k)

/-- Takes (or, with `back`, gives back) the granules of runs in a place. -/
def State.takeRuns (place : Place) (random back : Bool) (rs : List Run) (s : State) : State :=
  let step (v n : Nat) : Nat := if back then v - n else v + n
  let on (c : Nat) : Nat := (rs.map (Run.on c)).sum
  s.onGranary fun g =>
    if place == .sram then { g with banks := (indexed g.banks).map fun kb => step kb.2 (on kb.1) }
    else { g with channels := (indexed g.channels).map fun kc =>
            if random then { kc.2 with quarters := step kc.2.quarters (on kc.1) }
            else { kc.2 with whole := step kc.2.whole (on kc.1) } }

/-- SRAM runs for `n` granules. -/
def State.sramRuns (n : Nat) (s : State) : List Run :=
  spreadBanks 49 n ((indexed s.granary.banks).map fun kb => (kb.1, 512 - kb.2))

/-- DRAM runs for a buffer of a class: 1 KiB granules for a random buffer, 4 KiB otherwise, from the channel whose turn
it is (R282). -/
def State.dramRuns (priv random : Bool) (size : Nat) (s : State) : List Run :=
  let order := turnTo (if priv then s.granary.nextPriv else s.granary.nextOrd) (s.classChannels priv)
  if random then spread 25 (size / 1024) (order.map fun c => (c, (s.channel c).freeQuarters))
  else spread 25 (size / 4096) (order.map fun c => (c, (s.channel c).freeWhole))

/-- Where a new buffer goes (R281): place and runs, or `none` for NO_RESOURCE. DESIGN CHOICE, unsafe (log entry 40):
placement within a class, and traffic counts. -/
def State.place (role size pattern : Nat) (rt : Bool) (s : State) : Option (Place × List Run) :=
  if sramRoles.contains role && decide (size ≤ 33554432) && decide (size / 4096 ≤ s.sramFree) then
    some (.sram, s.sramRuns (size / 4096))
  else
    let rs := s.dramRuns rt (pattern == 1) size
    let unit := if pattern = 1 then 1024 else 4096
    if (rs.map (·.count)).sum = size / unit ∧ ¬ rs.isEmpty then some (if rt then .priv else .ordinary, rs) else none

/-- Allocates and places a buffer (R279, R281, R282): `none` for NO_RESOURCE, which GRN_CNT_ALLOC_FAIL counts. DESIGN
CHOICE, unsafe (log entry 40): placement within a class, and traffic counts. -/
def State.alloc (role size pattern : Nat) (rt : Bool) (s : State) : Option Buffer × State :=
  match s.granary.freeIdx, s.place role size pattern rt with
  | idx :: rest, some (pl, rs) =>
    let gen := if (s.granary.gens.getD idx 0) % 65535 = 0 then 1 else s.granary.gens.getD idx 0 + 1
    let h : Handle := BitVec.ofNat 32 (role * 2 ^ 28 + idx * 2 ^ 16 + gen)
    let b : Buffer := { handle := h, role, size, pattern, rt, place := pl, runs := rs, clearing := true
                        ring := if pattern = 2 then some {} else none, born := s.granary.born }
    let start := ((rs.headD { chans := [], count := 0 }).chans.headD 0) + 1
    let s := s.takeRuns pl (pattern == 1) false rs
    (some b, s.onGranary fun g =>
      { g with buffers := g.buffers ++ [b], freeIdx := rest, gens := g.gens.set idx gen, born := g.born + 1
               nextOrd := if pl == .ordinary then start % 24 else g.nextOrd
               nextPriv := if pl == .priv then start % 24 else g.nextPriv })
  | _, _ => (none, s.countGrn 4)

/-! ## Rings (R286 to R289) -/

/-- A reader inside the entry after a gap still holds the gap (R287). -/
def Ring.hold (r : Ring) (p : Nat) : Nat :=
  match r.entries.zipIdx.find? fun ei => decide (ei.1.start < p) && decide (p < ei.1.start + ei.1.len) with
  | none => p
  | some (_, 0) => p
  | some (_, i + 1) =>
    match r.entries[i]? with
    | none => p
    | some e => if e.len < e.span then e.start + e.len else p

/-- Start of the used bytes: the reader furthest behind, or with no reader the oldest entry not yet published. -/
def Ring.floor (r : Ring) : Nat :=
  match r.readers.filterMap fun x => x.map fun y => r.hold y.pos with
  | [] => ((r.entries.find? fun e => e.state == .reserved).map (·.start)).getD r.head
  | p :: ps => ps.foldl min p

/-- Used bytes, and bytes of open reservations placed at completion. -/
def Ring.used (r : Ring) : Nat := r.head - r.floor
def Ring.reserved (r : Ring) : Nat := (r.open_.map (·.2)).sum

/-- Whether a reservation of `n` bytes is granted (R287). -/
def Ring.grants (r : Ring) (size n : Nat) : Bool := decide (n + r.used + r.reserved ≤ size)

/-- Entries that readers can see: published, with every entry before them published or withdrawn. -/
def Ring.visible (r : Ring) : List Entry :=
  (r.entries.takeWhile fun e => e.state != .reserved).filter fun e => e.state == .published

/-- Drops the entries that lie wholly below the used bytes. -/
def Ring.prune (r : Ring) : Ring :=
  let f := r.floor
  { r with entries := r.entries.dropWhile fun e => e.state != .reserved && decide (e.start + e.span ≤ f) }

/-- Ends a reservation placed at the head: published with its final length, or withdrawn. Unused bytes return when no
later entry stands at the head; otherwise they remain a gap (R287). -/
def Ring.finish (r : Ring) (id len : Nat) (st : EntryState) : Ring :=
  match r.entries.find? fun e => e.id == id && e.state == .reserved with
  | none => r
  | some e =>
    let last := e.start + e.span == r.head
    let e' := { e with len, state := st, span := if last then len else e.span }
    ({ r with entries := r.entries.map fun x => if x.id == id then e' else x
              head := if last then e.start + len else r.head } : Ring).prune

/-- Published bytes that a reader has not released. -/
def Ring.unreleased (r : Ring) (p : Nat) : Nat :=
  (r.visible.map fun e => (e.start + e.len) - max p e.start).sum

/-- A reader moves forward by `n` published bytes, over gaps. -/
def Ring.advance (r : Ring) (p n : Nat) : Nat :=
  (r.visible.foldl (fun (pn : Nat × Nat) e =>
    if pn.2 = 0 ∨ e.start + e.len ≤ pn.1 then pn
    else
      let p := max pn.1 e.start
      let k := min pn.2 (e.start + e.len - p)
      (p + k, pn.2 - k)) (p, n)).1

/-- Where a new reader starts (R288): the oldest published entry that no attached reader has released in full. -/
def Ring.startPos (r : Ring) : Nat :=
  match r.readers.filterMap fun x => x.map (·.pos) with
  | [] => r.floor
  | p :: ps =>
    let m := ps.foldl max p
    match r.visible.find? fun e => decide (e.start < m) && decide (m < e.start + e.len) with
    | some e => e.start
    | none => m

/-- Changes the ring of a buffer. -/
def State.onRing (h : Handle) (f : Ring → Ring) (s : State) : State :=
  s.onBuffer h fun b => { b with ring := b.ring.map f }

def State.ring? (h : Handle) (s : State) : Option (Buffer × Ring) :=
  (s.buffer? h).bind fun b => b.ring.map fun r => (b, r)

/-- Draws an entry id. -/
def State.nextEntry (s : State) : Nat × State :=
  (s.granary.nextId, s.onGranary fun g => { g with nextId := g.nextId + 1 })

/-- Reserves `n` bytes to be placed at completion; a refusal is counted (R287). -/
def State.ringOpen (h : Handle) (n : Nat) (s : State) : Option Nat × State :=
  match s.ring? h with
  | none => (none, s)
  | some (b, r) =>
    if r.grants b.size n then
      let (id, s) := s.nextEntry
      (some id, s.onRing h fun r => { r with open_ := r.open_ ++ [(id, n)] })
    else (none, s.countGrn 5)

/-- Gives an open reservation back unused. -/
def State.ringCancel (h : Handle) (id : Nat) (s : State) : State :=
  s.onRing h fun r => { r with open_ := r.open_.filter fun x => x.1 != id }

/-- Places an entry at the head at completion and publishes it; answers its position (R287). -/
def State.ringPlace (h : Handle) (id unit : Nat) (bs : List Byte) (s : State) : Nat × State :=
  match s.ring? h with
  | none => (0, s)
  | some (b, r) =>
    let e : Entry := { id, start := r.head, span := bs.length, len := bs.length, state := .published, unit }
    let s := s.onBuffer h (Buffer.putWrapped r.head bs)
    (if b.size = 0 then 0 else r.head % b.size,
      s.onRing h fun r => ({ r with open_ := r.open_.filter (fun x => x.1 != id), entries := r.entries ++ [e]
                                    head := r.head + bs.length } : Ring).prune)

/-- Reserves and places in one: a record of a producer that writes at completion, or `none` when room lacks. -/
def State.ringRecord (h : Handle) (unit : Nat) (bs : List Byte) (s : State) : Option Nat × State :=
  match s.ringOpen h bs.length with
  | (none, s) => (none, s)
  | (some id, s) => let (pos, s) := s.ringPlace h id unit bs; (some pos, s)

/-- Reserves and places `n` bytes at the head at once; answers id and position (R287). -/
def State.ringClaim (h : Handle) (n unit : Nat) (s : State) : Option (Nat × Nat) × State :=
  match s.ring? h with
  | none => (none, s)
  | some (b, r) =>
    if r.grants b.size n then
      let (id, s) := s.nextEntry
      let e : Entry := { id, start := r.head, span := n, len := n, state := .reserved, unit }
      (some (id, if b.size = 0 then 0 else r.head % b.size),
        s.onRing h fun r => { r with entries := r.entries ++ [e], head := r.head + n })
    else (none, s.countGrn 5)

/-- Writes bytes into a claimed entry. -/
def State.ringFill (h : Handle) (id off : Nat) (bs : List Byte) (s : State) : State :=
  match s.ring? h with
  | none => s
  | some (_, r) =>
    match r.entries.find? fun e => e.id == id with
    | none => s
    | some e => s.onBuffer h (Buffer.putWrapped (e.start + off) bs)

/-- Publishes a claimed entry with its final length, or withdraws it. -/
def State.ringPublish (h : Handle) (id len : Nat) (s : State) : State := s.onRing h fun r => r.finish id len .published
def State.ringWithdraw (h : Handle) (id : Nat) (s : State) : State := s.onRing h fun r => r.finish id 0 .withdrawn

/-- Attaches a reader for a unit: the lowest free of four places (R286, R288). -/
def State.ringAttach (h : Handle) (unit : Nat) (s : State) : Option Nat × State :=
  match s.ring? h with
  | none => (none, s)
  | some (_, r) =>
    match r.readers.findIdx? (·.isNone) with
    | none => (none, s)
    | some k => (some k, s.onRing h fun r => { r with readers := r.readers.set k (some { unit, pos := r.startPos }) })

/-- Detaches reader `k`: its unreleased bytes count as released. -/
def State.ringDetach (h : Handle) (k : Nat) (s : State) : State :=
  s.onRing h fun r => ({ r with readers := r.readers.set k none } : Ring).prune

/-- The reader that serves a unit on a ring. -/
def State.readerOf (h : Handle) (unit : Nat) (s : State) : Option Nat :=
  (s.ring? h).bind fun br => br.2.readers.findIdx? fun x => (x.map (·.unit)) == some unit

/-- Detaches the reader that serves a unit. -/
def State.ringLeave (h : Handle) (unit : Nat) (s : State) : State :=
  match s.readerOf h unit with
  | some k => s.ringDetach h k
  | none => s

/-- Releases `n` bytes for reader `k`. -/
def State.ringRelease (h : Handle) (k n : Nat) (s : State) : State :=
  s.onRing h fun r => ({ r with readers := modAt r.readers k fun x => x.map fun y => { y with pos := r.advance y.pos n } } : Ring).prune

/-- The published entries that the reader of a unit has still to read, oldest first. -/
def State.unread (h : Handle) (unit : Nat) (s : State) : List Entry :=
  match s.ring? h, s.readerOf h unit with
  | some (_, r), some k =>
    match (r.readers.getD k none).map (·.pos) with
    | some p => r.visible.filter fun e => decide (p < e.start + e.len)
    | none => []
  | _, _ => []

/-- The bytes of an entry. -/
def State.entryBytes (h : Handle) (e : Entry) (s : State) : List Byte :=
  ((s.buffer? h).map (Buffer.getWrapped e.start e.len)).getD []

/-! ## Freeing and migration (R280, R284, R285) -/

/-- 4 KiB granule of the channel retired, for good (R284). DESIGN CHOICE, unsafe (log entry 39): what a retirement moves
of a shared granule. -/
def State.retireGranule (ch : Nat) (s : State) : State :=
  (s.onChannel ch fun c => { c with retired := c.retired + 1 }).countGrn 2

/-- Frees a buffer: it leaves the aperture, its promotion or spill is cancelled, a retirement goes on without a move,
and its memory is free at once. -/
def State.free (h : Handle) (s : State) : State :=
  match s.buffer? h with
  | none => s
  | some b =>
    let mine := s.granary.migrations.filter fun m => m.handle == h
    let s := mine.foldl (fun s m =>
      let s := if m.stage == .waiting then s
        else if m.stage == .switched then s.takeRuns m.oldPlace (b.pattern == 1) true m.oldRuns
        else s.takeRuns m.newPlace (b.pattern == 1) true m.newRuns
      if m.kind != .promotion && m.stage != .switched then
        match runsAt b.runs m.granule with
        | some ch => s.retireGranule ch
        | none => s
      else s) s
    let s := s.takeRuns b.place (b.pattern == 1 && b.place != .sram) true b.runs
    s.onGranary fun g =>
      { g with buffers := g.buffers.filter fun x => x.handle != h
               migrations := g.migrations.filter fun m => m.handle != h
               freeIdx := g.freeIdx ++ [(h.toNat / 2 ^ 16) % 4096]
               apertures := g.apertures.map fun a => if a.handle == h then {} else a }

/-- Whether a migration is past its start and not yet released: one runs at a time. -/
def State.migrating (s : State) : Bool := s.granary.migrations.any fun m => m.stage != .waiting

/-- A promotion that is possible now: the oldest buffer in DRAM whose role prefers SRAM and which fits (R284). -/
def State.promotable (s : State) : Option Buffer :=
  (s.granary.buffers.filter fun b => sramRoles.contains b.role && b.place != .sram && !b.pinned &&
      decide (b.size ≤ 33554432) && decide (b.size / 4096 ≤ s.sramFree)).foldl (fun acc b =>
    match acc with
    | none => some b
    | some a => if b.born < a.born then some b else some a) none

/-- Room for one granule of a class: its own channel first, then the class's channels that follow it. -/
def State.roomFor (priv random : Bool) (own : Nat) (s : State) : Option Nat :=
  (turnTo own (s.classChannels priv)).find? fun c =>
    if random then decide (0 < (s.channel c).freeQuarters) else decide (0 < (s.channel c).freeWhole)

/-- The migration that starts next: retirements and spills in the order they fell due, then promotions. One without room
waits. A real-time buffer's granule that leaves its channel is a spill (R284). -/
def State.nextMigration (s : State) : Option (Migration × List Run) :=
  let waiting := s.granary.migrations.findSome? fun m =>
    if m.stage == .waiting then
      match s.buffer? m.handle with
      | none => none
      | some b =>
        let own := (runsAt b.runs m.granule).getD 24
        match s.roomFor b.rt (b.pattern == 1) own with
        | some c => some ({ m with kind := if b.rt && c != own then .spill else .retirement }, [({ chans := [c], count := 1 } : Run)])
        | none => none
    else none
  match waiting with
  | some x => some x
  | none => match s.promotable with
    | none => none
    | some b => some ({ kind := .promotion, handle := b.handle, granule := 0, stage := .waiting, oldPlace := b.place
                        newPlace := .sram, frame := s.raster.frame }, s.sramRuns (b.size / 4096))

/-- MIGRATION_COPY_START (R285): none starts while MIGRATE_ENABLE is 0 or another runs. -/
def migrationCopyStart (s : State) : State :=
  if s.migrating || s.granary.cfg.migrateEnable == 0 then s
  else match s.nextMigration with
    | none => s
    | some (m, rs) =>
      let random := ((s.buffer? m.handle).map fun b => b.pattern == 1).getD false
      let s := s.takeRuns m.newPlace (random && m.newPlace != .sram) false rs
      s.onGranary fun g =>
        { g with migrations := { m with stage := .copying, newRuns := rs } ::
            g.migrations.filter fun x => m.kind == .promotion || !(x.handle == m.handle && x.granule == m.granule) }

/-- MIGRATION_COPY_DONE (R285): the switch awaits the next frame start. -/
def migrationCopyDone (s : State) : State :=
  s.onGranary fun g => { g with migrations := g.migrations.map fun m =>
    if m.stage == .copying then { m with stage := .copied } else m }

/-- The switch, at step 4 of R41: reads and writes go to the new place from now on. -/
def State.migrationSwitch (s : State) : State :=
  match s.granary.migrations.find? fun m => m.stage == .copied with
  | none => s
  | some m =>
    match s.buffer? m.handle with
    | none => s
    | some b =>
      let runs := if m.kind == .promotion then m.newRuns
        else runsMove b.runs m.granule (((m.newRuns.headD { chans := [], count := 0 }).chans.headD 0))
      let old := if m.kind == .promotion then b.runs else
        [{ chans := [(runsAt b.runs m.granule).getD 0], count := 1 }]
      let s := s.onBuffer m.handle fun b => { b with place := m.newPlace, runs }
      (s.onGranary fun g =>
        { g with migrations := g.migrations.map (fun x =>
                   if x.stage == .copied then { x with stage := .switched, oldRuns := old, frame := s.raster.frame } else x)
                 switchTime := s.raster.clock }).countGrn 3

/-- MIGRATION_RELEASE (R285): the old place is freed, or retired, and GRN_MIGRATED is sent. -/
def migrationRelease (s : State) : State :=
  match s.granary.migrations.find? fun m => m.stage == .switched with
  | none => s
  | some m =>
    let random := ((s.buffer? m.handle).map fun b => b.pattern == 1).getD false
    let s := s.takeRuns m.oldPlace (random && m.oldPlace != .sram) true m.oldRuns
    let s := if m.kind == .promotion then
        let left := s.granary.migrations.filter fun x => x.stage == .waiting && x.handle == m.handle
        (left.foldl (fun s x => match runsAt m.oldRuns x.granule with
          | some ch => s.retireGranule ch
          | none => s) s).onGranary fun g =>
            { g with migrations := g.migrations.filter fun x => x.stage != .waiting || x.handle != m.handle }
      else s.retireGranule ((m.oldRuns.headD { chans := [], count := 0 }).chans.headD 0)
    let s := s.onGranary fun g => { g with migrations := g.migrations.filter fun x => x.stage != .switched }
    let reason := match m.kind with | .promotion => 1 | .retirement => 2 | .spill => 3
    s.notice 0x0880 [itemN 1 4 m.handle.toNat, itemN 2 1 reason, itemN 3 1 m.oldPlace.code, itemN 4 1 m.newPlace.code,
      itemN 5 4 m.frame.toNat]

/-! ## Integrity (R299) -/

/-- The channel (or bank) that holds a 64-byte block of a buffer. -/
def Buffer.channelOf (block : Nat) (b : Buffer) : Nat :=
  (runsAt b.runs (block * 64 / (if b.pattern = 1 && b.place != .sram then 1024 else 4096))).getD 0

/-- BLOCK_CHECK_FAIL (R299): a DRAM block whose re-read passes is counted; any other is returned poisoned, logged,
reported, and its granule retired. SRAM blocks have no re-reads. A block already poisoned is not counted again. DESIGN
CHOICE, unsafe (log entry 39): what a retirement moves of a shared granule. -/
def blockCheckFail (h : Handle) (block : Nat) (rereadPasses : Bool) (s : State) : State :=
  match s.buffer? h with
  | none => s
  | some b =>
    if b.poison.contains block || decide (b.size ≤ block * 64) then s
    else
      let ch := b.channelOf block
      if b.place != .sram && rereadPasses then
        (s.onChannel ch fun c => { c with cntReread := c.cntReread + 1 }).countGrn 0
      else
        let s := (s.onBuffer h fun b => { b with poison := b.poison ++ [block] }).countGrn 1
        let s := if b.place == .sram then s else s.onChannel ch fun c => { c with cntPoison := c.cntPoison + 1 }
        let (k, s) := s.draw
        let s := if b.place == .sram then s.faultLog 0x05 0x0800 ch
          else s.faultLog 0x04 0x0800 (ch * 2 ^ 24 + Config.freeNat k % 2 ^ 24)
        let s := s.notice 0x0881 [itemN 1 4 h.toNat, itemN 2 8 (block * 64), itemN 3 1 (if b.place == .sram then 0xFF else ch),
          itemN 4 4 s.raster.frame.toNat]
        if b.place == .sram then s
        else
          let g := block * 64 / (if b.pattern = 1 then 1024 else 4096)
          if s.granary.migrations.any fun m => m.handle == h && m.granule == g && m.kind != .promotion then s
          else s.onGranary fun x => { x with migrations := x.migrations ++
            [{ kind := .retirement, handle := h, granule := g, stage := .waiting, oldPlace := b.place, newPlace := b.place
               frame := s.raster.frame }] }

/-! ## Refresh, training and power-down (R295 to R298) -/

/-- MR4_POLL (R296): sets each channel's band; a change is reported and makes training due (R298). -/
def mr4Poll (bands : List Nat) (s : State) : State :=
  (indexed bands).foldl (fun s kb =>
    let c := s.channel kb.1
    let nb := kb.2 % 4
    if decide (24 ≤ kb.1) || !c.up || c.band == nb then s
    else
      let s := s.onChannel kb.1 fun c => { c with band := nb, retrainDue := true }
      s.notice 0x0882 [itemN 1 1 kb.1, itemN 2 1 c.band, itemN 3 1 nb]) s

/-- All-bank refreshes on every rank of a channel until its balance is +8, at most 16 a window (R297). -/
def refreshChannel (active : Bool) (ch : Nat) (s : State) : State :=
  let c := s.channel ch
  let want (r : Rank) : Nat := min (8 - r.balance).toNat (16 - r.inWindow)
  let n := (c.ranks.map want).sum
  let s := s.onChannel ch fun c =>
    { c with ranks := c.ranks.map fun r =>
        { r with balance := r.balance + want r, inWindow := r.inWindow + want r, down := if want r = 0 then r.down else false } }
  if active then s.onGranary fun g => { g with cnt := addAt g.cnt 6 n } else s

/-- Whether the raster is in active lines. -/
def State.activeLine (s : State) : Bool := decide (s.raster.line < s.raster.cfg.force.activeLines)

/-- A REFRESH_WINDOW period (R40, R297) opens a window of `lines` lines on every channel. -/
def State.refreshWindow (lines : Nat) (s : State) : State :=
  (List.range 24).foldl (fun s ch =>
    if (s.channel ch).up then
      refreshChannel s.activeLine ch (s.onChannel ch fun c =>
        { c with window := lines, ranks := c.ranks.map fun r => { r with inWindow := 0 } })
    else s) s

/-- REFRESH_INTERVAL (R297): the rank's balance falls by 1; inside a window it returns to +8; at -8 the next refreshes go
out at once, and above it one goes out when its bank has no queued request, which the model leaves free. DESIGN CHOICE,
unsafe (log entry 41): RETRAINING is never seen as 1. -/
def refreshInterval (ch rank : Nat) (s : State) : State :=
  let c := s.channel ch
  match c.ranks[rank]? with
  | none => s
  | some r =>
    if !c.up then s
    else if 0 < c.window then
      refreshChannel s.activeLine ch (s.onChannel ch fun c =>
        { c with ranks := modAt c.ranks rank fun r => { r with balance := max (-8) (r.balance - 1) } })
    else
      let (k, s) := s.draw
      let placed := Config.freeNat k % 2 = 1
      let b := if r.balance ≤ -8 then -8 else if placed then r.balance else r.balance - 1
      s.onChannel ch fun c => { c with ranks := modAt c.ranks rank fun r => { r with balance := b, down := false } }

/-- TRAINING_DUE (R298). -/
def trainingDue (ch : Nat) (s : State) : State :=
  if (s.channel ch).up then s.onChannel ch fun c => { c with retrainDue := true } else s

/-- A RETRAIN_WINDOW period trains every channel that is due (R298). -/
def State.retrainWindow (s : State) : State :=
  s.onGranary fun g => { g with channels := g.channels.map fun c => { c with retrainDue := false } }

/-- FORCED_RETRAIN (R298). DESIGN CHOICE, unsafe (log entry 41): RETRAINING is never seen as 1. -/
def forcedRetrain (ch : Nat) (s : State) : State :=
  if (s.channel ch).retrainDue then
    ((s.onChannel ch fun c => { c with retrainDue := false }).countGrn 7).notice 0x0883
      [itemN 1 1 ch, itemN 2 4 s.raster.frame.toNat]
  else s

/-- RANK_POWER_DOWN (R295): not on a privileged channel unless PD_PRIV is 1, and not in a refresh window; a training takes no
time here, so that none is in progress. -/
def rankPowerDown (ch rank : Nat) (s : State) : State :=
  let c := s.channel ch
  if !c.up || decide (0 < c.window) ||
      (decide (ch < s.granary.cfg.privChannels) && s.granary.cfg.pdPriv == 0) then s
  else s.onChannel ch fun c => { c with ranks := modAt c.ranks rank fun r => { r with down := true } }

/-- What the controller counted in the frame that ends (R300): busy time and bytes depend on traffic that the model does
not follow block by block, so each is a free value. -/
def State.channelFrameEnd (s : State) : State :=
  (List.range 24).foldl (fun s ch =>
    if (s.channel ch).up then
      let (k, s) := s.draw
      let u := Config.freeNat k % 65536
      let (k2, s) := s.draw
      let (k3, s) := s.draw
      s.onChannel ch fun c => { c with util := u, peak := max c.peak u, lastRead := Config.freeNat k2, lastWritten := Config.freeNat k3 }
    else s) s

/-! ## The aperture (R290) -/

/-- APERTURE_ACCESS: an access in a mapped range reads or writes the buffer; any other returns 0 or is ignored and is
counted. A read of a poisoned block has the EP bit set. -/
def apertureAccess (offset : Nat) (write : Option (List Byte)) (length : Nat) (s : State) : State :=
  let w := offset / 2 ^ 34
  let o := offset % 2 ^ 34
  let n := match write with | some bs => bs.length | none => length
  let a := s.granary.apertures.getD w {}
  let miss (s : State) : State :=
    let s := s.countGrn 8
    if write.isSome then s
    else s.onGranary fun g => { g with apertureOut := List.replicate length 0, aperturePoison := false }
  if !s.control.pcie0Ep then s
  else if a.handle = 0 ∨ a.length < o + n then miss s
  else match s.buffer? a.handle with
    | none => miss s
    | some b =>
      match write with
      | some bs => s.putBytes a.handle (a.offset + o) bs
      | none => s.onGranary fun g =>
          { g with apertureOut := Mem.readN b.data (a.offset + o) length
                   aperturePoison := b.poisoned (a.offset + o) length }

/-- Clears the Granary's counters that the mask names, and the channels' counters and PEAKs where asked (R302, R303). -/
def clearGrn (mask : Nat) (channels : Nat) (s : State) : State :=
  s.onGranary fun g =>
    { g with cnt := clearMasked g.cnt mask
             channels := (indexed g.channels).map fun nc =>
               if channels.testBit nc.1 then { nc.2 with cntReread := 0, cntPoison := 0, peak := nc.2.util } else nc.2 }

end Sys2Proof.Machine
end

