-- ==== Sys2Proof/Machine/BusOps.lean ====
section
/-!
DEFINITION. What the board buses do: transfers of the I²C controllers, the I²C target's address, UART records, the
lens service and GPIO (18_board_buses.md, R418 to R431).
-/

namespace Sys2Proof.Machine

def State.onTwi (c : Nat) (f : I2cController → I2cController) (s : State) : State :=
  s.onBus fun b => { b with i2c := modAt b.i2c c f }
def State.twi (c : Nat) (s : State) : I2cController := s.bus.i2c.getD c {}
def State.onUart (n : Nat) (f : Uart → Uart) (s : State) : State := s.onBus fun b => { b with uarts := modAt b.uarts n f }
def State.uart (n : Nat) (s : State) : Uart := s.bus.uarts.getD n {}
def State.onLens (f : Lens → Lens) (s : State) : State := s.onBus fun b => { b with lens := f b.lens }

/-! ## I²C controllers -/

/-- Whether a controller has no room for one more transfer: one in turn and eight further (R422). -/
def I2cController.full (x : I2cController) : Bool := decide (9 ≤ x.queue.length + bit x.active.isSome)

/-- What a finished transfer gives back to a mailbox: whether it ran through, and its result items. -/
abbrev I2cReply := Option (Nat × Bool × List Item)

/-- STATUS, BYTE and BIT of one segment. -/
def segmentItem (status byte bit : Nat) : Item := itemB 0x4001 (toLe 1 status ++ toLe 2 byte ++ toLe 1 bit)

/-- The items of read data, one per read segment. -/
def readItems_ : List Segment → List Byte → List Item
  | [], _ => []
  | g :: rest, bs => if g.read then itemB 0x4002 (bs.take g.count) :: readItems_ rest (bs.drop g.count) else readItems_ rest bs

/-- The lens poll that a transfer or a UART reply completes (R427). -/
def State.lensDone (poll : Frame) (status : Nat) (reply : List Byte) (s : State) : State :=
  s.onLens fun l =>
    match l.poll with
    | some p => if p.frame == poll && p.status.isNone then
        let p := { p with status := some status, reply }
        { l with poll := some p, last := some p } else l
    | none => l

/-- Controller `c`'s transfer ends at segment `k` with a status of R419; `data` is what its read segments gave. -/
def State.i2cEnd (c k status byte bit : Nat) (data : List Byte) (s : State) : I2cReply × State :=
  match (s.twi c).active with
  | none => (none, s)
  | some t =>
    let s := s.onTwi c fun x => { x with active := none, waitsStop := false }
    let ran := if status = 0 then t.segments else t.segments.take (k + 1)
    let pos := status = 2 ∨ status = 3
    let marks := (indexed ran).map fun ig =>
      if status ≠ 0 ∧ ig.1 = k then segmentItem status (if pos then byte else 0) (if status = 3 then bit else 0)
      else segmentItem 0 0 0
    match t.for_ with
    | .mailbox mb => (some (mb, status = 0, marks ++ readItems_ ran data), s)
    | .lens poll => (none, s.lensDone poll status data)

/-- I2C_XFER_START (R421, R422): the next transfer, after a bus clear when SDA is stuck. -/
def i2cXferStart (c : Nat) (sdaStuck freedByClear : Bool) (s : State) : I2cReply × State :=
  let x := s.twi c
  if x.active.isSome then (none, s)
  else match x.queue with
    | [] => (none, s)
    | t :: rest =>
      let onDemand := t.segments.isEmpty
      let clears := onDemand || sdaStuck
      let high := !sdaStuck || freedByClear
      let s := s.onTwi c fun x => { x with active := some t, queue := rest
                                           cntClear := if clears then x.cntClear + 1 else x.cntClear }
      let s := if high then s else s.notice 0x0F80 [itemN 1 1 c, itemN 2 4 s.raster.frame.toNat]
      if onDemand then
        match t.for_ with
        | .mailbox mb => (some (mb, high, [itemN 0x4001 1 (bit high)]), s.onTwi c fun x => { x with active := none })
        | .lens _ => (none, s.onTwi c fun x => { x with active := none })
      else if high then (none, s)
      else s.i2cEnd c 0 5 0 0 []

/-- I2C_XFER_DONE (R419, R420): a lost arbitration is counted and repeated while RETRIES allows. -/
def i2cXferDone (c : Nat) (r : I2cResult) (s : State) : I2cReply × State :=
  match (s.twi c).active with
  | none => (none, s)
  | some t =>
    if (s.twi c).waitsStop then (none, s)
    else if r.status = 3 ∨ r.status = 4 then
      let s := s.onTwi c fun x => { x with cntArb := x.cntArb + 1 }
      if t.losses < (s.twi c).cfg.retries then
        (none, s.onTwi c fun x => { x with waitsStop := true, active := some { t with losses := t.losses + 1 } })
      else s.i2cEnd c r.segment r.status r.byteIndex r.bitIndex r.data
    else s.i2cEnd c r.segment r.status r.byteIndex r.bitIndex r.data

/-- I2C_ARB_RETRY (R420): the STOP and the bus-free time have passed; the whole transfer is sent again. -/
def i2cArbRetry (c : Nat) (s : State) : State := s.onTwi c fun x => { x with waitsStop := false }

/-- I2C_SCL_TIMEOUT (R418): which segment the stretch fell in, and what was read before it, are the bus's. -/
def i2cSclTimeout (c : Nat) (s : State) : I2cReply × State :=
  match (s.twi c).active with
  | none => (none, s)
  | some t =>
    if (s.twi c).waitsStop then (none, s)
    else
      let (n, s) := s.draw
      let k := Config.freeNat n % t.segments.length
      let want := (((t.segments.take k).filter (·.read)).map (·.count)).sum
      let (bs, s) := s.drawBytes want
      s.i2cEnd c k 6 0 0 bs

/-! ## The I²C target (R423 to R425) -/

/-- Whether the target answers an address. -/
def I2cTarget.matches (x : I2cTarget) (a : Nat) : Bool :=
  match x.mask with
  | none => x.addrs.contains a
  | some m => x.addrs.any fun d => (a ^^^ d) &&& (127 - m) == 0

/-- The addresses revert: at reset and when ROLE becomes 2. -/
def State.targetRevert (s : State) : State :=
  s.onBus fun b => { b with target := { b.target with addrs := [0x58 + b.target.strap], mask := none } }

/-- TWI_T_ADDRESS_WRITE: 4 address bytes, most significant first; further bytes are not acknowledged and counted. -/
def twiTAddressWrite (target : Nat) (bytes : List Byte) (s : State) : State :=
  if !s.bus.target.matches target then s
  else s.onBus fun b => { b with target := { b.target with
    next := if 4 ≤ bytes.length then BitVec.ofNat 32 (leNat (bytes.take 4).reverse / 4 * 4) else b.target.next
    cntProto := b.target.cntProto + BitVec.ofNat 32 (bytes.length - 4) } }

/-- TWI_T_ABORT: counted. -/
def twiTAbort (s : State) : State :=
  s.onBus fun b => { b with target := { b.target with cntProto := b.target.cntProto + 1 } }

/-! ## UARTs (R426) -/

/-- Whether UART `n` serves the lens. -/
def State.lensUart (n : Nat) (s : State) : Bool := s.bus.lens.cfg.bus == 4 + n

/-- Whether UART `n` runs: it has a ring or serves the lens. -/
def State.uartRuns (n : Nat) (s : State) : Bool := (s.uart n).cfg.rxRing != 0 || s.lensUart n

/-- Sends BUS_UART_ERROR at most once per frame. -/
def State.uartError (n flags : Nat) (s : State) : State :=
  if (s.uart n).errFrame == some s.raster.frame then s
  else (s.onUart n fun x => { x with errFrame := some s.raster.frame }).notice 0x0F81 [itemN 1 1 n, itemN 2 2 flags]

/-- Bit times of one frame on the wire: start bit, data, parity and stop bits. -/
def UartConfig.frameBits (c : UartConfig) : Nat := 1 + c.data + (if c.parity = 0 then 0 else 1) + c.stop

/-- The bytes of a record. -/
def uartRecord (first : Clk) (flags : Nat) (bs : List Byte) : List Byte :=
  let len := roundUp (24 + bs.length) 16
  toLe 2 0x0F01 ++ toLe 2 1 ++ toLe 4 len ++ clkBytes first ++ toLe 2 flags ++ toLe 2 bs.length ++ bs ++
    List.replicate (len - 24 - bs.length) 0

/-- The open record of UART `n` closes and is written; one that finds no room is lost, its bytes are counted and the
next record carries bit 3. -/
def State.uartClose (n : Nat) (s : State) : State :=
  let x := s.uart n
  match x.first with
  | none => s
  | some t =>
    let s := s.onUart n fun x => { x with rx := [], first := none, flags := 0 }
    if x.cfg.rxRing = 0 then s
    else match s.ringRecord x.cfg.rxRing (0x0F00 + n) (uartRecord t (x.flags + (if x.lost then 8 else 0)) x.rx) with
      | (some _, s) => s.onUart n fun x => { x with lost := false }
      | (none, s) =>
        (s.onUart n fun y => { y with lost := true, cntErr := y.cntErr + BitVec.ofNat 32 x.rx.length }).uartError n (x.flags ||| 8)

/-- UART_BYTE_RECEIVED. -/
def uartByteReceived (n : Nat) (b : Byte) (parityErr framingErr brk : Bool) (s : State) : State :=
  if !s.uartRuns n then s
  else
    let x := s.uart n
    let b := if x.cfg.data = 7 then b &&& 0x7F else b
    let start := Clk.ofUnits (Clk.units s.raster.clock - (x.cfg.frameBits * 65536 * 1000000000 / x.cfg.baud : Nat))
    let fl := bit parityErr + 2 * bit framingErr + 4 * bit brk
    let s := s.onUart n fun x =>
      { x with rx := if brk then x.rx else x.rx ++ [b], first := some (x.first.getD start), flags := x.flags ||| fl
               cntErr := x.cntErr + BitVec.ofNat 32 (bit parityErr + bit framingErr) }
    let s := if parityErr || framingErr then s.uartError n (s.uart n).flags else s
    let s := if s.lensUart n && !brk then
        match s.bus.lens.poll with
        | some p =>
          if p.bus == 4 + n && p.status.isNone then
            let reply := p.reply ++ [b]
            if reply.length == s.bus.lens.cfg.replyLen then s.lensDone p.frame 0 reply
            else s.onLens fun l => { l with poll := some { p with reply } }
          else s
        | none => s
      else s
    if brk || decide (256 ≤ (s.uart n).rx.length) then s.uartClose n else s

/-- UART_IDLE_GAP. -/
def uartIdleGap (n : Nat) (s : State) : State := s.uartClose n

/-! ## The lens service (R427) -/

/-- A poll that falls due at LENS_LINE; one whose reply is not complete is counted as missed. -/
def State.lensPoll (s : State) : State :=
  let l := s.bus.lens
  let c := l.cfg
  if c.bus = 255 ∨ s.raster.frame.toNat % c.period ≠ 0 then s
  else
    let s := match l.poll with
      | some p =>
        if p.status = some 0 then s
        else s.onLens fun l => { l with cntMiss := l.cntMiss + 1
                                        last := if p.status.isNone then some { p with status := some 7 } else l.last }
      | none => s
    let p : LensPoll := { frame := s.raster.frame, time := s.raster.clock, bus := c.bus }
    let s := s.onLens fun l => { l with poll := some p, lastRequest := s.raster.clock }
    if 4 ≤ c.bus then s.send (.uart (c.bus - 4) c.request)
    else if (s.twi c.bus).full then s
    else
      let write : List Segment := if c.request.isEmpty then []
        else [{ addr := c.address, read := false, count := c.request.length, data := c.request }]
      let t : Transfer :=
        { segments := write ++ [{ addr := c.address, read := true, count := c.replyLen, data := [] }], for_ := .lens p.frame }
      s.onTwi c.bus fun x => { x with queue := x.queue ++ [t] }

/-- The LENS item of the last complete poll. -/
def LensPoll.bytes (p : LensPoll) : List Byte :=
  toLe 4 p.frame.toNat ++ clkBytes p.time ++ toLe 1 p.bus ++ toLe 1 (p.status.getD 7) ++ toLe 2 p.reply.length ++ p.reply

/-! ## GPIO (R428) -/

/-- Field record of a pin, and the level that OUT gives it. -/
def State.pin (k : Nat) (s : State) : PinConfig := s.bus.pins.getD k {}
def State.pinOut (k : Nat) (s : State) : Bool := s.bus.gpioOut.getLsbD k

/-- Whether a pulse drives the pin now. -/
def State.pulsing (k : Nat) (s : State) : Bool := s.events.pulses.any fun p => p.1 == k && !p.2.2

/-- Drives an output pin to OUT unless a pulse drives it. -/
def State.drivePin (k : Nat) (s : State) : State :=
  if (s.pin k).mode = 0 || s.pulsing k then s else s.send (.pin k (s.pinOut k))

/-- A GPIO_OUT delivery: in MODE 2 a pulse starts or restarts (R374, R428). -/
def State.startPulse (k : Nat) (e : Ev) (s : State) : State :=
  if (s.pin k).mode ≠ 2 then s
  else (s.onEvents fun v => { v with pulses := (v.pulses.filter fun p => p.1 != k) ++ [(k, e, false)] }).send
    (.pinPulse k s.events.pinPulse)

/-- GPIO_PULSE_END: the pin returns to OUT; its edge, when there is one, is still to come. -/
def gpioPulseEnd (k : Nat) (s : State) : State :=
  if !s.pulsing k then s
  else
    let edge := ((s.pin k).pulseLevel == 1) != s.pinOut k
    let s := s.onEvents fun v => { v with pulses := v.pulses.filterMap fun p =>
      if p.1 == k then (if edge then some (k, p.2.1, true) else none) else some p }
    s.send (.pin k (s.pinOut k))

/-- Whether IN_EDGE takes an edge to a level. -/
def PinConfig.takes (c : PinConfig) (level : Bool) : Bool :=
  c.inEdge == 3 || (c.inEdge == 1 && level) || (c.inEdge == 2 && !level)

/-- GPIO_INPUT_EDGE: an edge that its own pulse causes is a re-raise of the event that started the pulse (R373). -/
def gpioInputEdge (k : Nat) (level : Bool) (s : State) : State :=
  if 32 ≤ k || s.bus.gpioIn.getLsbD k == level then s
  else
    let c := s.pin k
    let s := s.onBus fun b => { b with gpioIn := putBit b.gpioIn k level }
    let own := if c.mode ≠ 2 then none else s.events.pulses.find? fun p =>
      p.1 == k && (if p.2.2 then level == s.pinOut k else level == (c.pulseLevel == 1))
    let s := s.onEvents fun v => { v with pulses := v.pulses.filter fun p => !(p.1 == k && p.2.2 && level == s.pinOut k) }
    if !c.takes level then s
    else match own with
      | some p => s.reRaise (0x0D0 + k) p.2.1 false
      | none => s.raise (0x0D0 + k)

/-- GPIO_OUT_WRITE: bits 15:0 of OUT that WRITE_MASK selects; a pin in a pulse keeps the pulse's level until its end. -/
def gpioOutWrite (high : Bool) (v : Word) (s : State) : State :=
  let sh := if high then 16 else 0
  let picked := (List.range 16).filter fun i => v.getLsbD (16 + i)
  let s := s.onBus fun b => { b with gpioOut := picked.foldl (fun (w : Word) i => putBit w (sh + i) (v.getLsbD i)) b.gpioOut }
  let s := s.onEvents fun e => { e with pulses := e.pulses.filter fun p =>
    !(p.2.2 && picked.any fun i => sh + i == p.1) }
  picked.foldl (fun s i => s.drivePin (sh + i)) s

/-! ## Counters and status (R431) -/

/-- The counters in offset order. -/
def State.busCounters (s : State) : List Word :=
  (s.bus.i2c.flatMap fun x => [x.cntArb, x.cntClear]) ++ [s.bus.target.cntProto, s.bus.lens.cntMiss] ++
    s.bus.uarts.map (·.cntErr)

/-- Clears the counters that the mask names. -/
def clearBus (mask : Nat) (s : State) : State :=
  s.onBus fun b =>
    let z (k : Nat) (w : Word) : Word := if mask.testBit k then 0 else w
    { b with i2c := (indexed b.i2c).map fun ix =>
               { ix.2 with cntArb := z (2 * ix.1) ix.2.cntArb, cntClear := z (2 * ix.1 + 1) ix.2.cntClear }
             target := { b.target with cntProto := z 8 b.target.cntProto }
             lens := { b.lens with cntMiss := z 9 b.lens.cntMiss }
             uarts := (indexed b.uarts).map fun ix => { ix.2 with cntErr := z (10 + ix.1) ix.2.cntErr } }

/-- BUS_STATUS. -/
def State.busStatus (s : State) : Word :=
  fieldsWord ([(s.bus.target.strap, 16), (s.bus.lens.cfg.bus, 8), (bit (s.uartRuns 0), 4), (bit (s.uartRuns 1), 5)] ++
    (indexed s.bus.i2c).map fun ix => (bit ix.2.active.isSome, ix.1))

end Sys2Proof.Machine
end

