-- ==== Sys2Proof/Machine/AudioOps.lean ====
section
/-!
DEFINITION. Effects of the audio block's commands: captures and their blocks, slot masks, slips, gates, outputs and AES3 channel
status (15_audio.md).
-/

namespace Sys2Proof.Machine

def State.onAudio (f : AudioState → AudioState) (s : State) : State := { s with audio := f s.audio }
def State.onAudPort (p : Nat) (f : AudPort → AudPort) (s : State) : State := s.onAudio fun a => { a with ports := modAt a.ports p f }
def State.audPort (p : Nat) (s : State) : AudPort := s.audio.ports.getD p {}
def State.onCapture (c : Nat) (f : AudCapture → AudCapture) (s : State) : State :=
  s.onAudio fun a => { a with captures := modAt a.captures c f }
def State.capture (c : Nat) (s : State) : AudCapture := s.audio.captures.getD c {}

/-- Adds `n` to counter `k` of a port: 0 = SLIP, 1 = SLIP_FORCED, 2 = UNLOCK, 3 = CS_ERR, 4 = PARITY, 5 = UNDERRUN, 6 = LATE. -/
def State.countAud (p k n : Nat) (s : State) : State := s.onAudPort p fun x => { x with cnt := addAt x.cnt k n }

/-- RATE in Hz (R355). -/
def rateHz (code : Nat) : Nat := [44100, 48000, 96000, 192000].getD code 48000

/-- Whether a port is an input (R353). -/
def State.isInput (p : Nat) (s : State) : Bool := if p < 4 then (s.audPort p).cfg.direction == 0 else decide (p < 6)

/-- Whether a port is an output. -/
def State.isOutput (p : Nat) (s : State) : Bool := if p < 4 then (s.audPort p).cfg.direction == 1 else decide (6 ≤ p)

/-- The channels of slot masks: ports ascending, enabled slots ascending (R359). -/
def layoutOf (masks : List Nat) : List (Nat × Nat) :=
  (indexed masks).flatMap fun pm => (List.range 16).filterMap fun k => if pm.2.testBit k then some (pm.1, k) else none

/-- The channels of a capture in force. -/
def AudCapture.channels (c : AudCapture) : List (Nat × Nat) := layoutOf c.masks

/-- RATE code of a capture: its lead's, or 48 kHz on the raster timebase (R358). -/
def State.captureRate (c : Nat) (s : State) : Nat :=
  let x := s.capture c
  if x.lead = 255 then 1 else (s.audPort x.lead).cfg.rate

/-- A port whose external clock is unlocked: its channels read 0 (R357). -/
def AudPort.unlocked (p : AudPort) : Bool := p.cfg.clock == 2 && !p.locked

/-- Whether an input port runs: a running capture names it (R355). -/
def State.portRuns (p : Nat) (s : State) : Bool :=
  if s.isInput p then s.audio.captures.any fun c => c.running && c.masks.getD p 0 != 0 else (s.audPort p).running

/-! ## Gates (R362, R363) -/

/-- A gate at the start of a block. -/
def Gate.fresh (g : Gate) : Gate := { g with steps := [(0, g.phase == .passing || g.phase == .stopping, g.gain)] }

/-- The gate of a channel that starts. -/
def Gate.start (gain : Nat) : Gate := { phase := .starting, gain, steps := [(0, false, gain)] }

/-- A change of the gate from sample `n` on. -/
def Gate.step (n : Nat) (g : Gate) : Gate :=
  { g with steps := g.steps ++ [(n, g.phase == .passing || g.phase == .stopping, g.gain)] }

/-- The change that waits applies from sample `n` on: a start, a gain change or a stop. -/
def Gate.apply (n : Nat) (g : Gate) : Gate :=
  match g.phase with
  | .starting => ({ g with phase := .passing, gain := g.pendGain.getD g.gain, pendGain := none } : Gate).step n
  | .stopping => ({ g with phase := .silent, pendGain := none } : Gate).step n
  | .passing => match g.pendGain with
    | some k => ({ g with gain := k, pendGain := none } : Gate).step n
    | none => g
  | .silent => g

/-- Whether a gate has a change waiting. -/
def Gate.waits (g : Gate) : Bool := g.phase == .starting || g.phase == .stopping || (g.phase == .passing && g.pendGain.isSome)

/-- A stop: it cancels a gain change that is still pending. -/
def Gate.stop (g : Gate) : Gate := if g.phase == .silent then g else { g with phase := .stopping, pendGain := none }

/-- A gain change: it waits for a zero crossing, or replaces one that waits; a silent channel takes it at once. -/
def Gate.setGain (k : Nat) (g : Gate) : Gate := if g.phase == .silent then { g with gain := k } else { g with pendGain := some k }

/-- What a gate does at sample `n` of the block: whether it passes, and GAIN. -/
def Gate.at (n : Nat) (g : Gate) : Bool × Nat :=
  ((g.steps.filter fun t => decide (t.1 ≤ n)).getLast?.map (·.2)).getD (false, g.gain)

/-- One sample through GAIN: rounded and saturated to 32 bits (R362). -/
def gained (x : Int) (gain : Nat) : Int := sat (-(2 ^ 31)) (2 ^ 31 - 1) (roundDiv (x * gain) 16384)

/-- A sample word through its gate: an AES3 word keeps its bits 3 to 0, and its audio word passes through GAIN (R364). -/
def gateSample (aes : Bool) (g : Bool × Nat) (x : Int) : Int :=
  if !g.1 then 0
  else if !aes then gained x g.2
  else
    let low := x % 16
    gained (x - x % 256) g.2 / 256 * 256 + low

/-- Number of the sample of a capture's block that the present instant falls on. -/
def State.sampleNow (c : Nat) (s : State) : Nat :=
  let x := s.capture c
  let n := ((Clk.units s.raster.clock - Clk.units x.first) * rateHz (s.captureRate c) / (65536 * 1000000000)).toNat
  min n x.block

/-! ## Blocks (R360, R364 to R366) -/

/-- A block record (R364). -/
def blockRecord (c : AudCapture) (channels rate : Nat) (samples : List (List Int)) (flags : Nat) : List Byte :=
  let body := samples.flatMap fun row => row.flatMap fun v => toLeInt 4 v
  let len := roundUp (48 + body.length) 16
  toLe 2 0x0C01 ++ toLe 2 1 ++ toLe 4 len ++ toLe 4 c.seq ++ toLe 2 samples.length ++ toLe 1 channels ++ toLe 1 rate ++
    clkBytes c.first ++ toLe 4 c.frame.toNat ++ toLe 2 flags ++ toLe 2 c.slipIndex ++ toLe 8 0 ++ toLe 4 0 ++ body ++
    List.replicate (len - 48 - body.length) 0

/-- A LAYOUT record (R365). -/
def layoutRecord (seq : Nat) (chans : List (Nat × Nat)) (at_ : Clk) (fr : Frame) : List Byte :=
  let len := roundUp (32 + 2 * chans.length) 16
  toLe 2 0x0C02 ++ toLe 2 1 ++ toLe 4 len ++ toLe 4 seq ++ toLe 1 chans.length ++ toLe 3 0 ++ clkBytes at_ ++ toLe 4 fr.toNat ++
    (chans.flatMap fun pk => toLe 1 pk.1 ++ toLe 1 pk.2) ++ List.replicate (len - 32 - 2 * chans.length) 0

/-- A new block begins now. -/
def State.blockBegin (c : Nat) (flags : Nat) (s : State) : State :=
  let un := (s.capture c).channels.any fun pk => (s.audPort pk.1).unlocked
  let now := s.raster.clock
  let fr := s.raster.frame
  s.onCapture c fun x =>
    { x with first := now, frame := fr, slipIndex := 0xFFFF, cutNext := false, gates := x.gates.map Gate.fresh
             flags := flags + (if x.cutNext then 16 else 0) + (if un then 64 else 0) }

/-- Samples of a block through their gates. -/
def gateRows (chans : List (Nat × Nat)) (gates : List Gate) (samples : List (List Int)) : List (List Int) :=
  (indexed samples).map fun nr => (indexed chans).map fun kp =>
    gateSample (decide (4 ≤ kp.2.1)) ((gates.getD kp.1 {}).at nr.1) (nr.2.getD kp.1 0)

/-- What an output that plays a capture sends for its block, OUT_DELAY sample periods later (R367). -/
def State.playCapture (c : Nat) (rows : List (List Int)) (s : State) : State :=
  (List.range 8).foldl (fun s p =>
    let x := s.audPort p
    if !s.isOutput p || !x.running || x.cfg.outSource ≠ c then s
    else
      let slots := if p < 4 then x.cfg.slots else 2
      let out := (indexed rows).map fun nr => (List.range slots).map fun k =>
        let ch := x.cfg.outMap.getD k 255
        gateSample (decide (6 ≤ p)) ((x.gates.getD k {}).at nr.1) (if ch = 255 then 0 else nr.2.getD ch 0)
      (s.send (.audio p x.cfg.outDelay out)).onAudPort p fun y => { y with gates := y.gates.map Gate.fresh }) s

/-- The block in progress ends with its samples: it is written, or lost when RING has no room (R364, R366). -/
def State.blockEnd (c : Nat) (samples : List (List Int)) (s : State) : State :=
  if samples.isEmpty then s
  else
    let x := s.capture c
    let chans := x.channels
    let samples := samples.take x.block
    let rows := gateRows chans x.gates samples
    let muted := x.gates.any fun g => g.steps.any fun t => t.1 < samples.length && !t.2.1 && g.phase != .silent
    let flags := x.flags + (if muted then 8 else 0) + (if x.losing then 4 else 0)
    let (pos, s) := s.ringRecord x.ring (0x0C10 + c) (blockRecord x chans.length (s.captureRate c) rows flags)
    let s := match pos with
      | some _ => (s.onCapture c fun y => { y with losing := false, lastSeq := x.seq, cnt := bumpAt y.cnt 0 }).onAudio
          fun a => { a with lastFirst := x.first }
      | none =>
        let s := if x.losing then s else s.notice 0x0C81 [itemN 1 1 c, itemN 2 4 x.seq]
        s.onCapture c fun y => { y with losing := true, cnt := bumpAt y.cnt 1 }
    (s.onCapture c fun y => { y with seq := (y.seq + 1) % 2 ^ 32 }).playCapture c rows

/-- AUDIO_BLOCK_COMPLETE: the block ends with the samples its channels gave; the next begins, unless the capture has stopped. -/
def audioBlockComplete (c : Nat) (samples : List (List Int)) (s : State) : State :=
  let x := s.capture c
  if x.running then (s.blockEnd c samples).blockBegin c 0
  else if x.ending then (s.blockEnd c samples).onCapture c fun y => { y with ending := false, gates := [] }
  else s

/-- Writes a LAYOUT record for the channels in force and reports it (R365, R370). -/
def State.writeLayout (c : Nat) (s : State) : State :=
  let x := s.capture c
  let chans := x.channels
  let s := (s.ringRecord x.ring (0x0C10 + c) (layoutRecord x.seq chans s.raster.clock s.raster.frame)).2
  s.notice 0x0C83 [itemN 1 1 c, itemN 2 4 x.seq, itemN 3 1 chans.length]

/-- MASK_APPLY: the shadow masks come into force: the block ends, a LAYOUT record enters the ring and a new block begins; channels
that stay keep their gates, new ones start gated (R360). -/
def maskApply (c : Nat) (samples : List (List Int)) (s : State) : State :=
  let x := s.capture c
  if !x.running || x.masks == x.maskShadow then s
  else
    let s := s.blockEnd c samples
    let x := s.capture c
    let old := x.channels
    let gates := (indexed (layoutOf x.maskShadow)).map fun kp => match old.idxOf? kp.2 with
      | some i => x.gates.getD i {}
      | none => Gate.start (x.gains.getD kp.1 16384)
    ((s.onCapture c fun y => { y with masks := y.maskShadow, gates }).writeLayout c).blockBegin c 32

/-! ## Captures start and stop (R363, R369) -/

/-- A capture starts now: masks come into force, a LAYOUT record, the first block, every channel gated. -/
def State.captureBegin (c : Nat) (s : State) : State :=
  if (s.capture c).running then s
  else
    let s := s.onCapture c fun x =>
      { x with running := true, startAt := none, ending := false, masks := x.maskShadow, seq := 0, losing := false, cutNext := false
               gates := (layoutOf x.maskShadow).zipIdx.map fun k => Gate.start (x.gains.getD k.2 16384) }
    (s.writeLayout c).blockBegin c 0

/-- A capture is stopped once every channel has applied its stop (R363). -/
def State.captureSettle (c : Nat) (s : State) : State :=
  let x := s.capture c
  if x.running && x.gates.all fun g => g.phase == .silent then
    (s.onCapture c fun x => { x with running := false, ending := true }).notice 0x0C84
      [itemN 1 1 0, itemN 2 1 c, itemN 3 4 s.raster.frame.toNat]
  else s

/-- A capture's stop acts now: each channel stops at its next zero crossing. -/
def State.captureStop (c : Nat) (s : State) : State :=
  if !(s.capture c).running then s.onCapture c fun x => { x with startAt := none, stopAt := none }
  else (s.onCapture c fun x => { x with stopAt := none, gates := x.gates.map Gate.stop }).captureSettle c

/-! ## Outputs (R363, R367) -/

/-- An output starts now; every slot is gated. -/
def State.outputBegin (p : Nat) (s : State) : State :=
  if (s.audPort p).running then s
  else s.onAudPort p fun x =>
    { x with running := true, startAt := none, underrun := false, gates := x.gates.map fun g => Gate.start g.gain }

/-- An output is stopped once every slot has applied its stop. -/
def State.outputSettle (p : Nat) (s : State) : State :=
  let x := s.audPort p
  let slots := if p < 4 then x.cfg.slots else 2
  if x.running && (x.gates.take slots).all fun g => g.phase == .silent then
    (s.onAudPort p fun x => { x with running := false, underrun := false, gates := x.gates.map fun g => { gain := g.gain } }).notice
      0x0C84 [itemN 1 1 1, itemN 2 1 p, itemN 3 4 s.raster.frame.toNat]
  else s

/-- An output's stop acts now. -/
def State.outputStop (p : Nat) (s : State) : State :=
  if !(s.audPort p).running then s.onAudPort p fun x => { x with startAt := none, stopAt := none }
  else (s.onAudPort p fun x => { x with stopAt := none, gates := x.gates.map Gate.stop }).outputSettle p

/-- An underrun: counted and reported once for each run. -/
def State.underrun (p : Nat) (s : State) : State :=
  if (s.audPort p).underrun then s
  else ((s.onAudPort p fun x => { x with underrun := true }).countAud p 5 1).notice 0x0C82
    [itemN 1 1 p, itemN 2 4 s.raster.frame.toNat]

/-- Samples of a block record, sample-major. -/
def blockSamples (bs : List Byte) : List (List Int) :=
  let n := leNat ((bs.drop 12).take 2)
  let ch := (bs.getD 14 0).toNat
  (List.range n).map fun i => (List.range ch).map fun k => leInt ((bs.drop (48 + 4 * (i * ch + k))).take 4)

/-- PLAYOUT_BLOCK_PLAY: late blocks are discarded, a block whose FIRST is this sample plays, and none is an underrun
(R367). PRESUMED, unsafe (log entry 47): channel status from AES3. -/
def playoutLoop (p : Nat) : Nat → State → State
  | 0, s => s
  | fuel + 1, s =>
    let x := s.audPort p
    let h : Handle := BitVec.ofNat 32 x.cfg.playout
    match (s.unread h (0x0C00 + p)).head?, s.readerOf h (0x0C00 + p) with
    | some e, some k =>
      let bs := s.entryBytes h e
      if leNat (bs.take 2) ≠ 0x0C01 then playoutLoop p fuel (s.ringRelease h k e.len)
      else
        let first := Clk.units (clkOf ((bs.drop 16).take 12))
        let now := Clk.units s.raster.clock
        if first < now then playoutLoop p fuel ((s.ringRelease h k e.len).countAud p 6 1)
        else if now + 65536 * 1000000000 / rateHz x.cfg.rate ≤ first then s.underrun p
        else
          let rows := blockSamples bs
          let slots := if p < 4 then x.cfg.slots else 2
          let out := (indexed rows).map fun nr => (List.range slots).map fun j =>
            let ch := x.cfg.outMap.getD j 255
            gateSample (decide (6 ≤ p)) ((x.gates.getD j {}).at nr.1) (if ch = 255 then 0 else nr.2.getD ch 0)
          ((s.ringRelease h k e.len).send (.audio p 0 out)).onAudPort p fun y =>
            { y with underrun := false, gates := y.gates.map Gate.fresh }
    | _, _ => s.underrun p

def playoutBlockPlay (p : Nat) (s : State) : State :=
  let x := s.audPort p
  if !s.isOutput p || !x.running || x.cfg.outSource ≠ 4 then s
  else playoutLoop p ((s.unread (BitVec.ofNat 32 x.cfg.playout) (0x0C00 + p)).length + 1) s

/-! ## Gated changes (R363) -/

/-- Applies the change that waits at a target; answers whether one did. A channel of an unlocked port starts only after its relock. -/
def State.gateNow (g : GateTarget) (s : State) : Bool × State :=
  match g with
  | .captureChannel c ch =>
    let x := s.capture c
    let mute := ((x.channels[ch]?).any fun pk => (s.audPort pk.1).unlocked) && (x.gates[ch]?).any fun g => g.phase == .starting
    let waits := !mute && (x.gates[ch]?).any Gate.waits
    let n := s.sampleNow c
    if waits then (true, (s.onCapture c fun x => { x with gates := modAt x.gates ch (Gate.apply n) }).captureSettle c) else (false, s)
  | .outputSlot p k =>
    let waits := (s.audPort p).running && ((s.audPort p).gates[k]?).any Gate.waits
    if waits then (true, (s.onAudPort p fun x => { x with gates := modAt x.gates k (Gate.apply 0) }).outputSettle p) else (false, s)

/-- GATED_CHANGE_APPLY. DESIGN CHOICE, unsafe (log entry 48): form of AUD_GAIN_SET, direction of a slip. -/
def gatedChangeApply (g : GateTarget) (s : State) : State := (s.gateNow g).2

/-- GATE_TIMEOUT: the change applies all the same and is counted. -/
def gateTimeout (g : GateTarget) (s : State) : State :=
  let (did, s) := s.gateNow g
  if did then s.onAudio fun a => { a with cntGate := a.cntGate + 1 } else s

/-! ## Slips and lock (R357, R361) -/

/-- A slip at sample `index` of a retimed port: a drop or a repeat, which the spec leaves to the two clocks. DESIGN
CHOICE, unsafe (log entry 48): form of AUD_GAIN_SET, direction of a slip. -/
def State.slip (p index : Nat) (s : State) : State :=
  let (d, s) := s.draw
  let drop := Config.freeNat d % 2 = 0
  let s := (s.onAudPort p fun x => { x with fill := if drop then 11 else 5 }).countAud p 0 1
  (List.range 4).foldl (fun s c =>
    let x := s.capture c
    if x.running && x.masks.getD p 0 != 0 then
      s.onCapture c fun x => { x with flags := x.flags ||| (if drop then 1 else 2), slipIndex := index }
    else s) s

/-- Whether a port can slip: its clock is not the lead's of the capture that names it, nor that of what it plays. -/
def State.retimed (p : Nat) (s : State) : Bool :=
  let clk (q : Nat) : Nat := (s.audPort q).cfg.clock
  let differs (lead : Nat) : Bool := if lead = 255 then clk p != 0 else p != lead && (clk p == 2 || clk p != clk lead)
  if s.isInput p then s.audio.captures.any fun c => c.running && c.masks.getD p 0 != 0 && differs c.lead
  else (s.audPort p).running && (s.audio.captures[(s.audPort p).cfg.outSource]?).any fun c => differs c.lead

/-- SLIP_APPLY. -/
def slipApply (p index : Nat) (s : State) : State := if s.retimed p then s.slip p index else s

/-- SLIP_FORCED. -/
def slipForced (p index : Nat) (s : State) : State := if s.retimed p then (s.slip p index).countAud p 1 1 else s

/-- Changes the gates of every channel that a port gives to the running captures. -/
def State.onPortGates (p : Nat) (f : Nat → Gate → Gate) (s : State) : State :=
  (List.range 4).foldl (fun s c =>
    let x := s.capture c
    if !x.running then s
    else
      let n := s.sampleNow c
      s.onCapture c fun x => { x with gates := x.gates.zipIdx.map fun gk =>
        if ((x.channels[gk.2]?).map (·.1)) == some p then f n gk.1 else gk.1 }) s

/-- AUDIO_LOCK_LOSS: the port's channels read 0, and blocks carry UNLOCKED. -/
def audioLockLoss (p : Nat) (s : State) : State :=
  let x := s.audPort p
  if !s.isInput p || x.cfg.clock ≠ 2 || !x.locked then s
  else
    let s := (s.onAudPort p fun x => { x with locked := false }).countAud p 2 1
    let s := s.onPortGates p fun n g => { g with steps := g.steps ++ [(n, false, g.gain)] }
    let s := (List.range 4).foldl (fun s c =>
      if (s.capture c).running && (s.capture c).masks.getD p 0 != 0 then
        s.onCapture c fun x => { x with flags := x.flags ||| 64 } else s) s
    s.notice 0x0C80 [itemN 1 1 p, itemN 2 1 0, itemN 3 4 s.raster.frame.toNat]

/-- AUDIO_RELOCK: its channels rejoin as at a start. -/
def audioRelock (p : Nat) (s : State) : State :=
  let x := s.audPort p
  if !s.isInput p || x.cfg.clock ≠ 2 || x.locked then s
  else
    let s := s.onAudPort p fun x => { x with locked := true, fill := 8 }
    let s := s.onPortGates p fun n g =>
      if g.phase == .passing || g.phase == .starting then ({ g with phase := .starting } : Gate).step n else g
    s.notice 0x0C80 [itemN 1 1 p, itemN 2 1 1, itemN 3 4 s.raster.frame.toNat]

/-! ## AES3 channel status (R368) -/

/-- One bit of the CRCC of IEC 60958-4: x^8 + x^4 + x^3 + x^2 + 1, least significant bit first. -/
def crccBit (c : BitVec 8) : BitVec 8 := if c.getLsbD 0 then (c >>> 1) ^^^ 0xB8#8 else c >>> 1

/-- The CRCC of channel status bytes 0 to 22; it starts from all ones. PRESUMED, unsafe (log entry 47): channel status
from AES3. -/
def crcc (bs : List Byte) : Byte :=
  bs.foldl (fun (c : BitVec 8) b => crccBit (crccBit (crccBit (crccBit (crccBit (crccBit (crccBit (crccBit (c ^^^ b)))))))))
    (0xFF : BitVec 8)

/-- CS_BLOCK_RECEIVED: a block whose CRCC fails is counted and not published. -/
def csBlockReceived (p : Nat) (status : List Byte) (parityErrors : Nat) (s : State) : State :=
  if p ≠ 4 ∧ p ≠ 5 ∨ status.length ≠ 24 then s
  else
    let s := s.countAud p 4 parityErrors
    if crcc (status.take 23) == status.getD 23 0 then s.onAudPort p fun x => { x with status } else s.countAud p 3 1

/-! ## Frames and counters -/

/-- Starts and stops that wait for the frame act now: starts after stops, and a stop of the same frame wins (R41, R369). -/
def State.audFrameStart (s : State) : State :=
  let due (f : Option Frame) : Bool := f.any fun x => s.expired x
  let s := (List.range 4).foldl (fun s c =>
    let x := s.capture c
    let s := if due x.startAt then (s.captureBegin c).onCapture c fun y => { y with startAt := none } else s
    if due x.stopAt then (s.captureStop c).onCapture c fun y => { y with stopAt := none } else s) s
  (List.range 8).foldl (fun s p =>
    let x := s.audPort p
    let s := if due x.startAt then (s.outputBegin p).onAudPort p fun y => { y with startAt := none } else s
    if due x.stopAt then (s.outputStop p).onAudPort p fun y => { y with stopAt := none } else s) s

/-- The raster cuts a frame: the next block on the raster timebase carries CUT (R356). -/
def State.audCut (s : State) : State :=
  s.onAudio fun a => { a with captures := a.captures.map fun c => if c.running && c.lead == 255 then { c with cutNext := true } else c }

/-- Clears counters of the ports and captures in the masks (R369, R371). -/
def clearAud (ports caps : Nat) (gate : Bool) (s : State) : State :=
  s.onAudio fun a =>
    { a with ports := (indexed a.ports).map fun px => if ports.testBit px.1 then { px.2 with cnt := clearAll px.2.cnt } else px.2
             captures := (indexed a.captures).map fun cx => if caps.testBit cx.1 then { cx.2 with cnt := clearAll cx.2.cnt } else cx.2
             cntGate := if gate then 0 else a.cntGate }

end Sys2Proof.Machine
end

