-- ==== Sys2Proof/Machine/Inflate.lean ====
section
/-!
DEFINITION. A decoder of raw DEFLATE streams (R252, R262) under RFC 1951, which the spec names and does not restate.
PRESUMED: written from that standard; a set of code lengths that is not complete is taken as invalid, but for one code of length
1, and for a block without distance codes.
-/

namespace Sys2Proof.Machine

/-- Why a stream's decoding stopped before its final block ended: it is invalid, or it has run out. -/
inductive InflateStop where
  | invalid | short
deriving DecidableEq, Repr

/-- The bits of a stream, in the order they are taken. -/
def streamBits (bs : List Byte) : List Bool := bs.flatMap fun b => (List.range 8).map b.getLsbD

/-- A number of `n` bits, lowest first, and the bits after it. -/
def bitsNum : Nat → List Bool → Except InflateStop (Nat × List Bool)
  | 0, bs => .ok (0, bs)
  | _ + 1, [] => .error .short
  | n + 1, b :: bs =>
    match bitsNum n bs with
    | .ok (v, rest) => .ok (b.toNat + 2 * v, rest)
    | .error e => .error e

/-- A canonical prefix code: how many codes each length 1 to 15 has, and the symbols in code order. -/
structure PrefixCode where
  counts : List Nat
  symbols : List Nat

/-- The code of a list of lengths, by symbol; 0 = the symbol is not used. -/
def prefixCode (lens : List Nat) : PrefixCode :=
  { counts := (List.range 15).map fun l => lens.count (l + 1)
    symbols := (List.range 15).flatMap fun l => (lens.zipIdx.filter fun x => x.1 == l + 1).map (·.2) }

/-- Codes left unused by a set of lengths, negative when there are too many. -/
def PrefixCode.left (p : PrefixCode) : Int := p.counts.foldl (fun (n : Int) (c : Nat) => 2 * n - c) 1

/-- Whether some length takes more codes than are left. -/
def PrefixCode.overfull (p : PrefixCode) : Bool :=
  (p.counts.foldl (fun (a : Int × Bool) (c : Nat) => (2 * a.1 - c, a.2 || decide (2 * a.1 - c < 0))) (1, false)).2

/-- Whether a set of lengths may stand: complete, or one code of length 1 alone, or, when `empty`, none. -/
def PrefixCode.stands (empty : Bool) (p : PrefixCode) : Bool :=
  !p.overfull && (p.left == 0 || (p.symbols.length == 1 && p.counts.headD 0 == 1) || (empty && p.symbols.isEmpty))

/-- The next symbol of a stream under a code. -/
def nextSymbol (syms : List Nat) : List Nat → Nat → Nat → Nat → List Bool → Except InflateStop (Nat × List Bool)
  | [], _, _, _, _ => .error .invalid
  | _ :: _, _, _, _, [] => .error .short
  | c :: cs, code, first, index, b :: bs =>
    let code := 2 * code + b.toNat
    if code < first + c then
      match syms[index + (code - first)]? with
      | some s => .ok (s, bs)
      | none => .error .invalid
    else nextSymbol syms cs code (2 * (first + c)) (index + c) bs

def PrefixCode.next (p : PrefixCode) (bs : List Bool) : Except InflateStop (Nat × List Bool) :=
  nextSymbol p.symbols p.counts 0 0 0 bs

/-- The lengths of symbols 257 to 285: the base and the bits that follow. -/
def lengthBase : List (Nat × Nat) :=
  [(3, 0), (4, 0), (5, 0), (6, 0), (7, 0), (8, 0), (9, 0), (10, 0), (11, 1), (13, 1), (15, 1), (17, 1), (19, 2), (23, 2), (27, 2),
   (31, 2), (35, 3), (43, 3), (51, 3), (59, 3), (67, 4), (83, 4), (99, 4), (115, 4), (131, 5), (163, 5), (195, 5), (227, 5), (258, 0)]

/-- The distances of codes 0 to 29. -/
def distBase : List (Nat × Nat) :=
  [(1, 0), (2, 0), (3, 0), (4, 0), (5, 1), (7, 1), (9, 2), (13, 2), (17, 3), (25, 3), (33, 4), (49, 4), (65, 5), (97, 5), (129, 6),
   (193, 6), (257, 7), (385, 7), (513, 8), (769, 8), (1025, 9), (1537, 9), (2049, 10), (3073, 10), (4097, 11), (6145, 11),
   (8193, 12), (12289, 12), (16385, 13), (24577, 13)]

/-- Copies `n` bytes from `d` back; the output stands newest first. -/
def copyBack (d : Nat) : Nat → List Byte → List Byte
  | 0, out => out
  | n + 1, out => copyBack d n (out.getD (d - 1) 0 :: out)

/-- What decoding has come to: the output, newest first with the preset history behind it, and the rest of the stream or
why it stopped. -/
abbrev Inflated := List Byte × Except InflateStop (List Bool)

/-- A length and a distance after the symbol `sym`. -/
def lengthAndDistance (dist : PrefixCode) (sym : Nat) (bs : List Bool) : Except InflateStop (Nat × Nat × List Bool) :=
  match lengthBase[sym - 257]? with
  | none => .error .invalid
  | some (lb, lx) => do
    let (le, bs) ← bitsNum lx bs
    let (ds, bs) ← dist.next bs
    match distBase[ds]? with
    | none => .error .invalid
    | some (db, dx) => do
      let (de, bs) ← bitsNum dx bs
      .ok (lb + le, db + de, bs)

/-- The symbols of one block up to its end. -/
def inflateBlock (lit dist : PrefixCode) : Nat → List Bool → List Byte → Inflated
  | 0, _, out => (out, .error .short)
  | n + 1, bs, out =>
    match lit.next bs with
    | .error e => (out, .error e)
    | .ok (sym, bs) =>
      if sym < 256 then inflateBlock lit dist n bs (BitVec.ofNat 8 sym :: out)
      else if sym = 256 then (out, .ok bs)
      else match lengthAndDistance dist sym bs with
        | .error e => (out, .error e)
        | .ok (len, d, bs) =>
          if out.length < d then (out, .error .invalid) else inflateBlock lit dist n bs (copyBack d len out)

/-- The code lengths of a dynamic block: `n` still to come, those that stand newest first. -/
def codeLengths (p : PrefixCode) : Nat → Nat → List Bool → List Nat → Except InflateStop (List Nat × List Bool)
  | 0, _, _, _ => .error .short
  | fuel + 1, n, bs, acc =>
    if n = 0 then .ok (acc.reverse, bs)
    else do
      let (sym, bs) ← p.next bs
      if sym < 16 then codeLengths p fuel (n - 1) bs (sym :: acc)
      else do
        let (x, bs) ← bitsNum (if sym = 16 then 2 else if sym = 17 then 3 else 7) bs
        let k := x + (if sym = 18 then 11 else 3)
        if n < k ∨ (sym = 16 ∧ acc = []) then .error .invalid
        else codeLengths p fuel (n - k) bs (List.replicate k (if sym = 16 then acc.headD 0 else 0) ++ acc)

/-- The order in which the lengths of the code length code come. -/
def lengthOrder : List Nat := [16, 17, 18, 0, 8, 7, 9, 6, 10, 5, 11, 4, 12, 3, 13, 2, 14, 1, 15]

/-- `n` numbers of 3 bits. -/
def threes : Nat → List Bool → Except InflateStop (List Nat × List Bool)
  | 0, bs => .ok ([], bs)
  | n + 1, bs => do
    let (v, bs) ← bitsNum 3 bs
    let (vs, bs) ← threes n bs
    .ok (v :: vs, bs)

/-- The two codes of a dynamic block. -/
def dynamicCodes (bs : List Bool) : Except InflateStop (PrefixCode × PrefixCode × List Bool) := do
  let (hlit, bs) ← bitsNum 5 bs
  let (hdist, bs) ← bitsNum 5 bs
  let (hclen, bs) ← bitsNum 4 bs
  let (cl, bs) ← threes (hclen + 4) bs
  let lens := (List.range 19).map fun s => ((cl.zip lengthOrder).find? fun x => x.2 == s).elim 0 (·.1)
  let p := prefixCode lens
  if 29 < hlit ∨ p.overfull ∨ p.left ≠ 0 then .error .invalid
  else do
    let n := hlit + 257 + hdist + 1
    let (all, bs) ← codeLengths p (n + 1) n bs []
    let lit := prefixCode (all.take (hlit + 257))
    let dist := prefixCode (all.drop (hlit + 257))
    if all.getD 256 0 = 0 ∨ !lit.stands false ∨ !dist.stands true then .error .invalid
    else .ok (lit, dist, bs)

/-- The two codes of a block without its own. -/
def fixedCodes : PrefixCode × PrefixCode :=
  (prefixCode (List.replicate 144 8 ++ List.replicate 112 9 ++ List.replicate 24 7 ++ List.replicate 8 8),
    prefixCode (List.replicate 32 5))

/-- `n` stored bytes. -/
def storedBytes : Nat → List Bool → List Byte → Inflated
  | 0, bs, out => (out, .ok bs)
  | n + 1, bs, out =>
    match bitsNum 8 bs with
    | .error e => (out, .error e)
    | .ok (v, bs) => storedBytes n bs (BitVec.ofNat 8 v :: out)

/-- A stored block, from the next byte boundary on: LEN, its complement, and the bytes. -/
def inflateStored (bs : List Bool) (out : List Byte) : Inflated :=
  match bitsNum 16 (bs.drop (bs.length % 8)) with
  | .error e => (out, .error e)
  | .ok (len, bs) =>
    match bitsNum 16 bs with
    | .error e => (out, .error e)
    | .ok (inv, bs) => if len + inv ≠ 65535 then (out, .error .invalid) else storedBytes len bs out

/-- Blocks up to the final one. -/
def inflateBlocks : Nat → List Bool → List Byte → Inflated
  | 0, _, out => (out, .error .short)
  | n + 1, bs, out =>
    match bitsNum 1 bs with
    | .error e => (out, .error e)
    | .ok (final, bs) =>
      match bitsNum 2 bs with
      | .error e => (out, .error e)
      | .ok (ty, bs) =>
        let r : Inflated :=
          if ty = 0 then inflateStored bs out
          else if ty = 1 then inflateBlock fixedCodes.1 fixedCodes.2 (bs.length + 1) bs out
          else if ty = 2 then
            match dynamicCodes bs with
            | .error e => (out, .error e)
            | .ok (lit, dist, bs) => inflateBlock lit dist (bs.length + 1) bs out
          else (out, .error .invalid)
        match r with
        | (out, .ok bs) => if final = 1 then (out, .ok bs) else inflateBlocks n bs out
        | bad => bad

/-- Decodes a stream after a preset history: the bytes it gives, whether it is valid, and whether its final block ended.
PRESUMED, unsafe (log entry 12): RFC 1951 is presumed. -/
def inflate (hist stream : List Byte) : List Byte × Bool × Bool :=
  let bits := streamBits stream
  match inflateBlocks (bits.length + 1) bits hist.reverse with
  | (out, .ok _) => ((out.take (out.length - hist.length)).reverse, true, true)
  | (out, .error .short) => ((out.take (out.length - hist.length)).reverse, true, false)
  | (out, .error .invalid) => ((out.take (out.length - hist.length)).reverse, false, false)

end Sys2Proof.Machine
end

