-- ==== Sys2Proof/Machine/IntakePixels.lean ====
section
/-!
DEFINITION. From sensor codes to corrected linear samples: unpacking, concealment, linearisation, merge and defect
correction (05_sensor_intake.md, R108, R119, R127 to R129).
-/

namespace Sys2Proof.Machine

/-- LENGTH of a line packet's payload (R108). -/
def packetLength (width bits : Nat) : Nat := ceilDiv (width * bits) 32 * 4

/-- Sample `i` of a packed payload (R108). -/
def unpack (payload : List Byte) (bits width : Nat) : List Nat :=
  let n := leNat payload
  (List.range width).map fun i => n / 2 ^ (bits * i) % 2 ^ bits

/-- Row and column parity select the array position, 0 = TL to 3 = BR; in monochrome every sample is TL (R103). -/
def arrayPos (cfa row col : Nat) : Nat := if cfa = 4 then 0 else 2 * (row % 2) + col % 2

/-- Spacing of rows and columns of one colour phase (R103). -/
def phaseStep (cfa : Nat) : Nat := if cfa = 4 then 1 else 2

/-- Knot n of a curve: `n · 2^13` where none was written (R127). -/
def Curve.knot (k : Curve) (n : Nat) : Int := k.knots.getD n ((n * 8192 : Nat) : Int)

/-- The curve's value for a code of `bits` bits (R127). -/
def Curve.at (k : Curve) (bits c : Nat) : Int :=
  let sh := bits - 10
  let n := c / 2 ^ sh
  let f := c % 2 ^ sh
  satL40 (roundDiv (k.knot n * 2 ^ sh + (k.knot (n + 1) - k.knot n) * f) (2 ^ sh))

/-- The linear value of a code: `y(c) - y(BLACK_CODE)` (R127). -/
def Curve.linear (k : Curve) (bits c : Nat) : Int := satL40 (k.at bits c - k.at bits k.black)

/-- Linear samples of one row of one exposure. -/
def lineariseRow (curves : List Curve) (cfa bits row : Nat) (codes : List Nat) : List Int :=
  codes.zipIdx.map fun ci => (curves.getD (arrayPos cfa row ci.2) {}).linear bits ci.1

/-- The scaled exposure `s_e` (R128). -/
def scaleExp (m : MergeConfig) (e : Nat) (v : Int) : Int := satL40 (roundDiv ((m.gain.getD e 0 : Nat) * v) 65536)

/-- The weight `w_e`, Q0.16 from 0 to 65,536 (R128). -/
def mergeWeight (m : MergeConfig) (e : Nat) (v : Int) : Int :=
  let d : Nat := 2 ^ m.ws.getD e 0
  sat 0 65536 (roundDiv (65536 * (m.knee.getD e 0 + (d : Int) - v)) d)

/-- The merge of one pixel's exposures, index 0 the longest (R128). -/
def mergePixel (m : MergeConfig) (vs : List Int) : Int :=
  match (vs.zipIdx.map fun ve => (ve.2, ve.1)).reverse with
  | [] => 0
  | (e, v) :: rest =>
    rest.foldl (fun acc ev =>
      satL40 (acc + roundDiv (mergeWeight m ev.1 ev.2 * (scaleExp m ev.1 ev.2 - acc)) 65536)) (scaleExp m e v)

/-- The merged row of several exposures' linear rows. -/
def mergeRow (m : MergeConfig) (rows : List (List Int)) : List Int :=
  (List.range ((rows.headD []).length)).map fun i => mergePixel m (rows.map fun r => r.getD i 0)

/-- The exposure tag of a pixel (R145): the smallest exposure whose weight is at least one half, else the shortest. -/
def exposureTag (m : MergeConfig) (vs : List Int) : Nat :=
  (((vs.zipIdx.take (vs.length - 1)).find? fun ve => decide (32768 ≤ mergeWeight m ve.2 ve.1)).map (·.2)).getD (vs.length - 1)

/-- The tags of a row. -/
def tagRow (m : MergeConfig) (rows : List (List Int)) : List Nat :=
  (List.range ((rows.headD []).length)).map fun i => exposureTag m (rows.map fun r => r.getD i 0)

/-! ## Defect correction (R129) -/

/-- Whether a sample stands in the static list: X in [15:0], Y in [31:16]. -/
def DefectConfig.listed (d : DefectConfig) (row col : Nat) : Bool := d.static.contains (row * 65536 + col)

/-- The four nearest neighbours of the same position: left, right, above, below; as row and column. -/
def near4 (st h w row col : Nat) : List (Nat × Nat) :=
  [(row, stepAt st w col (-1)), (row, stepAt st w col 1), (stepAt st h row (-1), col), (stepAt st h row 1, col)]

/-- The eight neighbours of the same position in the window. -/
def near8 (st h w row col : Nat) : List (Nat × Nat) :=
  ([-1, 0, 1] : List Int).flatMap fun dy => ([-1, 0, 1] : List Int).filterMap fun dx =>
    if dy = 0 ∧ dx = 0 then none else some (stepAt st h row dy, stepAt st w col dx)

/-- One corrected sample, and whether the dynamic correction replaced it. `p` holds the values before correction. -/
def correctPixel (d : DefectConfig) (cfa : Nat) (p : List (List Int)) (row col : Nat) : Int × Bool :=
  let st := phaseStep cfa
  let h := p.length
  let w := (p.headD []).length
  let v := px p row col
  let four := (near4 st h w row col).filter fun rc => !d.listed rc.1 rc.2
  let vals := four.map fun rc => px p rc.1 rc.2
  if d.listed row col then
    (if vals.isEmpty then v else roundDiv vals.sum vals.length, false)
  else if d.dynamic ≠ 1 then (v, false)
  else
    match ((near8 st h w row col).filter fun rc => !d.listed rc.1 rc.2).map fun rc => px p rc.1 rc.2 with
    | [] => (v, false)
    | n :: ns =>
      let hi := ns.foldl max n
      let lo := ns.foldl min n
      if hi + d.thresh < v ∨ v < lo - d.thresh then
        if vals.isEmpty then (v, false) else (median4 vals, true)
      else (v, false)

/-- One corrected row, and how many samples the dynamic correction replaced. -/
def correctRow (d : DefectConfig) (cfa : Nat) (p : List (List Int)) (row : Nat) : List Int × Nat :=
  let r := (List.range ((p.headD []).length)).map fun col => correctPixel d cfa p row col
  (r.map (·.1), (r.filter (·.2)).length)

/-! ## Concealment (R119) -/

/-- What a search for a neighbour of a concealed row finds. -/
inductive Neighbour where
  | found (row : Nat) (codes : List Nat)
  | nothing
  /-- a row on the way is not yet settled -/
  | notYet
deriving DecidableEq, Repr

/-- Searches at most `fuel` same-phase rows for one that was received: rows named by `at_`, from `row` by `next`.
Rows outside the kept rows end the search. -/
def searchRow (rows : Nat → Option Row) (next : Nat → Option Nat) : Nat → Nat → Neighbour
  | 0, _ => .nothing
  | fuel + 1, row =>
    match next row with
    | none => .nothing
    | some r =>
      match rows r with
      | none => .nothing
      | some x =>
        match x.status with
        | .received => .found r x.codes
        | .resent => .found r x.codes
        | .missing => .notYet
        | .damaged => .notYet
        | .toConceal => searchRow rows next fuel r
        | .concealed => searchRow rows next fuel r

/-- The codes of a concealed row from its neighbours: interpolated, copied, or black (R119). -/
def concealCodes (black : Nat → Nat) (width row : Nat) (above below : Neighbour) : List Nat :=
  match above, below with
  | .found a xa, .found b xb =>
    (List.range width).map fun i =>
      (roundDiv (((b : Int) - row) * (xa.getD i 0 : Nat) + ((row : Int) - a) * (xb.getD i 0 : Nat)) (b - a)).toNat
  | .found _ xa, _ => xa
  | _, .found _ xb => xb
  | _, _ => (List.range width).map black

/-! ## Frame records (R120) -/

/-- LINE_MAP's two bits for a row. -/
def RowStatus.code : RowStatus → Nat
  | .received => 0
  | .resent => 1
  | .concealed => 2
  | .toConceal => 2
  | .damaged => 3
  | .missing => 3

/-- The row of a frame. -/
def FrameIn.row (f : FrameIn) (r e : Nat) : Option Row := f.rows.find? fun x => x.row == r && x.exposure == e

/-- LINE_MAP: entry k = row × EXPOSURES + exposure, two bits each, padded to 4 bytes (R120). -/
def lineMap (f : FrameIn) : List Byte :=
  let codes := (List.range (f.lines * f.exposures)).map fun k =>
    if f.kept ≤ k / f.exposures then 3
    else ((f.row (k / f.exposures) (k % f.exposures)).map fun x => x.status.code).getD 3
  padTo4 ((List.range (ceilDiv codes.length 4)).map fun i =>
    BitVec.ofNat 8 (codes.getD (4 * i) 0 + 4 * codes.getD (4 * i + 1) 0 + 16 * codes.getD (4 * i + 2) 0 + 64 * codes.getD (4 * i + 3) 0))

end Sys2Proof.Machine
end

