-- ==== Sys2Proof/Machine/Checks.lean ====
section
/-!
DEFINITION. The two cyclic checks that the spec defines bit by bit: CRC-16 with polynomial 0x8BB7 (R88, R111, R277)
and CRC-32C (R109).
-/

namespace Sys2Proof.Machine

/-- One bit of a non-reflected CRC-16 with polynomial 0x8BB7. -/
def crc16Bit (c : BitVec 16) : BitVec 16 :=
  if c.getLsbD 15 then (c <<< 1) ^^^ 0x8BB7#16 else c <<< 1

/-- One byte of it. -/
def crc16Byte (c : BitVec 16) (b : Byte) : BitVec 16 :=
  crc16Bit (crc16Bit (crc16Bit (crc16Bit (crc16Bit (crc16Bit (crc16Bit (crc16Bit (c ^^^ ((b.setWidth 16) <<< 8)))))))))

/-- CRC-16, polynomial 0x8BB7, initial value 0, not reflected. -/
def crc16 (bs : List Byte) : BitVec 16 := bs.foldl crc16Byte 0

/-- One bit of the reflected CRC-32C. -/
def crc32cBit (c : BitVec 32) : BitVec 32 :=
  if c.getLsbD 0 then (c >>> 1) ^^^ 0x82F63B78#32 else c >>> 1

/-- One byte of it. -/
def crc32cByte (c : BitVec 32) (b : Byte) : BitVec 32 :=
  crc32cBit (crc32cBit (crc32cBit (crc32cBit (crc32cBit (crc32cBit (crc32cBit (crc32cBit (c ^^^ b.setWidth 32))))))))

/-- CRC-32C: initial value 0xFFFF_FFFF, reflected, final exclusive-or 0xFFFF_FFFF. -/
def crc32c (bs : List Byte) : BitVec 32 := bs.foldl crc32cByte 0xFFFFFFFF ^^^ 0xFFFFFFFF

end Sys2Proof.Machine
end

