-- ==== Sys2Proof/Machine/Sideband.lean ====
section
/-!
DEFINITION. The sensor ports' sideband: requests in order of precedence, one outstanding at a time, and the match of
replies (R111 to R113).
-/

namespace Sys2Proof.Machine

/-- Changes intake source `p` (0 = A, 1 = B, 2 = Replay). -/
def State.onUnit (p : Nat) (f : IntakeUnit → IntakeUnit) (s : State) : State :=
  s.onIntake fun i => { i with units := modAt i.units p f }

/-- Intake source `p`. -/
def State.unit (p : Nat) (s : State) : IntakeUnit := s.intake.units.getD p {}

/-- Adds `n` to counter `k` of intake source `p`. -/
def State.countUnit (p k n : Nat) (s : State) : State := s.onUnit p fun u => { u with cnt := addAt u.cnt k n }

/-- Whether ports A and B are ganged (R102): intake A's MODE is 1. -/
def State.ganged (s : State) : Bool := (s.unit 0).cfg.mode == 1

/-- Precedence of a queued request, lowest first (R113). -/
def Ask.rank : Ask → Nat
  | .mapChange => 0
  | .burst _ => 1
  | .taps _ => 2
  | .resend _ _ _ => 3
  | _ => 4

/-- The queued request that goes next: lowest precedence number, then oldest. -/
def nextAsk (q : List SbRequest) : Option (SbRequest × List SbRequest) :=
  match (List.range 5).findSome? fun k => q.zipIdx.find? fun ri => ri.1.ask.rank == k with
  | some (r, i) => some (r, q.eraseIdx i)
  | none => none

/-- Sends the next queued request when none is outstanding (R113); RESEND messages are counted. -/
def State.sbPump (p : Nat) (s : State) : State :=
  let u := s.unit p
  if u.sbOut.isSome then s
  else match nextAsk u.sbQueue with
    | none => s
    | some (r, rest) =>
      let r := { r with seq := u.sbSeq, resent := false }
      let s := s.onUnit p fun u => { u with sbOut := some r, sbQueue := rest, sbSeq := (u.sbSeq + 1) % 256 }
      let s := if r.ask.rank == 3 then s.countUnit p 2 1 else s
      s.send (.sideband p r.ty r.seq r.payload)

/-- Queues a request and sends it when the pair is free. -/
def State.sbAsk (p ty : Nat) (ask : Ask) (payload : List Byte) (s : State) : State :=
  (s.onUnit p fun u => { u with sbQueue := u.sbQueue ++ [{ ty, ask, payload }] }).sbPump p

/-- The reply types that answer a request type (R112). -/
def sbReplies (ty : Nat) : List Nat :=
  if ty = 0x09 then [0x89, 0x8A] else if ty = 0x0A then [0x8B] else if ty = 0x0B then [0x8C] else [0x80 + ty]

/-- Takes a reply: one that fails CHECK is ignored and counted, one that answers nothing is ignored; one that answers
the outstanding request frees the pair. -/
def State.sbTake (p reply : Nat) (h : SbHead) (s : State) : Option SbRequest × State :=
  if !h.ok then (none, s.countUnit p 15 1)
  else match (s.unit p).sbOut with
    | none => (none, s)
    | some r =>
      if r.seq == h.seq && (sbReplies r.ty).contains reply then
        (some r, s.onUnit p fun u => { u with sbOut := none, answering := true })
      else (none, s)

/-- One request with four bytes per lane and setting, as TAP_REQUEST and BURST_REQUEST carry them. -/
def tapBytes (lane : Nat) (t : Taps) : List Byte := toLe 1 lane ++ toLe 1 t.pre ++ toLe 1 t.main ++ toLe 1 t.post

/-! ## Tabsout links, as the lanes reach them -/

def State.treePort (t : Nat) (s : State) : TreePort := s.tree.ports.getD t {}

def State.onTreePort (t : Nat) (f : TreePort → TreePort) (s : State) : State :=
  s.onTree fun r => { r with ports := modAt r.ports t f }

/-- One flit leaves a port; it carries the current ACK (R395, R397). -/
def State.sendFlit (t : Nat) (seq : Option (BitVec 12)) (f : Flit) (s : State) : State :=
  (s.send (.flit t seq (s.treePort t).rxSeq f)).onTreePort t fun p => { p with ackDue := false }

/-- Sends an unsequenced flit (R396). -/
def State.sendUnseq (t : Nat) (f : Flit) (s : State) : State := s.sendFlit t none f

/-- The first flit that waits of the class that a transmitter chooses first (R396), with the rest. -/
def nextFlit (fs : List Flit) : Option (Flit × List Flit) :=
  [FlitClass.bell, .control, .event, .bulk].findSome? fun c =>
    (fs.findIdx? fun f => f.cls == c).bind fun i => (fs[i]?).map fun f => (f, fs.eraseIdx i)

/-- Sends what waits while fewer than 64 sequenced flits are unacknowledged (R397); the fuel is their number. -/
def State.txPump (t : Nat) : Nat → State → State
  | 0, s => s
  | n + 1, s =>
    let p := s.treePort t
    if 64 ≤ p.unacked.length then s
    else match nextFlit p.waiting with
      | none => s
      | some (f, rest) =>
        State.txPump t n ((s.onTreePort t fun p =>
          { p with waiting := rest, unacked := p.unacked ++ [(p.txSeq, f)], txSeq := p.txSeq + 1 }).sendFlit t (some p.txSeq) f)

/-- Sends a sequenced flit. A blocked port carries only LINK flits, and the standby link TIME and LINK flits (R403,
R410). -/
def State.sendSeq (t : Nat) (f : Flit) (s : State) : State :=
  let p := s.treePort t
  if !p.up || p.use == .blocked || p.use == .standby then s
  else (s.onTreePort t fun p => { p with waiting := p.waiting ++ [f] }).txPump t (p.waiting.length + 1)

/-- The link version that stepping A2 lists: 1.0 (R394). -/
def linkVersions : List Nat := [0x0100]

/-- The LINK EXCHANGE flit of this device (R394). DESIGN CHOICE, unsafe (log entry 50): bundles after a failure, SEQ at
link up, EXCHANGE FLAGS. -/
def State.exchangeFlit (s : State) : Flit :=
  { cls := .link, route := .link, dest := 0, src := s.node
    body := .exchange linkVersions Config.serial.toNat s.tree.cfg.role 2 }

/-- The link's exchange begins: EXCHANGE flits go out until the partner's arrives (R394). DESIGN CHOICE, unsafe (log entry
50): bundles after a failure, SEQ at link up, EXCHANGE FLAGS. -/
def State.linkExchange (t : Nat) (s : State) : State :=
  (s.onTreePort t fun p => { p with exchanging := true }).sendUnseq t (s.exchangeFlit)

/-- A break in a ring, as a member sees it (R410): with its upstream lost it sends HEAL on its downstream port and turns
the two round; with its downstream lost it tells the head. -/
def State.ringBreak (t : Nat) (s : State) : State :=
  let r := s.tree
  if r.cfg.topology ≠ 1 ∨ r.cfg.role ≠ 2 ∨ r.nodeId.isNone then s
  else
    let down := (List.range 4).find? fun q => (s.treePort q).use == .downstream
    if r.upstream = some t then
      match down with
      | none => s
      | some d =>
        ((s.sendUnseq d { cls := .link, route := .link, dest := 0, src := s.node, body := .heal s.node }).onTreePort d
          fun p => { p with use := .upstream, range := none }).onTree fun r => { r with upstream := some d }
    else if down = some t then
      match r.upstream with
      | none => s
      | some u => s.sendSeq u { cls := .control, route := .up, dest := 0, src := s.node, body := .loss s.node }
    else s

/-- A link goes down (R399): its unacknowledged flits are discarded, TBLp_CNT_DOWN counts it, TBL_LINK is sent and the
fault log takes an entry (R462); in a ring it is a break. -/
def State.linkDown (t : Nat) (s : State) : State :=
  let p := s.treePort t
  if !p.up then s
  else
    let s := s.onTreePort t fun p =>
      { p with up := false, exchanging := false, unacked := [], waiting := [], fruitless := 0, replaying := false, ackDue := false
               nakSent := false, cnt := addAt p.cnt 2 1 }
    let s := (s.notice 0x0E81 [itemN 1 1 t, itemN 2 1 0, itemN 3 2 p.version]).faultLog 0x03 (0x0E00 + t) t
    (s.ringBreak t).onTreePort t fun p => { p with use := .none }

end Sys2Proof.Machine
end

