-- ==== Sys2Proof/Machine/LaneOps.lean ====
section
/-!
DEFINITION. The lane layer: bring-up, equalisation, fast retraining, spares and loops (04_serial_lanes.md).
-/

namespace Sys2Proof.Machine

/-! ## Lanes and ports -/

/-- The port that lane macro `ln` belongs to (R82, R84): 0 = A, 1 = B, 2 + t = Tabsout t. -/
def State.portOf (ln : Nat) (s : State) : Nat :=
  if ln < 32 then 0 else if ln < 64 then (if s.ganged then 0 else 1) else 2 + (ln - 64) / 4

/-- The physical lane number of macro `ln` within its port. -/
def State.localOf (ln : Nat) (s : State) : Nat :=
  if ln < 32 then ln else if ln < 64 then (if s.ganged then ln else ln - 32) else (ln - 64) % 4

/-- The macro of physical lane `k` of port `p`. -/
def macroOf (p k : Nat) : Nat := if p = 0 then k else if p = 1 then 32 + k else 64 + 4 * (p - 2) + k

/-- How many physical lanes port `p` has. -/
def State.laneCount (p : Nat) (s : State) : Nat :=
  if p < 2 then (if s.ganged then (if p = 0 then 64 else 0) else 32) else 4

def State.lane (ln : Nat) (s : State) : Lane := s.lanes.lanes.getD ln {}
def State.lanePort (p : Nat) (s : State) : LanePort := s.lanes.ports.getD p {}

def State.onLane (ln : Nat) (f : Lane → Lane) (s : State) : State :=
  s.onLanes fun l => { l with lanes := modAt l.lanes ln f }

def State.onLanePort (p : Nat) (f : LanePort → LanePort) (s : State) : State :=
  s.onLanes fun l => { l with ports := modAt l.ports p f }

/-- Macros of port `p`, in ascending order. -/
def State.macros (p : Nat) (s : State) : List Nat := (List.range (s.laneCount p)).map (macroOf p)

/-- Number of logical lanes: the lanes enabled in LANE_ENABLE. -/
def State.width (p : Nat) (s : State) : Nat :=
  ((List.range (s.laneCount p)).filter fun k => (s.lanePort p).cfg.enable.testBit k).length

/-- A lane that transmits: lanes 0 and 1 of a Tabsout port (R82). -/
def transmits (ln : Nat) : Bool := decide (64 ≤ ln) && decide ((ln - 64) % 4 < 2)

/-- The partner lane of R83. -/
def partner (ln : Nat) : Nat :=
  if 64 ≤ ln then (if (ln - 64) % 4 < 2 then ln + 2 else ln - 2) else if ln % 2 = 0 then ln + 1 else ln - 1

/-- Adds `n` to counter `k` of a lane: 0 CODE, 1 LOCK_LOSS, 2 FAST, 3 FULL, 4 FAIL, 5 PRBS_ERR. -/
def State.countLane (ln k n : Nat) (s : State) : State := s.onLane ln fun l => { l with cnt := addAt l.cnt k n }

/-! ## Settings and the search of R91 -/

/-- A setting is valid when PRE + MAIN + POST = 63 and MAIN - PRE - POST ≥ 21 (R89). -/
def Taps.valid (t : Taps) : Bool := t.pre + t.main + t.post == 63 && decide (t.pre + t.post + 21 ≤ t.main)

/-- The presets P0 to P7 of R91. -/
def presets : List Taps :=
  [⟨0, 63, 0⟩, ⟨0, 55, 8⟩, ⟨0, 50, 13⟩, ⟨0, 45, 18⟩, ⟨4, 51, 8⟩, ⟨4, 46, 13⟩, ⟨6, 42, 15⟩, ⟨8, 47, 8⟩]

/-- The neighbours of a setting: 1 unit between MAIN and PRE or between MAIN and POST, either way; only valid ones. DESIGN
CHOICE, unsafe (log entry 28): order within the tap search. -/
def neighbours (t : Taps) : List Taps :=
  let up (a b : Nat) : Bool := decide (1 ≤ a) && decide (b < 63)
  let moves : List (Bool × Taps) :=
    [ (up t.main t.pre, ⟨t.pre + 1, t.main - 1, t.post⟩), (up t.pre t.main, ⟨t.pre - 1, t.main + 1, t.post⟩),
      (up t.main t.post, ⟨t.pre, t.main - 1, t.post + 1⟩), (up t.post t.main, ⟨t.pre, t.main + 1, t.post - 1⟩) ]
  ((moves.filter (·.1)).map (·.2)).filter Taps.valid

/-- The setting that the search asks for next; `none` when it has ended. DESIGN CHOICE, unsafe (log entry 28): order
within the tap search. -/
def Search.next (r : Search) : Option Search :=
  let pass (todo : List Taps) (r : Search) : Option Search :=
    if 72 ≤ r.tried then none
    else match todo with
      | [] => none
      | t :: rest => some { r with cur := t, todo := rest, tried := r.tried + 1, step := .asked false }
  if r.presets then
    match r.todo with
    | t :: rest => some { r with cur := t, todo := rest, tried := r.tried + 1, step := .asked false }
    | [] =>
      match r.best with
      | none => none
      | some (b, _) => pass (neighbours b) { r with presets := false, improved := false }
  else match pass r.todo r with
    | some r' => some r'
    | none =>
      if r.improved then
        match r.best with
        | none => none
        | some (b, _) => pass (neighbours b) { r with improved := false }
      else none

/-- Takes one measurement: a better figure of merit replaces the best, and ties keep the earlier setting. -/
def Search.measured (fom : Nat) (r : Search) : Search :=
  match r.best with
  | none => { r with best := some (r.cur, fom), improved := true }
  | some (_, f) => if f < fom then { r with best := some (r.cur, fom), improved := true } else r

/-- FOM from the number of open points (R90). -/
def fomOf (openPoints : Nat) : Nat := min 255 (openPoints / 16)

/-- Sends a tap request for a lane over its port's reverse channel (R83). -/
def State.askTaps (ln : Nat) (t : Taps) (s : State) : State :=
  let p := s.portOf ln
  if p < 2 then s.sbAsk p 0x03 (.taps [s.localOf ln]) (tapBytes (s.localOf ln) t)
  else s.send (.trainingSet (partner ln) (some t) false false)

/-- Asks for the PRBS31 run of a lane (R93); a request not yet sent takes the lane in. -/
def State.askPrbs (ln : Nat) (s : State) : State :=
  let p := s.portOf ln
  let k := s.localOf ln
  if p < 2 then
    let u := s.unit p
    match u.sbQueue.zipIdx.find? fun ri => match ri.1.ask with | .prbs _ => true | _ => false with
    | some (r, i) =>
      match r.ask with
      | .prbs ks =>
        let r' : SbRequest := { r with ask := .prbs (ks ++ [k]), payload := toLe 8 (leNat r.payload + 2 ^ k) }
        s.onUnit p fun u => { u with sbQueue := u.sbQueue.set i r' }
      | _ => s
    | none => s.sbAsk p 0x0B (.prbs [k]) (toLe 8 (2 ^ k))
  else s.send (.trainingSet (partner ln) none false true)

/-- Moves a search on: the next setting, or the final request of the best one. -/
def State.searchOn (ln : Nat) (r : Search) (s : State) : State :=
  match r.next with
  | some r' => (s.onLane ln fun l => { l with search := some r' }).askTaps ln r'.cur
  | none =>
    match r.best with
    | none => s.onLane ln fun l => { l with search := some { r with todo := [], step := .asked true } }
    | some (b, f) =>
      (s.onLane ln fun l => { l with search := some { r with cur := b, step := .finalAsked false }, fom := f }).askTaps ln b

/-- Starts training (R91, R92): the search, or the fixed request. -/
def State.startTrain (ln : Nat) (s : State) : State :=
  let cfg := (s.lanePort (s.portOf ln)).cfg
  let s := s.onLane ln fun l => { l with phase := .train, locked := false, failCause := .none, search := none }
  if transmits ln then s
  else if cfg.tapMode = 1 then
    let t : Taps := ⟨cfg.fixedPre, cfg.fixedMain, cfg.fixedPost⟩
    (s.onLane ln fun l => { l with search := some { cur := t, todo := [], step := .finalAsked false } }).askTaps ln t
  else s.searchOn ln { cur := {}, todo := presets }

/-- An answer to the outstanding request: the taps that the far transmitter applies, or its rejection. -/
def State.tapsAnswered (ln : Nat) (t : Taps) (reject : Bool) (s : State) : State :=
  let s := s.onLane ln fun l => { l with farTaps := t }
  let l := s.lane ln
  match l.phase, l.search with
  | .train, some r =>
    match r.step with
    | .asked _ =>
      if reject then s.searchOn ln r
      else if t = r.cur then s.onLane ln fun l => { l with search := some { r with step := .measuring } } else s
    | .finalAsked _ =>
      if t = r.cur && !reject then
        let s := s.onLane ln fun l => { l with taps := t }
        if (s.lanePort (s.portOf ln)).cfg.tapMode = 1 then
          s.onLane ln fun l => { l with search := some { r with step := .finalMeasuring } }
        else (s.onLane ln fun l => { l with search := some { r with step := .prbs } }).askPrbs ln
      else s
    | _ => s
  | _, _ => s

/-! ## Failing and mapping -/

/-- The lowest spare in STANDBY of a port. -/
def State.spareOf (p : Nat) (s : State) : Option Nat :=
  (s.macros p).find? fun m => (s.lane m).phase == .standby && !((s.lanePort p).takeovers.any fun t => t.2 == m)

/-- Puts a lane into FAILED (R85); LANE_CNT_FAIL counts it. -/
def State.failLane (ln : Nat) (cause : FailCause) (s : State) : State :=
  (s.onLane ln fun l => { l with phase := .failed, failCause := cause, search := none, locked := false }).countLane ln 4 1

/-- Whether every logical lane of a port has a physical lane that has locked or is beyond LOCK. -/
def State.allLocked (p : Nat) (s : State) : Bool :=
  let ms := (s.macros p).filter fun m => (s.lane m).role == 1
  !ms.isEmpty && ms.all fun m => let l := s.lane m
    (l.phase == .lock && l.locked) || l.phase == .exchange || l.phase == .active || l.phase == .standby

/-- Whether every logical lane of a port is ACTIVE: PORT_UP. -/
def State.portUp (p : Nat) (s : State) : Bool :=
  let ms := (s.macros p).filter fun m => (s.lane m).role == 1
  !ms.isEmpty && ms.all fun m => (s.lane m).phase == .active

/-- The port's exchange begins (R85): on a sensor port CAP_QUERY offering 2.0 goes out (R114). -/
def State.enterExchange (p : Nat) (s : State) : State :=
  let s := (s.macros p).foldl (fun s m =>
    if (s.lane m).role == 1 then s.onLane m fun l => { l with phase := .exchange, locked := false } else s) s
  let worst := ((s.macros p).filter fun m => (s.lane m).role == 1).foldl (fun a m => max a (s.lane m).skew) 0
  let s := s.onLanePort p fun q => { q with maxSkew := worst }
  if p < 2 then
    (s.onUnit p fun u => { u with portState := 2 }).sbAsk p 0x01 .capQuery (toLe 2 0x0200)
  else s.linkExchange (p - 2)

/-- A sensor port that was up goes down: PORT_STATE is bring-up again and INTAKE_PORT_DOWN is sent (R97, R137). -/
def State.portDown (p : Nat) (s : State) : State :=
  if p < 2 ∧ (s.unit p).portState = 3 then
    (s.onUnit p fun u => { u with portState := 1 }).noticeOn 0x0281 [itemN 1 1 p, itemN 2 4 s.raster.frame.toNat] (p == 1)
  else s

/-- INTAKE_PORT_UP (R137). -/
def State.portUpNotice (p : Nat) (s : State) : State :=
  s.noticeOn 0x0280 [itemN 1 1 p, itemN 2 2 (s.unit p).version, itemN 3 1 (s.width p)] (p == 1)

/-- A sensor port whose every logical lane is ACTIVE again delivers data again (R97). -/
def State.portRejoined (p : Nat) (s : State) : State :=
  if p < 2 ∧ (s.unit p).portState = 1 ∧ s.portUp p = true then
    (s.onUnit p fun u => { u with portState := 3 }).portUpNotice p
  else s

/-- Checks whether the port can go on to EXCHANGE, or a lane that rejoins a port already up to ACTIVE. -/
def State.lockedOn (ln : Nat) (s : State) : State :=
  let p := s.portOf ln
  let up := (s.macros p).any fun m => (s.lane m).role == 1 && (s.lane m).phase == .active
  if up then (s.onLane ln fun l => { l with phase := .active, locked := false }).portRejoined p
  else if s.allLocked p then s.enterExchange p else s

/-- A failed bring-up: a logical lane goes to the lowest spare in STANDBY (R87). -/
def State.failBringUp (ln : Nat) (cause : FailCause) (s : State) : State :=
  let p := s.portOf ln
  let l := s.lane ln
  let s := (s.failLane ln cause).onLane ln fun l => { l with fails := l.fails + 1 }
  if l.role ≠ 1 then s
  else match s.spareOf p with
    | none => s
    | some m =>
      let s := s.onLane m fun x => { x with phase := .lock, locked := true, role := 1, logical := l.logical }
      let s := s.onLane ln fun x => { x with role := 3 }
      let s := s.onLanePort p fun q => { q with map := q.map.set l.logical (s.localOf m) }
      s.lockedOn m

/-- Every lane of a port returns to DETECT (R85, R114). -/
def State.portToDetect (p : Nat) (s : State) : State :=
  (s.macros p).foldl (fun s m => let l := s.lane m
    if l.phase == .disabled || l.phase == .loop then s
    else s.onLane m fun l => { l with phase := .detect, locked := false, search := none }) s

/-- The exchange succeeds: the logical lanes become ACTIVE. -/
def State.portToActive (p : Nat) (s : State) : State :=
  (s.macros p).foldl (fun s m =>
    if (s.lane m).phase == .exchange then s.onLane m fun l => { l with phase := .active, fails := 0 } else s) s

/-- Applies LANE_ENABLE, SPARE_MASK, LANE_MAP and LOOP_MODE after a write of lane fields: lanes that are enabled leave
DISABLED for DETECT, lanes that are not go to DISABLED, and LOOP_MODE puts them in or out of LOOP (R84, R85, R99). -/
def State.applyLaneConfig (p : Nat) (s : State) : State :=
  let cfg := (s.lanePort p).cfg
  let w := s.width p
  let s := s.onLanePort p fun q => { q with map := if p < 2 then cfg.map.take w else q.map }
  let s := (s.macros p).foldl (fun s m =>
    let k := s.localOf m
    let logical := if p < 2 then (cfg.map.take w).findIdx? (· == k) else if cfg.enable.testBit k then some (k % 2) else none
    let spare := cfg.spares.testBit k
    if logical.isNone && !spare then s.onLane m fun l => { l with phase := .disabled, role := 0, search := none, tx := false }
    else
      let role := if logical.isSome then 1 else 2
      let s := s.onLane m fun l => { l with role, logical := logical.getD 0
                                            tx := transmits m || (cfg.loopMode == 3 && m < 64 && m % 2 == 1) }
      let l := s.lane m
      if cfg.loopMode ≠ 0 then s.onLane m fun l => { l with phase := .loop, search := none }
      else if l.phase == .loop || l.phase == .disabled then
        s.onLane m fun l => { l with phase := .detect, locked := false, fails := 0 }
      else s) s
  if 2 ≤ p then s
  else
    let s := if s.portUp p then s else s.portDown p
    s.onUnit p fun u => { u with portState := if w = 0 then 0 else if u.portState = 0 then 1 else u.portState }

/-! ## Fast retraining and takeovers (R94 to R98) -/

/-- A fast retrain begins (R95): the stored taps and a burst are asked for over the reverse channel. -/
def State.startFast (ln : Nat) (s : State) : State :=
  let l := s.lane ln
  let p := s.portOf ln
  let s := (s.onLane ln fun l => { l with back := l.phase, phase := .retrain }).countLane ln 2 1
  if p < 2 then s.sbAsk p 0x04 (.burst (s.localOf ln)) (tapBytes (s.localOf ln) l.stored ++ toLe 1 32)
  else s.send (.trainingSet (partner ln) (some l.stored) false false)

/-- The LANE_MAP that a port asks for: its map with every takeover that waits (R96, R97). -/
def State.wantedMap (p : Nat) (s : State) : List Nat :=
  let q := s.lanePort p
  q.takeovers.foldl (fun m t => m.set (s.lane t.1).logical (s.localOf t.2)) q.map

/-- Asks the sensor for the port's new LANE_MAP; a request not yet sent carries every takeover that waits (R97). -/
def State.askMap (p : Nat) (s : State) : State :=
  let payload := (s.wantedMap p).map fun k => BitVec.ofNat 8 k
  let u := s.unit p
  match u.sbQueue.zipIdx.find? fun ri => ri.1.ask == .mapChange with
  | some (r, i) => s.onUnit p fun u => { u with sbQueue := u.sbQueue.set i { r with payload } }
  | none => s.sbAsk p 0x05 .mapChange payload

/-- A fast retrain fails (R95 to R97, R82): a spare takes over when there is one, the far end is SPARE_CAPABLE and
AUTO_SPARE is 1; a Tabsout lane takes its link down. -/
def State.fastFailed (ln : Nat) (s : State) : State :=
  let l := s.lane ln
  let p := s.portOf ln
  let s := s.failLane ln .fast
  if 2 ≤ p then (s.onLane ln fun l => { l with role := 3 }).linkDown (p - 2)
  else if l.back == .standby then s.onLane ln fun l => { l with role := 3 }
  else
    let q := s.lanePort p
    match (if q.cfg.autoSpare = 1 && q.spareCapable then s.spareOf p else none) with
    | some m => (s.onLanePort p fun q => { q with takeovers := q.takeovers ++ [(ln, m)] }).askMap p
    | none => (s.faultLog 0x02 (0x0200 + p) ln).portDown p

/-! ## The lane commands -/

/-- LANE_DETECT_RETRY (R85): the transmitter tries again; the lane stays in DETECT until it senses the termination. -/
def laneDetectRetry (ln : Nat) (s : State) : State :=
  if (s.lane ln).phase == .detect && transmits ln then s.send (.detectPulse ln) else s

/-- RECEIVER_DETECTED (R85): the lane enters TRAIN; a sensor port held after three failed exchanges stays down (R114). -/
def receiverDetected (ln : Nat) (s : State) : State :=
  let p := s.portOf ln
  if (s.lane ln).phase != .detect || (decide (p < 2) && (s.unit p).portState == 4) then s else s.startTrain ln

/-- TRAINING_SET_RECEIVED (R88, R89): a set that fails CHECK is ignored. -/
def trainingSetReceived (ln : Nat) (sy : List Byte) (s : State) : State :=
  if decide (80 ≤ ln) || transmits ln || sy.length ≠ 16 then s else
  let at_ (k : Nat) : Nat := (sy.getD k 0).toNat
  let crc := (crc16 ((sy.drop 1).take 13)).toNat
  if at_ 0 ≠ 0xBC ∨ crc ≠ at_ 14 * 256 + at_ 15 then s else
  let cur : Taps := ⟨at_ 7 % 64, at_ 8 % 64, at_ 9 % 64⟩
  let s := s.tapsAnswered ln cur ((at_ 3).testBit 1)
  if ln < 64 then s else
  let p := s.portOf ln
  let s := s.onLanePort p fun q =>
    { q with spareCapable := (at_ 3).testBit 2, loopCapable := (at_ 3).testBit 3 }
  let tx := partner ln
  let s :=
    if (at_ 3).testBit 0 then
      let want : Taps := ⟨at_ 4 % 64, at_ 5 % 64, at_ 6 % 64⟩
      if want.valid then (s.onLane tx fun l => { l with taps := want }).send (.trainingSet tx none false false)
      else s.send (.trainingSet tx none true false)
    else s
  let s := if (at_ 3).testBit 4 then s.send (.prbsRun tx) else s
  if at_ 1 = 0x45 ∧ (s.lane tx).phase = .train then
    (s.onLane tx fun l => { l with phase := .lock, locked := true }).lockedOn tx
  else s

/-- TAP_REQUEST_TIMEOUT (R91): the request goes out once more; after that the setting is skipped. -/
def tapRequestTimeout (ln : Nat) (s : State) : State :=
  match (s.lane ln).phase, (s.lane ln).search with
  | .train, some r =>
    match r.step with
    | .asked false => (s.onLane ln fun l => { l with search := some { r with step := .asked true } }).askTaps ln r.cur
    | .asked true => s.searchOn ln r
    | .finalAsked false =>
      (s.onLane ln fun l => { l with search := some { r with step := .finalAsked true } }).askTaps ln r.cur
    | _ => s
  | _, _ => s

/-- EQ_MEASURE_DONE (R90, R91): the search takes its next step. -/
def eqMeasureDone (ln openPoints : Nat) (s : State) : State :=
  match (s.lane ln).phase, (s.lane ln).search with
  | .train, some r =>
    match r.step with
    | .measuring => s.searchOn ln (r.measured (fomOf openPoints))
    | .finalMeasuring =>
      (s.onLane ln fun l => { l with fom := fomOf openPoints, search := some { r with step := .prbs } }).askPrbs ln
    | _ => s
  | _, _ => s

/-- PRBS_RUN_DONE (R93, R99): errors are counted; with none and FOM at FOM_MIN the lane enters LOCK. -/
def prbsRunDone (ln errors : Nat) (s : State) : State :=
  let l := s.lane ln
  let cfg := (s.lanePort (s.portOf ln)).cfg
  match l.phase with
  | .loop => if cfg.loopMode = 1 ∨ cfg.loopMode = 2 then s.countLane ln 5 errors else s
  | .train =>
    if (l.search.map (·.step)) ≠ some .prbs then s else
    let s := s.countLane ln 5 errors
    if l.fom < cfg.fomMin then s.failBringUp ln .fom
    else if errors ≠ 0 then s.failBringUp ln .prbs
    else s.onLane ln fun l => { l with phase := .lock, locked := false, search := none, stored := l.taps, storedFom := l.fom }
  | _ => s

/-- SYMBOL_LOCK_ACQUIRED (R85, R86): a skew above 64 UI fails the lane; a spare enters STANDBY. -/
def symbolLockAcquired (ln skew : Nat) (s : State) : State :=
  let l := s.lane ln
  if l.phase ≠ .lock then s
  else if 64 < skew then s.failBringUp ln .skew
  else
    let s := s.onLane ln fun l => { l with skew, storedSkew := skew, locked := true, fails := 0, failCause := .none }
    if l.role = 1 then s.lockedOn ln
    else s.onLane ln fun l => { l with phase := .standby, role := 2, locked := false }

/-- The exchange of a port runs out of time, or fails (R85, R114). -/
def State.exchangeFailed (p cause : Nat) (s : State) : State :=
  let s := s.portToDetect p
  if p < 2 then
    let n := (s.unit p).exchangeFails + 1
    let s := s.onUnit p fun u =>
      { u with exchangeFails := n, portState := if 3 ≤ n then 4 else 1, sbOut := none
               sbQueue := u.sbQueue.filter fun r => r.ask != .capQuery && r.ask != .linkConfig }
    s.noticeOn 0x0282 [itemN 1 1 p, itemN 2 1 cause] (p == 1)
  else s

/-- LANE_STATE_TIMEOUT (R85). -/
def laneStateTimeout (ln : Nat) (s : State) : State :=
  match (s.lane ln).phase with
  | .train => s.failBringUp ln .train
  | .lock => s.failBringUp ln .lock
  | .exchange => s.exchangeFailed (s.portOf ln) 4
  | .retrain => s.fastFailed ln
  | _ => s

/-- FAILED_LANE_RETRAIN (R85): after three failed bring-ups a lane stays in FAILED. -/
def failedLaneRetrain (ln : Nat) (s : State) : State :=
  let l := s.lane ln
  if l.phase == .failed && decide (l.fails < 3) then
    (s.onLane ln fun l => { l with phase := .detect, locked := false, search := none }).countLane ln 3 1
  else s

/-- LANE_FAULT (R94): a loss of symbol lock or ERR_LIMIT violations put an ACTIVE or STANDBY lane into RETRAIN. -/
def laneFault (ln : Nat) (lockLost : Bool) (violations : Nat) (s : State) : State :=
  let l := s.lane ln
  let cfg := (s.lanePort (s.portOf ln)).cfg
  let s := s.countLane ln 0 violations
  let s := if lockLost then s.countLane ln 1 1 else s
  if (l.phase == .active || l.phase == .standby) && (lockLost || decide (cfg.errLimit ≤ violations)) then
    s.startFast ln
  else s

/-- FAST_RETRAIN_DONE (R95): FOM at FOM_MIN returns the lane to ACTIVE or STANDBY and stores its setting (R92). -/
def fastRetrainDone (ln : Nat) (locked : Bool) (openPoints : Nat) (s : State) : State :=
  let l := s.lane ln
  if l.phase ≠ .retrain then s
  else
    let fom := fomOf openPoints
    if locked && decide ((s.lanePort (s.portOf ln)).cfg.fomMin ≤ fom) then
      s.onLane ln fun l =>
        { l with phase := l.back, fom, taps := l.stored, storedFom := fom, skew := l.storedSkew, failCause := .none }
    else (s.onLane ln fun l => { l with fom }).fastFailed ln

/-- K28_4_RECEIVED (R96): from the next symbol every spare that waits carries its logical lane. -/
def k284Received (p : Nat) (s : State) : State :=
  let q := s.lanePort p
  let map := s.wantedMap p
  let s := q.takeovers.foldl (fun s t =>
    let lg := (s.lane t.1).logical
    let s := s.onLane t.2 fun l => { l with phase := .active, role := 1, logical := lg }
    let s := s.onLane t.1 fun l => { l with role := 3 }
    s.faultLog 0x01 (0x0200 + p) (s.localOf t.1 + 256 * s.localOf t.2)) s
  s.onLanePort p fun q => { q with map := if q.takeovers.isEmpty then q.map else map
                                   takeovers := []
                                   cntTakeover := q.cntTakeover + BitVec.ofNat 32 q.takeovers.length }

/-- FULL_RETRAIN (R101): bring-up restarts from DETECT, and a held port with it (R114); ignored while the lane is DISABLED
or in LOOP. -/
def fullRetrain (ln : Nat) (s : State) : State :=
  let l := s.lane ln
  let p := s.portOf ln
  if l.phase == .disabled || l.phase == .loop then s
  else
    let s := (s.onLane ln fun l =>
      { l with phase := .detect, locked := false, search := none, fails := 0, failCause := .none }).countLane ln 3 1
    let s := if 2 ≤ p then s else s.onUnit p fun u => if u.portState = 4 then { u with portState := 1, exchangeFails := 0 } else u
    if l.role = 1 then s.portDown p else s

/-- FAST_RETRAIN (R101): ignored outside ACTIVE and STANDBY. -/
def fastRetrain (ln : Nat) (s : State) : State :=
  let l := s.lane ln
  if l.phase == .active || l.phase == .standby then s.startFast ln else s

/-- LANE_CTRL.CNT_CLEAR (R101): the lane's counters. -/
def laneCtrlCntClear (ln : Nat) (s : State) : State := s.onLane ln fun l => { l with cnt := clearAll l.cnt }

end Sys2Proof.Machine
end

