-- ==== Sys2Proof/Machine/MillPixels.lean ====
section
/-!
DEFINITION. The Mill's arithmetic: P20, the noise model, spatial and temporal noise reduction, white balance,
reconstruction, the camera matrix and statistics (06_the_mill.md, R142 to R160).
-/

namespace Sys2Proof.Machine

/-! ## P20 (R142 to R144) -/

/-- L40 to P20 (R143). -/
def toP20 (x : Int) : Nat :=
  let a := x.natAbs * 64
  let mag :=
    if a < 16384 then a
    else
      let e := Nat.log2 a - 13
      let q := (roundDiv (a : Nat) (2 ^ (e - 1))).toNat
      let (e, q) := if q = 32768 then (e + 1, 16384) else (e, q)
      if 31 < e then 31 * 16384 + 16383 else e * 16384 + (q - 16384)
  if x < 0 ∧ mag ≠ 0 then 524288 + mag else mag

/-- P20 to L40 (R143). -/
def ofP20 (c : Nat) : Int :=
  let e := c / 16384 % 32
  let m := c % 16384
  let mag := if e = 0 then roundDiv (m : Nat) 64 else roundDiv ((16384 + m) * 2 ^ e : Nat) 128
  if 524288 ≤ c % 1048576 then -mag else mag

/-- Bytes of one row of P20 samples: groups of 16 in 40 bytes (R144). -/
def p20Row (codes : List Nat) : List Byte :=
  toLe (codes.length / 16 * 40)
    ((codes.zipIdx.map fun ci => ci.1 * 2 ^ (320 * (ci.2 / 16) + 20 * (ci.2 % 16))).sum)

/-- P20 code `i` of a row's bytes. -/
def p20At (row : List Byte) (i : Nat) : Nat :=
  leNat ((row.drop (40 * (i / 16))).take 40) / 2 ^ (20 * (i % 16)) % 1048576

/-- The 64-byte blocks that hold sample `i` of a row that starts at byte `start`. -/
def p20Blocks (start i : Nat) : List Nat :=
  let lo := (start + 40 * (i / 16)) * 8 + 20 * (i % 16)
  (blocksOfBits lo 20)
where
  blocksOfBits (lo n : Nat) : List Nat := (List.range ((lo + n - 1) / 512 - lo / 512 + 1)).map (· + lo / 512)

/-! ## Noise reduction (R149 to R151) -/

/-- SHOT and READ of exposure `e`. -/
def MillConfig.shot (c : MillConfig) (e : Nat) : Nat := [c.shot0, c.shot1, c.shot2, c.shot3].getD e 0
def MillConfig.read (c : MillConfig) (e : Nat) : Nat := [c.read0, c.read1, c.read2, c.read3].getD e 0

/-- The variance of a sample, Q8.40 (R149). -/
def noise (c : MillConfig) (e : Nat) (v : Int) : Int :=
  sat 0 (2 ^ 48 - 1) (roundDiv ((c.shot e : Nat) * max v 0) 128 + c.read e)

/-- `top × max(0, 1 - d² / (k² × σ²))` rounded; `top` for d = 0 and 0 otherwise when the divisor is 0. -/
def rangeWeight (top k : Nat) (d var : Int) : Int :=
  let den := (k * k : Nat) * var
  let num := d * d * 2 ^ 18
  if den = 0 then (if d = 0 then top else 0)
  else if den ≤ num then 0 else roundDiv (top * (den - num)) den.toNat

/-- SPATIAL weight of the class of an offset (R150). -/
def MillConfig.spatial (c : MillConfig) (a b : Int) : Int :=
  match (a * a + b * b).toNat with
  | 0 => 256
  | 1 => c.spatial1
  | 2 => c.spatial2
  | 4 => c.spatial3
  | 5 => c.spatial4
  | _ => c.spatial5

/-- Offsets -2 to 2. -/
def five : List Int := [-2, -1, 0, 1, 2]

/-- Spatial noise reduction of one sample (R150, R146). -/
def snrPixel (c : MillConfig) (cfa : Nat) (p : List (List Int)) (tag : Nat) (i j : Nat) : Int :=
  let st : Int := phaseStep cfa
  let h := p.length
  let w := (p.headD []).length
  let v := px p i j
  let var := noise c tag v
  let terms : List (Int × Int) := five.flatMap fun a => five.map fun b =>
    let n := px p (mirror h (i + st * a)) (mirror w (j + st * b))
    let wt := c.spatial a b * rangeWeight 65536 c.snrStrength (n - v) var
    (wt * n, wt)
  let num : Int := (terms.map (·.1)).sum
  let den : Int := (terms.map (·.2)).sum
  satL40 (roundDiv num den.toNat)

/-- Absolute value. -/
def iabs (v : Int) : Int := v.natAbs

/-- Applies a function of row and column to every sample. -/
def mapPx {α : Type} (p : List (List Int)) (f : Nat → Nat → Int → α) : List (List α) :=
  p.zipIdx.map fun ri => ri.1.zipIdx.map fun cj => f ri.2 cj.2 cj.1

/-- Stage 1: spatial noise reduction of a frame. -/
def snrFrame (c : MillConfig) (cfa : Nat) (p : List (List Int)) (tags : List (List Nat)) : List (List Int) :=
  if c.snrEnable ≠ 1 then p
  else mapPx p fun i j _ => snrPixel c cfa p ((tags.getD i []).getD j 0) i j

/-- Temporal noise reduction of one sample against reference sample `q` (R151). -/
def tnrPixel (c : MillConfig) (tag : Nat) (v q : Int) (poisoned : Bool) : Int :=
  let a := if poisoned then 0 else rangeWeight c.alphaMax c.tnrStrength (v - q) (noise c tag v)
  satL40 (v + roundDiv (a * (q - v)) 65536)

/-! ## White balance, reconstruction and matrix (R153 to R155) -/

/-- A value rounded once and saturated, and whether it saturated. -/
def clip (v : Int) : Int × Bool := (satL40 v, decide (v < l40Min) || decide (l40Max < v))

/-- White balance of one sample (R153). -/
def wbPixel (c : MillConfig) (cfa i j : Nat) (v : Int) : Int × Bool :=
  clip (roundDiv (v * ([c.gainTl, c.gainTr, c.gainBl, c.gainBr].getD (arrayPos cfa i j) 0 : Nat)) 65536)

/-- Colour at a position: 0 = red, 1 = green, 2 = blue (R154). -/
def cfaColour (cfa i j : Nat) : Nat :=
  ([[0, 1, 1, 2], [1, 0, 2, 1], [1, 2, 0, 1], [2, 1, 1, 0]].getD cfa []).getD (arrayPos cfa i j) 1

/-- RGB of one site before the matrix, with its saturation (R154): every intermediate value exact. -/
def reconPixel (mode cfa : Nat) (p : List (List Int)) (i j : Nat) : (Int × Int × Int) × Bool :=
  let h := p.length
  let w := (p.headD []).length
  let x (a b : Int) : Int := px p (mirror h (i + a)) (mirror w (j + b))
  let v := x 0 0
  let g4 (a b : Int) : Int := x (a - 1) b + x (a + 1) b + x a (b - 1) + x a (b + 1)
  if cfa = 4 then ((v, v, v), false)
  else if cfaColour cfa i j = 1 then
    let xh := clip (roundDiv (8 * v + (4 * x 0 (-1) - g4 0 (-1)) + (4 * x 0 1 - g4 0 1)) 8)
    let xv := clip (roundDiv (8 * v + (4 * x (-1) 0 - g4 (-1) 0) + (4 * x 1 0 - g4 1 0)) 8)
    if cfaColour cfa i (j + 1) = 0 then ((xh.1, v, xv.1), xh.2 || xv.2) else ((xv.1, v, xh.1), xh.2 || xv.2)
  else
    let dH := iabs (x 0 (-1) - x 0 1) + iabs (2 * v - x 0 (-2) - x 0 2)
    let dV := iabs (x (-1) 0 - x 1 0) + iabs (2 * v - x (-2) 0 - x 2 0)
    let gH := 2 * (x 0 (-1) + x 0 1) + (2 * v - x 0 (-2) - x 0 2)
    let gV := 2 * (x (-1) 0 + x 1 0) + (2 * v - x (-2) 0 - x 2 0)
    let (gn, gd) : Int × Int :=
      if mode = 1 then (g4 0 0, 4)
      else if dH + dV = 0 then (gH + gV, 8) else (dV * gH + dH * gV, 4 * (dH + dV))
    let e (a b : Int) : Int := 4 * x a b - g4 a b
    let e1 := e (-1) (-1)
    let e2 := e 1 1
    let e3 := e (-1) 1
    let e4 := e 1 (-1)
    let d1 := iabs (e1 - e2)
    let d2 := iabs (e3 - e4)
    let (yn, yd) : Int × Int :=
      if mode = 1 ∨ d1 + d2 = 0 then (e1 + e2 + e3 + e4, 16) else (d2 * (e1 + e2) + d1 * (e3 + e4), 8 * (d1 + d2))
    let g := clip (roundDiv gn gd.toNat)
    let y := clip (roundDiv (gn * yd + yn * gd) (gd * yd).toNat)
    if cfaColour cfa i j = 0 then ((v, g.1, y.1), g.2 || y.2) else ((y.1, g.1, v), g.2 || y.2)

/-- The camera matrix on one pixel (R155). -/
def matrixPixel (c : MillConfig) (r g b : Int) : (Int × Int × Int) × Bool :=
  let row (m0 m1 m2 o : Int) := clip (roundDiv (m0 * r + m1 * g + m2 * b + o * 1048576) 1048576)
  let x := row c.m00 c.m01 c.m02 c.o0
  let y := row c.m10 c.m11 c.m12 c.o1
  let z := row c.m20 c.m21 c.m22 c.o2
  ((x.1, y.1, z.1), x.2 || y.2 || z.2)

/-! ## Statistics (R157 to R160) -/

/-- The bin of a value (R158); THRESH[k] ≤ t holds exactly when 2^(512 + k) ≤ t^32. -/
def histBin (v : Int) : Nat :=
  if v ≤ 0 then 0
  else
    let u := v.toNat
    let n := Nat.log2 u
    let t := if n ≤ 16 then u * 2 ^ (16 - n) else u / 2 ^ (n - 16)
    let k := ((List.range 32).filter fun k => decide (2 ^ (512 + k) ≤ t ^ 32)).length - 1
    (sat 0 1023 (32 * ((n : Int) - 23) + k + 512)).toNat

/-- The samples of channel `ch` with their places, of a CFA picture. -/
def cfaChannel (cfa ch : Nat) (p : List (List Int)) : List (Nat × Nat × Int) :=
  ((mapPx p fun i j v => (i, j, v)).flatten).filter fun x => arrayPos cfa x.1 x.2.1 == ch

/-- One channel's 1,024 counts (R158). -/
def histogram (vs : List Int) : List Nat :=
  let bins := vs.map histBin
  (List.range 1024).map fun b => min ((bins.filter (· == b)).length) 0xFFFFFFFF

/-- Zone entry of a channel: rounded mean and count at or above ZONE_CLIP (R159). -/
def zoneEntry (clipAt : Int) (w h z c : Nat) (vs : List (Nat × Nat × Int)) : Int × Nat :=
  let inZone := (vs.filter fun x => decide (z * h / 36 ≤ x.1) && decide (x.1 < (z + 1) * h / 36) &&
    decide (c * w / 64 ≤ x.2.1) && decide (x.2.1 < (c + 1) * w / 64)).map (·.2.2)
  if inZone.isEmpty then (0, 0)
  else (roundDiv inZone.sum inZone.length, (inZone.filter fun v => decide (clipAt ≤ v)).length)

/-- The four channels at a statistics point: CFA pictures at points 0 to 2, RGB and its largest at point 3 (R157). -/
def statsChannels (cfa point : Nat) (cfaPics : List (List (List Int))) (r g b : List (List Int)) :
    List (List (Nat × Nat × Int)) :=
  if point < 3 then (List.range 4).map fun ch => cfaChannel cfa ch (cfaPics.getD point [])
  else
    let flat (p : List (List Int)) := (mapPx p fun i j v => (i, j, v)).flatten
    [flat r, flat g, flat b, (flat r).map fun x => (x.1, x.2.1, max x.2.2 (max (px g x.1 x.2.1) (px b x.1 x.2.1)))]

/-- LENGTH of a statistics record (R160). -/
def MillConfig.recordLength (c : MillConfig) : Nat :=
  64 + 16384 * ([c.histPoint0, c.histPoint1, c.histPoint2].filter (· != 255)).length +
    110592 * (if c.zonePoint = 255 then 0 else 1)

/-- Whether any statistics are on. -/
def MillConfig.statsOn (c : MillConfig) : Bool := c.recordLength != 64

/-- The whole statistics record (R160). -/
def statsRecord (m : MillFrame) (ctx : Nat) (flags : BitVec 16) (endAt : List Byte) (cfaPics : List (List (List Int)))
    (r g b : List (List Int)) : List Byte :=
  let c := m.cfg
  let points := [c.histPoint0, c.histPoint1, c.histPoint2]
  let hists := (points.filter (· != 255)).flatMap fun pt =>
    (statsChannels m.cfa pt cfaPics r g b).flatMap fun vs => (histogram (vs.map (·.2.2))).flatMap (toLe 4)
  let zones := if c.zonePoint = 255 then [] else
    let chs := statsChannels m.cfa c.zonePoint cfaPics r g b
    (List.range 36).flatMap fun z => (List.range 64).flatMap fun k =>
      let es := chs.map (zoneEntry c.zoneClip m.width m.lines z k)
      (es.flatMap fun e => toLeInt 8 e.1) ++ es.flatMap fun e => toLe 4 e.2
  toLe 2 0x0301 ++ toLe 2 1 ++ toLe 4 c.recordLength ++ toLe 4 m.frame.toNat ++ toLe 2 flags.toNat ++
    toLe 2 m.mark.toNat ++ toLe 2 m.intakeFlags.toNat ++ toLe 1 ctx ++ toLe 1 c.zonePoint ++ points.flatMap (toLe 1) ++
    toLe 1 0 ++ endAt ++ toLe 2 m.width ++ toLe 2 m.lines ++ toLeInt 8 c.zoneClip ++ List.replicate 16 0 ++ hists ++ zones

end Sys2Proof.Machine
end

