-- ==== Sys2Proof/Machine/LooksPixels.lean ====
section
/-!
DEFINITION. The arithmetic of the Looks and the scaler: shapers, LUT, curves, encoding, scaling, fine rotation, chroma
and quantisation (07_looks_and_renditions.md, R167 to R187).
-/

namespace Sys2Proof.Machine

/-! ## Sines

R180 and R181 need values of the sine rounded afterwards; they are taken to 2^-96. -/

/-- One in the fixed point of the sines. -/
def one96 : Int := 2 ^ 96

/-- π in units of 2^-96. -/
def pi96 : Int := 248902613312231085230521944622

/-- Taylor sum of the sine of `x` (units of 2^-96, at most π/2); the term of degree 2k + 1 follows from the one before. -/
def sinTaylor : Nat → Nat → Int → Int → Int
  | 0, _, _, _ => 0
  | fuel + 1, k, x, term =>
    let next := -(roundDiv (roundDiv (term * x) (2 ^ 96) * x) (2 ^ 96 * ((2 * k + 2) * (2 * k + 3))))
    term + sinTaylor fuel (k + 1) x next

/-- `sin(π · n / d)` in units of 2^-96. -/
def sinPi (n : Int) (d : Nat) : Int :=
  let r := n % (2 * (d : Int))
  let neg := decide ((d : Int) < r) || r == d
  let r := if (d : Int) ≤ r then r - d else r
  let r := if (d : Int) < 2 * r then (d : Int) - r else r
  let x := roundDiv (pi96 * r) d
  let v := sinTaylor 24 0 x x
  if neg then -v else v

/-- `cos(π · n / d)`. -/
def cosPi (n : Int) (d : Nat) : Int := sinPi (2 * n + d) (2 * d)

/-- `sinc(n / d)` in units of 2^-96. -/
def sinc (n : Int) (d : Nat) : Int :=
  if n = 0 then one96
  else
    let a : Nat := n.natAbs
    roundDiv (sinPi a d * one96 * d) (pi96.toNat * a)

/-! ## Tables (R175, R176) -/

/-- Entry `k` of curve `ch` in a part of three curves of 4,096 words. -/
def curveEntry (part : Option (List Byte)) (ident : Nat → Nat) (ch k : Nat) : Nat :=
  match part with
  | none => ident k
  | some bs => leNat ((bs.drop (16384 * ch + 4 * k)).take 4)

def Bank.shaper (b : Bank) (ch k : Nat) : Int := (curveEntry b.shapers (fun k => k * 65536 / 4095) ch k : Nat)
def Bank.toneAt (b : Bank) (ch k : Nat) : Int := (curveEntry b.tone (fun k => k * 16777215 / 4095) ch k : Nat)
def Bank.customAt (b : Bank) (ch k : Nat) : Int := (curveEntry b.custom (fun k => k * 65536 / 4095) ch k : Nat)

/-- Component `ch` of LUT node (i_r, i_g, i_b); the identity nodes hold i × 65,535 / 64 of their own axis, rounded. -/
def Bank.node (b : Bank) (i : Nat × Nat × Nat) (ch : Nat) : Int :=
  match b.lut with
  | none => roundDiv ((([i.1, i.2.1, i.2.2].getD ch 0) * 65535 : Nat)) 64
  | some bs => (leNat ((bs.drop (6 * ((i.1 * 65 + i.2.1) * 65 + i.2.2) + 2 * ch)).take 2) : Nat)

/-- Length that a LOOK_LUT buffer must have at least (R175). -/
def lutBytes : Nat := 1795208

/-- Whether every word of a part of curves is at most `top`. -/
def curvesOk (bs : List Byte) (top : Nat) : Bool := (chunks 4 bs.length bs).all fun w => decide (leNat w ≤ top)

/-! ## A pixel through a Look (R168 to R173) -/

/-- The shaper of a channel (R169). -/
def shaperOut (c : LookConfig) (e : Nat → Int) (u : Int) : Int :=
  if c.shaperMode = 0 then
    let num := (u - c.lo) * 4095
    let den := c.hi - c.lo
    if num ≤ 0 then e 0
    else if 4095 * den ≤ num then e 4095
    else
      let k := (num / den).toNat
      roundDiv (e k * den + (e (k + 1) - e k) * (num % den)) den.toNat
  else if u ≤ 0 then 0
  else
    let v := u.toNat
    let n := Nat.log2 v
    let base := (c.shaperBase + 23).toNat
    if n < base then roundDiv (e 0 * v) (2 ^ base)
    else
      let g := v - 2 ^ n
      let k := 128 * (n - base) + g * 128 / 2 ^ n
      if 4095 ≤ k then e 4095
      else roundDiv (e k * 2 ^ n + (e (k + 1) - e k) * (g * 128 % 2 ^ n : Nat)) (2 ^ n)

/-- The 3D LUT (R170): tetrahedral interpolation between four nodes. -/
def lutOut (b : Bank) (r g bl : Int) : Int × Int × Int :=
  let i (v : Int) : Nat := min (v.toNat / 1024) 63
  let f (v : Int) : Int := v - 1024 * (i v : Nat)
  let order := ([(f r, (0 : Nat)), (f g, 1), (f bl, 2)].mergeSort fun a b => decide (b.1 ≤ a.1))
  let v0 := (i r, i g, i bl)
  let move (v : Nat × Nat × Nat) (a : Nat) : Nat × Nat × Nat :=
    if a = 0 then (v.1 + 1, v.2) else if a = 1 then (v.1, v.2.1 + 1, v.2.2) else (v.1, v.2.1, v.2.2 + 1)
  let fr (k : Nat) : Int := (order.getD k (0, 0)).1
  let v1 := move v0 (order.getD 0 (0, 0)).2
  let v2 := move v1 (order.getD 1 (0, 0)).2
  let v3 := (v0.1 + 1, v0.2.1 + 1, v0.2.2 + 1)
  let out (ch : Nat) : Int := sat 0 65535 (roundDiv
    ((1024 - fr 0) * b.node v0 ch + (fr 0 - fr 1) * b.node v1 ch + (fr 1 - fr 2) * b.node v2 ch + fr 2 * b.node v3 ch) 1024)
  (out 0, out 1, out 2)

/-- Interpolation in a curve of 4,096 entries: entry and fraction of 2^`bits`. -/
def curveOut (e : Nat → Int) (bits : Nat) (x : Int) : Int :=
  let k := x.toNat / 2 ^ bits
  if 4095 ≤ k then e 4095
  else roundDiv (e k * 2 ^ bits + (e (k + 1) - e k) * (x.toNat % 2 ^ bits : Nat)) (2 ^ bits)

/-- OETF of ITU-R BT.709, in units of 1 / 65,536: 4.5 x below 0.018, 1.099 x^0.45 - 0.099 from there. PRESUMED, unsafe
(log entry 14): BT.709, PQ and HLG are presumed, with a free error of one unit. -/
def bt709Out (x : Nat) : Int :=
  if 1000 * x < 18 * 2 ^ 24 then roundDiv (9 * x : Nat) 512
  else roundDiv (1099 * (powFix x (2 ^ 24) 9 20 : Int) - 99 * 2 ^ 64) (1000 * 2 ^ 48)

/-- Inverse EOTF of SMPTE ST 2084, in units of 1 / 65,536. PRESUMED, unsafe (log entry 14): BT.709, PQ and HLG are
presumed, with a free error of one unit. -/
def pqOut (x : Nat) : Int :=
  let y := powFix x (2 ^ 24) 2610 16384
  roundDiv (powFix (3424 * 2 ^ 64 + 77216 * y) (4096 * 2 ^ 64 + 76544 * y) 2523 32 : Nat) (2 ^ 48)

/-- OETF of ITU-R BT.2100 HLG, in units of 1 / 65,536: the square root of 3 x up to 1 / 12, a ln(12 x - b) + c above.
PRESUMED, unsafe (log entry 14): BT.709, PQ and HLG are presumed, with a free error of one unit. -/
def hlgOut (x : Nat) : Int :=
  if 12 * x ≤ 2 ^ 24 then roundDiv (powFix (3 * x) (2 ^ 24) 1 2 : Nat) (2 ^ 48)
  else
    let ln := log2Fix (1200000000 * x - 28466892 * 2 ^ 24) (100000000 * 2 ^ 24) * (ln2Fix : Int) / 2 ^ 64
    roundDiv (17883277 * ln + 55991073 * 2 ^ 64) (100000000 * 2 ^ 48)

/-- The output transfer function (R172). TRANSFER 1 to 3 are evaluated to within 2^-16, one unit of the result, of the exact
value: which of the three results that allows comes out is free. -/
def transferOut (c : LookConfig) (b : Bank) (ch : Nat) (x : Int) : Int :=
  if c.transfer = 0 then roundDiv x 256
  else if c.transfer = 4 then curveOut (b.customAt ch) 12 x
  else
    let v := if c.transfer = 1 then bt709Out x.toNat else if c.transfer = 2 then pqOut x.toNat else hlgOut x.toNat
    let e : Int := match Config.transferError c.transfer x.toNat % 3 with
      | 0 => 0
      | 1 => 1
      | _ => -1
    sat 0 65536 (v + e)

/-- Kr and Kb in units of 1/10,000 (R173). -/
def kr (enc : Nat) : Int := if enc = 2 then 2627 else 2126
def kb (enc : Nat) : Int := if enc = 2 then 593 else 722

/-- code16 components (R173). -/
def encodeOut (c : LookConfig) (r g b : Int) : Int × Int × Int :=
  let s (v : Int) : Int := sat 0 65535 v
  let luma (n : Int) (d : Nat) : Int :=
    if c.range = 0 then s (roundDiv (256 * (219 * n + 16 * d)) d) else s (roundDiv (65535 * n) d)
  if c.encoding = 0 then (luma r 65536, luma g 65536, luma b 65536)
  else
    let yn := kr c.encoding * r + (10000 - kr c.encoding - kb c.encoding) * g + kb c.encoding * b
    let chroma (x k : Int) : Int :=
      let n := 10000 * x - yn
      let d : Nat := (131072 * (10000 - k)).toNat
      if c.range = 0 then s (roundDiv (256 * (224 * n + 128 * d)) d) else s (roundDiv (65535 * n + 32768 * d) d)
    (luma yn 655360000, chroma b (kb c.encoding), chroma r (kr c.encoding))

/-- One pixel through a Look (R167, R168). -/
def lookPixel (c : LookConfig) (bank : Bank) (r g b : Int) : Int × Int × Int :=
  let row (m0 m1 m2 o : Int) : Int := satL40 (roundDiv (m0 * r + m1 * g + m2 * b + o * 1048576) 1048576)
  let x := (row c.m00 c.m01 c.m02 c.o0, row c.m10 c.m11 c.m12 c.o1, row c.m20 c.m21 c.m22 c.o2)
  if c.mode = 1 then x
  else
    let coord (ch : Nat) (u : Int) : Int :=
      if c.shaperEnable = 1 then shaperOut c (bank.shaper ch) u else min (max u 0 / 128) 65536
    let v := (coord 0 x.1, coord 1 x.2.1, coord 2 x.2.2)
    let t := if c.lutEnable = 1 then lutOut bank v.1 v.2.1 v.2.2 else (min v.1 65535, min v.2.1 65535, min v.2.2 65535)
    let light (ch : Nat) (t : Int) : Int := if c.toneEnable = 1 then curveOut (bank.toneAt ch) 4 t else t * 256 + t / 256
    let o (ch : Nat) (t : Int) : Int := transferOut c bank ch (light ch t)
    encodeOut c (o 0 t.1) (o 1 t.2.1) (o 2 t.2.2)

/-- The three planes of a Look's output. -/
def lookFrame (c : LookConfig) (bank : Bank) (d : Developed) : List (List (List Int)) :=
  let pix := (List.range d.lines).map fun i => (List.range d.width).map fun j =>
    lookPixel c bank (px d.red i j) (px d.green i j) (px d.blue i j)
  [pix.map fun r => r.map (·.1), pix.map fun r => r.map (·.2.1), pix.map fun r => r.map (·.2.2)]

/-! ## Scaling (R179, R180) -/

/-- The smallest power of two from 1 to 8 that brings the step to at most 4 (R179). -/
def decimation (crop out : Nat) : Nat :=
  if crop ≤ 4 * out then 1 else if crop ≤ 8 * out then 2 else if crop ≤ 16 * out then 4 else 8

/-- The built-in coefficients of one phase (R180): taps -(a - 1) to a. -/
def builtinPhase (a dOut crop ph : Nat) : List Int :=
  let (sn, sd) := if crop ≤ dOut then (1, 1) else (dOut, crop)
  let k := (List.range (2 * a)).map fun (t : Nat) =>
    let n : Int := (sn : Nat) * (64 * ((t : Int) - ((a : Int) - 1)) - ph)
    roundDiv (sinc n (sd * 64) * sinc n (sd * 64 * a)) (2 ^ 96)
  let total := k.sum
  let c := k.map fun v => roundDiv (16384 * v) total.toNat
  let centre := (if ph < 32 then 0 else 1) + (a - 1)
  c.set centre (16384 - (c.sum - c.getD centre 0))

/-- An axis of the scaler: all that R179 needs. -/
structure Axis where
  crop : Nat
  out : Nat
  /-- taps run from `-(a - 1)` to `a` -/
  a : Nat
  table : Option (List Int)

/-- The coefficients of a phase on an axis: the host's, or the built-in ones. -/
def Axis.coef (x : Axis) (ph : Nat) : List Int :=
  match x.table with
  | some t => (t.drop (2 * x.a * ph)).take (2 * x.a)
  | none => builtinPhase x.a (decimation x.crop x.out * x.out) x.crop ph

/-- A source index mirrored once about the picture's edge and then clamped (R179). -/
def edge (n : Nat) (i : Int) : Nat :=
  let j := if i < 0 then -i else if (n : Int) - 1 < i then 2 * ((n : Int) - 1) - i else i
  (sat 0 ((n : Int) - 1) j).toNat

/-- Rows and columns of a plane of width `w` exchanged. -/
def transpose (w : Nat) (p : List (List Int)) : List (List Int) :=
  (List.range w).map fun j => p.map fun r => r.getD j 0

/-- A plane cropped, pre-decimated and scaled (R178 steps 1 to 3). Both axes are decimated before either is scaled,
horizontally first. -/
def scalePlane (c : RendConfig) (f : FilterTables) (lo hi : Int) (p : List (List Int)) : List (List Int) :=
  let h := p.length
  let w := (p.headD []).length
  let ax : Axis := { crop := c.cropW, out := c.outW, a := 4, table := if c.filter = 1 then f.h else none }
  let ay : Axis := { crop := c.cropH, out := c.outH, a := 3, table := if c.filter = 1 then f.v else none }
  let dx := decimation c.cropW c.outW
  let dy := decimation c.cropH c.outH
  let pad : Nat := 8
  let nx := ceilDiv c.cropW dx + 2 * pad
  let ny := ceilDiv c.cropH dy + 2 * pad
  let decX (row : List Int) : List Int := (List.range nx).map fun (j : Nat) =>
    roundDiv (((List.range dx).map fun (m : Nat) => row.getD (edge w (c.cropX + dx * ((j : Int) - pad) + m)) 0).sum) dx
  let rows := p.map decX
  let dec := (List.range ny).map fun (j : Nat) => (List.range nx).map fun i =>
    roundDiv (((List.range dy).map fun (m : Nat) => px rows (edge h (c.cropY + dy * ((j : Int) - pad) + m)) i).sum) dy
  let run (x : Axis) (d : Nat) (row : List Int) : List Int :=
    let step : Int := roundDiv ((x.crop : Nat) * 16777216) (d * x.out)
    (List.range x.out).map fun (o : Nat) =>
      let xd : Int := (2 * (o : Int) + 1) * step - 16777216
      let i := xd / 33554432
      let ph := (roundDiv (64 * (xd % 33554432)) 33554432).toNat
      let (i, ph) := if ph = 64 then (i + 1, 0) else (i, ph)
      let co := x.coef ph
      sat lo hi (roundDiv ((co.zipIdx.map fun wt =>
        wt.1 * row.getD ((i + (wt.2 : Int) - ((x.a : Int) - 1)) + pad).toNat 0).sum) 16384)
  let hs := dec.map (run ax dx)
  transpose c.outH ((transpose c.outW hs).map (run ay dy))

/-! ## Fine rotation (R181) -/

/-- The Keys cubic with a = -0.5 at distance n/64, times 2 · 64³. -/
def keys (n : Int) : Int :=
  let n := iabs n
  if n ≤ 64 then 3 * n ^ 3 - 320 * n ^ 2 + 524288
  else if n < 128 then -(n ^ 3) + 320 * n ^ 2 - 32768 * n + 1048576
  else 0

/-- Fine rotation of three scaled planes, and whether a pixel was filled. -/
def fineRotate (c : RendConfig) (fills : List Int) (lo hi : Int) (ps : List (List (List Int))) :
    List (List (List Int)) × Bool :=
  let w := c.outW
  let h := c.outH
  let cs := cosPi c.fineAngle 184320
  let sn := sinPi c.fineAngle 184320
  let at_ (x y : Nat) : Int × Int :=
    let dx : Int := 2 * (x : Int) - ((w : Int) - 1)
    let dy : Int := 2 * (y : Int) - ((h : Int) - 1)
    (roundDiv ((((w : Int) - 1) * one96 + dx * cs + dy * sn) * 65536) (2 ^ 97),
     roundDiv ((((h : Int) - 1) * one96 - dx * sn + dy * cs) * 65536) (2 ^ 97))
  let inside (q : Int × Int) : Bool :=
    decide (0 ≤ q.1) && decide (q.1 ≤ ((w : Int) - 1) * 65536) && decide (0 ≤ q.2) && decide (q.2 ≤ ((h : Int) - 1) * 65536)
  let phase (v : Int) : Int × Int :=
    let ph := roundDiv (64 * (v % 65536)) 65536
    if ph = 64 then (v / 65536 + 1, 0) else (v / 65536, ph)
  let clampTo (n : Nat) (i : Int) : Nat := (sat 0 ((n : Int) - 1) i).toNat
  let value (p : List (List Int)) (q : Int × Int) : Int :=
    let (ix, fx) := phase q.1
    let (iy, fy) := phase q.2
    let taps : List Int := [-1, 0, 1, 2]
    sat lo hi (roundDiv ((taps.map fun b => keys (64 * b - fy) *
      (taps.map fun a => keys (64 * a - fx) * px p (clampTo h (iy + b)) (clampTo w (ix + a))).sum).sum) (2 ^ 38))
  let grid := (List.range h).map fun y => (List.range w).map fun x => at_ x y
  (ps.zipIdx.map fun pk => grid.map fun row => row.map fun q => if inside q then value pk.1 q else fills.getD pk.2 0,
   grid.any fun row => row.any fun q => !inside q)

/-! ## Orientation, chroma and quantisation (R178, R182, R183) -/

/-- Mirror and clockwise rotation of a plane. -/
def orient (c : RendConfig) (p : List (List Int)) : List (List Int) :=
  let p := if c.mirror = 1 then p.map List.reverse else p
  if c.rotate = 90 then transpose c.outW p.reverse
  else if c.rotate = 180 then (p.map List.reverse).reverse
  else if c.rotate = 270 then (transpose c.outW p).reverse
  else p

/-- 4:2:2 of one row. -/
def halfRow (r : List Int) : List Int :=
  let w := r.length
  (List.range ((w + 1) / 2)).map fun x =>
    let a := r.getD (if x = 0 then 1 else 2 * x - 1) 0
    let b := r.getD (if 2 * x + 1 < w then 2 * x + 1 else w - 2) 0
    roundDiv (a + 2 * r.getD (2 * x) 0 + b) 4

/-- A chroma plane subsampled (R182). -/
def subsample (chroma : Nat) (p : List (List Int)) : List (List Int) :=
  if chroma = 0 then p
  else
    let q := p.map halfRow
    if chroma = 1 then q
    else (List.range ((q.length + 1) / 2)).map fun y =>
      (List.range ((q.headD []).length)).map fun x => roundDiv (px q (2 * y) x + px q (2 * y + 1) x) 2

/-- One code in its container, and whether it was clamped (R183). -/
def quantise (range depth : Nat) (v : Int) : Nat × Bool :=
  let n := depth
  let c := roundDiv v (2 ^ (16 - n))
  let lo : Int := if range = 0 then 2 ^ (n - 8) else 0
  let hi : Int := if range = 0 then 2 ^ n - 2 ^ (n - 8) - 1 else 2 ^ n - 1
  let k := sat lo hi c
  ((k * 2 ^ (16 - n)).toNat, k != c)

/-! ## Planes and records (R184, R185, R187) -/

/-- Written width and height. -/
def RendConfig.dims (c : RendConfig) : Nat × Nat :=
  if c.rotate = 90 ∨ c.rotate = 270 then (c.outH, c.outW) else (c.outW, c.outH)

/-- Layout of a slot: pitch of part 1, pitch of the parts after it, offsets of the parts, slot size. -/
structure Layout where
  pitch1 : Nat
  pitch2 : Nat
  offsets : List Nat
  size : Nat
deriving DecidableEq, Repr

def slotLayout (c : RendConfig) (encoding : Nat) : Layout :=
  let (w, h) := c.dims
  let wc := if c.chroma = 0 then w else (w + 1) / 2
  let hc := if c.chroma = 2 then (h + 1) / 2 else h
  let (p1, p2, parts) :=
    if c.planeFormat = 1 then
      let p := ceilDiv w 16 * 40
      (p, p, [p * h, p * h, p * h])
    else
      let p := ceilDiv (2 * w) 256 * 256
      if encoding = 0 then (p, p, [p * h, p * h, p * h])
      else
        let q := ceilDiv (4 * wc) 256 * 256
        (p, q, [p * h, q * hc])
  let offs := parts.foldl (fun (acc : List Nat × Nat) n => (acc.1 ++ [acc.2], acc.2 + roundUp n 4096)) ([], 4096)
  { pitch1 := p1, pitch2 := p2, offsets := offs.1, size := offs.2 }

/-- A row padded to its pitch. -/
def padRow (pitch : Nat) (bs : List Byte) : List Byte := bs ++ List.replicate (pitch - bs.length) 0

/-- The first 52 bytes of a slot or statistics record (R185). -/
def recordHead (ty rend : Nat) (j : RendJob) (d : Developed) (rendFlags : Nat) : List Byte :=
  let lay := slotLayout j.cfg j.lookCfg.encoding
  let (w, h) := j.cfg.dims
  toLe 2 ty ++ toLe 2 1 ++ toLe 4 d.frame.toNat ++ toLe 2 d.mark.toNat ++ toLe 2 d.intakeFlags.toNat ++
    toLe 2 d.millFlags.toNat ++ toLe 2 rendFlags ++ toLe 1 rend ++ toLe 1 j.look ++
    toLe 1 (j.cfg.chroma + 4 * j.lookCfg.encoding + 16 * j.cfg.planeFormat + 32 * j.lookCfg.range) ++
    toLe 1 j.lookCfg.bitDepth ++ clkBytes d.start ++ toLe 2 w ++ toLe 2 h ++
    toLe 4 lay.pitch1 ++ toLe 4 lay.pitch2 ++ toLe 4 (lay.offsets.getD 1 0) ++ toLe 4 (lay.offsets.getD 2 0)

/-- The components of a written picture (R178 steps 1 to 7): three planes, chroma subsampled, and FILLED. -/
def rendPlanes (j : RendJob) (look : List (List (List Int))) : List (List (List Int)) × Bool :=
  let scene := j.lookCfg.mode = 1
  let lo : Int := if scene then l40Min else 0
  let hi : Int := if scene then l40Max else 65535
  let scaled := look.map (scalePlane j.cfg j.filters lo hi)
  let fills := [j.cfg.fill0, j.cfg.fill1, j.cfg.fill2].map fun v => if scene then v else sat 0 65535 v
  let (ps, filled) := if j.cfg.fineAngle = 0 then (scaled, false) else fineRotate j.cfg fills lo hi scaled
  let ps := ps.map (orient j.cfg)
  (ps.zipIdx.map fun pk => if pk.2 = 0 then pk.1 else subsample j.cfg.chroma pk.1, filled)

/-- The parts of a slot after its record, from byte 4,096 on, and CLIPPED (R183, R184). -/
def slotParts (j : RendJob) (ps : List (List (List Int))) : List (Nat × List Byte) × Bool :=
  let lay := slotLayout j.cfg j.lookCfg.encoding
  let p (k : Nat) : List (List Int) := ps.getD k []
  if j.cfg.planeFormat = 1 then
    ((List.range 3).map fun k => (lay.offsets.getD k 0,
      (p k).flatMap fun r =>
        let codes := r.map toP20
        p20Row (codes ++ List.replicate (ceilDiv codes.length 16 * 16 - codes.length) 0)), false)
  else
    let q (pl : List (List Int)) : List (List (Nat × Bool)) := pl.map fun r => r.map (quantise j.lookCfg.range j.lookCfg.bitDepth)
    let qs := (List.range 3).map fun k => q (p k)
    let clipped := qs.any fun pl => pl.any fun r => r.any (·.2)
    let rows (pitch : Nat) (pl : List (List (Nat × Bool))) : List Byte :=
      pl.flatMap fun r => padRow pitch (r.flatMap fun x => toLe 2 x.1)
    if j.lookCfg.encoding = 0 then
      ((List.range 3).map fun k => (lay.offsets.getD k 0, rows lay.pitch1 (qs.getD k [])), clipped)
    else
      let cb := qs.getD 1 []
      let cr := qs.getD 2 []
      let inter := (List.range cb.length).flatMap fun y =>
        padRow lay.pitch2 ((((cb.getD y []).zip (cr.getD y [])).flatMap fun bc => toLe 2 bc.1.1 ++ toLe 2 bc.2.1))
      ([(lay.offsets.getD 0 0, rows lay.pitch1 (qs.getD 0 [])), (lay.offsets.getD 1 0, inter)], clipped)

/-- Histograms and zones of a statistics record (R187). -/
def rendStats (ps : List (List (List Int))) : List Byte :=
  let hist (p : List (List Int)) : List Byte :=
    let bins := p.flatten.map fun v => v.toNat / 64
    (List.range 1024).flatMap fun b => toLe 4 ((bins.filter (· == b)).length)
  let zone (p : List (List Int)) (z c : Nat) : List Byte :=
    let h := p.length
    let w := (p.headD []).length
    let vs := ((p.take ((z + 1) * h / 36)).drop (z * h / 36)).flatMap fun r => (r.take ((c + 1) * w / 64)).drop (c * w / 64)
    toLe 2 (if vs.isEmpty then 0 else (roundDiv vs.sum vs.length).toNat)
  ps.flatMap hist ++ (List.range 36).flatMap fun z => (List.range 64).flatMap fun c => ps.flatMap fun p => zone p z c

end Sys2Proof.Machine
end

