-- ==== Sys2Proof/Machine/LooksBase.lean ====
section
/-!
DEFINITION. Slots of the renditions: skips, releases and abandoned frames (07_looks_and_renditions.md, R186, R189).
-/

namespace Sys2Proof.Machine

def State.onLook (k : Nat) (f : Look → Look) (s : State) : State := s.onLooks fun l => { l with looks := modAt l.looks k f }
def State.onRend (r : Nat) (f : Rendition → Rendition) (s : State) : State :=
  s.onLooks fun l => { l with rends := modAt l.rends r f }
def State.look (k : Nat) (s : State) : Look := s.looks.looks.getD k {}
def State.rend (r : Nat) (s : State) : Rendition := s.looks.rends.getD r {}

/-- Adds 1 to counter `k` of a rendition: 0 = FRAMES, 1 = SHED, 2 = SKIPPED. -/
def State.countRend (r k : Nat) (s : State) : State := s.onRend r fun x => { x with cnt := bumpAt x.cnt k }

/-- Changes slot `k` of a rendition. -/
def Rendition.onSlot (k : Nat) (f : Slot → Slot) (x : Rendition) : Rendition := { x with slots := modAt x.slots k f }

/-- Notes whether a rendition takes a frame, for the consumers of its slots. -/
def Rendition.fate (fr : Frame) (taken : Bool) (x : Rendition) : Rendition :=
  { x with fates := ((fr, taken) :: x.fates.filter fun y => y.1 != fr).take 16 }

/-- A rendition skips a frame (R189). -/
def State.rendSkip (r : Nat) (fr : Frame) (reason : Nat) (s : State) : State :=
  let s := s.onRend r fun x => { x.fate fr false with lastSkip := reason }
  (s.countRend r 2).notice 0x0482 [itemN 1 1 r, itemN 2 4 fr.toNat, itemN 3 1 reason]

/-- A stop that waited for the frame in progress acts once no frame is being written (R188). -/
def State.rendSettle (r : Nat) (s : State) : State :=
  s.onRend r fun x => if x.stopping && x.jobs.isEmpty then { x with running := false, stopping := false } else x

/-- A frame of Mill context `k` is abandoned: every slot being written for it returns to FREE (R189). -/
def State.rendAbandon (k : Nat) (fr : Frame) (s : State) : State :=
  (List.range 48).foldl (fun s r =>
    match (s.rend r).jobs.find? fun j => j.ctx == k && j.frame == fr with
    | none => s
    | some j =>
      let s := if j.cfg.dest = 3 then s.ringCancel (BitVec.ofNat 32 j.cfg.planes) j.ringId
        else s.onRend r (Rendition.onSlot j.slot fun x => { x with st := .free })
      let s := s.onRend r fun x => { x with jobs := x.jobs.filter fun y => y != j }
      (s.rendSkip r fr 2).rendSettle r) s

/-- The consumer returns a slot to FREE. -/
def State.slotFree (r k : Nat) (s : State) : State := s.onRend r (Rendition.onSlot k fun x => { x with st := .free })

end Sys2Proof.Machine
end

