-- ==== Sys2Proof/Machine/IntakeOps.lean ====
section
/-!
DEFINITION. Effects of the sensor intake and Replay: frames, damaged rows, taps, the port buffer and the sideband's
messages (05_sensor_intake.md).
-/

namespace Sys2Proof.Machine

/-! ## Places -/

/-- INTAKE_FLAGS bits (R121). -/
def flagTruncated : BitVec 16 := 0x01
def flagLong : BitVec 16 := 0x02
def flagConcealed : BitVec 16 := 0x04
def flagResent : BitVec 16 := 0x08
def flagDevDropped : BitVec 16 := 0x10
def flagStalled : BitVec 16 := 0x20
def flagReplay : BitVec 16 := 0x40
def flagTapOverrun : BitVec 16 := 0x80

/-- Whether sensor port `p` exists by itself: port B is absent while the ports are ganged (R102). -/
def State.hasPort (p : Nat) (s : State) : Bool := p == 0 || (p == 1 && !s.ganged)

/-- Changes the frame with raster number `fr` in flight at source `p`. -/
def State.onFlight (p : Nat) (fr : Frame) (f : FrameIn → FrameIn) (s : State) : State :=
  s.onUnit p fun u => { u with flight := u.flight.map fun x => if x.frame == fr && !x.rateDrop then f x else x }

/-- The frame with raster number `fr` in flight at source `p`. -/
def State.flight? (p : Nat) (fr : Frame) (s : State) : Option FrameIn :=
  (s.unit p).flight.find? fun x => x.frame == fr && !x.rateDrop

/-- Changes one row of a frame. -/
def FrameIn.onRow (r e : Nat) (g : Row → Row) (f : FrameIn) : FrameIn :=
  { f with rows := f.rows.map fun x => if x.row == r && x.exposure == e then g x else x }

/-- T_L in picoseconds (R115). -/
def State.lineTime (p : Nat) (s : State) : Nat :=
  let u := s.unit p
  let period := if u.interval = 0 then s.raster.cfg.force.rateDen * 1000000000000 / s.raster.cfg.force.rateNum
    else u.interval * 1000
  period / (u.cfg.lines * u.cfg.exposures)

/-! ## Taps and the Mill's side of a frame -/

/-- Bytes of a whole frame at a tap (R131). -/
def tapSize (tap exposures lines width : Nat) : Nat :=
  if tap = 0 then exposures * lines * width * 2 else lines * width * 2

/-- The knots of a curve: those written, then knot n at n · 2^13 (R127). -/
def Curve.full (c : Curve) : List Int :=
  c.knots ++ (List.range (1025 - c.knots.length)).map fun (k : Nat) => (((c.knots.length + k) * 8192 : Nat) : Int)

/-- The BRMD items that an intake has in force (R267); a static list too long for one item takes several. -/
def State.intakeMeta (p : Nat) (s : State) : List Item :=
  let u := s.unit p
  let e := u.cfg.exposures
  ((List.range e).flatMap fun x => (List.range 4).map fun q =>
      let c := (u.curves.getD x []).getD q {}
      itemB 0x0001 (toLe 1 p ++ toLe 1 x ++ toLe 1 q ++ toLe 2 c.black ++ c.full.flatMap fun k => toLeInt 8 k)) ++
    [itemB 0x0002 ((List.range e).flatMap fun x =>
      toLe 4 (u.merge.gain.getD x 0) ++ toLeInt 8 (u.merge.knee.getD x 0) ++ toLe 1 (u.merge.ws.getD x 0) ++ toLe 3 0)] ++
    (if u.defect.static.isEmpty then [itemB 0x0003 []]
     else (chunks 65532 (4 * u.defect.static.length) (u.defect.static.flatMap fun d => toLe 4 d)).map fun b => itemB 0x0003 b)

/-- The BRMD items that a Mill context has in force for `e` exposures (R267). -/
def millMeta (c : MillConfig) (e : Nat) : List Item :=
  [ itemB 0x0004 ((([(c.shot0, c.read0), (c.shot1, c.read1), (c.shot2, c.read2), (c.shot3, c.read3)] : List (Nat × Nat)).take e).flatMap
      fun sr => toLe 4 sr.1 ++ toLe 8 sr.2),
    itemB 0x0005 ([c.gainTl, c.gainTr, c.gainBl, c.gainBr].flatMap fun g => toLe 4 g),
    itemB 0x0006 (([c.m00, c.m01, c.m02, c.m10, c.m11, c.m12, c.m20, c.m21, c.m22].flatMap fun m => toLeInt 4 m) ++
      [c.o0, c.o1, c.o2].flatMap fun o => toLeInt 8 o) ]

/-- Claims room at each live tap for a frame that starts; a tap without room skips it. Answers the entries and whether
one was skipped. -/
def State.claimTaps (p first exposures lines width bits cfa : Nat) (s : State) : List (Option Nat) × Bool × State :=
  (List.range 4).foldl (fun (acc : List (Option Nat) × Bool × State) k =>
    let (ids, overrun, s) := acc
    let s := s.onUnit p fun u => { u with taps := modAt u.taps k fun t => { t with live := t.enable } }
    let t := (s.unit p).taps.getD k {}
    if !t.enable || decide (k < first) then (ids ++ [none], overrun, s)
    else match s.ringClaim t.ring (tapSize k exposures lines width) (0x0200 + p) with
      | (some idp, s) =>
        let x : TapFrame := { id := idp.1, tap := k, frame := s.raster.frame, width, bits := if k = 0 then bits else 16, cfa
                              tc := s.raster.tcNow, sub := s.raster.tcSub
                              intakeMeta := s.intakeMeta p
                              millMeta := millMeta ((s.mill.ctxs.getD p {}).cfg.force) exposures }
        (ids ++ [some idp.1], overrun, s.onUnit p fun u => { u with tapped := (x :: u.tapped).take 4096 })
      | (none, s) => (ids ++ [none], true, s.countUnit p 14 1)) ([], false, s)

/-- Publishes a tap's entry with its bytes. -/
def State.tapWrite (p tap : Nat) (id : Option Nat) (bs : List Byte) (s : State) : State :=
  match id with
  | none => s
  | some i =>
    let h := ((s.unit p).taps.getD tap {}).ring
    (s.ringFill h i 0 bs).ringPublish h i bs.length

/-- Withdraws a tap's entry. -/
def State.tapDrop (p tap : Nat) (id : Option Nat) (s : State) : State :=
  match id with
  | none => s
  | some i => s.ringWithdraw ((s.unit p).taps.getD tap {}).ring i

/-- T2 or T3 writes the picture of a frame (R131). -/
def State.millTap (p : Nat) (fr : Frame) (tap : Nat) (pic : List (List Int)) (s : State) : State :=
  match (s.unit p).tapIds.find? fun x => x.1 == fr && x.2.1 == tap with
  | none => s
  | some x =>
    let s := s.onUnit p fun u => { u with tapIds := u.tapIds.filter fun y => y != x }
    s.tapWrite p tap (some x.2.2) (pic.flatMap fun row => row.flatMap fun v => toLe 2 (toRc16 v))

/-- The MILL_FLAGS of a frame that T2 and T3 hold. -/
def State.tapFlags (p : Nat) (fr : Frame) (flags : BitVec 16) (s : State) : State :=
  let mark (x : TapFrame) : TapFrame := if x.frame == fr && decide (2 ≤ x.tap) then { x with millFlags := flags } else x
  s.onUnit p fun u => { u with tapped := u.tapped.map mark }

/-- T2 and T3 are not written for a frame that is dropped from development. -/
def State.millTapsDrop (p : Nat) (fr : Frame) (s : State) : State :=
  ((s.unit p).tapIds.filter fun x => x.1 == fr).foldl (fun s x =>
    (s.onUnit p fun u => { u with tapIds := u.tapIds.filter fun y => y != x }).tapDrop p x.2.1 (some x.2.2)) s

def State.onCtx (k : Nat) (f : MillContext → MillContext) (s : State) : State :=
  s.onMill fun m => { m with ctxs := modAt m.ctxs k f }

def State.ctx (k : Nat) (s : State) : MillContext := s.mill.ctxs.getD k {}

/-- Adds `n` to counter `j` of Mill context `k`. -/
def State.countMill (k j n : Nat) (s : State) : State := s.onCtx k fun c => { c with cnt := addAt c.cnt j n }

/-- The Mill abandons a frame of which pairs have been granted (R148). -/
def State.millAbandon (k : Nat) (fr : Frame) (s : State) : State :=
  match (s.ctx k).taking with
  | none => s
  | some m =>
    if m.frame != fr then s
    else
      let s := match m.stats with
        | some id => s.ringCancel (BitVec.ofNat 32 m.cfg.statsRing) id
        | none => s
      let s := (s.onCtx k fun c =>
        { c with taking := none, fresh := false, lastFrame := fr, lastMark := m.mark, lastFlags := 0x20
                 prev := some { frame := fr, replayIndex := m.replayIndex, abandoned := true, cut := m.mark.getLsbD 2
                                shape := (m.width, m.lines, m.cfa, m.cfg.tnrRef), off := m.cfg.tnrEnable != 1 } }).countMill k 1 1
      s.rendAbandon k fr

/-- Drops a frame from development (R135, R124, R457): its pairs leave the buffer, the Mill abandons it and T2 and T3
are not written. -/
def State.dropDevelopment (p : Nat) (fr : Frame) (s : State) : State :=
  let s := s.onFlight p fr fun f => { f with devDrop := true, flags := f.flags ||| flagDevDropped }
  let s := s.onUnit p fun u => { u with buffer := u.buffer.filter fun x => x.frame != fr }
  (s.millTapsDrop p fr).millAbandon p fr

/-! ## From rows to pairs -/

def RowStatus.settled : RowStatus → Bool
  | .received => true
  | .resent => true
  | .concealed => true
  | _ => false

/-- Every exposure of a row is settled. -/
def FrameIn.rowSettled (f : FrameIn) (r : Nat) : Bool :=
  (List.range f.exposures).all fun e => ((f.row r e).map fun x => x.status.settled).getD false

/-- Rows that the frame's picture has: the configured ones, or those kept once it has ended. -/
def FrameIn.height (f : FrameIn) : Nat := if f.ended then f.kept else f.lines

/-- Linear rows of every exposure of row `r`. -/
def linearRows (u : IntakeUnit) (f : FrameIn) (r : Nat) : List (List Int) :=
  (List.range f.exposures).map fun e =>
    lineariseRow (u.curves.getD e []) f.cfa f.bits r (((f.row r e).map (·.codes)).getD [])

/-- The merged picture as far as it is settled. -/
def FrameIn.picture (u : IntakeUnit) (f : FrameIn) : List (List Int) :=
  (List.range f.height).map fun r => mergeRow u.merge (linearRows u f r)

/-- Line pair `k` after defect correction, and the dynamic corrections in it. -/
def FrameIn.pair (u : IntakeUnit) (f : FrameIn) (pic : List (List Int)) (k : Nat) : Pair × Nat :=
  let a := correctRow u.defect f.cfa pic (2 * k)
  let b := correctRow u.defect f.cfa pic (2 * k + 1)
  ({ frame := f.frame, index := k, last := decide (f.lines / 2 ≤ k + 1), top := a.1, bottom := b.1
     topTags := tagRow u.merge (linearRows u f (2 * k)), bottomTags := tagRow u.merge (linearRows u f (2 * k + 1))
     mark := f.mark, flags := f.flags, lines := f.lines, cfa := f.cfa, start := f.start }, a.2 + b.2)

/-- Rows of a port buffer: completion pairs take no place in it (R124). -/
def IntakeUnit.rowsHeld (u : IntakeUnit) : Nat := 2 * (u.buffer.filter fun x => !x.filler).length

/-- Frames that LEVEL 17 to 19 develops (R457). -/
def State.levelDevelops (fr : Frame) (s : State) : Bool :=
  s.power.level < 17 || fr.toNat % (s.power.level - 15) == 0

/-- A pair enters the port buffer, or its frame is dropped from development because the buffer is full (R135) or
because the throttle level passes the frame over (R457). -/
def State.enterPair (p : Nat) (x : Pair) (s : State) : State :=
  match s.flight? p x.frame with
  | none => s
  | some f =>
    let s := s.onFlight p x.frame fun f => { f with pairsSent := x.index + 1 }
    if f.devDrop then s
    else if x.index == 0 && !s.levelDevelops x.frame then
      (s.dropDevelopment p x.frame).onPower fun w => { w with cnt := bumpAt w.cnt 2 }
    else if 64 ≤ (s.unit p).rowsHeld then
      ((s.dropDevelopment p x.frame).countUnit p 10 1).noticeOn 0x0283
        [itemN 1 1 p, itemN 2 4 x.frame.toNat, itemN 3 1 1] (p == 1)
    else s.onUnit p fun u =>
      let u := { u with buffer := u.buffer ++ [x] }
      { u with peakRows := max u.peakRows u.rowsHeld }

/-- The frame record (R120). -/
def frameRecord (p : Nat) (f : FrameIn) : List Byte :=
  let map := lineMap f
  let n (st : RowStatus) := (f.rows.filter fun x => x.status == st && decide (x.row < f.kept)).length
  toLe 2 0x0201 ++ toLe 2 1 ++ toLe 4 (48 + map.length) ++ toLe 4 f.frame.toNat ++ toLe 2 f.frameLo ++
    toLe 2 f.flags.toNat ++ toLe 2 f.mark.toNat ++ toLe 1 p ++ toLe 1 f.exposures ++ toLe 2 f.lines ++ toLe 2 f.kept ++
    clkBytes f.start ++ toLe 4 (n .concealed) ++ toLe 4 (n .resent) ++ toLe 4 0 ++ map

/-- Completion pairs of a short frame: copies of the last pair with both rows kept (R124). -/
def fillers (f : FrameIn) (x : Pair) : List Pair :=
  (List.range (f.lines / 2)).filterMap fun k =>
    if x.index < k then some { x with index := k, last := decide (f.lines / 2 ≤ k + 1), filler := true } else none

/-- A frame whose kept rows are all settled is complete: its taps T0 and T1 and its record are written, a short frame is
completed or dropped, and its flags are reported. -/
def State.finaliseFrame (p : Nat) (fr : Frame) (s : State) : State :=
  match s.flight? p fr with
  | none => s
  | some f =>
    let u := s.unit p
    let pic := f.picture u
    let s :=
      if f.kept = f.lines || f.devDrop then s
      else if f.kept < 2 then
        (s.dropDevelopment p fr).noticeOn 0x0283 [itemN 1 1 p, itemN 2 4 fr.toNat, itemN 3 1 3] (p == 1)
      else
        let x := (f.pair u pic (f.kept / 2 - 1)).1
        s.onUnit p fun u => { u with buffer := u.buffer ++ fillers f x }
    let f := (s.flight? p fr).getD f
    let codes := (List.range f.exposures).flatMap fun e => (List.range f.kept).flatMap fun r =>
      (((f.row r e).map (·.codes)).getD []).flatMap (toLe 2)
    let s := s.tapWrite p 0 (f.entries.getD 0 none) codes
    let s := s.tapWrite p 1 (f.entries.getD 1 none) (pic.flatMap fun row => row.flatMap fun v => toLe 2 (toRc16 v))
    let concealed := (f.rows.filter fun x => x.status == .concealed && decide (x.row < f.kept)).length
    let s := s.onUnit p fun u =>
      { u with records := u.records ++ [frameRecord p f], flight := u.flight.filter fun x => x.frame != fr || x.rateDrop
               lastFlags := if u.lastFrame == fr then f.flags else u.lastFlags
               buffer := u.buffer.map fun x => if x.frame == fr then { x with mark := f.mark, flags := f.flags } else x }
    if f.flags = 0 then s
    else s.noticeOn 0x0284 [itemN 1 1 p, itemN 2 4 fr.toNat, itemN 3 2 f.flags.toNat, itemN 4 2 concealed] (p == 1)

/-- Sends on every pair of a frame that is ready, and completes the frame once it can be. A pair is ready once its rows
and the two rows below it, which its correction reads, are settled. DESIGN CHOICE, unsafe (log entry 31): which row
completes a short frame. -/
def State.progress (p : Nat) (fr : Frame) : Nat → State → State
  | 0, s => s
  | fuel + 1, s =>
    match s.flight? p fr with
    | none => s
    | some f =>
      let k := f.pairsSent
      if 2 * k + 1 < f.height && (List.range (min (2 * k + 4) f.height)).all f.rowSettled then
        let u := s.unit p
        let (x, n) := f.pair u (f.picture u) k
        ((s.countUnit p 13 n).enterPair p x).progress p fr fuel
      else if f.ended && (List.range f.kept).all f.rowSettled then s.finaliseFrame p fr
      else s

/-- Runs on every frame in flight at a source. -/
def State.progressAll (p : Nat) (s : State) : State :=
  ((s.unit p).flight.map (·.frame)).foldl (fun s fr => s.progress p fr (s.unit p).cfg.lines) s

/-! ## Damaged rows (R115 to R119) -/

/-- Asks the sensor for a row again (R117). -/
def State.askResend (p : Nat) (f : FrameIn) (r e : Nat) (s : State) : State :=
  if (s.unit p).cfg.resendEnable ≠ 1 then s
  else s.sbAsk p 0x06 (.resend f.frame r e) (toLe 2 f.frameLo ++ toLe 2 r ++ toLe 1 e)

/-- A row is found damaged for the first time: counted, marked and asked for again. -/
def State.damage (p : Nat) (f : FrameIn) (r e : Nat) (s : State) : State :=
  ((s.countUnit p 1 1).onFlight p f.frame (FrameIn.onRow r e fun x => { x with status := .damaged })).askResend p f r e

/-- A damaged row is given up: it waits for its concealment, and is flagged CONCEALED. -/
def State.giveUp (p : Nat) (fr : Frame) (r e : Nat) (s : State) : State :=
  s.onFlight p fr fun f =>
    if ((f.row r e).map fun x => x.status == .damaged).getD false then
      { f.onRow r e fun x => { x with status := .toConceal } with flags := f.flags ||| flagConcealed }
    else f

/-- Rows of an exposure between the last one seen and `r` that never came: the gap is damage (R116). -/
def State.gap (p : Nat) (f : FrameIn) (e lo hi : Nat) (s : State) : State :=
  (List.range hi).foldl (fun s r =>
    if lo ≤ r && ((f.row r e).map fun x => x.status == .missing).getD false then s.damage p f r e else s) s

/-- Conceals a row whose neighbours are settled (R119). DESIGN CHOICE, unsafe (log entry 31): which row completes a short
frame. -/
def State.conceal (p : Nat) (f : FrameIn) (r e : Nat) (s : State) : State :=
  let st := phaseStep f.cfa
  let look (r : Nat) : Option Row := if r < f.height then f.row r e else none
  let above := searchRow look (fun r => if st ≤ r then some (r - st) else none) 8 r
  let below := searchRow look (fun r => some (r + st)) 8 r
  if above == .notYet || below == .notYet then s
  else
    let black (i : Nat) : Nat :=
      ((((s.unit p).curves.getD e []).getD (arrayPos f.cfa r i) {})).black
    let codes := concealCodes black f.width r above below
    let s := s.onFlight p f.frame (FrameIn.onRow r e fun x => { x with status := .concealed, codes })
    (s.countUnit p 4 1).progress p f.frame f.lines

/-! ## Frames (R122 to R126) -/

/-- The highest row that arrived undamaged, plus one; 0 for none (R124). -/
def FrameIn.receivedRows (f : FrameIn) : Nat :=
  f.rows.foldl (fun m x => if x.status == .received || x.status == .resent then max m (x.row + 1) else m) 0

/-- Ends the frame in progress at a port: `k286` for K28.6, `stall` for a stall, `closed` when later copies are
discarded (R123, R124). A frame without a received row leaves nothing. -/
def State.endFrame (p : Nat) (k286 stall closed : Bool) (s : State) : State :=
  match (s.unit p).flight.find? fun f => !f.ended with
  | none => s.onUnit p fun u => { u with inFrame := false }
  | some f =>
    let stop (s : State) : State := (s.onUnit p fun u =>
      { u with inFrame := false, lastEnd := s.raster.clock
               running := u.running && !u.stopping, stopping := false }).raise (0x029 + 0x10 * p)
    if f.rateDrop then stop (s.onUnit p fun u => { u with flight := u.flight.filter fun x => !x.rateDrop })
    else
      let got := f.receivedRows
      if got = 0 then
        let s := s.onUnit p fun u => { u with flight := u.flight.filter fun x => x.frame != f.frame || x.rateDrop }
        let s := (s.tapDrop p 0 (f.entries.getD 0 none)).tapDrop p 1 (f.entries.getD 1 none)
        stop ((s.millTapsDrop p f.frame).countUnit p 9 (bit stall))
      else
        let whole := f.rows.all fun x => decide (x.row < got) || x.status == .toConceal || x.status == .concealed
        let short := !k286 || !whole
        let kept := if short then got else f.lines
        let flags := f.flags ||| (if short then flagTruncated else 0) ||| (if stall then flagStalled else 0)
        let s := s.onFlight p f.frame fun f =>
          { f with ended := true, closed, kept, flags
                   rows := f.rows.map fun x => if kept ≤ x.row then { x with status := .missing, codes := [] } else x }
        let f' := (s.flight? p f.frame).getD f
        let s := (List.range f.exposures).foldl (fun s e => s.gap p f' e 0 kept) s
        let s := ((s.countUnit p 0 1).countUnit p 8 (bit short)).countUnit p 9 (bit stall)
        let s := stop (s.onUnit p fun u => { u with lastFrame := f.frame, lastMark := f.mark, lastFlags := flags })
        s.progress p f.frame f.lines

/-- SENSOR_FRAME_START (R122, R126). -/
def sensorFrameStart (p frameLo : Nat) (s : State) : State :=
  let u := s.unit p
  if !s.hasPort p || u.portState != 3 then s
  else
    let now := s.raster.clock
    let s := s.onUnit p fun u =>
      { u with interval := (u.lastStart.map fun x => ((Clk.units now - Clk.units x.2) / 65536).toNat).getD 0
               lastStart := some (s.raster.frame, now) }
    let second := u.running && u.gotFrame
    let s := if u.inFrame then s.endFrame p false false false else s
    let u := s.unit p
    let s := if u.running && u.stopping then s.onUnit p fun u => { u with running := false, stopping := false }
      else if !u.running && u.armed then
        let s := s.onUnit p fun u => { u with running := true, armed := false }
        s.onCtx p fun c => { c with fresh := true }
      else s
    let u := s.unit p
    if !u.running then s
    else if second then
      let s := s.onUnit p fun u =>
        { u with inFrame := true
                 flight := u.flight ++ [{ frame := s.raster.frame, frameLo := frameLo % 65536, mark := s.raster.mark, start := now
                                          width := u.cfg.width, lines := u.cfg.lines, exposures := u.cfg.exposures
                                          bits := u.cfg.bits, cfa := u.cfg.cfaPhase, rateDrop := true }] }
      (s.countUnit p 11 1).noticeOn 0x0283 [itemN 1 1 p, itemN 2 4 s.raster.frame.toNat, itemN 3 1 2] (p == 1)
    else
      let c := u.cfg
      let (ids, overrun, s) := s.claimTaps p 0 c.exposures c.lines c.width c.bits c.cfaPhase
      let rows := (List.range c.lines).flatMap fun r => (List.range c.exposures).map fun e => ({ row := r, exposure := e } : Row)
      let f : FrameIn :=
        { frame := s.raster.frame, frameLo := frameLo % 65536, mark := s.raster.mark, start := now, width := c.width
          lines := c.lines, exposures := c.exposures, bits := c.bits, cfa := c.cfaPhase, rows, entries := ids
          flags := if overrun then flagTapOverrun else 0 }
      (s.onUnit p fun u =>
        { u with inFrame := true, gotFrame := true, flight := u.flight ++ [f]
                 tapIds := u.tapIds ++ ([2, 3].filterMap fun k => (ids.getD k none).map fun i => (f.frame, k, i)) }).raise
        (0x028 + 0x10 * p)

/-- What R116 checks of a line packet: its header's fields and whether it is undamaged. -/
structure LinePacket where
  frameLo : Nat
  line : Nat
  length : Nat
  exp : Nat
  resend : Bool
  sensorBad : Bool
  crcGood : Bool
  payload : List Byte
deriving DecidableEq, Repr

/-- Reads a line packet (R107, R109). -/
def readPacket (bs : List Byte) : LinePacket :=
  let n := leNat ((bs.drop 4).take 2)
  let fl := (bs.getD 7 0).toNat
  { frameLo := leNat (bs.take 2), line := leNat ((bs.drop 2).take 2), length := n, exp := (bs.getD 6 0).toNat
    resend := fl % 2 == 1, sensorBad := fl / 2 % 2 == 1
    crcGood := decide (bs.length = 12 + n) && (crc32c (bs.take (8 + n))).toNat == leNat ((bs.drop (8 + n)).take 4)
    payload := (bs.drop 8).take n }

/-- A packet outside any frame, or beyond the configured rows or exposures, is discarded, counted, and flags its frame LONG
(R125). -/
def State.longLine (p : Nat) (fr : Option Frame) (s : State) : State :=
  let s := s.countUnit p 7 1
  match fr with
  | none => s
  | some f => s.onFlight p f fun x => { x with flags := x.flags ||| flagLong }

/-- A packet that belongs to frame `f` and whose place in it is known. -/
def State.takePacket (p : Nat) (f : FrameIn) (k : LinePacket) (good : Bool) (s : State) : State :=
  match f.row k.line k.exp with
  | none => s
  | some x =>
    if f.closed || (f.ended && decide (f.kept ≤ k.line)) then s.countUnit p 5 1
    else if x.status.settled || x.status == .toConceal then
      if !k.resend && ((f.lastRow.getD k.exp none).any fun l => decide (k.line < l)) then s.countUnit p 6 1
      else s.countUnit p 5 1
    else
      let last := f.lastRow.getD k.exp none
      if !k.resend && (last.any fun l => decide (k.line < l)) then s.countUnit p 6 1
      else
        let s := if k.resend then s else
          let s := s.gap p f k.exp ((last.map (· + 1)).getD 0) k.line
          s.onFlight p f.frame fun f => { f with lastRow := f.lastRow.set k.exp (some k.line) }
        if good then
          let again := x.status == .damaged
          let s := s.onFlight p f.frame fun f =>
            { f.onRow k.line k.exp fun x =>
                { x with status := if again then .resent else .received, codes := unpack k.payload f.bits f.width } with
              flags := if again then f.flags ||| flagResent else f.flags }
          (if again then s.countUnit p 3 1 else s).progress p f.frame f.lines
        else if x.status == .damaged then ((s.countUnit p 1 1).raise (0x02A + 0x10 * p)).askResend p f k.line k.exp
        else (s.damage p f k.line k.exp).raise (0x02A + 0x10 * p)

/-- LINE_PACKET_RECEIVED (R116 to R118, R125). A packet whose header cannot belong to a row of a frame in flight is only
counted as damaged; the gap that it leaves shows later. -/
def linePacketReceived (p : Nat) (bs : List Byte) (laneGood framed : Bool) (s : State) : State :=
  let u := s.unit p
  if !s.hasPort p || !u.running || u.portState != 3 then s
  else
    let k := readPacket bs
    let clean := k.crcGood && laneGood && framed
    let cur := u.flight.find? fun f => !f.ended
    let f? := if k.resend then u.flight.find? fun f => f.frameLo == k.frameLo && !f.rateDrop else cur
    match f? with
    | none => if k.resend then s.countUnit p 5 1 else s.longLine p (u.flight.getLast?.map (·.frame))
    | some f =>
      if f.rateDrop then s
      else
        let good := clean && k.length == packetLength f.width f.bits && k.frameLo == f.frameLo && !k.sensorBad
        let inside := decide (k.line < f.lines) && decide (k.exp < f.exposures)
        if inside && (good || k.frameLo == f.frameLo) then s.takePacket p f k good
        else if good then s.longLine p (some f.frame)
        else (s.countUnit p 1 1).raise (0x02A + 0x10 * p)

/-- SENSOR_FRAME_END (R123). -/
def sensorFrameEnd (p : Nat) (s : State) : State :=
  if s.hasPort p && (s.unit p).inFrame && (s.unit p).portState == 3 then s.endFrame p true false false else s

/-- FRAME_STALL (R123). -/
def frameStall (p : Nat) (s : State) : State :=
  if s.hasPort p && (s.unit p).inFrame then s.endFrame p false true true else s

/-- The raster cuts the frame (R27, R123): each port's frame in progress ends at once, and what carries the raster frame's
mark word carries CUT from now on. -/
def State.cutFrames (s : State) : State :=
  let s := [0, 1].foldl (fun s p =>
    let s := s.onUnit p fun u =>
      { u with flight := u.flight.map fun f => if f.frame == s.raster.frame then { f with mark := s.raster.mark } else f
               buffer := u.buffer.map fun x => if x.frame == s.raster.frame then { x with mark := s.raster.mark } else x }
    if (s.unit p).inFrame then s.endFrame p false false true else s) s
  s.onMill fun m => { m with ctxs := m.ctxs.map fun c =>
    { c with taking := c.taking.map fun t => if t.frame == s.raster.frame then { t with mark := s.raster.mark } else t
             prev := c.prev.map fun t => if t.frame == s.raster.frame then { t with cut := true } else t } }

/-- A frame in flight at a port, the oldest one, in which the row is damaged. -/
def State.damagedIn (p r e : Nat) (st : RowStatus) (s : State) : Option FrameIn :=
  (s.unit p).flight.find? fun f => ((f.row r e).map fun x => x.status == st).getD false

/-- RESEND_DEADLINE (R117). -/
def resendDeadline (p r e : Nat) (s : State) : State :=
  match s.damagedIn p r e .damaged with
  | none => s
  | some f => s.giveUp p f.frame r e

/-- ROW_CONCEAL (R119). -/
def rowConceal (p r e : Nat) (s : State) : State :=
  match s.damagedIn p r e .toConceal with
  | none => s
  | some f => s.conceal p f r e

/-! ## Replay (R132, R133) -/

/-- The FrameIn that stands for a Replay frame: every row received. -/
def replayFrameIn (c : ReplayConfig) (x : ReplayFrame) (fr : Frame) (mark : BitVec 16) (now : Clk)
    (ids : List (Option Nat)) (overrun : Bool) : FrameIn :=
  { frame := fr, frameLo := 0, mark, start := now, width := c.width, lines := c.lines
    exposures := if c.entryTap = 0 then c.exposures else 1, bits := x.bits, cfa := c.cfaPhase, ended := true, kept := c.lines
    rows := (List.range c.lines).flatMap fun r => (List.range (if c.entryTap = 0 then c.exposures else 1)).map fun e =>
      { row := r, exposure := e, status := .received, codes := (((x.planes.getD e []).getD r []).map Int.toNat) }
    flags := flagReplay ||| x.flags ||| (if overrun then flagTapOverrun else 0), entries := ids }

/-- The pairs of a Replay frame: corrected when it enters at T0 or T1, as they are at T2 and T3. -/
def replayPairs (u : IntakeUnit) (f : FrameIn) (tap : Nat) (plane : List (List Int)) : List Pair :=
  let pic := if tap = 0 then f.picture u else plane
  (List.range (f.lines / 2)).map fun k =>
    let x := (f.pair u pic k).1
    let zero := List.replicate f.width 0
    let x := if tap = 0 then x else { x with topTags := zero, bottomTags := zero }
    if tap < 2 then x else { x with top := pic.getD (2 * k) [], bottom := pic.getD (2 * k + 1) [] }

/-- REPLAY_FRAME_START (R133): a start or stop that waits acts now; then the next frame starts when its predecessor has
been granted and it is ready. COUNT frames delivered end the run, or start it again from FIRST. DESIGN CHOICE, unsafe (log
entry 32): Replay's counters at a start. -/
def replayFrameStart (s : State) : State :=
  let u := s.unit 2
  let r := s.intake.replay
  let s :=
    if u.running && u.stopping && !r.inFrame then s.onUnit 2 fun u => { u with running := false, stopping := false }
    else if !u.running && u.armed then
      (s.onUnit 2 fun u => { u with running := true, armed := false }).onCtx 2 fun c => { c with fresh := true }
    else s
  match r.ready with
  | none => s
  | some x =>
    if !(s.unit 2).running || r.inFrame then s
    else
      let c := r.cfg
      let now := s.raster.clock
      let (ids, overrun, s) := s.claimTaps 2 c.entryTap (if c.entryTap = 0 then c.exposures else 1) c.lines c.width x.bits c.cfaPhase
      let f := replayFrameIn c x s.raster.frame s.raster.mark now ids overrun
      let u := s.unit 2
      let pairs := replayPairs u f c.entryTap (x.planes.headD [])
      let developed := s.levelDevelops f.frame
      let f := if developed then f else { f with flags := f.flags ||| flagDevDropped }
      let s := s.onUnit 2 fun u =>
        { u with gotFrame := true, lastStart := some (f.frame, now), lastFrame := f.frame, lastMark := f.mark, lastFlags := f.flags
                 records := u.records ++ [frameRecord 2 f]
                 buffer := if developed then u.buffer ++ pairs.map fun y => { y with flags := f.flags } else u.buffer
                 tapIds := u.tapIds ++ ([2, 3].filterMap fun k => (ids.getD k none).map fun i => (f.frame, k, i)) }
      let s := if developed then s
        else (s.millTapsDrop 2 f.frame).onPower fun w => { w with cnt := bumpAt w.cnt 2 }
      let planeBytes := (List.range f.exposures).flatMap fun e => (x.planes.getD e []).flatMap fun row =>
        row.flatMap fun v => toLe 2 v.toNat
      let s := s.tapWrite 2 0 (ids.getD 0 none) planeBytes
      let s := s.tapWrite 2 1 (ids.getD 1 none)
        ((if c.entryTap = 0 then f.picture u else x.planes.headD []).flatMap fun row => row.flatMap fun v => toLe 2 (toRc16 v))
      let s := s.onIntake fun i => { i with replay := { i.replay with
        ready := none, inFrame := developed, next := i.replay.next + 1, lastFrame := f.frame } }
      ((s.countUnit 2 0 1).raise 0x02B).notice 0x0284 [itemN 1 1 2, itemN 2 4 f.frame.toNat, itemN 3 2 f.flags.toNat, itemN 4 2 0]

/-- A Replay frame is wholly granted: it is delivered, and the run ends, goes on or begins again (R133). -/
def State.replayDelivered (s : State) : State :=
  let s := s.onIntake fun i => { i with replay := { i.replay with
    inFrame := false, delivered := i.replay.delivered + 1, cntFrames := i.replay.cntFrames + 1 } }
  let r := s.intake.replay
  let s := s.onUnit 2 fun u => { u with lastEnd := s.raster.clock, running := u.running && !u.stopping, stopping := false }
  if !(s.unit 2).running || decide (r.next < r.cfg.first + r.cfg.count) then s
  else if r.cfg.loop = 1 then s.onIntake fun i => { i with replay := { i.replay with next := r.cfg.first } }
  else
    (s.onUnit 2 fun u => { u with running := false }).notice 0x0286
      [itemN 1 4 r.delivered, itemN 2 4 r.lastFrame.toNat]

/-! ## Sideband messages (R112 to R114) -/

/-- SIDEBAND_POLL (R113). -/
def sidebandPoll (p : Nat) (s : State) : State :=
  let u := s.unit p
  if s.hasPort p && u.sbOut.isNone && u.sbQueue.isEmpty then s.sbAsk p 0x09 .poll [] else s

/-- What a failed sideband request leaves behind; a register access is answered by the caller. -/
def State.sbFailed (p : Nat) (a : Ask) (s : State) : State :=
  match a with
  | .capQuery => s.exchangeFailed p 4
  | .linkConfig => s.exchangeFailed p 4
  | .resend fr r e => s.giveUp p fr r e
  | _ => s

/-- SIDEBAND_TIMEOUT (R113): resent once with the same SEQ; after a second silence it fails. -/
def sidebandTimeout (p : Nat) (s : State) : Option Ask × State :=
  match (s.unit p).sbOut with
  | none => (none, s)
  | some r =>
    if !r.resent then
      (none, (s.onUnit p fun u => { u with sbOut := some { r with resent := true } }).send (.sideband p r.ty r.seq r.payload))
    else
      let s := (s.onUnit p fun u => { u with sbOut := none, answering := false }).countUnit p 15 1
      (some r.ask, (s.sbFailed p r.ask).sbPump p)

/-- RATES bit of a LANE_RATE (R112, R100). -/
def State.linkConfigBytes (p : Nat) (s : State) : List Byte :=
  let u := s.unit p
  let l := s.lanePort p
  let w := s.width p
  toLe 1 l.cfg.rate ++ toLe 1 u.cfg.bits ++ toLe 1 w ++ toLe 1 u.cfg.exposures ++ toLe 2 u.cfg.width ++ toLe 2 u.cfg.lines ++
    l.map.flatMap (toLe 1)

/-- Whether the configuration stays within the sensor's capabilities (R114). -/
def State.capable (p : Nat) (cap : SensorCap) (s : State) : Bool :=
  let u := s.unit p
  decide (s.width p ≤ cap.maxLanes) && cap.rates.testBit (s.lanePort p).cfg.rate &&
    cap.bits.testBit ((u.cfg.bits - 10) / 2) && decide (u.cfg.exposures ≤ cap.maxExposures) &&
    decide (u.cfg.width ≤ cap.maxWidth) && decide (u.cfg.lines ≤ cap.maxLines) && decide (16 ≤ cap.history)

/-- CAP_REPLY (R114). DEDUCED, unsafe (log entry 30): what a MODE change does to port B. -/
def capReply (p : Nat) (h : SbHead) (cap : SensorCap) (s : State) : State :=
  let (r, s) := s.sbTake p 0x81 h
  match r with
  | none => s
  | some _ =>
    let s := s.onUnit p fun u => { u with cap := some cap, version := cap.version }
    let s := s.onLanePort p fun l => { l with spareCapable := cap.flags.testBit 0, loopCapable := cap.flags.testBit 1 }
    if cap.version = 0 ∨ cap.version / 256 ≠ 2 then (s.exchangeFailed p 1).sbPump p
    else if !s.capable p cap then (s.exchangeFailed p 2).sbPump p
    else s.sbAsk p 0x02 .linkConfig (s.linkConfigBytes p)

/-- CONFIG_ACK (R114). DEDUCED, unsafe (log entry 30): what a MODE change does to port B. -/
def configAck (p : Nat) (h : SbHead) (code : Nat) (s : State) : State :=
  let (r, s) := s.sbTake p 0x82 h
  match r with
  | none => s
  | some _ =>
    if code ≠ 0 then (s.exchangeFailed p 3).sbPump p
    else
      let s := (s.portToActive p).onUnit p fun u => { u with portState := 3, exchangeFails := 0 }
      (s.portUpNotice p).sbPump p

/-- TAP_REPORT (R112): each lane of the request takes its answer. -/
def tapReport (p : Nat) (h : SbHead) (es : List TapEntry) (s : State) : State :=
  let (r, s) := s.sbTake p 0x83 h
  match r with
  | none => s
  | some q =>
    let lanes := match q.ask with | .taps ls => ls | _ => []
    let s := es.foldl (fun s e =>
      if lanes.contains e.lane then
        s.tapsAnswered (macroOf p e.lane) { pre := e.pre, main := e.main, post := e.post } e.reject
      else s) s
    s.sbPump p

/-- PRBS_ACK (R93): a refused run fails its lanes as a run with errors does. -/
def prbsAck (p : Nat) (h : SbHead) (code : Nat) (s : State) : State :=
  let (r, s) := s.sbTake p 0x8C h
  match r with
  | none => s
  | some q =>
    let lanes := match q.ask with | .prbs ls => ls | _ => []
    let s := if code = 0 then s else lanes.foldl (fun s ln => s.failBringUp (macroOf p ln) .prbs) s
    s.sbPump p

/-- BURST_ACK, MAP_ACK and LOOP_ACK (R95, R96, R112): the request is done. -/
def sbDone (p reply : Nat) (h : SbHead) (s : State) : State := (s.sbTake p reply h).2.sbPump p

/-- RESEND_ACK (R117): 0 = will send; 1 = not held, and the row is concealed. -/
def resendAck (p : Nat) (h : SbHead) (code : Nat) (s : State) : State :=
  let (r, s) := s.sbTake p 0x86 h
  let s := match r with
    | some q => (match q.ask with
      | .resend fr row e => if code = 0 then s else s.giveUp p fr row e
      | _ => s)
    | none => s
  s.sbPump p

/-- ALERT (R113) becomes INTAKE_SENSOR_ALERT. -/
def alert (p : Nat) (h : SbHead) (code : Nat) (data : Word) (s : State) : State :=
  let (r, s) := s.sbTake p 0x8A h
  match r with
  | none => s
  | some _ => (s.noticeOn 0x0285 [itemN 1 1 p, itemN 2 2 code, itemN 3 4 data.toNat] (p == 1)).sbPump p

/-- INx_CTRL.CNT_CLEAR (R138). -/
def inxCntClear (p : Nat) (s : State) : State := s.onUnit p fun u => { u with cnt := clearAll u.cnt, peakRows := u.rowsHeld }

/-! ## Starts and stops (R126, R136) -/

/-- A start named for port B of a ganged pair acts on port A. -/
def State.gangedSource (p : Nat) (s : State) : Nat := if p = 1 ∧ s.ganged = true then 0 else p

/-- A start: the source begins with the next K28.1, or, for Replay, with the next raster frame at which it is ready; Replay
begins at FIRST (R126, R133). -/
def State.intakeStart (p : Nat) (s : State) : State :=
  let k := s.gangedSource p
  let u := s.unit k
  if u.running && !u.stopping then s
  else
    let s := s.onUnit k fun u => { u with armed := true }
    if k = 2 && !u.running then
      s.onIntake fun i => { i with replay := { i.replay with next := i.replay.cfg.first, delivered := 0, ready := none } }
    else s

/-- A stop: at the end of the frame in progress, or now when there is none (R126). -/
def State.intakeStop (p : Nat) (s : State) : State :=
  let k := s.gangedSource p
  let busy := if k = 2 then s.intake.replay.inFrame else (s.unit k).inFrame
  s.onUnit k fun u => { u with armed := false, running := u.running && busy, stopping := u.running && busy }

end Sys2Proof.Machine
end

