-- ==== Sys2Proof/Machine/CompressOps.lean ====
section
/-!
DEFINITION. Effects of raw compression's commands: the residual transform, jobs and engines, frame chunks, Replay's
decompression and CMP_VERIFY (10_raw_compression.md).
-/

namespace Sys2Proof.Machine

def State.onCompress (f : CompressState → CompressState) (s : State) : State := { s with compress := f s.compress }
def State.onCmp (k : Nat) (f : CmpSession → CmpSession) (s : State) : State :=
  s.onCompress fun c => { c with sessions := modAt c.sessions k f }
def State.cmp (k : Nat) (s : State) : CmpSession := s.compress.sessions.getD k {}

/-- Adds 1 to counter `j` of a session: 0 = FRAMES, 1 = KEY, 2 = SKIPPED, 3 = RETRY. -/
def State.countCmp (k j : Nat) (s : State) : State := s.onCmp k fun x => { x with cnt := bumpAt x.cnt j }

/-- Adds 1 to a decompression counter: 0 = STREAMS, 1 = FAULT, 2 = VERIFY. -/
def State.countCmpd (j : Nat) (s : State) : State := s.onCompress fun c => { c with cnt := bumpAt c.cnt j }

/-! ## The raw residual transform (R246 to R251) -/

/-- First column of stripe `k`; stripe 32 begins past the last column. -/
def stripeStart (width k : Nat) : Nat := 2 * (k * width / 64)

/-- Columns of stripe `k`. -/
def stripeWidth (width k : Nat) : Nat := stripeStart width (k + 1) - stripeStart width k

/-- The ordered code of an RC16 word, and the RC16 word of an ordered code. -/
def toOrdered (w : Nat) : Nat := if w < 0x8000 then 0x8000 + w else 0x7FFF - (w - 0x8000)
def ofOrdered (c : Nat) : Nat := if 0x8000 ≤ c then c - 0x8000 else 0x8000 + (0x7FFF - c)

/-- The prediction from the neighbours a, b and d (R248). -/
def predict (sv : Nat) (a b d : Option Nat) : Nat :=
  match a, b with
  | none, none => sv
  | some a, none => a
  | none, some b => b
  | some a, some b =>
    let d := d.getD 0
    if max a b ≤ d then min a b else if d ≤ min a b then max a b else a + b - d

/-- z of a signed residual (R249), and back. -/
def zigzag (t : Int) : Nat := if 0 ≤ t then (2 * t).toNat else (-2 * t - 1).toNat
def unzigzag (z : Nat) : Int := if z % 2 = 0 then (z / 2 : Nat) else -(((z + 1) / 2 : Nat) : Int)

/-- A 16-bit difference read as a signed value. -/
def signed16 (v : Int) : Int := let m := v % 65536; if m < 32768 then m else m - 65536

/-- One sample forwards: z and the reconstructed code (R249, R250). -/
def residual (q top x p : Nat) : Nat × Nat :=
  if q = 1 then (zigzag (signed16 ((x : Int) - p)), x)
  else
    let e : Int := (x : Int) - p
    let m : Int := ((e.natAbs + q / 2) / q : Nat)
    let k := sat (-32768) 32767 (if e < 0 then -m else m)
    (zigzag k, (sat 0 top ((p : Int) + k * q)).toNat)

/-- One sample backwards: the code. -/
def restore (q top z p : Nat) : Nat :=
  if q = 1 then ((unzigzag z + p) % 65536).toNat else (sat 0 top ((p : Int) + unzigzag z * q)).toNat

/-- The neighbours of column `c`: `row` holds the codes of the row so far, `up` those of the row `st` above. -/
def nearCodes (st c : Nat) (row : List Nat) (up : Option (List Nat)) : Option Nat × Option Nat × Option Nat :=
  let left := if st ≤ c then row[c - st]? else none
  let above := up.bind fun u => u[c]?
  let diag := if st ≤ c then up.bind fun u => u[c - st]? else none
  (left, above, diag)

/-- The z values of one row and its reconstructed codes. -/
def forwardRow (q top sv st : Nat) (up : Option (List Nat)) (row : List Nat) : List Nat × List Nat :=
  row.foldl (fun (acc : List Nat × List Nat) x =>
    let (a, b, d) := nearCodes st acc.2.length acc.2 up
    let (z, y) := residual q top x (predict sv a b d)
    (acc.1 ++ [z], acc.2 ++ [y])) ([], [])

/-- The codes of one row from its z values. -/
def backwardRow (q top sv st : Nat) (up : Option (List Nat)) (zs : List Nat) : List Nat :=
  zs.foldl (fun (row : List Nat) z =>
    let (a, b, d) := nearCodes st row.length row up
    row ++ [restore q top z (predict sv a b d)]) []

/-- The z values of a stripe in sample order: rows, within them exposures; `planes` holds the stripe of each. -/
def forwardStripe (q top sv st : Nat) (planes : List (List (List Nat))) : List Nat :=
  let rows := ((planes.map List.length).foldl max 0)
  let step (acc : List Nat × List (List (List Nat))) (r : Nat) : List Nat × List (List (List Nat)) :=
    let out := planes.zipIdx.map fun pe =>
      forwardRow q top sv st (if st ≤ r then (acc.2.getD pe.2 [])[r - st]? else none) (pe.1.getD r [])
    (acc.1 ++ out.flatMap (·.1), acc.2.zipIdx.map fun de => de.1 ++ [(out.getD de.2 ([], [])).2])
  ((List.range rows).foldl step ([], planes.map fun _ => [])).1

/-- The codes of a stripe of `exps` planes from its z values. -/
def backwardStripe (q top sv st width rows exps : Nat) (zs : List Nat) : List (List (List Nat)) :=
  let step (acc : List (List (List Nat))) (r : Nat) : List (List (List Nat)) :=
    acc.zipIdx.map fun de =>
      de.1 ++ [backwardRow q top sv st (if st ≤ r then de.1[r - st]? else none)
        ((zs.drop ((r * exps + de.2) * width)).take width)]
  (List.range rows).foldl step (List.replicate exps [])

/-- Cuts a list into pieces of `w`. -/
def pieces {α : Type} (w : Nat) : Nat → List α → List (List α)
  | 0, _ => []
  | n + 1, l => if l.isEmpty then [] else l.take w :: pieces w n (l.drop w)

/-- The transformed bytes of z values: segments of 512, high bytes then low bytes (R251). -/
def transformed (zs : List Nat) : List Byte :=
  (pieces 512 zs.length zs).flatMap fun g => g.map (fun z => BitVec.ofNat 8 (z / 256)) ++ g.map fun z => BitVec.ofNat 8 z

/-- The z values of transformed bytes. -/
def untransformed (bs : List Byte) : List Nat :=
  (pieces 1024 bs.length bs).flatMap fun g =>
    let n := g.length / 2
    ((g.take n).zip (g.drop n)).map fun hl => hl.1.toNat * 256 + hl.2.toNat

/-- Bytes of history that a stripe leaves: the last 32,768 transformed bytes (R252, R257). -/
def historyOf (bs : List Byte) : List Byte := bs.drop (bs.length - 32768)

/-! ## What the chunk's head says -/

/-- The geometry that a BRFR chunk carries (R268). -/
structure ChunkHead where
  frame : Frame
  flags : Nat
  intakeFlags : Nat
  tap : Nat
  q : Nat
  width : Nat
  lines : Nat
  kept : Nat
  exposures : Nat
  bits : Nat
  cfa : Nat
  length : Nat
deriving DecidableEq, Repr

/-- Reads the head of a chunk. -/
def chunkHead (bs : List Byte) : ChunkHead :=
  let n (o k : Nat) := leNat ((bs.drop o).take k)
  { frame := BitVec.ofNat 32 (n 32 4), flags := n 42 2, intakeFlags := n 38 2, tap := n 44 1, q := n 46 1, width := n 48 2
    lines := n 50 2, kept := n 52 2, exposures := n 54 1, bits := n 55 1, cfa := n 56 1, length := n 4 4 }

/-- Planes that a tap holds. -/
def ChunkHead.planes (h : ChunkHead) : Nat := if h.tap = 0 then h.exposures else 1

/-- Samples of stripe `k`. -/
def ChunkHead.samples (h : ChunkHead) (k : Nat) : Nat := h.kept * h.planes * stripeWidth h.width k

/-- Code range top and SV of a tap (R248, R250). -/
def codeTop (tap bits : Nat) : Nat := if tap = 0 then 2 ^ bits - 1 else 65535
def codeStart (tap bits : Nat) : Nat := if tap = 0 then 2 ^ (bits - 1) else 0x8000

/-- ASCII of a chunk KIND. -/
def kindBytes (a b c d : Nat) : List Byte := [a, b, c, d].map (BitVec.ofNat 8)
def kindFrame : List Byte := kindBytes 0x42 0x52 0x46 0x52

/-- A chunk (R264): header, payload zero-padded to a multiple of 16. -/
def chunkBytes (kind : List Byte) (no : Nat) (frame : Nat) (offset : Nat) (payload : List Byte) : List Byte :=
  let body := payload ++ List.replicate (roundUp (32 + payload.length) 16 - 32 - payload.length) 0
  let head := kind ++ toLe 4 (32 + body.length) ++ toLe 4 no ++ toLe 4 frame ++ toLe 8 offset ++ toLe 4 (crc32c body).toNat
  head ++ toLe 4 (crc32c head).toNat ++ body

/-- A whole header at the start of `bs` whose HEADER_CRC holds and whose LENGTH is possible (R264, R272). -/
def headerOk (bs : List Byte) : Bool :=
  let n := leNat ((bs.drop 4).take 4)
  decide (32 ≤ bs.length) && (crc32c (bs.take 28)).toNat == leNat ((bs.drop 28).take 4) && decide (32 ≤ n) && n % 16 == 0

/-! ## Rings and frames (R255, R258, R261) -/

/-- The ring of the tap that a session takes. -/
def State.cmpRing (k : Nat) (s : State) : Handle :=
  let c := (s.cmp k).cfg
  ((s.unit c.source).taps.getD c.tap {}).ring

/-- A configured session reads its tap's ring (R288): it attaches, or moves to another ring. -/
def State.cmpAttach (k : Nat) (s : State) : State :=
  let h := s.cmpRing k
  match (s.cmp k).reads with
  | some g => if g == h then s else
      (((s.ringLeave g (0x0700 + k)).ringAttach h (0x0700 + k)).2).onCmp k fun x => { x with reads := some h, taken := [] }
  | none => ((s.ringAttach h (0x0700 + k)).2).onCmp k fun x => { x with reads := some h, taken := [] }

/-- Every configured session follows its tap's ring. -/
def State.cmpFollow (s : State) : State :=
  (List.range 4).foldl (fun s k => if (s.cmp k).reads.isSome then s.cmpAttach k else s) s

/-- Releases the entries at the front of the ring that the session has done with. -/
def State.cmpRelease (k : Nat) : Nat → State → State
  | 0, s => s
  | n + 1, s =>
    let x := s.cmp k
    match x.taken with
    | (id, true) :: rest =>
      let h := x.reads.getD 0
      let s := s.onCmp k fun x => { x with taken := rest }
      let s := match s.readerOf h (0x0700 + k), (s.unread h (0x0700 + k)).find? fun e => e.id == id with
        | some r, some e => s.ringRelease h r e.len
        | _, _ => s
      State.cmpRelease k n s
    | _ => s

/-- A session has done with an entry. -/
def State.cmpDone (k id : Nat) (s : State) : State :=
  (s.onCmp k fun x => { x with taken := x.taken.map fun t => if t.1 == id then (id, true) else t }).cmpRelease k
    (s.cmp k).taken.length

/-- RAW_LEN of stripe `k` of a frame. -/
def rawLen (h : ChunkHead) (k : Nat) : Nat := 2 * h.samples k

/-- W_max (R258). -/
def chunkMax (h : ChunkHead) (recordLen : Nat) : Nat :=
  608 + roundUp recordLen 16 +
    ((List.range 32).map fun k => roundUp (rawLen h k + 5 * ceilDiv (rawLen h k) 65535) 16).sum

/-- The frame record of a frame. -/
def State.recordOf (p : Nat) (fr : Frame) (s : State) : Option (List Byte) :=
  (s.unit p).records.reverse.find? fun r => leNat ((r.drop 8).take 4) == fr.toNat

/-- The head that a frame's chunk will have, from its record and its tap entry. -/
def frameHead (c : CmpConfig) (info : TapFrame) (record : List Byte) : ChunkHead :=
  let n (o k : Nat) := leNat ((record.drop o).take k)
  { frame := info.frame, flags := 0, intakeFlags := n 14 2, tap := info.tap, q := c.q, width := info.width, lines := n 20 2
    kept := n 22 2, exposures := n 19 1, bits := info.bits, cfa := info.cfa, length := 0 }

/-- W_max for the geometry in force, which CMP_SESSION_SET returns. -/
def State.cmpWorst (c : CmpConfig) (s : State) : Nat :=
  let u := (s.unit c.source).cfg
  chunkMax { frame := 0, flags := 0, intakeFlags := 0, tap := c.tap, q := c.q, width := u.width, lines := u.lines, kept := u.lines
             exposures := u.exposures, bits := u.bits, cfa := u.cfaPhase, length := 0 }
    (48 + roundUp (ceilDiv (u.lines * u.exposures) 4) 4)

/-- A session skips a frame (R258, R259). -/
def State.cmpSkip (k : Nat) (fr : Frame) (reason : Nat) (s : State) : State :=
  let s := s.onCmp k fun x => { x with skipped := (fr :: x.skipped).take 64 }
  (s.countCmp k 2).notice 0x0780 [itemN 1 1 k, itemN 2 4 fr.toNat, itemN 3 1 reason]

/-- Whether a frame before `f` can still come to a session from its tap. -/
def State.cmpComing (k : Nat) (f : Frame) (s : State) : Bool :=
  let x := s.cmp k
  let u := s.unit x.cfg.source
  let before (g : Frame) : Bool := Frame.passed g f
  u.flight.any (fun y => before y.frame && !y.rateDrop) || u.tapIds.any (fun y => before y.1) ||
    (s.unread (x.reads.getD 0) (0x0700 + k)).any fun e =>
      !(x.taken.any fun t => t.1 == e.id) && u.tapped.any fun t => t.id == e.id && t.tap == x.cfg.tap && before t.frame

/-- A stop is complete once no frame before it can still come and its last job has ended (R261). -/
def State.cmpSettle (k : Nat) (s : State) : State :=
  let x := s.cmp k
  match x.running, x.stopAt with
  | true, some f =>
    if !x.frames.isEmpty || s.cmpComing k f || Frame.passed s.raster.frame f then s
    else
      (s.onCmp k fun x => { x with running := false, stopAt := none, keyReq := [] }).notice 0x0782
        [itemN 1 1 k, itemN 2 4 (f - 1).toNat]
  | _, _ => s

/-- CMP_TAP_FRAME_WHOLE: the next whole frame of the session's tap is taken, or passed over by a session that does not run or
does not take it; a frame that OUT_RING has no room for is skipped (R255, R258, R261). -/
def cmpTapFrameWhole (k : Nat) (s : State) : State :=
  let x := s.cmp k
  let h := x.reads.getD 0
  match (s.unread h (0x0700 + k)).find? fun e => !(x.taken.any fun t => t.1 == e.id) with
  | none => s
  | some e =>
    let pass (s : State) : State := (s.onCmp k fun x => { x with taken := x.taken ++ [(e.id, true)] }).cmpRelease k (x.taken.length + 1)
    match (s.unit x.cfg.source).tapped.find? fun t => t.id == e.id && t.tap == x.cfg.tap with
    | none => pass s
    | some info =>
      if e.unit ≠ 0x0200 + x.cfg.source then pass s
      else match s.recordOf x.cfg.source info.frame with
        | none => s
        | some record =>
          let f := info.frame
          if !x.running || Frame.passed f x.startAt || x.stopAt.any fun g => !(Frame.passed f g) then (pass s).cmpSettle k
          else
            let head := frameHead x.cfg info record
            match s.ringClaim (BitVec.ofNat 32 x.cfg.outRing) (chunkMax head record.length) (0x0700 + k) with
            | (none, s) => ((pass s).cmpSkip k f 1).cmpSettle k
            | (some idp, s) =>
              let due := x.keyReq.any fun g => !(Frame.passed f g)
              let follows := x.begun.any fun b => b.1 + 1 == f
              let key := x.first || !follows || f.toNat % x.cfg.keyInterval == 0 || due
              let distance := if key then 0 else ((x.begun.map (·.2)).getD 0) + 1
              let cf : CmpFrame := { entry := e.id, outId := idp.1, info, record, key, distance }
              s.onCmp k fun x =>
                { x with first := false, taken := x.taken ++ [(e.id, false)], frames := x.frames ++ [cf]
                         begun := some (f, distance), keyReq := x.keyReq.filter fun g => Frame.passed f g }

/-! ## Engines (R254, R256, R257, R259) -/

/-- Clocks per input byte at a LEVEL, as a fraction (R254). -/
def levelClocks (level : Nat) : Nat × Nat :=
  [(1, 1), (2, 1), (5, 2), (3, 1), (4, 1), (5, 1), (8, 1), (10, 1), (16, 1), (32, 1)].getD level (1, 1)

/-- Clocks that a compression job occupies its engine. -/
def compClocks (c : CmpConfig) (len : Nat) (carried : Bool) : Nat :=
  let (a, b) := levelClocks c.level
  256 + ceilDiv (len * a) b + (if carried then 2048 else 0) + (if 1 < c.keyInterval then 2048 else 0)

def State.onEngine (e : Nat) (f : Engine → Engine) (s : State) : State :=
  s.onCompress fun c => { c with engines := modAt c.engines e f }

/-- Engines without a job, lowest first. -/
def State.freeEngines (s : State) : List Nat :=
  (indexed s.compress.engines).filterMap fun ie => if ie.2.job.isNone then some ie.1 else none

/-- A job begins on an engine. -/
def State.beginJob (e : Nat) (j : CmpJob) (clocks : Nat) (s : State) : State :=
  (s.onEngine e fun _ => { job := some j }).onCompress fun c => { c with clocks := c.clocks + clocks }

/-- The compression jobs that are ready: stripes not yet compressed nor in an engine; a CARRIED one waits for its predecessor,
whose history it restores. -/
def State.readyJobs (k : Nat) (s : State) : List (CmpFrame × Nat) :=
  let x := s.cmp k
  let busy (id st : Nat) : Bool := s.compress.engines.any fun e => match e.job with
    | some (.comp k' id' st' _) => k' == k && id' == id && st' == st
    | _ => false
  let earlier (f : CmpFrame) (st : Nat) : Bool :=
    (x.frames.takeWhile fun g => g.entry != f.entry).all fun g => (g.streams.getD st none).isSome
  x.frames.flatMap fun f => (List.range 32).filterMap fun st =>
    if (f.streams.getD st none).isSome || busy f.entry st || (!f.key && !earlier f st) then none else some (f, st)

/-- The ready compression job that comes first: ascending frame, then session, then stripe. -/
def State.firstJob (s : State) : Option (Nat × CmpFrame × Nat) :=
  (List.range 4).foldl (fun acc k =>
    match (s.readyJobs k).head? with
    | none => acc
    | some (f, st) => match acc with
      | none => some (k, f, st)
      | some (k', g, st') => if Frame.passed f.info.frame g.info.frame then some (k, f, st) else some (k', g, st')) none

/-! ## Replay and CMP_VERIFY (R256, R262, R263, R273) -/

/-- Bytes `off … off + n` of a buffer, ring or not; for a ring `off` counts from its first entry. -/
def Buffer.fetch (off n : Nat) (b : Buffer) : List Byte :=
  if b.ring.isSome then b.getWrapped off n else Mem.readN b.data off n

/-- Walks chunks by LENGTH up to `fuel` of them and answers the frame chunks' places and KEY flags (R263, R272). -/
def walkChunks (b : Buffer) (stop : Nat) : Nat → Nat → List (Nat × Bool)
  | 0, _ => []
  | n + 1, off =>
    let head := b.fetch off 64
    if stop < off + 64 ∨ !headerOk head then []
    else
      let len := leNat ((head.drop 4).take 4)
      let rest := walkChunks b stop n (off + len)
      if head.take 4 = kindFrame then (off, (leNat ((head.drop 42).take 2)) % 2 == 1) :: rest else rest

/-- The frame chunks of Replay's source from index `replayBase` on. DESIGN CHOICE, unsafe (log entry 32): Replay's
counters at a start. -/
def State.replayChunks (s : State) : List (Nat × Bool) :=
  let h : Handle := BitVec.ofNat 32 s.intake.replay.cfg.source
  match s.buffer? h with
  | none => []
  | some b => match b.ring, s.readerOf h 0x0202 with
    | some r, some k =>
      let pos := (((r.readers.getD k none).map (·.pos)).getD 0)
      let stop := (r.visible.foldl (fun m e => max m (e.start + e.len)) pos)
      walkChunks b stop (stop - pos) pos
    | some _, none => []
    | none, _ => walkChunks b b.size (b.size / 32) 0

/-- The index that Replay decompresses next, with its place: the frame it needs, or one before it that its history needs. -/
def State.replayNext (s : State) : Option (Nat × Nat × Bool) :=
  let chunks := s.replayChunks
  let base := s.compress.replayBase
  let j := s.intake.replay.next
  let at_ (i : Nat) : Option (Nat × Bool) := if i < base then none else chunks[i - base]?
  match at_ j with
  | none => none
  | some (off, true) => some (j, off, true)
  | some _ =>
    let key := ((List.range (j + 1)).reverse.find? fun i => (at_ i).any (·.2)).getD 0
    let i := match s.compress.replayAt with
      | some p => if key ≤ p ∧ p < j then p + 1 else key
      | none => key
    (at_ i).map fun o => (i, o.1, o.2)

/-- Whether Replay has a frame to decompress. -/
def State.replayWants (s : State) : Bool :=
  (s.unit 2).running && s.intake.replay.ready.isNone && s.compress.replay.isNone && (s.replayNext).isSome

/-- A stripe's directory entry: OFFSET, COMP_LEN, RAW_LEN, RAW_CRC. -/
def dirEntry (bs : List Byte) (k : Nat) : Nat × Nat × Nat × Nat :=
  let n (o w : Nat) := leNat ((bs.drop (96 + 16 * k + o)).take w)
  (n 0 4, n 4 4, n 8 4, n 12 4)

/-- The 64-byte blocks of a range that are poisoned, as offsets from its start. -/
def Buffer.poisonIn (off len : Nat) (b : Buffer) : List Nat :=
  if b.poison.isEmpty || b.size = 0 then []
  else (List.range len).filter fun i => b.poison.contains ((off + i) % b.size / 64)

/-- A chunk taken for decompression. -/
def decompChunk (b : Buffer) (off index : Nat) : DecompChunk :=
  let len := leNat (((b.fetch off 64).drop 4).take 4)
  let bytes := b.fetch off len
  { index, frame := (chunkHead bytes).frame, bytes, poison := b.poisonIn off len }

/-- REPLAY_DECOMP_START: with 32 engines free and no compression job ready, the 32 jobs of one frame begin (R256, R263). -/
def replayDecompStart (s : State) : State :=
  if s.freeEngines.length < 32 || s.firstJob.isSome || !s.replayWants then s
  else match s.buffer? (BitVec.ofNat 32 s.intake.replay.cfg.source), s.replayNext with
    | some b, some (i, off, _) =>
      let c := decompChunk b off i
      let h := chunkHead c.bytes
      let s := s.onCompress fun x => { x with replay := some c }
      (List.range 32).foldl (fun s k =>
        s.beginJob k (.replay k) (256 + rawLen h k + (if h.flags / 2 % 2 = 1 then 2048 else 0))) s
    | _, _ => s

/-- CMP_JOB_START: the first ready job starts on the lowest free engine; a verification only when nothing else is ready. -/
def cmpJobStart (s : State) : State :=
  match s.freeEngines.head? with
  | none => s
  | some e => match s.firstJob with
    | some (k, f, st) =>
      let c := (s.cmp k).cfg
      s.beginJob e (.comp k f.entry st (!f.key)) (compClocks c (rawLen (frameHead c f.info f.record) st) (!f.key))
    | none =>
      if s.replayWants then s
      else match s.compress.verifies with
        | [] => s
        | v :: rest => match (List.range 32).find? fun k => !v.started.contains k with
          | none => s
          | some k =>
            (s.onCompress fun x => { x with verifies := { v with started := k :: v.started } :: rest }).beginJob e (.verify k)
              (256 + rawLen (chunkHead v.work.bytes) k)

/-! ## The end of a compression job (R252 to R260, R268, R269) -/

/-- The stripe of a plane of 16-bit words. -/
def stripeOf (bs : List Byte) (width rows k : Nat) (code : Nat → Nat) : List (List Nat) :=
  (List.range rows).map fun r => (List.range (stripeWidth width k)).map fun c =>
    code (leNat ((bs.drop ((r * width + stripeStart width k + c) * 2)).take 2))

/-- The BRFR chunk of a frame whose streams are all made (R268). -/
def frameChunk (c : CmpConfig) (f : CmpFrame) (streams : List CmpStream) : List Byte :=
  let h := frameHead c f.info f.record
  let record := f.record ++ List.replicate (roundUp f.record.length 16 - f.record.length) 0
  let place := streams.foldl (fun (acc : List Byte × Nat) x =>
    (acc.1 ++ toLe 4 acc.2 ++ toLe 4 x.bytes.length ++ toLe 4 x.rawLen ++ toLe 4 x.rawCrc.toNat,
      acc.2 + roundUp x.bytes.length 16)) ([], 608 + record.length)
  let flags := bit f.key + 2 * bit (!f.key) + 4 * bit (decide (1 < c.q)) + 8 * bit f.poison + 16 * bit f.retry
  chunkBytes kindFrame 0 f.info.frame.toNat 0
    (toLe 4 f.info.frame.toNat ++ (f.record.drop 16).take 2 ++ (f.record.drop 14).take 2 ++
      toLe 2 (if 2 ≤ f.info.tap then f.info.millFlags.toNat else 0) ++ toLe 2 flags ++ toLe 1 f.info.tap ++ toLe 1 c.source ++
      toLe 1 c.q ++ toLe 1 c.level ++ toLe 2 h.width ++ toLe 2 h.lines ++ toLe 2 h.kept ++ toLe 1 h.exposures ++
      toLe 1 h.bits ++ toLe 1 h.cfa ++ toLe 1 32 ++ toLe 2 f.distance ++ (f.record.drop 24).take 12 ++ tcBytes f.info.tc ++
      toLe 1 f.info.sub ++ toLe 3 0 ++ toLe 4 608 ++ toLe 4 f.record.length ++ toLe 8 0 ++ place.1 ++ record ++
      streams.flatMap fun x => x.bytes ++ List.replicate (roundUp x.bytes.length 16 - x.bytes.length) 0)

/-- A frame with all 32 streams becomes a chunk in OUT_RING. -/
def State.cmpFinish (k : Nat) (f : CmpFrame) (s : State) : State :=
  match f.streams.mapM id with
  | none => s
  | some streams =>
    let c := (s.cmp k).cfg
    let h : Handle := BitVec.ofNat 32 c.outRing
    let bs := frameChunk c f streams
    let raw := (streams.map (·.rawLen)).sum
    let comp := (streams.map (·.bytes.length)).sum
    let s := (s.ringFill h f.outId 0 bs).ringPublish h f.outId bs.length
    let s := s.onCmp k fun x =>
      { x with frames := x.frames.filter fun g => g.entry != f.entry, lastFrame := f.info.frame
               ratio := if comp = 0 then 65535 else min 65535 (raw * 256 / comp) }
    let s := (s.countCmp k 0).onCompress fun x => { x with chunkTime := s.raster.clock }
    let s := if f.key then s.countCmp k 1 else s
    (s.cmpDone k f.entry).cmpSettle k

/-- CMP_JOB_DONE: the stripe's stream is made and its history saved; the last stripe makes the chunk. A job whose frame has been
skipped, or has become a key frame meanwhile, leaves nothing. -/
def cmpJobDone (e : Nat) (s : State) : State :=
  match (s.compress.engines[e]?).bind (·.job) with
  | some (.comp k id st carried) =>
    let s := s.onEngine e fun _ => {}
    let x := s.cmp k
    match x.frames.find? fun f => f.entry == id with
    | none => s
    | some f =>
      if f.key == carried then s
      else
        let h := frameHead x.cfg f.info f.record
        let ring := x.reads.getD 0
        let entry := (s.unread ring (0x0700 + k)).find? fun y => y.id == id
        let bs := (entry.map fun y => s.entryBytes ring y).getD []
        let rows := if 2 ≤ h.tap then h.lines else h.kept
        let planeLen := rows * h.width * 2
        let planes := (List.range h.planes).map fun i =>
          stripeOf (bs.drop (i * planeLen)) h.width h.kept st (if h.tap = 0 then (fun n => n) else toOrdered)
        let poison := entry.any fun y => (s.buffer? ring).any fun b =>
          !(b.poisonIn (if b.size = 0 then 0 else y.start % b.size) y.len).isEmpty
        let zs := forwardStripe x.cfg.q (codeTop h.tap h.bits) (codeStart h.tap h.bits) (phaseStep h.cfa) planes
        let raw := transformed zs
        let slot := 32 * k + st
        let hist := if carried then s.compress.history.getD slot [] else []
        let stream : CmpStream := { bytes := Config.deflate x.cfg.level hist raw, rawLen := raw.length, rawCrc := crc32c raw }
        let f := { f with streams := setAt f.streams st (some stream), poison := f.poison || poison }
        let s := s.onCompress fun c => { c with history := setAt c.history slot (historyOf raw) }
        let s := s.onCmp k fun x => { x with frames := x.frames.map fun g => if g.entry == id then f else g }
        s.cmpFinish k f
  | _ => s

/-- A frame is skipped after a second failure of one of its jobs: the frame after it, if begun, becomes a key frame.
DESIGN CHOICE, unsafe (log entry 38): the frame after one skipped by an engine failure. -/
def State.cmpEngineSkip (k : Nat) (f : CmpFrame) (s : State) : State :=
  let s := s.ringWithdraw (BitVec.ofNat 32 (s.cmp k).cfg.outRing) f.outId
  let rekey (g : CmpFrame) : CmpFrame :=
    if g.info.frame == f.info.frame + 1 && !g.key then { g with key := true, distance := 0, streams := List.replicate 32 none } else g
  let s := s.onCmp k fun x =>
    { x with frames := (x.frames.filter fun g => g.entry != f.entry).map rekey
             begun := if x.begun.any fun b => b.1 == f.info.frame then none
               else x.begun.map fun b => if b.1 == f.info.frame + 1 then (b.1, 0) else b }
  ((s.cmpSkip k f.info.frame 2).cmpDone k f.entry).cmpSettle k

/-! ## The end of a decompression job (R262, R263) -/

/-- The cause with which a stripe fails, 0 for none, and its output: `check` is the consumer's own judgement of the geometry, and
`hist` the preset history. -/
def decompress (c : DecompChunk) (st : Nat) (geometryOk : Bool) (hist : Option (List Byte)) : Nat × List Byte :=
  let h := chunkHead c.bytes
  let (off, comp, raw, crc) := dirEntry c.bytes st
  let stream := (c.bytes.drop off).take comp
  let bad := c.poison.any fun i => decide (off ≤ i) && decide (i < off + comp)
  let (out, valid, ended) := inflate (hist.getD []) stream
  if raw ≠ rawLen h st ∨ h.length < off + comp then (6, [])
  else if !geometryOk then (7, [])
  else if bad || hist.isNone then (3, [])
  else if raw < out.length then (1, out.take raw)
  else if !valid then (3, out)
  else if !ended then (4, out)
  else if out.length < raw then (2, out)
  else if (crc32c out).toNat ≠ crc then (5, out)
  else (0, out)

/-- A decompression failure: counted, kept in CMPD_STATUS and reported (R262, R275). -/
def State.streamFault (kind : Nat) (fr : Frame) (st cause : Nat) (s : State) : State :=
  ((s.countCmpd 1).onCompress fun c => { c with lastStripe := st, lastCause := cause }).notice 0x0781
    [itemN 1 1 kind, itemN 2 4 fr.toNat, itemN 3 1 st, itemN 4 1 cause]

/-- Replay stops at frame `j` (R263). -/
def State.replayFail (s : State) : State :=
  let s := s.onUnit 2 fun u => { u with running := false, stopping := false, armed := false }
  let s := s.onCompress fun c => { c with replay := none, replayAt := none
                                          engines := c.engines.map fun e => match e.job with
                                            | some (.replay _) => {}
                                            | _ => e }
  match (s.ctx 2).taking with
  | some m => if s.intake.replay.inFrame then s.millAbandon 2 m.frame else s
  | none => s

/-- The planes of a decoded frame, rows beyond the kept ones completed as R124 completes a short frame. -/
def decodedPlanes (h : ChunkHead) (outs : List (List Byte)) : List (List (List Int)) :=
  let stripes := outs.zipIdx.map fun oz =>
    backwardStripe h.q (codeTop h.tap h.bits) (codeStart h.tap h.bits) (phaseStep h.cfa) (stripeWidth h.width oz.2) h.kept h.planes
      (untransformed oz.1)
  (List.range h.planes).map fun e => (List.range h.lines).map fun r =>
    let r := if r < h.kept ∨ h.kept < 2 then r else 2 * (h.kept / 2 - 1) + r % 2
    (stripes.flatMap fun st => (st.getD e []).getD r []).map fun (c : Nat) =>
      if h.tap = 0 then (c : Int) else ofRc16 (ofOrdered c)

/-- The last stripe of a Replay frame is decoded: history of its streams is saved, and the frame waits for Replay, or was only
needed for its history (R263). -/
def State.replayDecoded (c : DecompChunk) (outs : List (List Byte)) (s : State) : State :=
  let h := chunkHead c.bytes
  let s := s.onCompress fun x =>
    { x with replay := none, replayAt := some c.index, replayTime := s.raster.clock
             history := x.history.take 128 ++ outs.map historyOf }
  let src : Handle := BitVec.ofNat 32 s.intake.replay.cfg.source
  let s := match s.replayChunks[c.index - s.compress.replayBase]?, s.readerOf src 0x0202,
      (s.ring? src).map fun br => br.2 with
    | some (off, _), some k, some r =>
      let pos := (((r.readers.getD k none).map (·.pos)).getD 0)
      (s.ringRelease src k (off + c.bytes.length - pos)).onCompress fun x => { x with replayBase := c.index + 1 }
    | _, _, _ => s
  if c.index = s.intake.replay.next then
    s.onIntake fun i => { i with replay := { i.replay with
      ready := some { index := c.index, bits := h.bits, flags := BitVec.ofNat 16 h.intakeFlags, planes := decodedPlanes h outs } } }
  else s

/-- Whether a chunk's geometry is Replay's own (R262). -/
def ReplayConfig.accepts (c : ReplayConfig) (h : ChunkHead) : Bool :=
  h.tap == c.entryTap && h.width == c.width && h.lines == c.lines && h.exposures == c.exposures && h.cfa == c.cfaPhase &&
    (h.tap == 0 || h.bits == 16)

/-- The verification at the front is complete: its causes are its reply (R273). Answers the mailbox and the causes. -/
def State.verifyEnd (s : State) : Option (Nat × List Nat) × State :=
  match s.compress.verifies with
  | [] => (none, s)
  | v :: rest => match v.work.results.mapM fun r => r with
    | none => (none, s)
    | some rs =>
      let s := s.countCmpd 2
      (some (v.mb, rs.map (·.1)), s.onCompress fun c =>
        { c with verifies := rest, verified := some (v.handle, v.work.frame, rs.map fun r => historyOf r.2) })

/-- A decompression job ends with a cause (0 = none) and its output. -/
def State.decompEnd (e : Nat) (force : Option Nat) (s : State) : Option (Nat × List Nat) × State :=
  match (s.compress.engines[e]?).bind (·.job) with
  | some (.replay st) =>
    let s := s.onEngine e fun _ => {}
    match s.compress.replay with
    | none => (none, s)
    | some c =>
      let h := chunkHead c.bytes
      let carried := h.flags / 2 % 2 = 1
      let hist := if carried then some (s.compress.history.getD (128 + st) []) else some []
      let (cause, out) := decompress c st (s.intake.replay.cfg.accepts h) hist
      let cause := if cause = 0 then force.getD 0 else cause
      if cause ≠ 0 then (none, (s.streamFault 0 h.frame st cause).replayFail)
      else
        let c := { c with results := setAt c.results st (some (0, out)) }
        let s := (s.countCmpd 0).onCompress fun x => { x with replay := some c }
        match c.results.mapM fun r => r with
        | none => (none, s)
        | some rs => (none, s.replayDecoded c (rs.map (·.2)))
  | some (.verify st) =>
    let s := s.onEngine e fun _ => {}
    match s.compress.verifies with
    | [] => (none, s)
    | v :: rest =>
      let h := chunkHead v.work.bytes
      let carried := h.flags / 2 % 2 = 1
      let hist := if !carried then some [] else match s.compress.verified with
        | some (hd, fr, hs) => if hd == v.handle && fr + 1 == h.frame then some (hs.getD st []) else none
        | none => none
      let (cause, out) := decompress v.work st true hist
      let cause := if cause = 0 then force.getD 0 else cause
      let s := if cause ≠ 0 then s.streamFault 1 h.frame st cause else s.countCmpd 0
      let v := { v with work := { v.work with results := setAt v.work.results st (some (cause, out)) } }
      (s.onCompress fun x => { x with verifies := v :: rest }).verifyEnd
  | _ => (none, s)

/-- DECOMP_JOB_DONE; answers the verification that it completes. -/
def decompJobDone (e : Nat) (s : State) : Option (Nat × List Nat) × State := s.decompEnd e none

/-- ENGINE_CHECK_FAILURE: the job starts again; a second failure skips the frame or fails the job (R259, R462). -/
def engineCheckFailure (e : Nat) (s : State) : Option (Nat × List Nat) × State :=
  match s.compress.engines[e]? with
  | none => (none, s)
  | some g => match g.job with
    | none => (none, s)
    | some j =>
      let st := match j with | .comp _ _ st _ => st | .replay st => st | .verify st => st
      let s := s.faultLog 0x0A (0x0700 + e) (e * 256 + st)
      if !g.retried then
        let s := s.onEngine e fun g => { g with retried := true }
        match j with
        | .comp k id _ _ => (none, (s.countCmp k 3).onCmp k fun x =>
            { x with frames := x.frames.map fun f => if f.entry == id then { f with retry := true } else f })
        | _ => (none, s)
      else match j with
        | .comp k id _ _ =>
          let s := s.onEngine e fun _ => {}
          match (s.cmp k).frames.find? fun f => f.entry == id with
          | none => (none, s)
          | some f => (none, s.cmpEngineSkip k f)
        | _ => s.decompEnd e (some 8)

/-! ## Sessions and counters -/

/-- A valid BRFR header at an offset of a buffer (R273). -/
def Buffer.frameAt (off : Nat) (b : Buffer) : Bool :=
  let head := b.fetch off 64
  headerOk head && head.take 4 == kindFrame && decide (off + leNat ((head.drop 4).take 4) ≤ b.size || b.ring.isSome)

/-- A session starts (R261). -/
def State.cmpStart (k : Nat) (f : Frame) (s : State) : State :=
  if (s.cmp k).running then s
  else s.onCmp k fun x => { x with running := true, startAt := f, stopAt := none, first := true, begun := none, keyReq := [] }

/-- A session stops before frame `f`. -/
def State.cmpStop (k : Nat) (f : Frame) (s : State) : State :=
  if !(s.cmp k).running then s else (s.onCmp k fun x => { x with stopAt := some f }).cmpSettle k

/-- Clears counters: sessions in the mask, and the decompression counters (R273, R275). -/
def clearCmp (mask : Nat) (decomp : Bool) (s : State) : State :=
  s.onCompress fun c =>
    { c with sessions := (indexed c.sessions).map fun kx => if mask.testBit kx.1 then { kx.2 with cnt := clearAll kx.2.cnt } else kx.2
             cnt := if decomp then clearAll c.cnt else c.cnt
             peak := if mask = 0 && !decomp then c.peak else c.util }

/-- The frame ends: CMP_UTIL, at 1.6 GHz per engine (R275), and stops that have come due. -/
def State.cmpFrameEnd (s : State) : State :=
  let c := s.raster.cfg.force
  let util := min 65535 (s.compress.clocks * 65536 * c.rateNum / (32 * c.rateDen * 1600000000))
  let s := s.onCompress fun x => { x with clocks := 0, util, peak := max x.peak util }
  (List.range 4).foldl (fun s k => s.cmpSettle k) s

end Sys2Proof.Machine
end

