-- ==== Sys2Proof/Machine/MillOps.lean ====
section
/-!
DEFINITION. Effects of the Mill: grants, development of a frame, the temporal reference and statistics records
(06_the_mill.md, R134, R147 to R161).
-/

namespace Sys2Proof.Machine

/-- Clocks that a pair of width `w` occupies the Mill (R134). -/
def pairClocks (w : Nat) : Nat := 2 * ceilDiv w 12 + 16

/-! ## The grant (R134) -/

/-- A port whose oldest pair is ready: highest PRIORITY first, then the one granted less recently. -/
def State.grantPort (s : State) : Option Nat :=
  let a := s.unit 0
  let b := s.unit 1
  match a.buffer.isEmpty, b.buffer.isEmpty with
  | true, true => if (s.unit 2).buffer.isEmpty then none else some 2
  | false, true => some 0
  | true, false => some 1
  | false, false =>
    if b.cfg.priority < a.cfg.priority then some 0
    else if a.cfg.priority < b.cfg.priority then some 1
    else if s.intake.lastGrant = 0 then some 1 else some 0

/-! ## Statistics room (R161) -/

/-- A frame's statistics record is not written: counted, and reported unless the throttle level skips it (R457). -/
def State.statsSkipped (k : Nat) (fr : Frame) (reason : Nat) (s : State) : State :=
  let s := s.countMill k 4 1
  if reason = 3 then s else s.notice 0x0382 [itemN 1 1 k, itemN 2 4 fr.toNat, itemN 3 1 reason]

/-- Room for the record of a frame whose first row enters the Mill: the reservation, or why there is none (1 = ring full,
2 = no ring, 3 = the throttle level). -/
def State.statsRoom (k : Nat) (cfg : MillConfig) (fr : Frame) (s : State) : Option Nat × Nat × State :=
  if !cfg.statsOn then (none, 0, s)
  else if 16 ≤ s.power.level then (none, 3, s.statsSkipped k fr 3)
  else if cfg.statsRing = 0 then (none, 2, s.statsSkipped k fr 2)
  else match s.ringOpen (BitVec.ofNat 32 cfg.statsRing) cfg.recordLength with
    | (some id, s) => (some id, 0, s)
    | (none, s) => (none, 1, s.statsSkipped k fr 1)

/-- STATS_RECORD_COMPLETE (R161): the oldest record of the context is in memory. -/
def statsRecordComplete (k : Nat) (s : State) : State :=
  match (s.ctx k).records with
  | [] => s
  | r :: rest =>
    let s := s.onCtx k fun c => { c with records := rest }
    let (pos, s) := s.ringPlace r.ring r.id (0x0300 + k) r.bytes
    if r.notify then s.notice 0x0380 [itemN 1 1 k, itemN 2 4 r.frame.toNat, itemN 3 8 pos, itemN 4 4 r.bytes.length] else s

/-! ## Temporal noise reduction (R151, R152) -/

/-- Bytes of the reference that a geometry needs. -/
def referenceBytes (width lines : Nat) : Nat := width * lines * 5 / 2

/-- The cause for which the frame passes through: the first condition of R152 that fails; 0 = it is filtered. -/
def State.tnrCause (k : Nat) (m : MillFrame) (s : State) : Nat :=
  let c := s.ctx k
  let due := c.resets.any fun r => m.frame.atOrAfter r
  match c.prev with
  | none => 1
  | some p =>
    if c.fresh then 1
    else if (if k = 2 then p.replayIndex + 1 != m.replayIndex else p.frame + 1 != m.frame) then 2
    else if p.abandoned then 3
    else if p.cut then 4
    else if m.mark.getLsbD 3 then 5
    else if due then 6
    else if p.shape != (m.width, m.lines, m.cfa, m.cfg.tnrRef) then 7
    else if !((s.buffer? (BitVec.ofNat 32 m.cfg.tnrRef)).any fun b =>
        b.role == 3 && decide (referenceBytes m.width m.lines ≤ b.size)) then 8
    else if p.off then 9
    else 0

/-- Whether R152's cause 8 applies: no reference of sufficient size. -/
def State.noReference (m : MillFrame) (s : State) : Bool :=
  !((s.buffer? (BitVec.ofNat 32 m.cfg.tnrRef)).any fun b => b.role == 3 && decide (referenceBytes m.width m.lines ≤ b.size))

/-- The temporal stage over a frame: its output, the poisoned reference samples it met, and the state with the reference
written. -/
def State.temporal (k : Nat) (m : MillFrame) (p : List (List Int)) (s : State) : List (List Int) × Nat × State :=
  let cause := s.tnrCause k m
  let h : Handle := BitVec.ofNat 32 m.cfg.tnrRef
  let pitch := m.width * 5 / 2
  let b? := s.buffer? h
  let out : List (List (Int × Bool)) :=
    if cause ≠ 0 then mapPx p fun _ _ v => (v, false)
    else match b? with
      | none => mapPx p fun _ _ v => (v, false)
      | some b =>
        p.zipIdx.map fun ri =>
          let row := Mem.readN b.data (ri.2 * pitch) pitch
          ri.1.zipIdx.map fun vj =>
            let bad := (p20Blocks (ri.2 * pitch) vj.2).any fun blk => b.poison.contains blk
            (tnrPixel m.cfg ((m.tags.getD ri.2 []).getD vj.2 0) vj.1 (ofP20 (p20At row vj.2)) bad, bad)
  let pic := out.map fun r => r.map (·.1)
  let bad := (out.map fun r => (r.filter (·.2)).length).sum
  let s := if s.noReference m then s
    else s.putBytes h 0 (pic.flatMap fun r => p20Row (r.map toP20))
  let s := s.onCtx k fun c => { c with tnrCause := if cause ≠ 0 then cause else c.tnrCause }
  let s := s.countMill k 3 bad
  let s := if cause ≠ 0 then
      (s.countMill k 2 1).notice 0x0381 [itemN 1 1 k, itemN 2 4 m.frame.toNat, itemN 3 1 cause]
    else s
  (pic, bad, s)

/-! ## Development of a whole frame (R140) -/

/-- Develops a frame of which every pair has been granted: taps T2 and T3, the temporal reference, the statistics record and
the counters; the RGB rows go to the Looks. -/
def State.develop (k : Nat) (m : MillFrame) (first : State) : State :=
  let s := first
  let c := m.cfg
  let p0 := m.rows
  let p1 := if m.entryTap < 2 then snrFrame c m.cfa p0 m.tags else p0
  let s := if m.entryTap ≤ 2 then s.millTap k m.frame 2 p1 else s
  let runs := c.tnrEnable = 1 && m.entryTap < 3
  let cause := if runs then s.tnrCause k m else 0
  let (p2, bad, s) := if runs then s.temporal k m p1 else (p1, 0, s)
  let s := s.millTap k m.frame 3 p2
  let wb := mapPx p2 (wbPixel c m.cfa)
  let p3 := wb.map fun r => r.map (·.1)
  let rgb : List (List ((Int × Int × Int) × Bool)) := mapPx p3 fun i j _ =>
    let r := reconPixel c.reconMode m.cfa p3 i j
    let o := matrixPixel c r.1.1 r.1.2.1 r.1.2.2
    (o.1, ((wb.getD i []).getD j (0, false)).2 || r.2 || o.2)
  let red := rgb.map fun r => r.map fun x => x.1.1
  let green := rgb.map fun r => r.map fun x => x.1.2.1
  let blue := rgb.map fun r => r.map fun x => x.1.2.2
  let sat := (rgb.map fun r => (r.filter (·.2)).length).sum
  let flags : BitVec 16 := BitVec.ofNat 16
    (bit (cause != 0) + 2 * bit (bad != 0) + 4 * bit m.completed + 8 * bit (m.statsSkip != 0) + 16 * bit (sat != 0))
  let cause0 := first.tnrCause k m
  let follows := (cause0 = 0 || decide (6 ≤ cause0)) && ((first.ctx k).prev.any fun p =>
    p.shape.1 == m.width && p.shape.2.1 == m.lines)
  let now := s.raster.clock
  let s : State := match m.stats with
    | none => s
    | some id => s.onCtx k fun x =>
        { x with records := x.records ++ [({ ring := BitVec.ofNat 32 c.statsRing, id, frame := m.frame
                                             notify := x.cfg.force.statsNotify == 1
                                             bytes := statsRecord m k flags (clkBytes now) [p0, p2, p3] red green blue } : StatsRecord)] }
  let s := (((s.countMill k 0 1).countMill k 5 sat).tapFlags k m.frame flags).raise (0x048 + k)
  let s := s.onCtx k fun x =>
    { x with
      taking := none, fresh := false, lastFrame := m.frame, lastMark := m.mark, lastFlags := flags, outTime := now
      refValid := runs && !s.noReference m
      resets := x.resets.filter fun r => !(m.frame.atOrAfter r)
      prev := some { frame := m.frame, replayIndex := m.replayIndex, abandoned := false, cut := m.mark.getLsbD 2
                     shape := (m.width, m.lines, m.cfa, c.tnrRef), off := !runs } }
  s.onMill fun x => { x with out := some { ctx := k, frame := m.frame, mark := m.mark, intakeFlags := m.intakeFlags
                                           millFlags := flags, width := m.width, lines := m.lines, start := m.start, follows, red, green, blue } }

/-- The frame that a pair belongs to enters the Mill with its first pair: configuration in force, statistics room. -/
def State.enterMill (k : Nat) (x : Pair) (s : State) : State :=
  let cfg := (s.ctx k).cfg.force
  let s := s.onUnit k fun u =>
    let mark (t : TapFrame) : TapFrame := if t.frame == x.frame then { t with millMeta := millMeta cfg u.cfg.exposures } else t
    { u with tapped := u.tapped.map mark }
  let (id, skip, s) := s.statsRoom k cfg x.frame
  s.onCtx k fun c =>
    { c with taking := some { frame := x.frame, mark := x.mark, intakeFlags := x.flags, width := x.top.length, lines := x.lines
                              cfa := x.cfa, start := x.start, replayIndex := s.intake.replay.next - 1
                              entryTap := if k = 2 then s.intake.replay.cfg.entryTap else 1
                              cfg, stats := id, statsSkip := skip } }

/-- MILL_GRANT (R134, R147): one ready pair enters the Mill; with a frame's last pair the flush follows and the frame is
developed. With no pair ready the Mill stays free. -/
def millGrant (s : State) : State :=
  match s.grantPort with
  | none => s.onMill fun m => { m with granted := 3 }
  | some p =>
    match (s.unit p).buffer with
    | [] => s
    | x :: rest =>
      let s := s.onUnit p fun u => { u with buffer := rest }
      let s := if p = 2 then s else s.onIntake fun i => { i with lastGrant := p }
      let cost := pairClocks x.top.length * (if x.last then 4 else 1)
      let held := Clk.ofUnits (Clk.units s.raster.clock + (40960 * cost : Nat))
      let s := s.onMill fun m => { m with granted := p, clocks := m.clocks + cost, heldTo := held }
      let s := if x.index = 0 then s.enterMill p x else s
      match (s.ctx p).taking with
      | none => s
      | some m =>
        let m := { m with mark := x.mark, intakeFlags := x.flags, completed := m.completed || x.filler
                          rows := m.rows ++ [x.top, x.bottom], tags := m.tags ++ [x.topTags, x.bottomTags] }
        if x.last then
          let s := s.develop p m
          if p = 2 then s.replayDelivered else s
        else s.onCtx p fun c => { c with taking := some m }

/-- MIL_UTIL at a raster frame start: the clocks of the frame that ends over its length at 1.6 GHz (R165). -/
def State.millFrameEnd (s : State) : State :=
  let c := s.raster.cfg.force
  let den := 1600000000 * c.rateDen
  let u := min 65535 (s.mill.clocks * 65536 * c.rateNum / den)
  s.onMill fun m => { m with clocks := 0, util := u, peak := max m.peak u }

/-- Clears the counters of a context (R163, R165): those of context 0 restart PEAK. -/
def State.clearMill (k mask : Nat) (s : State) : State :=
  let s := s.onCtx k fun c => { c with cnt := clearMasked c.cnt mask }
  if k = 0 ∧ mask ≠ 0 then s.onMill fun m => { m with peak := m.util } else s

end Sys2Proof.Machine
end

