-- ==== Sys2Proof/Machine/LooksOps.lean ====
section
/-!
DEFINITION. Effects of the Looks and renditions: admission, slots, rendering and table loads
(07_looks_and_renditions.md).
-/

namespace Sys2Proof.Machine

/-! ## Admission (R186, R188 to R190, R457) -/

/-- The pool's budget for a raster frame times `RATE_NUM × TOTAL_LINES`, and that divisor (R190). -/
def State.poolBudget (s : State) : Nat × Nat :=
  let c := s.raster.cfg.force
  (12000000000 * c.rateDen * c.activeLines, c.rateNum * c.totalLines)

/-- USED of LKS_POOL for a demand. -/
def State.poolUsed (d : Nat) (s : State) : Nat :=
  let (n, m) := s.poolBudget
  if n = 0 then 65535 else min 65535 (d * m * 65536 / n)

/-- A rendition's demand in output pixels. -/
def RendConfig.demand (c : RendConfig) : Nat := c.outW * c.outH * (if c.fineAngle = 0 then 1 else 2)

/-- Whether a memory rendition writes the frame under its CAPTURE_MODE (R186, R192). -/
def Rendition.chosen (fr : Frame) (x : Rendition) : Bool :=
  let c := x.cfg.force
  if c.dest ≠ 2 || c.captureMode = 0 then true
  else if c.captureMode = 1 then fr.toNat % c.captureN == 0
  else x.captures.any fun q => decide ((fr - q.first).toNat < q.count)

/-- A rendition starts. -/
def State.rendRun (r : Nat) (s : State) : State := s.onRend r fun x => { x with running := true, stopping := false }

/-- A rendition stops once the frame in progress has completed or been skipped (R188). -/
def State.rendHalt (r : Nat) (s : State) : State := (s.onRend r fun x => { x with stopping := x.running }).rendSettle r

/-- Starts and stops that fall due at a frame of the rendition's source (R188). -/
def State.rendTurn (r : Nat) (fr : Frame) (s : State) : State :=
  let due (x : Frame × Bool) : Bool := fr.atOrAfter x.1
  let turns := (s.rend r).turns.filter due
  let s := s.onRend r fun x => { x with turns := x.turns.filter fun x => !due x }
  turns.foldl (fun s x => if x.2 then s.rendRun r else s.rendHalt r) s

/-- Whether the throttle level sheds a rendition (R457). -/
def State.thermalShed (c : RendConfig) (s : State) : Bool :=
  decide (c.priority < s.power.level) && decide (c.priority < s.power.cfg.protect)

/-- An admitted rendition takes the frame: its lowest FREE slot or its ring's room, or it skips (R186, R189). -/
def State.rendTake (r ctx : Nat) (fr : Frame) (width lines : Nat) (s : State) : State :=
  let x := s.rend r
  let c := x.cfg.force
  let l := (s.look c.look).cfg.force
  let job : RendJob := { ctx, frame := fr, look := c.look, lookCfg := l, cfg := c, filters := x.filters.force, slot := 0 }
  if (l.mode = 1) != (c.planeFormat = 1) || (l.mode = 0 && l.encoding = 0 && c.chroma ≠ 0) then s.rendSkip r fr 3
  else if decide (width < c.cropX + c.cropW) || decide (lines < c.cropY + c.cropH) then s.rendSkip r fr 4
  else if c.dest = 3 then
    match s.ringOpen (BitVec.ofNat 32 c.planes) 26176 with
    | (some id, s) => s.onRend r fun x => { x.fate fr true with jobs := x.jobs ++ [{ job with ringId := id }] }
    | (none, s) => s.rendSkip r fr 1
  else
    let fits := (s.buffer? (BitVec.ofNat 32 c.planes)).any fun b =>
      b.role == 6 && decide (c.nslots * (slotLayout c l.encoding).size ≤ b.size)
    match (x.slots.take c.nslots).findIdx? fun q => q.st == .free with
    | none => s.rendSkip r fr 1
    | some k =>
      if !fits then s.rendSkip r fr 1
      else s.onRend r fun x =>
        ({ x.fate fr true with jobs := x.jobs ++ [{ job with slot := k }] } : Rendition).onSlot k fun q =>
          { q with st := .writing, frame := fr }

/-- A rendition is shed for a frame (R190). -/
def State.rendShed (r : Nat) (fr : Frame) (s : State) : State :=
  (s.onRend r fun x => { x.fate fr false with shed := true }).countRend r 1

/-- A frame's first line enters the Mill: the running renditions of its context are admitted in order of priority until the
budget is spent; the rest are shed. -/
def State.rendEnter (ctx : Nat) (fr : Frame) (width lines : Nat) (s : State) : State :=
  let mine := (List.range 48).filter fun r => (s.look (s.rend r).cfg.force.look).cfg.force.source == ctx
  let s := mine.foldl (fun s r => s.rendTurn r fr) s
  let cands := mine.filter fun r => (s.rend r).running && !(s.rend r).stopping && (s.rend r).chosen fr
  let order := cands.mergeSort fun a b =>
    decide ((s.rend b).cfg.force.priority < (s.rend a).cfg.force.priority) ||
      ((s.rend a).cfg.force.priority == (s.rend b).cfg.force.priority && decide (a ≤ b))
  let hot := order.filter fun r => s.thermalShed (s.rend r).cfg.force
  let (n, m) := s.poolBudget
  let pick := (order.filter fun r => !hot.contains r).foldl (fun (acc : Nat × List Nat × List Nat) r =>
    let d := acc.1 + (s.rend r).cfg.force.demand
    if !acc.2.2.isEmpty || decide (n < d * m) then (acc.1, acc.2.1, acc.2.2 ++ [r]) else (d, acc.2.1 ++ [r], acc.2.2))
    (s.looks.demand, [], [])
  let shed := hot ++ pick.2.2
  let s := s.onLooks fun l => { l with demand := pick.1 }
  let s := order.foldl (fun s r =>
    if shed.contains r then s.rendShed r fr
    else (s.onRend r fun x => { x with shed := false }).rendTake r ctx fr width lines) s
  if shed.isEmpty then s
  else s.notice 0x0481 ([itemN 1 4 fr.toNat] ++ shed.map (fun r => itemN 2 1 r) ++ [itemN 3 2 (s.poolUsed pick.1)])

/-- LKS_POOL at a raster frame start (R194). -/
def State.poolFrameEnd (s : State) : State :=
  let u := s.poolUsed s.looks.demand
  s.onLooks fun l => { l with demand := 0, used := u, peak := max l.peak u }

/-! ## Rendering -/

/-- What a slot's picture is, in the order of R198. -/
def slotFormat (c : RendConfig) (l : LookConfig) : List Nat :=
  [c.dims.1, c.dims.2, c.chroma, l.bitDepth, l.encoding, l.range, l.transfer]


/-- A developed frame leaves the Mill: every Look of its context processes it and every rendition that took it is rendered
into its slot. -/
def State.render (d : Developed) (s : State) : State :=
  let s := (List.range 8).foldl (fun s k =>
    if (s.look k).cfg.force.source == d.ctx then s.onLook k fun l => { l with cntFrames := l.cntFrames + 1 } else s) s
  (List.range 48).foldl (fun s r =>
    match (s.rend r).jobs.find? fun j => j.ctx == d.ctx && j.frame == d.frame && j.done.isNone with
    | none => s
    | some j =>
      let bank := (s.look j.look).banks.getD j.lookCfg.tableBank {}
      let (ps, filled) := rendPlanes j (lookFrame j.lookCfg bank d)
      let (parts, clipped) := if j.cfg.dest = 3 then ([], false) else slotParts j ps
      let flags := bit filled + 2 * bit clipped
      let head := recordHead (if j.cfg.dest = 3 then 0x0402 else 0x0401) r j d flags
      let tail := if j.cfg.dest = 3 then rendStats ps else []
      let h : Handle := BitVec.ofNat 32 j.cfg.planes
      let base := j.slot * (slotLayout j.cfg j.lookCfg.encoding).size
      let s := parts.foldl (fun s p => s.putBytes h (base + p.1) p.2) s
      s.onRend r fun x =>
        ({ x with jobs := x.jobs.map fun y => if y == j then { y with done := some (head, tail) } else y } : Rendition).onSlot
          j.slot fun q => if j.cfg.dest = 3 then q
            else { q with mark := d.mark, intakeFlags := d.intakeFlags, millFlags := d.millFlags, start := d.start
                          fmt := slotFormat j.cfg j.lookCfg
                          rendFlags := BitVec.ofNat 16 flags }) s

/-- The Looks take the frame that has just left the Mill. -/
def State.takeDeveloped (s : State) : State :=
  match s.mill.out with
  | none => s
  | some d => (s.onMill fun m => { m with out := none }).render d

/-- A slot is complete (R186, R187): the oldest rendered frame of a rendition is complete. -/
def slotComplete (r : Nat) (s : State) : State :=
  match (s.rend r).jobs.find? fun j => j.done.isSome with
  | none => s
  | some j =>
    let (head, tail) := j.done.getD ([], [])
    let now := s.raster.clock
    let h : Handle := BitVec.ofNat 32 j.cfg.planes
    let bytes := head ++ clkBytes now
    let s := s.onRend r fun x => { x with jobs := x.jobs.filter fun y => y != j, lastFrame := j.frame }
    let s := s.onLooks fun l => { l with readyTime := now }
    let s := if j.cfg.dest = 3 then s.countRend r 0 else (s.countRend r 0).raise 0x058
    let s :=
      if j.cfg.dest = 3 then (s.ringPlace h j.ringId (0x0410 + r) (bytes ++ tail)).2
      else
        let off := j.slot * (slotLayout j.cfg j.lookCfg.encoding).size
        let s := s.putBytes h off (bytes ++ List.replicate (4096 - bytes.length) 0)
        let s := s.onRend r (Rendition.onSlot j.slot fun q =>
          { q with st := if j.cfg.dest = 2 then .held else .ready, readyAt := now })
        if j.cfg.dest = 2 then
          s.notice 0x0480 [itemN 1 1 r, itemN 2 4 j.frame.toNat, itemN 3 1 j.slot, itemN 4 8 off]
        else s
    s.rendSettle r

/-! ## Tables (R174, R175) -/

/-- Byte ranges of the four parts of a LOOK_LUT buffer. -/
def lutParts : List (Nat × Nat) := [(0, 49152), (49152, 1647750), (1696904, 49152), (1746056, 49152)]

/-- The bytes of part `k` of a buffer. -/
def State.lutPart (h : Handle) (k : Nat) (s : State) : List Byte :=
  let p := lutParts.getD k (0, 0)
  s.bytesOf h p.1 p.2

/-- Whether every part that PARTS names keeps its rule (R175). -/
def State.tablesOk (h : Handle) (parts : Nat) (s : State) : Bool :=
  (!parts.testBit 0 || curvesOk (s.lutPart h 0) 65536) && (!parts.testBit 2 || curvesOk (s.lutPart h 2) 16777215) &&
    (!parts.testBit 3 || curvesOk (s.lutPart h 3) 65536)

/-- The bank that a load makes: named parts from the buffer, the others from the bank in force. -/
def State.loadedBank (h : Handle) (parts : Nat) (cur : Bank) (s : State) : Bank :=
  { shapers := if parts.testBit 0 then some (s.lutPart h 0) else cur.shapers
    lut := if parts.testBit 1 then some (s.lutPart h 1) else cur.lut
    tone := if parts.testBit 2 then some (s.lutPart h 2) else cur.tone
    custom := if parts.testBit 3 then some (s.lutPart h 3) else cur.custom }

/-- A load begins: the shadow bank is the one in force until it ends (R174). DESIGN CHOICE, unsafe (log entry 56): unset
filter tables, CLASS items. -/
def State.startLoad (k : Nat) (h : Handle) (parts : Nat) (s : State) : State :=
  let l := s.look k
  let cur := l.cfg.force.tableBank
  s.onLook k fun l =>
    { l with cfg := { l.cfg with shadow := { l.cfg.shadow with tableBank := cur } }
             loading := some { handle := h, bank := 1 - cur, content := s.loadedBank h parts (l.banks.getD cur {}) } }

/-- A load ends: the bank is filled and named by the shadow; answers the bank. -/
def State.endLoad (k : Nat) (s : State) : Option Nat × State :=
  match (s.look k).loading with
  | none => (none, s)
  | some t =>
    (some t.bank, s.onLook k fun l =>
      { l with loading := none, cntLoads := l.cntLoads + 1, banks := setAt l.banks t.bank t.content
               cfg := { l.cfg with shadow := { l.cfg.shadow with tableBank := t.bank } } })

/-- Clears the counters of the Looks and renditions that the masks name (R192, R194). -/
def State.clearLks (looks rends : Nat) (s : State) : State :=
  s.onLooks fun l =>
    { l with looks := (indexed l.looks).map fun kl =>
               if looks.testBit kl.1 then { kl.2 with cntFrames := 0, cntLoads := 0 } else kl.2
             rends := (indexed l.rends).map fun kr => if rends.testBit kr.1 then { kr.2 with cnt := clearAll kr.2.cnt } else kr.2
             peak := if looks = 0 && rends = 0 then l.peak else l.used }

end Sys2Proof.Machine
end

