-- ==== Sys2Proof/Machine/SheafOps.lean ====
section
/-!
DEFINITION. Effects of the Sheaf: formats and levels, coding order, rate control, the plan and its cores, AUs and the
motion field (08_sheaf_encoding.md).
-/

namespace Sys2Proof.Machine

def State.onShf (c : Nat) (f : ShfContext → ShfContext) (s : State) : State :=
  s.onSheaf fun x => { x with ctxs := modAt x.ctxs c f }
def State.shf (c : Nat) (s : State) : ShfContext := s.sheaf.ctxs.getD c {}
def State.onCore (k : Nat) (f : ShfCore → ShfCore) (s : State) : State :=
  s.onSheaf fun x => { x with cores := modAt x.cores k f }
def State.core (k : Nat) (s : State) : ShfCore := s.sheaf.cores.getD k {}
def State.countShf (k : Nat) (s : State) : State := s.onSheaf fun x => { x with cnt := bumpAt x.cnt k }
def State.countShfCtx (c k : Nat) (s : State) : State := s.onShf c fun x => { x with cnt := bumpAt x.cnt k }

/-! ## Formats and limits (R196, R198) -/

/-- The rendition that targets a context (R188). -/
def State.targetOf (c : Nat) (s : State) : Option Nat :=
  (List.range 48).find? fun r => (s.rend r).cfg.force.dest == 0 && (s.rend r).cfg.force.target == c

/-- A format from the list that a slot holds. -/
def ShfFormat.of (l : List Nat) : ShfFormat :=
  { w := l.getD 0 0, h := l.getD 1 0, chroma := l.getD 2 0, depth := l.getD 3 0, encoding := l.getD 4 0, range := l.getD 5 0
    transfer := l.getD 6 0 }

/-- The format of a rendition in force. -/
def State.formatOf (r : Nat) (s : State) : ShfFormat :=
  let c := (s.rend r).cfg.force
  .of (slotFormat c (s.look c.look).cfg.force)

/-- Limits of a level in Tables A.8 and A.9 of H.265, to which R196 and R198 refer: MaxLumaPs, MaxLumaSr, MaxCPB for Main
and High, MaxBR for Main and High, the last four in units of the profile's factor. PRESUMED, unsafe (log entry 34): level
limits of H.265. -/
def levelLimits (idc : Nat) : Nat × Nat × Nat × Nat × Nat × Nat :=
  match idc with
  | 30 => (36864, 552960, 350, 0, 128, 0)
  | 60 => (122880, 3686400, 1500, 0, 1500, 0)
  | 63 => (245760, 7372800, 3000, 0, 3000, 0)
  | 90 => (552960, 16588800, 6000, 0, 6000, 0)
  | 93 => (983040, 33177600, 10000, 0, 10000, 0)
  | 120 => (2228224, 66846720, 12000, 30000, 12000, 30000)
  | 123 => (2228224, 133693440, 20000, 50000, 20000, 50000)
  | 150 => (8912896, 267386880, 25000, 100000, 25000, 100000)
  | 153 => (8912896, 534773760, 40000, 160000, 40000, 160000)
  | 156 => (8912896, 1069547520, 60000, 240000, 60000, 240000)
  | 180 => (35651584, 1069547520, 60000, 240000, 60000, 240000)
  | 183 => (35651584, 2139095040, 120000, 480000, 120000, 480000)
  | 186 => (35651584, 4278190080, 240000, 800000, 240000, 800000)
  | _ => (0, 0, 0, 0, 0, 0)

/-- MaxDpbSize of H.265 A.4.2. PRESUMED, unsafe (log entry 34): level limits of H.265. -/
def maxDpb (ps maxPs : Nat) : Nat :=
  if 4 * ps ≤ maxPs then 16 else if 2 * ps ≤ maxPs then 12 else if 4 * ps ≤ 3 * maxPs then 8 else 6

/-- Cost of `a` luma samples in ns, before the thermal division (R195). -/
def coreCost (a : Nat) : Nat := ceilDiv (5 * a) 11 + 12000

/-- Luma samples of the two tiles of a picture (R215); the second is 0 when there is one CTU column. -/
def tileShares (w h : Nat) : Nat × Nat :=
  let c := ceilDiv (roundUp w 8) 64
  let w0 := min (64 * ceilDiv c 2) w
  (w0 * h, (w - w0) * h)

/-- CTUs of a picture: columns and rows. -/
def ctuGrid (f : ShfFormat) : Nat × Nat := (ceilDiv (roundUp f.w 8) 64, ceilDiv (roundUp f.h 8) 64)

/-- Pool buffer size S (R209). -/
def refSize (f : ShfFormat) : Nat :=
  let wa := roundUp (roundUp f.w 8) 64
  let ha := roundUp (roundUp f.h 8) 64
  4096 + wa * ha * (if f.chroma = 2 then 3 else 4) + wa / 16 * (ha / 16) * 16

/-- Whether a core-time in ns fits in one frame period of the rate (RATE_NUM, RATE_DEN). -/
def fitsPeriod (ns : Nat) (rate : Nat × Nat) : Bool := decide (ns * rate.1 ≤ rate.2 * 1000000000)

/-- Whether a start keeps every rule of R198. -/
def formatOk (c : ShfConfig) (f : ShfFormat) (rate : Nat × Nat) : Bool :=
  let (maxPs, maxSr, cpbM, cpbH, brM, brH) := levelLimits c.level
  let w := roundUp f.w 8
  let h := roundUp f.h 8
  let ps := w * h
  let fac := if 2 ≤ c.profile then 1833 else 1100
  let cpb := if c.tier = 1 then cpbH else cpbM
  let br := if c.tier = 1 then brH else brM
  let hrd := if c.rcMode = 0 then 0 else if c.rcMode = 1 then c.bitrate else c.maxBitrate
  let chromaOk := f.chroma == 2 || (f.chroma == 1 && decide (2 ≤ c.profile))
  let depthOk := f.depth == 8 || (f.depth == 10 && c.profile != 0)
  let whole := fitsPeriod (coreCost (f.w * f.h)) rate
  let t := tileShares f.w f.h
  let split := if t.2 = 0 then whole else fitsPeriod (coreCost (max t.1 t.2)) rate
  chromaOk && depthOk && f.encoding != 0 && decide (ps ≤ maxPs) && decide (w * w ≤ 8 * maxPs) && decide (h * h ≤ 8 * maxPs) &&
    decide (ps * rate.1 ≤ maxSr * rate.2) && decide (c.refLimit + 1 ≤ maxDpb ps maxPs) && decide (c.cpbSize ≤ cpb * fac) &&
    decide (hrd ≤ br * fac) && (if c.split = 1 then whole else if c.split = 2 then split else whole || split)

/-! ## The reference pool (R209, R210) -/

/-- Buffers of class `k` that no context has reserved. -/
def State.poolFree (k : Nat) (s : State) : Nat :=
  let used := (s.sheaf.ctxs.map fun x => if x.running && x.poolClass == k then x.bufs else 0).sum
  ((s.sheaf.pool[k]?).map (·.count)).getD 0 - used

/-- The smallest class that holds `size`, when it has `n` free buffers. -/
def State.poolRoom (size n : Nat) (s : State) : Option Nat :=
  let fit := (indexed s.sheaf.pool).filter fun kc => decide (size ≤ kc.2.size)
  match fit.foldl (fun (acc : Option (Nat × PoolClass)) kc => match acc with
    | none => some kc
    | some a => if kc.2.size < a.2.size then some kc else acc) none with
  | none => none
  | some kc => if n ≤ s.poolFree kc.1 then some kc.1 else none

/-- Pool counts by mark: UNUSED, SHORT, LONG, OUTPUT_PENDING. -/
def State.poolCounts (s : State) : List Nat :=
  let run := s.sheaf.ctxs.filter (·.running)
  let short := (run.map fun x => (x.refs.filter fun r => !r.long).length).sum
  let long := (run.map fun x => (x.refs.filter (·.long)).length).sum
  let pend := (run.filter (·.pendingBuf)).length
  let all := (s.sheaf.pool.map (·.count)).sum
  [all - short - long - pend, short, long, pend]

/-! ## Coding order (R203 to R208) -/

/-- Whether a frame is a ladder frame (R207). -/
def LadderConfig.on (l : LadderConfig) (f : Frame) : Bool := (f - BitVec.ofNat 32 l.anchor).toNat % l.period == 0

/-- The first ladder frame at or after `f`. -/
def LadderConfig.nextFrom (l : LadderConfig) (f : Frame) : Frame :=
  let x := (f - BitVec.ofNat 32 l.anchor).toNat
  let t := (l.period - x % l.period) % l.period
  if 2 ^ 32 ≤ x + t then BitVec.ofNat 32 l.anchor else f + BitVec.ofNat 32 t

/-- Whether an IRAP is due at a frame: the first AU, a deferral, a request, a ladder frame, or IRAP_PERIOD (R206, R207). -/
def ShfContext.irapDue (x : ShfContext) (c : ShfConfig) (l : LadderConfig) (f : Frame) : Bool :=
  x.first || x.deferred.isSome || x.forced.any (fun g => f.atOrAfter g) ||
    (if c.ladder = 1 then l.on f else c.irapPeriod != 0 && decide (c.irapPeriod ≤ x.i))

/-- log2 of SUBGOP. -/
def subgopLog (n : Nat) : Nat := Nat.log2 n

/-- TemporalId of sub-GOP position `k` (R205). -/
def layerOf (subgop k : Nat) : Nat :=
  if k = 0 then 0
  else
    let z := if k % 2 = 1 then 0 else if k % 4 = 2 then 1 else 2
    subgopLog subgop - z

/-- Slice type, NAL type, TemporalId and whether it is a key picture, of the next coded picture that is no IRAP. -/
def ShfContext.nextKind (x : ShfContext) (c : ShfConfig) : Nat × Nat × Nat × Bool :=
  if c.gop = 0 then (2, 0, 0, false)
  else if c.gop = 1 then (1, 1, 0, true)
  else
    let t := layerOf c.subgop x.k
    (0, if x.k ≠ 0 && t = subgopLog c.subgop then 0 else 1, t, x.k == 0)

/-- Slice type, NAL type and TemporalId of a repeat (R204). -/
def repeatKind (c : ShfConfig) : Nat × Nat × Nat :=
  if c.gop = 0 then (2, 0, 0) else if c.gop = 1 then (1, 0, 0) else (0, 0, subgopLog c.subgop)

/-- The references after a coded picture completes (R205, R210). -/
def ShfContext.referenced (x : ShfContext) (c : ShfConfig) (p : ShfPic) (f : Frame) : ShfContext :=
  let old := if p.irap then [] else x.refs
  let keys := if p.irap then 0 else if p.key then x.keys + 1 else x.keys
  let long := p.key && !p.irap && c.ltrInterval != 0 && keys % (max c.ltrInterval 1) == 0
  let me : RefPic := { frame := f, tid := p.tid, key := p.key || p.irap, long }
  let old := if long then old.filter fun r => !r.long else old
  let refs :=
    if c.gop = 0 then []
    else if c.gop = 1 then
      let room := c.refLimit - (if (me :: old).any (·.long) then 1 else 0)
      let shorts := (me :: old).filter fun r => !r.long
      shorts.take room ++ (me :: old).filter (·.long)
    else if me.key then
      let prev := ((old.filter fun r => r.key && !r.long).take 1) ++ old.filter (·.long)
      me :: prev
    else if p.tid = subgopLog c.subgop then old
    else me :: old
  { x with refs, keys, k := if c.gop = 2 then (if p.irap then 1 % c.subgop else (x.k + 1) % c.subgop) else 0 }

/-! ## Rate control (R219 to R221) -/

/-- The rate of the HRD. -/
def ShfConfig.hrdRate (c : ShfConfig) : Nat := if c.rcMode = 1 then c.bitrate else c.maxBitrate

/-- The budget cap H in bits: AU_MAX_BYTES, and under an HRD the CPB's fullness at this AU's removal. -/
def State.capBits (c : Nat) (s : State) : Nat :=
  let x := s.shf c
  let h := 8 * x.cfg.force.auMaxBytes
  if x.cfg.force.rcMode = 0 then h
  else
    let full := x.fullness.getD ((9 * x.cfg.force.cpbSize * x.rate.1 / 10 : Nat) : Int)
    min h (full.toNat / x.rate.1)

/-- The CPB after an AU of `bits` bits is removed and a frame period has filled it again. PRESUMED, unsafe (log entry 34):
level limits of H.265. -/
def State.hrdRemove (c bits : Nat) (s : State) : State :=
  s.onShf c fun x =>
    let f := x.cfg.force
    if f.rcMode = 0 then x
    else
      let full := x.fullness.getD ((9 * f.cpbSize * x.rate.1 / 10 : Nat) : Int)
      let n := full - (bits * x.rate.1 : Nat) + (f.hrdRate * x.rate.2 : Nat)
      { x with fullness := some (min n ((f.cpbSize * x.rate.1 : Nat) : Int)) }

/-- The modes of R221 that a tile passes through. -/
structure TileRun where
  left : Int
  squeezed : Bool := false
  minimal : Bool := false
  bits : Nat := 0
deriving DecidableEq, Repr

/-- Codes the CTUs of one row (R221 steps 2 and 3); `after` counts the CTUs after this row. -/
def codeRow (m : Nat) (after : Nat) : List CtuBits → TileRun → TileRun
  | [], t => t
  | u :: us, t =>
    let rest : Int := ((us.length + after) * m + 256 : Nat)
    let want : Nat := if t.squeezed then u.squeezed else u.normal
    let least : Nat := min u.minimal m
    if !t.minimal && decide (rest ≤ t.left - want) then
      codeRow m after us { t with left := t.left - want, bits := t.bits + want }
    else codeRow m after us { t with minimal := true, left := t.left - least, bits := t.bits + least }

/-- Codes the rows of a tile of budget `b` (R221 step 1 before each row). -/
def codeTile (m reserve : Nat) : List (List CtuBits) → TileRun → TileRun
  | [], t => t
  | r :: rs, t =>
    let todo := r.length + (rs.map List.length).sum
    let t := if !t.squeezed && decide (t.left < (todo * reserve + 256 : Nat)) then { t with squeezed := true } else t
    codeTile m reserve rs (codeRow m ((rs.map List.length).sum) r t)

/-- Row and column shaped CTU costs of a picture: the coder's own figures, cut or repeated to the grid. -/
def ctuRows (cols rows : Nat) (k : Coded) : List (List CtuBits) :=
  (List.range rows).map fun r => (List.range cols).map fun c =>
    ((k.rows.getD r []).getD c { normal := Config.freeNat (2 * (r * cols + c)), squeezed := Config.freeNat (2 * (r * cols + c) + 1)
                                 minimal := 8 })

/-- What coding a picture gives: VCL bits, squeezed, minimal. -/
def codePicture (sliceType : Nat) (c : ShfConfig) (cols rows budget : Nat) (split : Bool) (k : Coded) : Nat × Bool × Bool :=
  let m := if sliceType = 2 then 320 else 8
  let grid := ctuRows cols rows k
  if !split then
    let t := codeTile m c.squeezeReserve grid { left := (budget : Nat) }
    (t.bits, t.squeezed, t.minimal)
  else
    let c0 := ceilDiv cols 2
    let b0 := budget * c0 / cols
    let t0 := codeTile m c.squeezeReserve (grid.map fun r => r.take c0) { left := (b0 : Nat) }
    let t1 := codeTile m c.squeezeReserve (grid.map fun r => r.drop c0) { left := (budget - b0 : Nat) }
    (t0.bits + t1.bits, t0.squeezed || t1.squeezed, t0.minimal || t1.minimal)

/-- `n` bytes of what the coder wrote. -/
def codedBytes (n : Nat) (k : Coded) : List Byte :=
  let bs := k.bytes.take n
  bs ++ (List.range (n - bs.length)).map fun i => Config.freeByte (bs.length + i)

/-! ## AUs (R222 to R224) -/

/-- The fields in force for a frame of a context (R15): those of its entry into the Mill, or those in force now for a frame that
never entered it. -/
def State.shfCfg (c : Nat) (f : Frame) (s : State) : ShfConfig × LadderConfig :=
  let x := s.shf c
  match x.cfgs.find? fun y => y.1 == f with
  | some y => ({ y.2.1 with priority := x.cfg.force.priority }, y.2.2)
  | none => (x.cfg.force, s.sheaf.ladder.force)

/-- The context takes part in frame `f`: it runs, its start has come and no LAST frame lies before it. -/
def ShfContext.member (x : ShfContext) (f : Frame) : Bool :=
  x.running && f.atOrAfter x.startAt && (x.stopFrame.all fun e => e.atOrAfter f)

/-- Whether a READY slot of frame `f` may still give a context a picture: the context takes part in the frame, whose plan
is yet to come or is the present one, and has no AU of it. DESIGN CHOICE, unsafe (log entry 35): order of skip reasons. -/
def State.shfWants (c : Nat) (f : Frame) (s : State) : Bool :=
  (s.shf c).member f && (f == s.raster.frame || s.sheaf.plan.any fun i => i.frame == f) && ((s.shf c).first || (s.shf c).lastFrame != f)

/-- READY slots that no picture will be coded from return to FREE (R186, R201). DESIGN CHOICE, unsafe (log entry 33): when
a NO_PICTURE repeat is written. -/
def State.shfSweep (s : State) : State :=
  (List.range 48).foldl (fun s r =>
    let c := (s.rend r).cfg.force
    if c.dest = 0 then
      s.onRend r fun x => { x with slots := x.slots.map fun z =>
        if z.st == .ready && !s.shfWants c.target z.frame then { z with st := .free } else z }
    else s) s

/-- A stop is complete: the pool's buffers return and SHF_CONTEXT_STOPPED goes out (R201). -/
def State.shfEnd (c : Nat) (last : Frame) (s : State) : State :=
  let s := (s.onShf c fun x =>
    { x with running := false, first := false, stopFrame := none, stopAt := none, refs := [], bufs := 0, pendingBuf := false
             fmt := none, deferred := none, fullness := none, cfgs := [], core := 0xFF }).shfSweep
  s.notice 0x0584 [itemN 1 1 c, itemN 2 4 last.toNat]

/-- The slot of a rendition that holds a frame. -/
def Rendition.slotFor (f : Frame) (x : Rendition) : Option (Nat × Slot) :=
  (indexed x.slots).find? fun ks => ks.2.frame == f && ks.2.st != .free

/-- The record of R223. -/
def auRecord (c : Nat) (i : FrameInfo) (slot : Option Slot) (len sliceType nal tid poc flags reason : Nat) (qp : Int)
    (auLen cap : Nat) (done : Clk) : List Byte :=
  toLe 2 0x0501 ++ toLe 2 1 ++ toLe 4 len ++ toLe 4 i.frame.toNat ++ toLe 1 c ++ toLe 1 sliceType ++ toLe 1 nal ++ toLe 1 tid ++
    toLe 4 poc ++ toLe 2 flags ++ toLe 1 reason ++ toLeInt 1 qp ++ toLe 4 auLen ++
    clkBytes ((slot.map fun (z : Slot) => z.start).getD i.start) ++ tcBytes i.tc ++ toLe 1 i.sub ++ toLe 1 0 ++
    toLe 2 ((slot.map fun (z : Slot) => z.mark).getD i.mark).toNat ++ toLe 2 ((slot.map fun (z : Slot) => z.intakeFlags).getD 0).toNat ++
    toLe 2 ((slot.map fun (z : Slot) => z.millFlags).getD 0).toNat ++ toLe 2 ((slot.map fun (z : Slot) => z.rendFlags).getD 0).toNat ++ toLe 2 0 ++
    clkBytes done ++ toLe 4 cap ++ List.replicate 8 0

/-- Writes one AU entry into the queue and settles what every AU changes: counters, the HRD, FIRST, LAST and FOLLOWS_LOSS. -/
def State.writeAu (c : Nat) (i : FrameInfo) (slot : Option Slot) (id sliceType nal tid poc flags reason : Nat) (qp : Int)
    (cap : Nat) (au : List Byte) (s : State) : State :=
  let x := s.shf c
  let last := x.stopFrame == some i.frame
  let fl := flags + (if x.lost then 1024 else 0) + (if last then 2048 else 0) + (if x.first then 4096 else 0)
  let len := 80 + roundUp au.length 16
  let now := s.raster.clock
  let rec_ := auRecord c i slot len sliceType nal tid poc fl reason qp au.length cap now
  let s := (s.ringPlace (BitVec.ofNat 32 x.cfg.force.queue) id (0x0500 + c)
    (rec_ ++ au ++ List.replicate (len - 80 - au.length) 0)).2
  let s := s.onShf c fun x => { x with lost := false, first := false, lastFrame := i.frame, poc := poc + 1, i := x.i + 1 }
  let s := ((s.onSheaf fun y => { y with auTime := now }).countShfCtx c 0).raise 0x069
  s.hrdRemove c (8 * au.length)

/-- A context's AU for the plan's frame is a repeat (R202, R204, R208, R222). Before the first AU there is nothing to
repeat: the frame gets no AU. `id` is a reservation already held. DESIGN CHOICE, unsafe (log entry 33): when a NO_PICTURE
repeat is written. -/
def State.shfRepeat (c reason : Nat) (id : Option Nat) (s : State) : State :=
  match s.sheaf.plan with
  | none => s
  | some i =>
    let x := s.shf c
    let (cfg, lad) := s.shfCfg c i.frame
    let q : Handle := BitVec.ofNat 32 x.cfg.force.queue
    let slot := (s.targetOf c).bind fun r => ((s.rend r).slotFor i.frame).map fun ks => (r, ks)
    let release (s : State) : State := match slot with
      | some (r, (k, sl)) => if sl.st == .ready || sl.st == .held then s.slotFree r k else s
      | none => s
    if !x.running || x.first then
      let s := match id with | some n => s.ringCancel q n | none => s
      release s
    else
      let (cols, rows) := ctuGrid (x.fmt.getD (.of []))
      let due := x.irapDue cfg lad i.frame
      let s := s.onShf c fun x =>
        { x with pendingBuf := false, k := 0, forced := x.forced.filter fun g => !i.frame.atOrAfter g
                 deferred := if due then some ((x.deferred.getD none).or
                   (if cfg.ladder = 1 && lad.on i.frame then some i.frame else none)) else x.deferred }
      let room := 80 + 4096 + 40 * cols * rows
      let (id, s) := match id with | some n => (some n, s) | none => s.ringOpen q room
      let last := x.stopFrame == some i.frame
      match id with
      | none =>
        let s := (s.onShf c fun x => { x with lost := true, i := x.i + 1 }).countShfCtx c 4
        let s := (release (s.hrdRemove c 0)).notice 0x0583 [itemN 1 1 c, itemN 2 4 i.frame.toNat, itemN 3 1 1]
        if last then s.shfEnd c i.frame else s
      | some n =>
        let (k, s) := s.draw
        let coded := Config.coded k
        let au := coded.bytes.take (4096 + 40 * cols * rows)
        let (st, nal, tid) := repeatKind cfg
        let filled := slot.bind fun y => if y.2.2.st == .ready || y.2.2.st == .held then some y.2.2 else none
        let s := s.writeAu c i filled n st nal tid x.poc 8 reason coded.qpAvg (s.capBits c) au
        let s := (s.onShf c fun x => { x with lastReason := reason }).countShfCtx c 1
        let s := if reason = 3 then s else s.onSheaf fun y => { y with repeats := y.repeats ++ [(c, reason)] }
        let s := if reason = 5 then s.notice 0x0583 [itemN 1 1 c, itemN 2 4 i.frame.toNat, itemN 3 1 0] else s
        let s := release s
        if last then s.shfEnd c i.frame else s

/-- A coded picture is complete: its AU is written, its slot returns to FREE and its buffer takes its mark. -/
def State.shfCoded (p : ShfPic) (s : State) : State :=
  match s.sheaf.plan with
  | none => s
  | some i =>
    let x := s.shf p.ctx
    let (cfg, _) := s.shfCfg p.ctx i.frame
    let slot := (s.rend p.rend).slots[p.slot]?
    let last := x.stopFrame == some i.frame
    let poc := if p.idr then 0 else x.poc
    let s := s.onShf p.ctx fun x => if p.irap then { x with i := 0, deferred := none } else x
    let s := s.writeAu p.ctx i slot p.ringId p.sliceType p.nal p.tid poc p.flags 0 p.qp p.cap p.au
    let s := s.onShf p.ctx fun x =>
      { (x.referenced cfg p i.frame) with pendingBuf := false, qpLast := p.qp, forced := x.forced.filter fun g => !i.frame.atOrAfter g }
    let s := if p.flags.testBit 4 then s.countShfCtx p.ctx 2 else s
    let s := if p.flags.testBit 5 then s.countShfCtx p.ctx 3 else s
    let s := if p.flags.testBit 4 || p.flags.testBit 5 then
        s.onSheaf fun y => { y with budget := y.budget ++ [(p.ctx, p.flags)] } else s
    let s := match p.ladderDue with
      | some f => s.notice 0x0582 [itemN 1 1 p.ctx, itemN 2 4 f.toNat, itemN 3 4 i.frame.toNat]
      | none => s
    let s := s.slotFree p.rend p.slot
    if last then s.shfEnd p.ctx i.frame else s

/-! ## The plan and its cores (R214 to R217) -/

/-- Abandons a picture of the plan: its other tile too; the frame's AU becomes a repeat. -/
def State.shfKill (c reason : Nat) (s : State) : State :=
  let p := s.sheaf.pics.find? fun p => p.ctx == c
  let s := s.onSheaf fun x =>
    { x with pics := x.pics.filter fun p => p.ctx != c
             cores := x.cores.map fun k =>
               { k with list := k.list.filter fun it => it.ctx != c
                        cur := if k.cur.any fun it => it.ctx == c then none else k.cur
                        st := if k.cur.any fun it => it.ctx == c then .idle else k.st } }
  s.shfRepeat c reason (p.map (·.ringId))

/-- Whether a frame of a source has begun at its port, or waits to be restored for Replay, and its first pair has not entered
the Mill (R122, R214). -/
def State.frameComing (src : Nat) (f : Frame) (s : State) : Bool :=
  (s.unit src).flight.any (fun y => y.frame == f && !y.devDrop) || (s.unit src).buffer.any fun y => y.frame == f

/-- How a context stands for the plan's frame: its rendition, its slot, whether the slot is READY, and whether none will
come. DESIGN CHOICE, unsafe (log entry 35): order of skip reasons. -/
def State.shfSlot (c : Nat) (f : Frame) (s : State) : Option (Nat × Nat × Slot) × Bool :=
  match s.targetOf c with
  | none => (none, true)
  | some r =>
    match (s.rend r).slotFor f with
    | some (k, sl) => (if sl.st == .ready then some (r, k, sl) else none, false)
    | none =>
      match (s.rend r).fates.find? fun y => y.1 == f with
      | some y => (none, !y.2)
      | none => (none, !(s.rend r).running || !s.frameComing (s.look (s.rend r).cfg.force.look).cfg.force.source f)

/-- The end of a plan's period (R216): what is not coded by now is late, or never had a picture; then SHF_REPEAT and SHF_BUDGET
of its frame go out. -/
def State.shfClose (s : State) : State :=
  match s.sheaf.plan with
  | none => s
  | some i =>
    let left := ((s.sheaf.cores.flatMap fun k => k.list.map (·.ctx) ++ (k.cur.map (·.ctx)).toList) ++
      s.sheaf.pics.map (·.ctx)).eraseDups
    let s := left.foldl (fun s c =>
      let started := s.sheaf.pics.any fun p => p.ctx == c
      let has := ((s.targetOf c).bind fun r => (s.rend r).slotFor i.frame).isSome
      if started || has then (s.countShf 3).shfKill c 2 else s.shfKill c 3) s
    let rep := s.sheaf.repeats
    let bud := s.sheaf.budget
    let s := s.onSheaf fun x =>
      { x with plan := none, repeats := [], budget := []
               ctxs := x.ctxs.map fun y => { y with forced := y.forced.filter fun g => !i.frame.atOrAfter g } }
    let s := if rep.isEmpty then s else s.notice 0x0580 ([itemN 1 4 i.frame.toNat] ++
      rep.map fun cr => itemB 2 (toLe 1 cr.1 ++ toLe 1 cr.2))
    if bud.isEmpty then s else s.notice 0x0581 ([itemN 1 4 i.frame.toNat] ++
      bud.map fun cr => itemB 2 (toLe 1 cr.1 ++ toLe 2 cr.2))

/-- The plan of frame N at the start of frame N + 1 (R214). DESIGN CHOICE, unsafe (log entry 35): order of skip reasons. -/
def State.shfPlan (i : FrameInfo) (s : State) : State :=
  let s := s.shfClose
  let now := s.raster.clock
  let made := s.sheaf.ctxs.any (·.running)
  let s := s.onSheaf fun x =>
    { x with plan := some i, planMade := made, planTime := if made then now else x.planTime
             cores := x.cores.map fun k => { k with pictures := 0, list := [], cur := none, st := .idle } }
  let s := s.shfSweep
  let run := (List.range 48).filter fun c => (s.shf c).member i.frame
  let s := if made then (s.countShf 0).raise 0x068 else s
  let lost := run.filter fun c => (s.shfSlot c i.frame).2
  let s := lost.foldl (fun s c => s.shfRepeat c 3 none) s
  let pics := (run.filter fun c => !lost.contains c).mergeSort fun a b =>
    let pa := (s.shf a).cfg.force.priority
    let pb := (s.shf b).cfg.force.priority
    decide (pb < pa) || (pa == pb && decide (a ≤ b))
  let rate := (s.raster.cfg.force.rateNum, s.raster.cfg.force.rateDen)
  let div := s.power.sheafDiv
  let order (loads : List Nat) : List Nat := (List.range 4).mergeSort fun a b =>
    decide (loads.getD a 0 < loads.getD b 0) || (loads.getD a 0 == loads.getD b 0 && decide (a ≤ b))
  let res := pics.foldl (fun (acc : List Nat × Bool × State) c =>
    let (loads, shed, s) := acc
    let f := ((s.shf c).fmt.getD (.of []))
    let whole := div * coreCost (f.w * f.h)
    let t := tileShares f.w f.h
    let sp := (s.shf c).cfg.force.split
    let split := t.2 != 0 && (sp == 2 || (sp == 0 && !fitsPeriod whole rate))
    let ks := order loads
    let parts : List (Nat × Nat) :=
      if split then
        let a := min (ks.getD 0 0) (ks.getD 1 0)
        let b := max (ks.getD 0 0) (ks.getD 1 0)
        [(a, div * coreCost t.1), (b, div * coreCost t.2)]
      else [(ks.getD 0 0, whole)]
    if shed || parts.any fun kc => !fitsPeriod (loads.getD kc.1 0 + kc.2) rate then
      (loads, true, (s.countShf 2).shfRepeat c 1 none)
    else
      let loads := parts.foldl (fun l kc => modAt l kc.1 (· + kc.2)) loads
      let s := (indexed parts).foldl (fun s tk =>
        s.onCore tk.2.1 fun k => { k with list := k.list ++ [{ ctx := c, tile := tk.1, split }] }) s
      let s := s.onShf c fun x => { x with core := (parts.headD (0, 0)).1 }
      (loads, false, if split then s.countShf 1 else s)) (List.replicate 4 0, false, s)
  let load := min 65535 (res.1.sum * 65536 * rate.1 / (4 * rate.2 * 1000000000))
  res.2.2.onSheaf fun x => { x with load, peak := max x.peak load }

/-- Whether the motion field seeds a frame of Mill context `m`: complete and valid (R212, R213). -/
def State.seeded (m : Nat) (f : Frame) (s : State) : Bool :=
  ((s.sheaf.motion.getD m {}).complete) == some (f, true)

/-- A core begins a picture whose slot is READY: room in the queue, the kind of picture, and what coding it gives. -/
def State.shfBegin (c r k : Nat) (sl : Slot) (i : FrameInfo) (split : Bool) (s : State) : State :=
  let x := s.shf c
  let q : Handle := BitVec.ofNat 32 x.cfg.force.queue
  match s.ringOpen q (80 + x.cfg.force.auMaxBytes) with
  | (none, s) => s.shfKill c 5
  | (some id, s) =>
    let (cfg, lad) := s.shfCfg c i.frame
    let due := x.irapDue cfg lad i.frame
    let idr := due && (x.first || cfg.irapType == 0)
    let (sliceType, nal, tid, key) :=
      if due then (2, if idr then 20 else 21, 0, true) else x.nextKind cfg
    let (n, s) := s.draw
    let coded := Config.coded n
    let h := s.capBits c
    let (cols, rows) := ctuGrid (x.fmt.getD (.of []))
    let extra := min coded.nonVclBits h
    let (bits, sq, mi) := codePicture sliceType cfg cols rows (h - extra) split coded
    let au := codedBytes (min (ceilDiv (extra + bits) 8) (h / 8)) coded
    let seed := s.seeded (s.look (s.rend r).cfg.force.look).cfg.force.source i.frame
    let lay := slotLayout (s.rend r).cfg.force sl.fmt[4]!
    let bad := (s.buffer? (BitVec.ofNat 32 (s.rend r).cfg.force.planes)).any fun b => b.poisoned (k * lay.size) lay.size
    let flags := bit due + 2 * bit (due && lad.on i.frame) + 4 * bit (due && x.deferred.isSome) + 16 * bit sq + 32 * bit mi +
      64 * bit split + 128 * bit (!seed) + 256 * bit coded.refPoison + 512 * bit bad
    let s := if seed then s else s.countShf 4
    let s := s.onRend r (Rendition.onSlot k fun y => { y with st := .held })
    let s := s.onShf c fun x => { x with pendingBuf := true }
    s.onSheaf fun y => { y with pics := y.pics ++
      [{ ctx := c, rend := r, slot := k, ringId := id, tilesLeft := if split then 2 else 1, irap := due, idr
         ladder := due && lad.on i.frame, deferred := due && x.deferred.isSome
         ladderDue := if due then x.deferred.getD none else none
         sliceType, nal, tid, key, flags, qp := coded.qpAvg, cap := h, au }] }

/-- CORE_PICTURE_START (R216): the core takes the first picture of its list whose slot is READY, sheds it as LATE, or
waits. DESIGN CHOICE, unsafe (log entry 33): when a NO_PICTURE repeat is written. -/
def corePictureStart (core : Nat) (late : Bool) (s : State) : State :=
  let k := s.core core
  match s.sheaf.plan with
  | none => s
  | some i =>
    if k.cur.isSome then s
    else
      let ready (it : ShfItem) : Bool := (s.sheaf.pics.any fun p => p.ctx == it.ctx) || ((s.shfSlot it.ctx i.frame).1).isSome
      match k.list.find? ready with
      | none =>
        let s := (k.list.filter fun it => (s.shfSlot it.ctx i.frame).2).foldl (fun s it => s.shfKill it.ctx 3) s
        s.onCore core fun k => { k with st := if k.list.isEmpty then .idle else .waiting }
      | some it =>
        if late then ((s.countShf 3).shfKill it.ctx 2).onCore core fun k => { k with st := .idle }
        else
          let begun := s.sheaf.pics.any fun p => p.ctx == it.ctx
          let s := if begun then s
            else match (s.shfSlot it.ctx i.frame).1 with
              | none => s
              | some (r, n, sl) =>
                if (s.shf it.ctx).fmt != some (.of sl.fmt) then s.shfKill it.ctx 4
                else s.shfBegin it.ctx r n sl i it.split
          if s.sheaf.pics.any fun p => p.ctx == it.ctx then
            s.onCore core fun k => { k with list := k.list.filter (· != it), cur := some it, st := .coding }
          else s.onCore core fun k => { k with list := k.list.filter (· != it), st := .idle }

/-- CORE_PICTURE_DONE (R195): a picture is complete with its last tile. -/
def corePictureDone (core : Nat) (s : State) : State :=
  match (s.core core).cur with
  | none => s
  | some it =>
    let s := s.onCore core fun k => { k with cur := none, st := .idle, pictures := (k.pictures + 1) % 256 }
    match s.sheaf.pics.find? fun p => p.ctx == it.ctx with
    | none => s
    | some p =>
      if 1 < p.tilesLeft then
        s.onSheaf fun x => { x with pics := x.pics.map fun y => if y.ctx == it.ctx then { y with tilesLeft := y.tilesLeft - 1 } else y }
      else (s.onSheaf fun x => { x with pics := x.pics.filter fun y => y.ctx != it.ctx }).shfCoded p

/-- CORE_FAULT (R217). -/
def coreFault (core : Nat) (s : State) : State :=
  match (s.core core).cur with
  | none => s
  | some it =>
    (((s.countShf 5).shfKill it.ctx 6).onCore core fun k => { k with st := .recovering }).faultLog 0x09 (0x0500 + core)
      (core * 256 + it.ctx)

/-! ## The motion field (R211, R212) -/

/-- The proxy sample of a block whose weighted values sum to `t` over `n` samples: ⌊256 × (log2 Ȳ + 16)⌋ with Ȳ = t / (4n). -/
def proxySample (t : Int) (n : Nat) : Nat :=
  if t ≤ (512 * n : Nat) then 0 else min 8191 (Nat.log2 (t.toNat ^ 256 / (512 * n) ^ 256))

/-- The proxy of a developed frame. -/
def proxyOf (d : Developed) : List (List Nat) :=
  (List.range (ceilDiv d.lines 8)).map fun y => (List.range (ceilDiv d.width 8)).map fun x =>
    let cells := (List.range 8).flatMap fun a => (List.range 8).filterMap fun b =>
      if 8 * y + a < d.lines ∧ 8 * x + b < d.width then some (8 * y + a, 8 * x + b) else none
    proxySample ((cells.map fun ij => px d.red ij.1 ij.2 + 2 * px d.green ij.1 ij.2 + px d.blue ij.1 ij.2).sum) cells.length

/-- A proxy read at quarter-sample position, times 16: bilinear, with the edge sample beyond the edge. -/
def proxyAt (p : List (List Nat)) (y x : Int) : Int :=
  let h := p.length
  let w := (p.headD []).length
  let at_ (a b : Int) : Int := (((p.getD (sat 0 ((h : Int) - 1) a).toNat []).getD (sat 0 ((w : Int) - 1) b).toNat 0 : Nat) : Int)
  let iy := y / 4
  let fy := y % 4
  let ix := x / 4
  let fx := x % 4
  (4 - fy) * ((4 - fx) * at_ iy ix + fx * at_ iy (ix + 1)) + fy * ((4 - fx) * at_ (iy + 1) ix + fx * at_ (iy + 1) (ix + 1))

/-- SAD of a block against the previous proxy moved by a quarter-sample vector, times 16. -/
def blockSad (cur prev : List (List Nat)) (cells : List (Nat × Nat)) (vy vx : Int) : Nat :=
  (cells.map fun ij => (16 * (((cur.getD ij.1 []).getD ij.2 0 : Nat) : Int) -
    proxyAt prev (4 * (ij.1 : Int) + vy) (4 * (ij.2 : Int) + vx)).natAbs).sum

/-- The best of several vectors: least SAD, then the smaller |x| + |y|, then the earlier in raster order. -/
def bestVector (cost : Int × Int → Nat) (vs : List (Int × Int)) : (Int × Int) × Nat :=
  vs.foldl (fun (acc : (Int × Int) × Nat) v =>
    let c := cost v
    if c < acc.2 || (c == acc.2 && decide (v.1.natAbs + v.2.natAbs < acc.1.1.natAbs + acc.1.2.natAbs)) then (v, c) else acc)
    ((vs.headD (0, 0)), cost (vs.headD (0, 0)))

/-- Offsets from -n to n. -/
def span (n : Nat) : List Int := (List.range (2 * n + 1)).map fun (k : Nat) => (k : Int) - (n : Int)

/-- Vector and mean absolute difference of one block: ±32 by ±16 samples, then every quarter-sample within a sample of the
best. -/
def blockVector (cur prev : List (List Nat)) (by_ bx : Nat) : (Int × Int) × Nat :=
  let h := cur.length
  let w := (cur.headD []).length
  let cells := (List.range 16).flatMap fun a => (List.range 16).filterMap fun b =>
    if 16 * by_ + a < h ∧ 16 * bx + b < w then some (16 * by_ + a, 16 * bx + b) else none
  let cost (v : Int × Int) : Nat := blockSad cur prev cells v.1 v.2
  let whole := bestVector cost ((span 16).flatMap fun y => (span 32).map fun x => (4 * y, 4 * x))
  let fine := bestVector cost ((span 3).flatMap fun y => (span 3).map fun x => (whole.1.1 + y, whole.1.2 + x))
  (fine.1, (roundDiv (fine.2 : Nat) (16 * cells.length)).toNat)

/-- Slot size S_m for a geometry. -/
def motionSize (width lines : Nat) : Nat :=
  let pw := ceilDiv width 8
  let ph := ceilDiv lines 8
  roundUp (64 + 8 * (ceilDiv pw 16 * ceilDiv ph 16)) 4096 + roundUp (2 * pw * ph) 4096

/-- The bytes of a field's slot; without a previous proxy of the same size the vectors are whatever the unit leaves. -/
def fieldBytes (d : Developed) (cur prev : List (List Nat)) (valid : Bool) (seed : Nat) : List Byte :=
  let ph := cur.length
  let pw := (cur.headD []).length
  let bw := ceilDiv pw 16
  let bh := ceilDiv ph 16
  let same := prev.length == ph && (prev.headD []).length == pw
  let block (k : Nat) : List Byte :=
    if same then
      let v := blockVector cur prev (k / bw) (k % bw)
      toLeInt 2 v.1.2 ++ toLeInt 2 v.1.1 ++ toLe 2 v.2 ++ toLe 2 0
    else (List.range 6).map (fun i => Config.freeByte (seed + 6 * k + i)) ++ toLe 2 0
  let head := toLe 2 0x0502 ++ toLe 2 1 ++ toLe 4 d.frame.toNat ++ toLe 2 (bit valid) ++ toLe 2 d.mark.toNat ++ toLe 2 bw ++
    toLe 2 bh ++ toLe 2 pw ++ toLe 2 ph ++ List.replicate 44 0
  let a := head ++ (List.range (bw * bh)).flatMap block
  a ++ List.replicate (roundUp a.length 4096 - a.length) 0 ++ cur.flatMap fun r => r.flatMap (toLe 2)

/-- The motion-field unit takes a developed frame. -/
def State.motionTake (d : Developed) (s : State) : State :=
  let u := s.sheaf.motion.getD d.ctx {}
  if u.field = 0 then s
  else
    let cur := proxyOf d
    let (n, s) := s.draw
    s.onSheaf fun x => { x with motion := modAt x.motion d.ctx fun u =>
      { u with proxy := cur, pending := some (d.frame, d.follows, fieldBytes d cur u.proxy d.follows (65536 * n)) } }

/-- MOTION_FIELD_COMPLETE (R212): the field is in its slot; the two slots alternate. -/
def motionFieldComplete (ctx : Nat) (s : State) : State :=
  match s.sheaf.motion[ctx]? with
  | none => s
  | some u =>
    match u.pending with
    | none => s
    | some (f, valid, bs) =>
      let s := match s.buffer? u.field with
        | none => s
        | some b => if 2 * bs.length ≤ b.size then s.putBytes u.field (u.slot * roundUp bs.length 4096) bs
          else s
      s.onSheaf fun x => { x with motion := modAt x.motion ctx fun u =>
        { u with pending := none, complete := some (f, valid), slot := 1 - u.slot } }

/-! ## The Mill's frames, as the Looks and the Sheaf take them -/

/-- The contexts that a Mill context's renditions feed note the fields in force for a frame that enters the Mill (R15). -/
def State.shfEnter (ctx : Nat) (f : Frame) (s : State) : State :=
  (List.range 48).foldl (fun s c =>
    match s.targetOf c with
    | none => s
    | some r =>
      if (s.shf c).running && (s.look (s.rend r).cfg.force.look).cfg.force.source == ctx then
        s.onShf c fun x => { x with cfgs := ((f, x.cfg.force, s.sheaf.ladder.force) :: x.cfgs).take 8 }
      else s) s

/-- MILL_GRANT with what follows it in the same instant: admission at a frame's first pair; Looks, renditions and the motion
field after its last. -/
def grantAndRender (s : State) : State :=
  match s.grantPort with
  | none => millGrant s
  | some p =>
    match (s.unit p).buffer with
    | [] => millGrant s
    | x :: _ =>
      let s := if x.index = 0 then (s.rendEnter p x.frame x.top.length x.lines).shfEnter p x.frame else s
      let s := millGrant s
      match s.mill.out with
      | none => s
      | some d => (s.takeDeveloped).motionTake d

/-- REND_SLOT_READY with what follows it in the same instant: a slot that the Sheaf has no use for returns to FREE. -/
def rendSlotReady (r : Nat) (s : State) : State := (slotComplete r s).shfSweep

/-! ## Starts and stops (R201) -/

/-- A context's start with every refusal of R199 and R201, as a status; `at` is the frame asked for. -/
def State.shfStart (c : Nat) (at_ : Frame) (s : State) : Nat ⊕ (Frame × State) :=
  let x := s.shf c
  let cfg := x.cfg.force
  let ras := s.raster.cfg
  let rateDiffers (a b : RasConfig) : Bool := a.rateNum * b.rateDen != b.rateNum * a.rateDen
  if x.running || rateDiffers ras.shadow ras.force || (s.raster.held.any fun h => rateDiffers h.2 ras.force) then .inl stBusy
  else match s.targetOf c with
    | none => .inl 0x1501
    | some r =>
      if !s.hasRole (BitVec.ofNat 32 cfg.queue) [8] then .inl stBadHandle
      else
        let f := s.formatOf r
        let rate := (ras.force.rateNum, ras.force.rateDen)
        match s.poolRoom (refSize f) (cfg.refLimit + 1) with
        | none => .inl stNoResource
        | some k =>
          if !formatOk cfg f rate then .inl 0x1500
          else
            let from_ := if cfg.ladder = 1 then s.sheaf.ladder.force.nextFrom at_ else at_
            .inr (from_, s.onShf c fun x =>
              { x with running := true, startAt := from_, first := true, stopFrame := none, stopAt := none, fmt := some f, rate
                       poolClass := k, bufs := cfg.refLimit + 1, pendingBuf := false, refs := [], i := 0, poc := 0, k := 0
                       keys := 0, deferred := none, lost := false, fullness := none, cfgs := [] })

/-- The frame whose first line entered the Mill last, for a context. -/
def ShfContext.entered (x : ShfContext) : Option Frame := (x.cfgs.head?).map (·.1)

/-- A stop acts now: the frame of the LAST AU; a context without any AU and without a picture on its way ends at once. -/
def State.shfStop (c : Nat) (s : State) : Frame × State :=
  let x := s.shf c
  if !x.running then (x.lastFrame, s)
  else match x.stopFrame with
    | some f => (f, s)
    | none =>
      let f := match x.entered with
        | some e => if !x.first && x.lastFrame.atOrAfter e then s.raster.frame else e
        | none => if x.first then s.raster.frame - 1 else s.raster.frame
      let s := s.onShf c fun x => { x with stopFrame := some f, stopAt := none }
      let coming := ((s.targetOf c).bind fun r => (s.rend r).slotFor f).isSome
      if x.first && !coming then (f, s.shfEnd c f) else (f, s)

/-- At a raster frame start: stops that waited for their frame act after the frame that has ended, `prev`; a context that stops
before any AU ends. -/
def State.shfStopsDue (prev : Frame) (s : State) : State :=
  (List.range 48).foldl (fun s c =>
    let x := s.shf c
    let s := if x.running && (x.stopAt.any fun f => s.raster.frame.atOrAfter f) then
        s.onShf c fun x => { x with stopAt := none, stopFrame := x.stopFrame.or (some prev) } else s
    let x := s.shf c
    if x.running && x.first && (x.stopFrame.any fun f => Frame.passed (f + 1) s.raster.frame) then
      s.shfEnd c (x.stopFrame.getD 0) else s) s

/-- A jump from a count to the present frame that passes the frame of a LADDER_ALL request: the IRAP falls in the present frame
(R486). -/
def State.ladderJump (jump : Option Frame) (s : State) : State :=
  match jump, s.sheaf.ladderAt with
  | none, _ => s
  | _, none => s
  | some prev, some f =>
    if !jumpPasses prev s.raster.frame f then s
    else
      let move (l : LadderConfig) : LadderConfig := if l.anchor = f.toNat then { l with anchor := s.raster.frame.toNat } else l
      s.onSheaf fun x => { x with ladderAt := none, ladder := { x.ladder with force := move x.ladder.force, shadow := move x.ladder.shadow } }

/-- Clears the Sheaf's and the contexts' counters that the masks name (R225, R227). -/
def State.clearShf (sheaf ctxs : Nat) (s : State) : State :=
  s.onSheaf fun x =>
    { x with cnt := clearMasked x.cnt sheaf, peak := if sheaf = 0 then x.peak else x.load
             ctxs := (indexed x.ctxs).map fun kc => if ctxs.testBit kc.1 then { kc.2 with cnt := clearAll kc.2.cnt } else kc.2 }

end Sys2Proof.Machine
end

