-- ==== Sys2Proof/Machine/RecordOps.lean ====
section
/-!
DEFINITION. What the recording service does: drives and their commands, the Breka Clip Volume and its journal, clips and
rendition files, and the recording sessions (12_recording_and_storage.md, R304 to R320).
-/

namespace Sys2Proof.Machine

def State.onDrive (d : Nat) (f : Drive → Drive) (s : State) : State :=
  s.onRecord fun r => { r with drives := modAt r.drives d f }
def State.drive (d : Nat) (s : State) : Drive := s.record.drives.getD d {}
def State.onRec (n : Nat) (f : RecSession → RecSession) (s : State) : State :=
  s.onRecord fun r => { r with sessions := modAt r.sessions n f }
def State.recSession (n : Nat) (s : State) : RecSession := s.record.sessions.getD n {}
def State.onVolume (f : Volume → Volume) (s : State) : State := s.onRecord fun r => { r with volume := r.volume.map f }
def State.onClip (no : Nat) (f : Clip → Clip) (s : State) : State :=
  s.onVolume fun v => { v with clips := v.clips.map fun c => if c.no == no then f c else c }
def State.clip? (no : Nat) (s : State) : Option Clip := s.record.volume.bind fun v => v.clips.find? fun c => c.no == no

/-! ## Drives and their commands (R304, R305, R311) -/

/-- Whether root port `d` exists (R304). -/
def State.rootPort (d : Nat) (s : State) : Bool :=
  match s.power.bifurcation with
  | 0 => d == 0
  | 1 => d == 0 || d == 2
  | _ => decide (d < 4) && !(d == 0 && s.control.pcie0Ep)

/-- Bytes of one write at most: 1 MiB, split further to the drive's MDTS (0 = no limit). -/
def Drive.limit (x : Drive) : Nat :=
  let m := ((x.info.map (·.maxTransfer)).getD 0) / 4096 * 4096
  if m = 0 then 1048576 else min 1048576 m

/-- Submits commands that wait while the queue of 64 has a place; the fuel is their number. -/
def State.submit (d : Nat) : Nat → State → State
  | 0, s => s
  | n + 1, s =>
    let x := s.drive d
    match x.queue, (List.range 64).find? fun i => !(x.out.any fun o => o.1 == i) with
    | c :: rest, some cid =>
      let s := s.onDrive d fun x => { x with queue := rest, out := x.out ++ [(cid, c)] }
      State.submit d n (s.send (.nvme d cid c.op c.lba c.data c.fua))
    | _, _ => s

/-- Queues a command on a drive that has not failed. -/
def State.ask (d : Nat) (c : NvmeCmd) (s : State) : State :=
  if (s.drive d).failed then s else (s.onDrive d fun x => { x with queue := x.queue ++ [c] }).submit d 1

/-! ## The journal (R309, R310) -/

/-- Little-endian fields of the widths given; width 0 stands for no field, and a missing value reads 0. -/
def fieldBytes_ : List Nat → List Nat → List Byte
  | [], _ => []
  | w :: ws, vs => toLe w (vs.headD 0) ++ fieldBytes_ ws (vs.drop 1)

/-- The bytes of a journal record. -/
def journalBytes (r : JournalRec) : List Byte :=
  let v (k : Nat) : Nat := r.body.getD k 0
  let body := match r.ty with
    | 1 => fieldBytes_ [1, 1, 1, 1, 16, 12, 4] [v 0, v 1, v 2, 0, v 3, v 4, v 5]
    | 2 => fieldBytes_ [4, 1, 1, 2, 8, 4, 4, 4] [v 0, v 1, v 2, 0, v 3, v 4, v 5, v 6]
    | 3 => fieldBytes_ [8, 4, 1, 3, 12] [v 0, v 1, v 2, 0, v 3]
    | 4 => fieldBytes_ [4, 4, 1] [v 0, v 1, v 2]
    | _ => fieldBytes_ [1, 1, 2, 8, 4] [v 0, 0, v 1, v 2, v 3]
  let bs := toLe 2 r.ty ++ toLe 4 r.clip ++ body
  bs ++ List.replicate (64 - bs.length) 0

/-- Journal block `b`. -/
def journalBlock (journal : List JournalRec) (b : Nat) : List Byte :=
  let rs := (journal.drop (63 * b)).take 63
  let recs := rs.flatMap journalBytes
  let head := kindBytes 0x42 0x43 0x56 0x4A ++ toLe 8 b ++ toLe 2 rs.length ++ List.replicate 18 0
  let body := head ++ recs ++ List.replicate (4092 - head.length - recs.length) 0
  body ++ toLe 4 (crc32c body).toNat

/-- Members of a mask, in ascending order. -/
def membersOf (mask : Nat) : List Nat := (List.range 4).filter fun d => mask.testBit d

/-- Free records of the journal. -/
def Volume.freeRecords (v : Volume) : Nat := 63 * v.journalBlocks - v.journal.length

/-- Appends a record and writes its block on every member that has not failed. -/
def State.journal (r : JournalRec) (s : State) : State :=
  match s.record.volume with
  | none => s
  | some v =>
    if v.freeRecords = 0 then s
    else
      let j := v.journal ++ [r]
      let b := v.journal.length / 63
      let s := (s.onVolume fun v => { v with journal := j }).onRecord fun x => { x with journalTime := s.raster.clock }
      (membersOf v.members).foldl (fun s d =>
        if (s.drive d).failed then s
        else (s.onDrive d fun x => { x with info := x.info.map fun (i : DriveInfo) => { i with journal := j } }).ask d
          { op := 1, lba := 16 + b, data := journalBlock j b, fua := true }) s

/-! ## Placement (R306, R308, R310) -/

/-- First multiple of the extent length, in blocks, after the journal. -/
def dataLba (journalBlocks shift : Nat) : Nat := roundUp (16 + journalBlocks) (2 ^ (shift - 12))

/-- Extents that a drive of so many bytes holds. -/
def extentsOf (bytes dataLba shift : Nat) : Nat := (bytes / 4096 - dataLba) / 2 ^ (shift - 12)

/-- Drives that LAYOUT names for ordinal `k` of clip `j`. -/
def layoutDrives (layout : Nat) (ms : List Nat) (j k : Nat) : List Nat :=
  match layout with
  | 0 => [ms.getD ((j + k) % ms.length) 0]
  | 1 => ms
  | _ => if (j + k) % 2 = 0 then ms.take 2 else ms.drop 2

/-- Whether a drive takes a new extent. -/
def Drive.takes (x : Drive) : Bool := !x.failed && decide (x.next < x.extents)

/-- The next member after `d`, wrapping round, that takes an extent and holds no copy of the ordinal. -/
def nextMember (ds : List Drive) (ms held : List Nat) (d : Nat) : Option Nat :=
  ((ms.filter fun m => decide (d < m)) ++ ms.filter fun m => decide (m ≤ d)).find? fun m =>
    (ds.getD m {}).takes && !held.contains m

/-- The drives that take the copies of an ordinal. -/
def placeDrives (ds : List Drive) (v : Volume) (j k : Nat) : List Nat :=
  let ms := membersOf v.members
  (layoutDrives v.layout ms j k).foldl (fun held d =>
    if (ds.getD d {}).takes && !held.contains d then held ++ [d]
    else match nextMember ds ms held d with
      | some m => held ++ [m]
      | none => held) []

/-- Takes the next extent of a drive. -/
def takeExtent (ds : List Drive) (d : Nat) : List Drive := modAt ds d fun x => { x with next := x.next + 1 }

/-- Ordinals that a stream of `n` bytes needs. -/
def ordinals (v : Volume) (n : Nat) : Nat := ceilDiv n (2 ^ v.shift)

/-- Whether the drives can hold `n` further ordinals of clip `j` from ordinal `k` on; answers the drives after it. -/
def canPlace (v : Volume) (j : Nat) : Nat → Nat → List Drive → Option (List Drive)
  | 0, _, ds => some ds
  | n + 1, k, ds =>
    match placeDrives ds v j k with
    | [] => none
    | held => canPlace v j n (k + 1) (held.foldl takeExtent ds)

/-- Bytes kept back for BRIX and BRTL, or for a last fragment's boxes, when `frames` frames are recorded (R316). -/
def Clip.tail (c : Clip) (frames : Nat) : Nat :=
  if c.kind = 0 then 128 + 24 * frames
  else (c.samples.map fun x => x.bytes.length + 96).sum + 65536

/-- Whether every open clip still fits, `more` bytes added to clip `no` (R316). -/
def State.fits (no more : Nat) (s : State) : Bool :=
  match s.record.volume with
  | none => false
  | some v =>
    decide (64 ≤ v.freeRecords) &&
    ((v.clips.filter (·.isOpen)).foldl (fun (acc : Option (List Drive)) c => acc.bind fun ds =>
      let size := c.data.length + (if c.no = no then more else 0) + c.tail (c.frames + 1)
      canPlace v c.no (ordinals v size - c.extents.length) c.extents.length ds) (some s.record.drives)).isSome

/-- Free extents of members that have not failed. -/
def State.freeExtents (s : State) : Nat :=
  ((s.record.drives.filter fun x => x.member && !x.failed).map fun x => x.extents - x.next).sum

/-- REC_VOLUME_LOW, once, when free space falls below 5 %. -/
def State.volumeLow (s : State) : State :=
  match s.record.volume with
  | none => s
  | some v =>
    let all : Nat := ((s.record.drives.filter fun x => x.member && !x.failed).map (·.extents)).sum
    if v.low then s
    else if s.freeExtents * 20 < all ∨ v.freeRecords * 20 < 63 * v.journalBlocks then
      (s.onVolume fun v => { v with low := true }).notice 0x0984 [itemN 1 4 s.freeExtents, itemN 2 4 v.freeRecords]
    else s

/-- Gives a clip the extents that its stream needs. -/
def State.allocate (no : Nat) : Nat → State → State
  | 0, s => s
  | n + 1, s =>
    match s.record.volume, s.clip? no with
    | some v, some c =>
      if ordinals v c.data.length ≤ c.extents.length then s
      else
        let k := c.extents.length
        match placeDrives s.record.drives v no k with
        | [] => s
        | held =>
          let x : Extent := { ordinal := k, copies := held.map fun d => { drive := d, extentNo := (s.drive d).next } }
          let s := s.onRecord fun r => { r with drives := held.foldl takeExtent r.drives }
          State.allocate no n (s.onClip no fun c => { c with extents := c.extents ++ [x] }).volumeLow
    | _, _ => s

/-! ## Writing a clip -/

/-- The writes of a range of an extent, in pieces. -/
def writesOf (limit lba : Nat) (target : Nat × Nat) : Nat → Nat → List Byte → List NvmeCmd
  | 0, _, _ => []
  | n + 1, off, bs =>
    if bs.isEmpty then []
    else
      let piece := bs.take limit
      let pad := piece ++ List.replicate (roundUp piece.length 4096 - piece.length) 0
      { op := 1, lba := lba + off / 4096, data := pad, fua := false, target := some (target.1, target.2, off) } ::
        writesOf limit lba target n (off + piece.length) (bs.drop limit)

/-- Makes the writes of a clip that its stream now allows: whole 4,096-byte blocks, and the padded tail once it is whole. -/
def State.issue (no : Nat) (s : State) : State :=
  match s.record.volume, s.clip? no with
  | some v, some c =>
    let size := 2 ^ v.shift
    c.extents.foldl (fun s x =>
      let here := (c.data.drop (x.ordinal * size)).take size
      let avail := if c.finish.isSome then here.length else here.length / 4096 * 4096
      x.copies.foldl (fun s y =>
        if y.lost || (s.drive y.drive).failed || decide (avail ≤ y.issued) then s
        else
          let bs := (here.drop y.issued).take (avail - y.issued)
          let lim := (s.drive y.drive).limit
          let cmds := writesOf lim (v.dataLba + y.extentNo * 2 ^ (v.shift - 12)) (no, x.ordinal) bs.length y.issued bs
          let s := s.onClip no fun c => { c with extents := c.extents.map fun e =>
            if e.ordinal == x.ordinal then
              { e with copies := e.copies.map fun z => if z.drive == y.drive && !z.lost then { z with issued := avail } else z }
            else e }
          cmds.foldl (fun s q => s.ask y.drive q) s) s) s
  | _, _ => s

/-- Bytes of a copy whose writes, and every write before them, have completed. -/
def State.doneBytes (no k : Nat) (y : Copy) (s : State) : Nat :=
  let x := s.drive y.drive
  ((x.out.map (·.2)) ++ x.queue).foldl (fun m c => match c.target with
    | some (a, b, off) => if a == no && b == k then min m off else m
    | none => m) y.issued

/-- Bytes of an extent that every living copy has. -/
def State.extentDone (no : Nat) (x : Extent) (s : State) : Nat :=
  match x.copies.filter fun y => !y.lost with
  | [] => 0
  | y :: ys => ys.foldl (fun m z => min m (s.doneBytes no x.ordinal z)) (s.doneBytes no x.ordinal y)

/-- Bytes from the clip's start that every copy has. -/
def State.clipDone (size no : Nat) (s : State) : List Extent → Nat
  | [] => 0
  | x :: rest =>
    let d := s.extentDone no x
    if d < size then d else d + State.clipDone size no s rest

/-- Releases a ring entry for a reader, and everything before it. -/
def State.letGo (h : Handle) (unit entry : Nat) (s : State) : State :=
  let s := s.onRecord fun r => { r with taken := r.taken.filter fun t => t != (h, unit, entry) }
  match s.readerOf h unit, (s.unread h unit).find? fun e => e.id == entry with
  | some k, some e =>
    match (s.ring? h).bind fun br => br.2.readers.getD k none with
    | some y => s.ringRelease h k (e.start + e.len - y.pos)
    | none => s
  | _, _ => s

/-- Frames whose bytes lie in a range of a clip: the first and the last. -/
def Clip.framesIn (c : Clip) (lo hi : Nat) : Nat × Nat :=
  match c.marks.filter fun m => decide (m.start < hi) && decide (lo < m.start + m.len) with
  | [] => (c.last.toNat, c.last.toNat)
  | m :: ms => (m.frame.toNat, ((m :: ms).getLastD m).frame.toNat)

/-- An EXTENT record of one copy. -/
def State.journalExtent (c : Clip) (size : Nat) (x : Extent) (y : Copy) (bytes st : Nat) (s : State) : State :=
  let fl := c.framesIn (x.ordinal * size) (x.ordinal * size + bytes)
  let s := s.journal { ty := 2, clip := c.no, body := [x.ordinal, y.drive, st, y.extentNo, bytes, fl.1, fl.2] }
  s.onClip c.no fun c => { c with extents := c.extents.map fun e =>
    if e.ordinal == x.ordinal then
      { e with copies := e.copies.map fun z => if z.drive == y.drive && z.extentNo == y.extentNo then
          { z with recorded := bytes, lost := z.lost || st == 1 } else z } else e }

/-- Settles a clip after writes have completed: releases ring entries, journals extents that are full, and closes the clip
once its stream is whole and written (R310, R312, R315). -/
def State.settleClip (no : Nat) (s : State) : State :=
  match s.record.volume, s.clip? no with
  | some v, some c =>
    let size := 2 ^ v.shift
    let done := s.clipDone size no c.extents
    let s := (c.holds.filter fun h => decide (h.upTo ≤ done)).foldl (fun s h => s.letGo h.ring h.unit h.entry) s
    let s := s.onClip no fun c => { c with holds := c.holds.filter fun h => decide (done < h.upTo) }
    let whole := c.finish.isSome && decide (c.data.length ≤ done)
    let s := c.extents.foldl (fun s x => x.copies.foldl (fun s y =>
      let n := s.doneBytes no x.ordinal y
      if y.lost || decide (n ≤ y.recorded) || !(decide (n = size) || whole) then s else s.journalExtent c size x y n 0) s) s
    match whole, c.finish with
    | true, some code =>
      let s := s.journal { ty := 3, clip := no, body := [c.data.length, c.frames, code, leNat (clkBytes c.lastStart)] }
      s.onClip no fun c => { c with isOpen := false, bytes := c.data.length, data := [], samples := [] }
    | _, _ => s
  | _, _ => s

/-- Open clips. -/
def State.openClips (s : State) : List Nat :=
  ((s.record.volume.map fun v => (v.clips.filter (·.isOpen)).map (·.no)).getD [])

/-- Places, writes and settles every open clip. -/
def State.writeClips (s : State) : State :=
  s.openClips.foldl (fun s no =>
    let n := ((s.clip? no).map fun c => c.data.length).getD 0
    ((s.allocate no n).issue no).settleClip no) s

/-! ## Drive faults (R311, R312) -/

/-- Places again an extent copy that a failed drive did not complete, and records what it had. -/
def State.reassign (d : Nat) (c : Clip) (x : Extent) (y : Copy) (s : State) : State :=
  match s.record.volume with
  | none => s
  | some v =>
    let size := 2 ^ v.shift
    let n := s.doneBytes c.no x.ordinal y
    let full := decide (n = size) || (c.finish.isSome && decide (min size (c.data.length - x.ordinal * size) ≤ n)) || !c.isOpen
    let s := if 0 < n ∨ 0 < y.recorded then s.journalExtent c size x y (max n y.recorded) 1
      else s.onClip c.no fun c => { c with extents := c.extents.map fun e => if e.ordinal == x.ordinal then
        { e with copies := e.copies.map fun z => if z.drive == d then { z with lost := true } else z } else e }
    if full then s
    else
      let held := (x.copies.filter fun z => !z.lost).map (·.drive)
      match nextMember s.record.drives (membersOf v.members) held d with
      | none => s
      | some m =>
        let no := (s.drive m).next
        let s := s.onRecord fun r => { r with drives := takeExtent r.drives m }
        s.onClip c.no fun c => { c with extents := c.extents.map fun e => if e.ordinal == x.ordinal then
          { e with copies := e.copies ++ [{ drive := m, extentNo := no }] } else e }

/-- Drive `d` fails: its commands are aborted, DRIVE_FAILED is journalled, REC_DRIVE_FAULT and the fault log's entry go out,
and its extents are placed again or recorded as lost. -/
def State.driveFail (d status lba : Nat) (s : State) : State :=
  let x := s.drive d
  if x.failed || x.info.isNone then s
  else
    let clips := (s.record.volume.map (·.clips)).getD []
    -- the bytes each copy has are judged before its commands go
    let before := s
    let s := x.out.foldl (fun s o => s.send (.nvmeAbort d o.1)) s
    let s := s.onDrive d fun x => { x with failed := true }
    let s := if x.member then
        s.journal { ty := 5, clip := 0, body := [d, status % 65536, lba, s.raster.frame.toNat] }
      else s
    let s := (s.notice 0x0982 [itemN 1 1 d, itemN 2 2 status, itemN 3 1 1]).faultLog 0x08 (0x0900 + d) d
    let s := if x.member then clips.foldl (fun s c => c.extents.foldl (fun s e =>
        e.copies.foldl (fun s y => if y.drive == d && !y.lost then
          s.reassign d c e { y with issued := before.doneBytes c.no e.ordinal y } else s) s) s) s
      else s
    (s.onDrive d fun x => { x with out := [], queue := [] }).writeClips

/-- A write of a clip has completed: its bytes are on the drive. -/
def State.wroteClip (d : Nat) (c : NvmeCmd) (s : State) : State :=
  match c.target with
  | none => s
  | some (no, k, off) =>
    let s := s.onVolume fun v => { v with written := v.written + c.data.length }
    let put (bs : List Byte) : List Byte :=
      let base := bs ++ List.replicate (off - bs.length) 0
      base.take off ++ c.data ++ base.drop (off + c.data.length)
    let mine (z : DriveClip) : Bool := z.clip == no && z.ordinal == k
    let add (l : List DriveClip) : List DriveClip := if l.any mine then l else l ++ [{ clip := no, ordinal := k, bytes := [] }]
    let fill (z : DriveClip) : DriveClip := if mine z then { z with bytes := put z.bytes } else z
    s.onDrive d fun x => { x with info := x.info.map fun (i : DriveInfo) => { i with clips := (add i.clips).map fill } }

/-- A command of drive `d` is resubmitted, or the drive fails (R311). -/
def State.retry (d cid status : Nat) (retriable : Bool) (s : State) : State :=
  match (s.drive d).out.find? fun o => o.1 == cid with
  | none => s
  | some (_, c) =>
    if retriable && decide (c.tries < s.record.retryLimit) then
      let c := { c with tries := c.tries + 1, status }
      let s := s.onDrive d fun x =>
        { x with out := x.out.map (fun o => if o.1 == cid then (cid, c) else o), cnt := bumpAt x.cnt 1 }
      s.send (.nvme d cid c.op c.lba c.data c.fua)
    else s.driveFail d status c.lba

/-- NVME_COMPLETION: status 0 is success; Invalid Field is status code 2 of the generic command set. -/
def nvmeCompletion (d cid status : Nat) (s : State) : State :=
  match (s.drive d).out.find? fun o => o.1 == cid with
  | none => s
  | some (_, c) =>
    let s := s.onDrive d fun x => { x with cnt := bumpAt x.cnt 0 }
    if status ≠ 0 then s.retry d cid status (status ≠ 2)
    else
      let s := s.onDrive d fun x => { x with out := x.out.filter fun o => o.1 != cid }
      let s := if 0 < c.tries then s.notice 0x0982 [itemN 1 1 d, itemN 2 2 c.status, itemN 3 1 0] else s
      (s.wroteClip d c).submit d 1

/-- NVME_COMMAND_TIMEOUT: the command is aborted, then resubmitted; the status it reports in a fault is the drive's own. -/
def nvmeCommandTimeout (d cid : Nat) (s : State) : State :=
  if !((s.drive d).out.any fun o => o.1 == cid) then s
  else
    let s := (s.onDrive d fun x => { x with cnt := bumpAt x.cnt 2 }).send (.nvmeAbort d cid)
    let (n, s) := s.draw
    s.retry d cid (Config.freeNat n % 65536) true

/-- PCIE_LINK_DOWN: the drive fails, and is absent until its link trains again. -/
def pcieLinkDown (d : Nat) (s : State) : State :=
  let (n, s) := s.draw
  let s := s.driveFail d (Config.freeNat n % 65536) 0
  s.onDrive d fun x => { x with info := none, out := [], queue := [] }

/-- PCIE_LINK_UP: a drive is set up and ready; a failed member stays failed until the next mount. -/
def pcieLinkUp (d : Nat) (info : DriveInfo) (s : State) : State :=
  if !s.rootPort d then s
  else s.onDrive d fun x => { x with info := some info, failed := x.failed && x.member, out := [], queue := [] }

/-- JOURNAL_INTERVAL (R310): the record of a partly written extent. -/
def journalInterval (no ordinal : Nat) (s : State) : State :=
  match s.record.volume, s.clip? no with
  | some v, some c =>
    if !c.isOpen then s
    else match c.extents.find? fun x => x.ordinal == ordinal with
      | none => s
      | some x => x.copies.foldl (fun s y =>
          let n := s.doneBytes no ordinal y
          if y.lost || decide (n ≤ y.recorded) then s else s.journalExtent c (2 ^ v.shift) x y n 0) s
  | _, _ => s

/-! ## Rings of a session (R313, R314) -/

def recUnit (n : Nat) : Nat := 0x0900 + n

/-- The rings that a session reads. -/
def State.recRings (n : Nat) (s : State) : List Handle :=
  let c := (s.recSession n).cfg
  (((if c.rawSession < 4 then [BitVec.ofNat 32 (s.cmp c.rawSession).cfg.outRing] else []) ++
    ((List.range 48).filter fun k => c.contexts.testBit k).map (fun k => BitVec.ofNat 32 (s.shf k).cfg.force.queue) ++
    [BitVec.ofNat 32 c.audioRing, BitVec.ofNat 32 c.preRoll]).filter fun h => h != 0).eraseDups

/-- Attaches each session to the rings that it reads, and detaches it from every other. -/
def State.recAttach (s : State) : State :=
  (List.range 16).foldl (fun s n =>
    let want := s.recRings n
    let held := (s.granary.buffers.filter fun b => (s.readerOf b.handle (recUnit n)).isSome).map (·.handle)
    let s := (held.filter fun h => !want.contains h).foldl (fun s h => s.ringLeave h (recUnit n)) s
    (want.filter fun h => !held.contains h).foldl (fun s h => (s.ringAttach h (recUnit n)).2) s) s

/-- Entries that a session has still to take from a ring. -/
def State.recUnread (h : Handle) (n : Nat) (s : State) : List Entry :=
  if h = 0 then []
  else (s.unread h (recUnit n)).filter fun e => !(s.record.taken.any fun t => t == (h, recUnit n, e.id))

/-- Takes an entry; it stays in the ring until `letGo`. -/
def State.recTake (h : Handle) (n id : Nat) (s : State) : State :=
  s.onRecord fun r => { r with taken := r.taken ++ [(h, recUnit n, id)] }

/-- Takes and releases an entry that is not recorded. -/
def State.recDrop (h : Handle) (n id : Nat) (s : State) : State := (s.recTake h n id).letGo h (recUnit n) id

/-- A whole BRFR chunk. -/
def isFrameChunk (bs : List Byte) : Bool := decide (608 ≤ bs.length) && bs.take 4 == kindFrame

/-- START of a chunk (R268). -/
def chunkStart (bs : List Byte) : Clk := clkOf ((bs.drop 60).take 12)

/-- Moves one chunk into PRE_ROLL; without room the oldest entries held go first (R314). -/
def State.preMove (h : Handle) (n : Nat) (bs : List Byte) : Nat → State → State
  | 0, s => s
  | k + 1, s =>
    match s.ringClaim h bs.length (recUnit n) with
    | (some idp, s) => (s.ringFill h idp.1 0 bs).ringPublish h idp.1 bs.length
    | (none, s) =>
      match s.recUnread h n with
      | [] => s
      | e :: _ => State.preMove h n bs k (s.recDrop h n e.id)

/-- First sample's Device Clock of an audio block record, and its end (R364). -/
def blockSpan (bs : List Byte) : Int × Int :=
  let first := Clk.units (clkOf ((bs.drop 16).take 12))
  let rate := rateHz (bs.getD 15 0).toNat
  (first, first + (leNat ((bs.drop 12).take 2) * 65536 * 1000000000 / rate : Nat))

def isAudioBlock (bs : List Byte) : Bool := decide (48 ≤ bs.length) && leNat (bs.take 2) == 0x0C01

/-- What a stopped session does with its rings: chunks move into PRE_ROLL when it is set and are released otherwise; audio
older than the chunks held goes (R313, R314). -/
def State.recIdle (n : Nat) (s : State) : State :=
  let c := (s.recSession n).cfg
  let pre : Handle := BitVec.ofNat 32 c.preRoll
  let aud : Handle := BitVec.ofNat 32 c.audioRing
  let outRing : Handle := if c.rawSession < 4 then BitVec.ofNat 32 (s.cmp c.rawSession).cfg.outRing else 0
  let s := (s.recUnread outRing n).foldl (fun s e =>
    let bs := s.entryBytes outRing e
    let s := if pre = 0 ∨ !isFrameChunk bs then s else s.preMove pre n bs ((s.recUnread pre n).length + 1)
    s.recDrop outRing n e.id) s
  let s := ((List.range 48).filter fun k => c.contexts.testBit k).foldl (fun s k =>
    let q : Handle := BitVec.ofNat 32 (s.shf k).cfg.force.queue
    (s.recUnread q n).foldl (fun s e => s.recDrop q n e.id) s) s
  let keep : Option Int := (s.recUnread pre n).head?.map fun e => Clk.units (chunkStart (s.entryBytes pre e))
  (s.recUnread aud n).foldl (fun s e =>
    let old := match keep with
      | none => true
      | some t => decide ((blockSpan (s.entryBytes aud e)).2 ≤ t)
    if old then s.recDrop aud n e.id else s) s

/-! ## Clips -/

/-- Adds bytes to a clip's stream. -/
def State.clipAdd (no : Nat) (bs : List Byte) (s : State) : State := s.onClip no fun c => { c with data := c.data ++ bs }

/-- Adds a chunk with its CHUNK_NO and OFFSET (R264). -/
def State.addChunk (no : Nat) (kind : List Byte) (frame : Nat) (payload : List Byte) (s : State) : State :=
  s.onClip no fun c => { c with data := c.data ++ chunkBytes kind c.chunks frame c.data.length payload, chunks := c.chunks + 1 }

/-- Opens a clip and journals CLIP_OPEN (R309). -/
def State.openClip (no kind source n : Nat) (fr : Frame) (start : Clk) (s : State) : State :=
  let id := toLe 8 Config.serial.toNat ++ toLe 4 no ++ toLe 4 fr.toNat
  let c : Clip := { no, kind, source, session := n, clipId := id, start, firstFrame := fr }
  let s := s.onVolume fun v => { v with clips := v.clips ++ [c] }
  s.journal { ty := 1, clip := no, body := [kind, source, n, leNat id, leNat (clkBytes start), fr.toNat] }

/-- A GAP record and REC_GAP (R312). -/
def State.gapRecord (n no : Nat) (fr : Frame) (count cause : Nat) (s : State) : State :=
  if count = 0 then s
  else
    let s := s.journal { ty := 4, clip := no, body := [fr.toNat, count, cause] }
    (s.onRec n fun x => { x with cnt := bumpAt x.cnt 1 }).notice 0x0983
      [itemN 1 1 n, itemN 2 4 no, itemN 3 4 fr.toNat, itemN 4 4 count, itemN 5 1 cause]

/-- Ends a run of frames with missing audio. -/
def State.audioGapEnd (n no : Nat) (s : State) : State :=
  match (s.recSession n).audioGap with
  | none => s
  | some (fr, k) => (s.onRec n fun x => { x with audioGap := none }).gapRecord n no fr k 3

/-- REC_STARTED once every clip of the session is open, or at its stop with those that are. -/
def State.announce (n : Nat) (force : Bool) (s : State) : State :=
  let x := s.recSession n
  let all := (x.rawClip.toList ++ x.ctxClips.map (·.2))
  let opened := all.filterMap fun no => s.clip? no
  if x.announced || (!force && opened.length != all.length) then s
  else (s.onRec n fun x => { x with announced := true }).notice 0x0980
    ([itemN 1 1 n, itemN 2 4 x.first.toNat] ++ opened.map fun c => itemB 3 (toLe 4 c.no ++ toLe 1 c.kind ++ toLe 4 c.firstFrame.toNat))

/-! ## The raw clip (R265 to R271, R314, R315) -/

/-- Length of a raster frame in 2^-16 ns. -/
def State.framePeriod (s : State) : Int :=
  let c := s.raster.cfg.force
  (c.rateDen * 1000000000 * 65536 / c.rateNum : Nat)

/-- Samples of a block that lie in [a, b): their bytes by sample, and the first one's instant. -/
def samplesIn (bs : List Byte) (a b : Int) : List (Int × List Byte) :=
  let ch := (bs.getD 14 0).toNat
  let rate := rateHz (bs.getD 15 0).toNat
  let first := (blockSpan bs).1
  (List.range (leNat ((bs.drop 12).take 2))).filterMap fun k =>
    let t := first + (k * 65536 * 1000000000 / rate : Nat)
    if a ≤ t ∧ t < b then some (t, (bs.drop (48 + 4 * ch * k)).take (4 * ch)) else none

/-- Whether the audio up to `b` is in the ring, or none further can come. -/
def State.audioReady (n : Nat) (b : Int) (s : State) : Bool :=
  let h : Handle := BitVec.ofNat 32 (s.recSession n).cfg.audioRing
  let comes := s.audio.captures.any fun c => (c.running || c.ending) && c.ring == h
  !comes || (s.recUnread h n).any fun e =>
    let bs := s.entryBytes h e
    isAudioBlock bs && decide (b ≤ (blockSpan bs).2)

/-- Writes the BRAU of the last BRFR, with the samples stamped from its START up to `b` (R270, R315). -/
def State.writeBrau (n no : Nat) (b : Int) (s : State) : State :=
  let x := s.recSession n
  match x.brau with
  | none => s
  | some (fr, start) =>
    let s := s.onRec n fun x => { x with brau := none }
    let h : Handle := BitVec.ofNat 32 x.cfg.audioRing
    if h = 0 then s
    else
      let a := Clk.units start
      let blocks := ((s.recUnread h n).map fun e => (e, s.entryBytes h e)).filter fun eb => isAudioBlock eb.2
      let near := blocks.filter fun eb => decide ((blockSpan eb.2).1 < b) && decide (a < (blockSpan eb.2).2)
      let form : Nat × Nat := match near with
        | eb :: _ => ((eb.2.getD 14 0).toNat, rateHz (eb.2.getD 15 0).toNat)
        | [] => x.audio
      let got := (near.filter fun eb => (eb.2.getD 14 0).toNat == form.1).flatMap fun eb => samplesIn eb.2 a b
      let first : Clk := match got with
        | g :: _ => Clk.ofUnits g.1
        | [] => start
      let payload := toLe 1 form.1 ++ toLe 3 0 ++ toLe 4 form.2 ++ toLe 4 got.length ++ clkBytes first ++ List.replicate 40 0 ++
        got.flatMap (·.2)
      let s := (s.onRec n fun x => { x with audio := form }).addChunk no (kindBytes 0x42 0x52 0x41 0x55) 0 payload
      let upTo := ((s.clip? no).map fun c => c.data.length).getD 0
      let s := (blocks.filter fun eb => decide ((blockSpan eb.2).2 ≤ b)).foldl (fun s eb =>
        (s.recTake h n eb.1.id).onClip no fun c => { c with holds := c.holds ++ [{ upTo, ring := h, unit := recUnit n, entry := eb.1.id }] }) s
      let want := ((b - a).toNat * form.2) / (65536 * 1000000000)
      if form.2 = 0 ∨ got.length + 1 < want then
        s.onRec n fun x => { x with audioGap := some (match x.audioGap with
          | some (f, k) => (f, k + 1)
          | none => (fr, 1)) }
      else s.audioGapEnd n no

/-- The BRMD items for a frame of a tap (R267, R315): those the tap's frame recorded, those host items that wait, and LENS. -/
def State.frameMeta (src tap : Nat) (fr : Frame) (s : State) : List Item :=
  match (s.unit src).tapped.find? fun t => t.frame == fr && t.tap == tap with
  | some t => t.intakeMeta ++ t.millMeta
  | none => []

/-- Types of which some item changed, and every item of those types. -/
def changedItems (old new : List Item) : List Item :=
  let same (ty : Nat) : Bool := old.filter (fun i => i.ty == ty) == new.filter fun i => i.ty == ty
  new.filter fun i => !same i.ty

/-- Writes a BRMD when there is something to say before a BRFR (R315, R427). -/
def State.writeMeta (n no src tap : Nat) (fr : Frame) (first : Bool) (s : State) : State :=
  let x := s.recSession n
  let now := s.frameMeta src tap fr
  let lens := (s.bus.lens.last.map fun p => p.bytes).getD []
  let reply := (s.bus.lens.last.map fun p => p.reply).getD []
  let items := (if first then now else changedItems x.metaSent now) ++
    (if lens.isEmpty || (!first && reply == x.lensSent) then [] else [itemB 0x0010 lens]) ++ x.host
  if items.isEmpty then s
  else
    let s := s.onRec n fun x => { x with metaSent := if now.isEmpty then x.metaSent else now, lensSent := reply, host := [] }
    s.addChunk no (kindBytes 0x42 0x52 0x4D 0x44) 0 (payloadBytes items)

/-- The BRCH payload (R266). -/
def State.chunkHeader (n : Nat) (bs : List Byte) (no : Nat) (s : State) : List Byte :=
  let h := chunkHead bs
  let x := s.recSession n
  let c := s.raster.cfg.force
  toLe 1 4 ++ toLe 1 0 ++ toLe 2 0 ++ toLe 8 Config.serial.toNat ++ toLe 4 no ++ toLe 4 h.frame.toNat ++
    toLe 8 Config.serial.toNat ++ toLe 4 s.control.fwVersion.toNat ++ (bs.drop 44).take 4 ++ toLe 2 h.width ++ toLe 2 h.lines ++
    toLe 1 h.exposures ++ toLe 1 h.bits ++ toLe 1 h.cfa ++ toLe 1 32 ++ toLe 2 (s.cmp x.cfg.rawSession).cfg.keyInterval ++
    toLe 2 c.rateNum ++ toLe 2 c.rateDen ++ toLe 4 h.frame.toNat ++ (bs.drop 60).take 12 ++ (bs.drop 72).take 4 ++
    toLe 1 x.audio.1 ++ toLe 1 0 ++ toLe 4 x.audio.2 ++ toLe 4 0

/-- Adds one BRFR to the raw clip, opening it first when this is its first. -/
def State.addFrame (n no : Nat) (h : Handle) (e : Entry) (bs : List Byte) (s : State) : State :=
  let k := chunkHead bs
  let x := s.recSession n
  let src := (bs.getD 45 0).toNat
  let first := (s.clip? no).isNone
  let s := if first then
      let s := s.openClip no 0 x.cfg.rawSession n k.frame (chunkStart bs)
      let aud : Handle := BitVec.ofNat 32 x.cfg.audioRing
      let form := ((s.recUnread aud n).map fun e => s.entryBytes aud e).find? isAudioBlock
      let s := s.onRec n fun y => { y with audio := (form.map fun b => ((b.getD 14 0).toNat, rateHz (b.getD 15 0).toNat)).getD (0, 0) }
      s.addChunk no (kindBytes 0x42 0x52 0x43 0x48) 0 (s.chunkHeader n bs no)
    else
      let last := ((s.clip? no).map (·.last)).getD 0
      s.gapRecord n no (last + 1) (k.frame - last - 1).toNat 1
  let s := s.writeMeta n no src k.tap k.frame first
  let start := ((s.clip? no).map fun c => c.data.length).getD 0
  let s := s.addChunk no kindFrame k.frame.toNat (bs.drop 32)
  let s := s.onClip no fun c =>
    { c with marks := c.marks ++ [{ start, len := c.data.length - start, frame := k.frame, flags := k.flags }], last := k.frame
             lastStart := chunkStart bs, frames := c.frames + 1
             holds := c.holds ++ [{ upTo := c.data.length, ring := h, unit := recUnit n, entry := e.id }] }
  let s := (s.recTake h n e.id).onRec n fun y =>
    { y with brau := some (k.frame, chunkStart bs), lastFrame := k.frame, cnt := bumpAt y.cnt 0 }
  if first then s.announce n false else s

/-- Every running session stops at the frame that the next write could not hold (R316). -/
def State.volumeFull (fr : Frame) (s : State) : State :=
  let s := s.onVolume fun v => { v with full := true }
  (List.range 16).foldl (fun s n => s.onRec n fun x =>
    if x.running && x.stop.isNone then { x with stop := some (fr, 1) } else x) s

/-- Reads the raw chunks that a running session can record now; the fuel is the number of entries. -/
def State.harvestRaw (n no : Nat) : Nat → State → State
  | 0, s => s
  | fuel + 1, s =>
    let x := s.recSession n
    let pre : Handle := BitVec.ofNat 32 x.cfg.preRoll
    let outRing : Handle := BitVec.ofNat 32 (s.cmp x.cfg.rawSession).cfg.outRing
    let next : Option (Handle × Entry) := match s.recUnread pre n with
      | e :: _ => some (pre, e)
      | [] => (s.recUnread outRing n).head?.map fun e => (outRing, e)
    match next with
    | none => s
    | some (h, e) =>
      let bs := s.entryBytes h e
      let k := chunkHead bs
      let past := x.stop.any fun st => Frame.atOrAfter k.frame st.1
      if past then s
      else
        let opened := (s.clip? no).isSome
        let wanted := isFrameChunk bs && (opened ||
          (match x.preFirst with
           | some f => k.frame == f
           | none => k.flags.testBit 0 && Frame.atOrAfter k.frame x.first))
        if !wanted then State.harvestRaw n no fuel (s.recDrop h n e.id)
        else
          let end_ : Int := match x.brau with
            | some (fr, st) => if k.frame == fr + 1 then Clk.units (chunkStart bs) else Clk.units st + s.framePeriod
            | none => 0
          if x.brau.isSome && !s.audioReady n end_ then s
          else if !s.fits no (bs.length + 65536 + (if opened then 0 else 300000)) then s.volumeFull k.frame
          else State.harvestRaw n no fuel ((s.writeBrau n no end_).addFrame n no h e bs)

/-- Closes the raw clip with BRIX and BRTL (R271, R315). -/
def State.closeRaw (n no : Nat) (stop : Frame) (close : Nat) (s : State) : State :=
  match (s.recSession n).brau with
  | some (_, st) => go (s.writeBrau n no (Clk.units st + s.framePeriod))
  | none => go s
where
  /-- the index and the tail -/
  go (s : State) : State :=
    let s := s.audioGapEnd n no
    match s.clip? no with
    | none => s
    | some c =>
      let missing := if c.last + 1 == stop then 0 else (stop - c.last - 1).toNat
      let s := s.gapRecord n no (c.last + 1) missing 1
      let code := if close = 0 ∧ missing ≠ 0 then 3 else close
      let index := c.data.length
      let entries := c.marks.flatMap fun m =>
        toLe 4 m.frame.toNat ++ toLe 2 m.flags ++ toLe 2 0 ++ toLe 8 m.start ++ toLe 4 m.len ++ toLe 4 0
      let s := s.addChunk no (kindBytes 0x42 0x52 0x49 0x58) 0 (toLe 4 c.marks.length ++ List.replicate 12 0 ++ entries)
      let s := s.addChunk no (kindBytes 0x42 0x52 0x54 0x4C) 0
        (toLe 4 c.frames ++ toLe 1 code ++ toLe 3 0 ++ toLe 8 index ++ clkBytes c.lastStart ++ toLe 4 0)
      s.onClip no fun c => { c with finish := some code }

/-! ## Rendition files (R317) -/

/-- Big-endian bytes. -/
def toBe (n v : Nat) : List Byte := (toLe n v).reverse

/-- The NAL units of an Annex B stream with 4-byte start codes; `acc` holds the unit in progress, reversed. -/
def nalUnits : List Byte → List Byte → List (List Byte)
  | acc, 0 :: 0 :: 0 :: 1 :: rest => (if acc.isEmpty then [] else [acc.reverse]) ++ nalUnits [] rest
  | acc, b :: rest => nalUnits (b :: acc) rest
  | acc, [] => if acc.isEmpty then [] else [acc.reverse]

/-- nal_unit_type of a NAL unit. -/
def nalType (u : List Byte) : Nat := (u.headD 0).toNat / 2 % 64

/-- An access unit as a sample: no delimiters, no filler data, 4-byte lengths. -/
def sampleBytes (au : List Byte) : List Byte :=
  ((nalUnits [] au).filter fun u => nalType u != 35 && nalType u != 38).flatMap fun u => toBe 4 u.length ++ u

/-- A box of the ISO base media format. -/
def box (ty : List Byte) (body : List Byte) : List Byte :=
  if body.length + 8 < 2 ^ 32 then toBe 4 (body.length + 8) ++ ty ++ body
  else toBe 4 1 ++ ty ++ toBe 8 (body.length + 16) ++ body

/-- ASCII "BrekaAUMetadata1". -/
def auMetaType : List Byte :=
  [0x42, 0x72, 0x65, 0x6B, 0x61, 0x41, 0x55, 0x4D, 0x65, 0x74, 0x61, 0x64, 0x61, 0x74, 0x61, 0x31].map (BitVec.ofNat 8)

/-- Durations of a fragment's samples: RATE_DEN, lengthened for each frame lost before the next sample. -/
def durations (den : Nat) : List Sample → Option Sample → List Nat
  | [], _ => []
  | x :: rest, after =>
    let next := rest.head?.orElse fun _ => after
    let lost := match next with
      | some y => if (leNat ((y.record.drop 20).take 2)).testBit 10 then (y.frame - x.frame - 1).toNat else 0
      | none => 0
    den * (1 + lost) :: durations den rest after

/-- Writes the open fragment: moof, the metadata box, mdat. -/
def State.closeFragment (no : Nat) (after : Option Sample) (s : State) : State :=
  match s.clip? no with
  | none => s
  | some c =>
    match c.samples with
    | [] => s
    | x :: _ =>
      let den := s.raster.cfg.force.rateDen
      let tfdt := (x.frame - c.firstFrame).toNat * den
      let ds := durations den c.samples after
      let info := (c.samples.zip ds).map fun sd => (sd.1.bytes.length, sd.2, sd.1.sync)
      let meta_ := box (kindBytes 0x75 0x75 0x69 0x64) (auMetaType ++ c.samples.flatMap (·.record))
      let mdat := box (kindBytes 0x6D 0x64 0x61 0x74) (c.samples.flatMap (·.bytes))
      let moof := Config.isoMoof (c.fragments + 1) tfdt info meta_.length
      s.onClip no fun c =>
        let start := c.data.length
        let data := c.data ++ moof ++ meta_ ++ mdat
        { c with data, samples := [], fragments := c.fragments + 1
                 marks := c.marks ++ c.samples.map fun y => { start, len := data.length - start, frame := y.frame, flags := 0 }
                 holds := c.holds.map fun h => if h.upTo = 0 then { h with upTo := data.length } else h }

/-- Adds an access unit to a rendition file, opening it first. An entry is held until its fragment's place is known. -/
def State.addSample (n no ctx : Nat) (h : Handle) (e : Entry) (bs : List Byte) (s : State) : State :=
  let fr : Frame := BitVec.ofNat 32 (leNat ((bs.drop 8).take 4))
  let nal := (bs.getD 14 0).toNat
  let irap := decide (16 ≤ nal) && decide (nal ≤ 23)
  let au := (bs.drop 80).take (leNat ((bs.drop 24).take 4))
  let x : Sample := { record := bs.take 80, bytes := sampleBytes au, frame := fr, sync := irap }
  let first := (s.clip? no).isNone
  let s := if first then
      let s := s.openClip no 1 ctx n fr (clkOf ((bs.drop 28).take 12))
      s.clipAdd no (Config.isoHead s.raster.cfg.force.rateNum s.raster.cfg.force.rateDen au)
    else
      let last := ((s.clip? no).map (·.last)).getD 0
      if (leNat ((bs.drop 20).take 2)).testBit 10 then s.gapRecord n no (last + 1) (fr - last - 1).toNat 2 else s
  let cut := (s.clip? no).any fun c => !c.samples.isEmpty && (irap || decide (65535 ≤ c.samples.length))
  let s := if cut then s.closeFragment no (some x) else s
  let s := s.onClip no fun c =>
    { c with samples := c.samples ++ [x], last := fr, lastStart := clkOf ((bs.drop 28).take 12), frames := c.frames + 1
             holds := c.holds ++ [{ upTo := 0, ring := h, unit := recUnit n, entry := e.id }] }
  let s := s.recTake h n e.id
  if first then s.announce n false else s

/-- Reads the access units that a running session can record now. -/
def State.harvestCtx (n ctx no : Nat) : Nat → State → State
  | 0, s => s
  | fuel + 1, s =>
    let x := s.recSession n
    let h : Handle := BitVec.ofNat 32 (s.shf ctx).cfg.force.queue
    match s.recUnread h n with
    | [] => s
    | e :: _ =>
      let bs := s.entryBytes h e
      let fr : Frame := BitVec.ofNat 32 (leNat ((bs.drop 8).take 4))
      let nal := (bs.getD 14 0).toNat
      if leNat (bs.take 2) ≠ 0x0501 then State.harvestCtx n ctx no fuel (s.recDrop h n e.id)
      else if x.stop.any fun st => Frame.atOrAfter fr st.1 then s
      else if (s.clip? no).isNone && !(decide (16 ≤ nal) && decide (nal ≤ 23) && Frame.atOrAfter fr x.first) then
        State.harvestCtx n ctx no fuel (s.recDrop h n e.id)
      else if !s.fits no (bs.length + 65536) then s.volumeFull fr
      else State.harvestCtx n ctx no fuel (s.addSample n no ctx h e bs)

/-! ## Starts and stops (R315) -/

/-- The frame of the PRE_ROLL chunk that a start at `f` begins with (R314). -/
def State.preChoice (n : Nat) (f : Frame) (s : State) : Option Frame :=
  let c := (s.recSession n).cfg
  let pre : Handle := BitVec.ofNat 32 c.preRoll
  let keys := ((s.recUnread pre n).map fun e => chunkHead (s.entryBytes pre e)).filter fun k => k.flags.testBit 0
  let want := f - BitVec.ofNat 32 c.preFrames
  match (keys.filter fun k => Frame.atOrAfter want k.frame).getLast? with
  | some k => some k.frame
  | none => keys.head?.map (·.frame)

/-- Clip numbers that a session's clips take, the raw clip's first, then the contexts' in ascending order. DESIGN CHOICE,
unsafe (log entry 43): when clip numbers are taken, and instantaneous volume commands. -/
def State.reserveClips (n : Nat) (s : State) : List Nat × State :=
  let c := (s.recSession n).cfg
  let ctxs := (List.range 48).filter fun k => c.contexts.testBit k
  let raw := if c.rawSession < 4 then 1 else 0
  let base := (s.record.volume.map (·.nextClip)).getD 0
  let s := s.onVolume fun v => { v with nextClip := base + raw + ctxs.length }
  let s := s.onRec n fun x =>
    { x with rawClip := if raw = 1 then some base else none, ctxClips := (indexed ctxs).map fun ic => (ic.2, base + raw + ic.1) }
  ((List.range (raw + ctxs.length)).map (· + base), s)

/-- A start acts at frame `f`: a session without a volume, with a full one, or that runs already stays as it is. -/
def State.recStart (n : Nat) (f : Frame) (reserved : Bool) (s : State) : State :=
  let x := s.recSession n
  if x.running || s.record.volume.isNone || s.record.volume.any (·.full) then
    s.onRec n fun x => { x with startAt := none }
  else
    let s := if reserved then s else (s.reserveClips n).2
    let pre := s.preChoice n f
    let s := s.onRec n fun x =>
      { x with running := true, startAt := none, first := f, stop := none, close := 0, preFirst := pre, announced := false
               metaSent := [], lensSent := [], brau := none, audioGap := none, audio := (0, 0) }
    if x.cfg.rawSession < 4 ∧ x.cfg.preRoll = 0 then
      s.onCmp x.cfg.rawSession fun y => { y with keyReq := y.keyReq ++ [f] }
    else s

/-- A stop acts at frame `f`. -/
def State.recStop (n : Nat) (f : Frame) (reason close : Nat) (s : State) : State :=
  s.onRec n fun x =>
    if x.running && x.stop.isNone then { x with stop := some (f, reason), close, stopAt := none } else { x with stopAt := none }

/-- Whether no frame before the stop can still come to the raw clip. -/
def State.rawDone (n : Nat) (f : Frame) (s : State) : Bool :=
  let x := s.recSession n
  let k := x.cfg.rawSession
  let outRing : Handle := BitVec.ofNat 32 (s.cmp k).cfg.outRing
  let seen := (s.recUnread outRing n).any fun e => Frame.atOrAfter (chunkHead (s.entryBytes outRing e)).frame f
  seen || x.lastFrame + 1 == f || !(s.cmp k).running ||
    (!Frame.passed s.raster.frame f && !s.cmpComing k f && (s.cmp k).frames.all fun y => !Frame.passed y.info.frame f)

/-- Whether no access unit before the stop can still come to a rendition file. -/
def State.ctxDone (n ctx : Nat) (f : Frame) (s : State) : Bool :=
  let h : Handle := BitVec.ofNat 32 (s.shf ctx).cfg.force.queue
  let seen := (s.recUnread h n).any fun e => Frame.atOrAfter (BitVec.ofNat 32 (leNat (((s.entryBytes h e).drop 8).take 4))) f
  seen || (s.shf ctx).lastFrame + 1 == f || !(s.shf ctx).running

/-- Ends a session's clips that have all their frames, and the session with the last of them. -/
def State.recFinish (n : Nat) (s : State) : State :=
  let x := s.recSession n
  match x.stop with
  | none => s
  | some (f, reason) =>
    let ending (no : Nat) (s : State) : Bool := (s.clip? no).any fun c => c.finish.isNone
    let s := match x.rawClip with
      | some no =>
        if ending no s && s.rawDone n f && (x.brau.all fun b => s.audioReady n (Clk.units b.2 + s.framePeriod)) then
          s.closeRaw n no f x.close
        else s
      | none => s
    let s := x.ctxClips.foldl (fun s cn =>
      if ending cn.2 s && s.ctxDone n cn.1 f then
        (s.closeFragment cn.2 none).onClip cn.2 fun c => { c with finish := some x.close }
      else s) s
    let s := s.writeClips
    let all := x.rawClip.toList ++ x.ctxClips.map (·.2)
    let unopened (s : State) : Bool := (x.rawClip.any fun no => (s.clip? no).isNone && !s.rawDone n f) ||
      x.ctxClips.any fun cn => (s.clip? cn.2).isNone && !s.ctxDone n cn.1 f
    if unopened s || all.any fun no => (s.clip? no).any (·.isOpen) then s
    else
      let s := s.announce n true
      (s.onRec n fun y => { y with running := false, stop := none, rawClip := none, ctxClips := [], preFirst := none }).notice 0x0981
        [itemN 1 1 n, itemN 2 4 f.toNat, itemN 3 1 reason]

/-- What the service does whenever something may have come: moves work from the rings to the drives. -/
def State.recWork (s : State) : State :=
  let s := s.recAttach
  let s := (List.range 16).foldl (fun s n =>
    let x := s.recSession n
    if !x.running then s.recIdle n
    else
      let many (h : Handle) : Nat := (s.recUnread h n).length
      let s := match x.rawClip with
        | some no => s.harvestRaw n no
            (many (BitVec.ofNat 32 x.cfg.preRoll) + many (BitVec.ofNat 32 (s.cmp x.cfg.rawSession).cfg.outRing))
        | none => s
      x.ctxClips.foldl (fun s cn => s.harvestCtx n cn.1 cn.2
        ((s.recUnread (BitVec.ofNat 32 (s.shf cn.1).cfg.force.queue) n).length)) s) s
  (List.range 16).foldl (fun s n => s.recFinish n) s.writeClips

/-- Starts and stops that a frame start makes due: a stop at the same frame as a start leaves the session stopped (R315). -/
def State.recFrameStart (s : State) : State :=
  (List.range 16).foldl (fun s n =>
    let x := s.recSession n
    let now := s.raster.frame
    let starts := x.startAt.any fun f => !Frame.passed now f
    let stops := x.stopAt.any fun f => !Frame.passed now f
    match starts, stops with
    | true, false => s.recStart n (x.startAt.getD now) true
    | true, true => (s.onRec n fun x => { x with startAt := none }).recStop n (x.stopAt.getD now) 0 0
    | false, true => s.recStop n (x.stopAt.getD now) 0 0
    | false, false => s) s

/-- Stops every session at frame `f` (R199, R458). -/
def State.recStopAll (f : Frame) (reason close : Nat) (s : State) : State :=
  (List.range 16).foldl (fun s n => (s.onRec n fun x => { x with startAt := none }).recStop n f reason close) s

/-! ## Format, mount, read (R307, R310, R318) -/

/-- The superblock of a drive (R307). -/
def superBytes (v : Volume) (d extents : Nat) (sns : List (List Byte)) : List Byte :=
  let sn (k : Nat) : List Byte := let b := (sns.getD k []).take 20; b ++ List.replicate (20 - b.length) 0
  let body := kindBytes 0x42 0x43 0x56 0x53 ++ toLe 2 1 ++ toLe 2 0 ++ v.id ++ toLe 1 d ++ toLe 1 v.members ++ toLe 1 v.layout ++
    toLe 1 v.shift ++ toLe 4 v.journalBlocks ++ toLe 8 v.dataLba ++ toLe 8 extents ++ (List.range 4).flatMap sn
  let whole := body ++ List.replicate (4092 - body.length) 0
  whole ++ toLe 4 (crc32c whole).toNat

/-- Formats a volume: superblock, its copy, an empty journal; every extent deallocated. DESIGN CHOICE, unsafe (log entry
43): when clip numbers are taken, and instantaneous volume commands. -/
def State.volumeFormat (mask layout shift blocks : Nat) (s : State) : List Byte × List Nat × State :=
  let c := s.raster.clock
  let id := toLe 8 Config.serial.toNat ++ toLe 4 (c.sec.toNat % 2 ^ 32) ++ toLe 4 c.ns.toNat
  let v : Volume := { id, members := mask, layout, shift, journalBlocks := blocks, dataLba := dataLba blocks shift }
  let ms := membersOf mask
  let sns := (List.range 4).map fun d => if mask.testBit d then ((s.drive d).info.map (·.serial)).getD [] else []
  let size (d : Nat) : Nat := extentsOf (((s.drive d).info.map (·.bytes)).getD 0) v.dataLba shift
  let s := s.onRecord fun r =>
    { r with volume := none, drives := r.drives.map fun x => { x with member := false, next := 0, extents := 0 } }
  let s := ms.foldl (fun s d =>
    let sb : Superblock := { good := true, verMajor := 1, volumeId := id, driveIndex := d, members := mask, layout
                             extentShift := shift, journalBlocks := blocks, extents := size d, memberSn := sns }
    let s := s.onDrive d fun x =>
      { x with info := x.info.map fun (i : DriveInfo) => { i with super := some sb, journal := [], clips := [] } }
    let bs := superBytes v d (size d) sns
    let s := s.ask d { op := 9, lba := v.dataLba, data := [], fua := false }
    (s.ask d { op := 1, lba := 0, data := bs, fua := true }).ask d { op := 1, lba := 8, data := bs, fua := true }) s
  (id, ms.map size, s)

/-- Why a set of drives is refused at a mount: none offered holds a volume, or R307's mismatches. -/
def State.mountRefusal (mask : Nat) (s : State) : Option Nat :=
  let ds := (membersOf mask).filterMap fun d => (s.drive d).info.map fun i => (d, i)
  let sbs := ds.filterMap fun di => di.2.super
  if sbs.isEmpty then some 0x1900
  else
    match sbs with
    | [] => some 0x1900
    | b :: _ =>
      let ok := ds.all fun di => match di.2.super with
        | none => false
        | some x => x.good && x.verMajor == 1 && x.volumeId == b.volumeId && x.members == b.members && x.layout == b.layout &&
            x.memberSn == b.memberSn && x.memberSn.getD di.1 [] == di.2.serial
      if ok then none else some 0x1902

/-- The clips that a journal describes. -/
def clipsOf (js : List JournalRec) : List Clip :=
  (js.filter fun r => r.ty == 1).map fun r =>
    let v (k : Nat) : Nat := r.body.getD k 0
    let mine := js.filter fun q => q.clip == r.clip
    let close := (mine.filter fun q => q.ty == 3).getLast?
    let copies := (mine.filter fun q => q.ty == 2).foldl (fun (acc : List (Nat × Copy)) q =>
      let g (k : Nat) : Nat := q.body.getD k 0
      let c : Copy := { drive := g 1, extentNo := g 3, issued := g 4, recorded := g 4, lost := g 2 == 1 }
      (acc.filter fun kc => !(kc.1 == g 0 && kc.2.drive == g 1)) ++ [(g 0, c)]) []
    let ords := (copies.map (·.1)).foldl max 0 + (if copies.isEmpty then 0 else 1)
    { no := r.clip, kind := v 0, source := v 1, session := v 2, clipId := toLe 16 (v 3), start := clkOf (toLe 12 (v 4))
      firstFrame := BitVec.ofNat 32 (v 5), isOpen := close.isNone
      frames := (close.map fun q => q.body.getD 1 0).getD 0, finish := close.map fun q => q.body.getD 2 0
      lastStart := (close.map fun q => clkOf (toLe 12 (q.body.getD 3 0))).getD { sec := 0, ns := 0, frac := 0 }
      bytes := (close.map fun q => q.body.getD 0 0).getD 0
      extents := (List.range ords).map fun k => { ordinal := k, copies := (copies.filter fun kc => kc.1 == k).map (·.2) } }

/-- The bytes of an extent ordinal on a drive. -/
def State.onDisk (d no k : Nat) (s : State) : List Byte :=
  (((s.drive d).info.bind fun i => i.clips.find? fun z => z.clip == no && z.ordinal == k).map (·.bytes)).getD []

/-- The bytes of a clip as the members hold them: per ordinal the longest found, until an ordinal is not full. -/
def State.clipBytes (v : Volume) (no : Nat) (s : State) : Nat → Nat → List Byte
  | 0, _ => []
  | n + 1, k =>
    let bs := ((membersOf v.members).map fun d => s.onDisk d no k).foldl (fun m b => if m.length < b.length then b else m) []
    if bs.length < 2 ^ v.shift then bs else bs.take (2 ^ v.shift) ++ State.clipBytes v no s n (k + 1)

/-- Walks a raw clip's chunks (R272): where the last good chunk ends, its BRFR count and the last BRFR's START. -/
def walkClip : Nat → List Byte → Nat → Nat → Clk → Nat × Nat × Clk
  | 0, _, at_, n, t => (at_, n, t)
  | fuel + 1, bs, at_, n, t =>
    let len := leNat ((bs.drop 4).take 4)
    if headerOk bs && decide (len ≤ bs.length) then
      let fr := bs.take 4 == kindFrame
      walkClip fuel (bs.drop len) (at_ + len) (if fr then n + 1 else n) (if fr then chunkStart bs else t)
    else (at_, n, t)

/-- Walks a rendition file's boxes: where the last mdat ends, the samples its metadata boxes list and the last one's
CAPTURE. -/
def walkBoxes : Nat → List Byte → Nat → Nat × Nat × Clk → Nat × Clk → Nat × Nat × Clk
  | 0, _, _, best, _ => best
  | fuel + 1, bs, at_, best, cur =>
    let n32 := leNat (bs.take 4).reverse
    let len := if n32 = 1 then leNat ((bs.drop 8).take 8).reverse else n32
    if bs.length < 8 ∨ len < 8 ∨ bs.length < len then best
    else
      let ty := (bs.drop 4).take 4
      let cur := if ty == kindBytes 0x75 0x75 0x69 0x64 && (bs.drop 8).take 16 == auMetaType then
          (cur.1 + (len - 24) / 80, if 80 ≤ len - 24 then clkOf ((bs.drop (len - 80 + 28)).take 12) else cur.2)
        else cur
      let best := if ty == kindBytes 0x6D 0x64 0x61 0x74 then (at_ + len, cur.1, cur.2) else best
      walkBoxes fuel (bs.drop len) (at_ + len) best cur

/-- Closes a clip that was left open: walks it, then journals its EXTENTs and CLIP_CLOSE with code 4 (R310). -/
def State.recover (c : Clip) (s : State) : State :=
  match s.record.volume with
  | none => s
  | some v =>
    let size := 2 ^ v.shift
    let bs := s.clipBytes v c.no 65536 0
    let zero : Clk := { sec := 0, ns := 0, frac := 0 }
    let (len, n, t) := if c.kind = 0 then walkClip bs.length bs 0 0 zero else walkBoxes bs.length bs 0 (0, 0, zero) (0, zero)
    let s := (List.range (ceilDiv len size)).foldl (fun s k =>
      let bytes := min size (len - k * size)
      (membersOf v.members).foldl (fun s d =>
        let have_ := s.onDisk d c.no k
        let old := (c.extents.find? fun x => x.ordinal == k).bind fun x => x.copies.find? fun y => y.drive == d
        if have_.isEmpty || old.any (fun y => y.lost || y.recorded == bytes) then s
        else
          let no := (old.map (·.extentNo)).getD (s.drive d).next
          let s := if old.isSome then s else s.onRecord fun r => { r with drives := takeExtent r.drives d }
          let s := s.onClip c.no fun z =>
            let y : Copy := { drive := d, extentNo := no, issued := bytes }
            let xs := if z.extents.any fun x => x.ordinal == k then z.extents else z.extents ++ [{ ordinal := k, copies := [] }]
            { z with extents := xs.map fun x => if x.ordinal == k then
                { x with copies := (x.copies.filter fun q => q.drive != d) ++ [y] } else x }
          s.journalExtent c size { ordinal := k, copies := [] } { drive := d, extentNo := no } bytes 0) s) s
    let s := s.journal { ty := 3, clip := c.no, body := [len, n, 4, leNat (clkBytes t)] }
    s.onClip c.no fun z => { z with isOpen := false, finish := some 4, bytes := len, frames := n, lastStart := t }

/-- Mounts a volume that is not refused: reads its journal, counts its extents, recovers its open clips. DESIGN CHOICE,
unsafe (log entry 43): when clip numbers are taken, and instantaneous volume commands. -/
def State.volumeMount (mask : Nat) (s : State) : Option (Volume × Nat) × State :=
  match (membersOf mask).findSome? fun d => (s.drive d).info.bind fun i => i.super with
  | none => (none, s)
  | some b =>
    let js := (membersOf b.members).foldl (fun (m : List JournalRec) d =>
      let j := if mask.testBit d then ((s.drive d).info.map (·.journal)).getD [] else []
      if m.length < j.length then j else m) []
    let clips := clipsOf js
    let lba := dataLba b.journalBlocks b.extentShift
    let v : Volume := { id := b.volumeId, members := b.members, layout := b.layout, shift := b.extentShift
                        journalBlocks := b.journalBlocks, dataLba := lba, clips, journal := js
                        nextClip := (clips.map fun c => c.no + 1).foldl max 0, recovered := clips.any (·.isOpen) }
    let used (d : Nat) : Nat := ((js.filter fun r => r.ty == 2 && r.body.getD 1 9 == d).map fun r => r.body.getD 3 0 + 1).foldl max 0
    let s := s.onRecord fun r =>
      { r with volume := some v, drives := (indexed r.drives).map fun dx =>
          let d := dx.1
          if b.members.testBit d then
            let here := mask.testBit d && dx.2.info.isSome
            { dx.2 with member := true, failed := !here, next := used d
                        extents := extentsOf ((dx.2.info.map (·.bytes)).getD 0) lba b.extentShift }
          else { dx.2 with member := false } }
    let lost := clips.filter (·.isOpen)
    let s := lost.foldl (fun s c => s.recover c) s
    (s.record.volume.map fun v => (v, lost.length), s)

/-- Unmounts the volume. -/
def State.volumeUnmount (s : State) : State :=
  s.onRecord fun r => { r with volume := none, drives := r.drives.map fun x => { x with member := false } }

/-- Whether any session runs. -/
def State.recRuns (s : State) : Bool := s.record.sessions.any (·.running)

/-- Bytes of a clip that a reader can be given. -/
def State.clipSize (c : Clip) (s : State) : Nat :=
  if c.isOpen then s.clipDone (2 ^ ((s.record.volume.map (·.shift)).getD 24)) c.no c.extents else c.bytes

/-- Whether an extent ordinal is readable: some copy of it is not lost and its drive has not failed. -/
def State.readable (c : Clip) (k : Nat) (s : State) : Bool :=
  (c.extents.find? fun x => x.ordinal == k).any fun x => x.copies.any fun y => !y.lost && !(s.drive y.drive).failed

/-- The bytes of a range of a clip. -/
def State.clipRead (c : Clip) (off len : Nat) (s : State) : List Byte :=
  let size := 2 ^ ((s.record.volume.map (·.shift)).getD 24)
  let first := off / size
  let bs := (List.range (ceilDiv (off + len) size - first)).flatMap fun i =>
    let k := first + i
    let from_ := (c.extents.find? fun x => x.ordinal == k).bind fun x => x.copies.find? fun y => !y.lost && !(s.drive y.drive).failed
    let b := (from_.map fun y => s.onDisk y.drive c.no k).getD []
    b.take size ++ List.replicate (size - b.length) 0
  (bs.drop (off - first * size)).take len

/-- Frames held in PRE_ROLL. -/
def State.preHeld (n : Nat) (s : State) : Nat :=
  (s.recUnread (BitVec.ofNat 32 (s.recSession n).cfg.preRoll) n).length

/-! ## Status and counters (R320) -/

/-- STATE of DRVd_STATUS. -/
def Drive.state (x : Drive) : Nat :=
  if x.failed then 4 else if x.info.isNone then 0
  else if x.out.any fun o => decide (0 < o.2.tries) then 3 else if x.member then 2 else 1

/-- DRVd_STATUS. -/
def Drive.status (x : Drive) : Word :=
  fieldsWord [((x.info.map (·.width)).getD 0, 20), ((x.info.map (·.gen)).getD 0, 16), (x.out.length, 8), (x.state, 0)]

/-- RECs_STATUS. -/
def State.recStatus (n : Nat) (s : State) : Word :=
  let x := s.recSession n
  fieldsWord [(min 65535 (s.preHeld n), 16), (x.cfg.rawSession, 8),
    (bit (!x.running && x.cfg.preRoll != 0 && decide (x.cfg.rawSession < 4)), 1), (bit x.running, 0)]

/-- REC_STATUS. -/
def State.recWord (s : State) : Word :=
  let v := s.record.volume
  fieldsWord (((indexed s.record.sessions).map fun ix => (bit ix.2.running, 16 + ix.1)) ++
    ((indexed s.record.drives).map fun ix => (bit ix.2.failed, 12 + ix.1)) ++
    [((v.map (·.members)).getD 0, 8), ((v.map (·.layout)).getD 0, 4), (bit (v.any (·.low)), 3), (bit (v.any (·.full)), 2),
     (bit (v.any (·.recovered)), 1), (bit v.isSome, 0)])

/-- Clears the counters of the drives and sessions in the masks. -/
def clearRec (drives sessions : Nat) (s : State) : State :=
  s.onRecord fun r =>
    { r with drives := (indexed r.drives).map fun ix => if drives.testBit ix.1 then { ix.2 with cnt := clearAll ix.2.cnt } else ix.2
             sessions := (indexed r.sessions).map fun ix => if sessions.testBit ix.1 then { ix.2 with cnt := clearAll ix.2.cnt } else ix.2 }

end Sys2Proof.Machine
end

