-- ==== Sys2Proof/Machine/SecOps.lean ====
section
/-!
DEFINITION. What the security service does: image checks, the signer, debug and the rollback counter
(19_trust_and_identity.md, R433 to R446).
-/

namespace Sys2Proof.Machine

def State.onNvm (f : Nvm → Nvm) (s : State) : State := s.onSec fun x => { x with nvm := f x.nvm }
def State.countSec (k : Nat) (s : State) : State := s.onSec fun x => { x with cnt := bumpAt x.cnt k }

/-! ## Images (R433, R434) -/

/-- ASCII of four characters. -/
def ascii4 (a b c d : Nat) : List Byte := [a, b, c, d].map (BitVec.ofNat 8)

def imageSvn (bs : List Byte) : Nat := leNat ((bs.drop 8).take 4)
def imageVersion (bs : List Byte) : Nat := leNat ((bs.drop 12).take 4)
def imageBody (bs : List Byte) : List Byte := (bs.drop 4096).take (leNat ((bs.drop 16).take 4))

/-- The first check of R434 that an image fails, 1 to 5; 0 when it passes. -/
def imageCheck (rollback : Nat) (bs : List Byte) : Nat :=
  let n (o k : Nat) := leNat ((bs.drop o).take k)
  let len := n 16 4
  if bs.take 4 ≠ ascii4 0x42 0x4B 0x46 0x57 ∨ n 4 2 ≠ 1 then 1
  else if len % 4096 ≠ 0 ∨ len < 4096 ∨ 6291456 < len ∨ len ≤ n 20 4 then 2
  else if imageSvn bs < rollback then 3
  else if !Config.xmssVerify 0 (bs.take 128) ((bs.drop 128).take 2820) then 4
  else if bs.length < 4096 + len ∨ shake256 (imageBody bs) ≠ (bs.drop 64).take 32 then 5
  else 0

/-- The check of a flash slot against the counter in force. -/
def State.slotCheck (k : Nat) (s : State) : Nat := imageCheck s.sec.nvm.rollback (s.sec.flash.getD k [])

/-- Slots that pass, as a mask. -/
def State.slotsValid (s : State) : Nat := bit (s.slotCheck 0 == 0) + 2 * bit (s.slotCheck 1 == 0)

/-- The status of an image that fails. -/
def imageStatus (check : Nat) : Nat := if check = 3 then 0x2003 else 0x2002

/-- The slot of the first installation is erased before it is written. -/
def State.eraseNext (s : State) : State :=
  match s.sec.installs with
  | [] => s
  | (_, k, _) :: _ => s.onSec fun x => { x with flash := setAt x.flash k [] }

/-- FLASH_WRITE_DONE (R436): the slot is written and read back; answers the command's ticket and whether the slot passes. -/
def flashWriteDone (s : State) : Option (Nat × Nat) × State :=
  match s.sec.installs with
  | [] => (none, s)
  | (ticket, k, bs) :: rest =>
    let s := s.onSec fun x => { x with installs := rest, flash := setAt x.flash k bs }
    let c := s.slotCheck k
    let s := s.eraseNext
    if c = 0 then
      (some (ticket, 0), s.notice 0x1084 [itemN 1 1 k, itemN 2 2 (imageSvn bs), itemN 3 4 (imageVersion bs)])
    else (some (ticket, imageStatus c), s)

/-! ## Signing (R437, R438, R441) -/

/-- Seconds until the next token: one for each 675 s powered up. -/
def State.tokenSeconds (s : State) : Nat := 675 - s.control.sincePowerGood.toNat / 1000000000 % 675

/-- Why an identity signature is refused now. -/
def State.signRefusal (s : State) : Option Nat :=
  if 1048576 ≤ s.sec.nvm.index then some 0x2000
  else if s.sec.scopes.testBit 2 then some 0x2006
  else if s.sec.nvm.tokens = 0 then some 0x2001
  else none

/-- The next waiting SEC_ATTEST takes its turn: refused, or its record is written. Answers its ticket, the status and items. -/
def State.signNext (s : State) : Option (Nat × Nat × List Item) × State :=
  if s.sec.signing.isSome then (none, s)
  else match s.sec.attests with
    | [] => (none, s)
    | a :: rest =>
      let s := s.onSec fun x => { x with attests := rest }
      match s.signRefusal with
      | some st => (some (a.ticket, st, if st = 0x2001 then [itemN 0x4003 2 s.tokenSeconds] else []), s.countSec 1)
      | none => (none, s.onSec fun x => { x with signing := some { a with index := x.nvm.index } })

/-- NVM_RECORD_DURABLE: index i + 1 and one token fewer are in the record (R438). -/
def nvmRecordDurable (s : State) : State :=
  match s.sec.signing with
  | some a =>
    if a.durable then s
    else
      let s := s.onSec fun x =>
        { x with signing := some { a with durable := true }, nvm := { x.nvm with index := x.nvm.index + 1, tokens := x.nvm.tokens - 1 } }
      let left := 1048576 - s.sec.nvm.index
      if left = 65536 ∨ left = 4096 then s.notice 0x1080 [itemN 1 4 left]
      else if left = 0 then s.notice 0x1081 [itemN 1 4 1048576]
      else s
  | none => s

/-- SIGNATURE_COMPLETE: answers the ticket, REPORT and SIGNATURE. -/
def signatureComplete (s : State) : Option (Nat × List Item) × State :=
  match s.sec.signing with
  | some a =>
    if !a.durable then (none, s)
    else
      let report := a.head ++ toLe 4 a.index ++ a.tail
      (some (a.ticket, [itemB 0x4001 report, itemB 0x4002 (Config.xmssSign a.index report)]),
        (s.onSec fun x => { x with signing := none }).countSec 0)
  | none => (none, s)

/-- SIGNING_TOKEN_RETURN. -/
def signingTokenReturn (s : State) : State := s.onNvm fun n => { n with tokens := min 128 (n.tokens + 1) }

/-- The report of R441 around KEY_INDEX, as things stand now. -/
def State.reportParts (nonce : List Byte) (s : State) : List Byte × List Byte :=
  (ascii4 0x42 0x4B 0x41 0x54 ++ toLe 2 1 ++ toLe 2 188 ++ toLe 8 Config.serial.toNat,
    clkBytes s.raster.clock ++ toLe 4 s.raster.frame.toNat ++ toLe 1 s.sec.booted ++
      toLe 1 (s.sec.scopes % 8 + 128 * bit s.sec.secureOpened) ++ toLe 2 0 ++ toLe 4 s.sec.svn ++ toLe 4 s.sec.nvm.rollback ++
      toLe 4 s.control.fwVersion.toNat ++ toLe 4 s.tree.epoch.toNat ++ s.sec.fwDigest ++ s.control.configDigest ++
      toLe 1 nonce.length ++ toLe 3 0 ++ nonce ++ List.replicate (64 - nonce.length) 0)

/-! ## Debug (R442) -/

/-- A fresh challenge; it replaces an earlier one. -/
def State.newChallenge (s : State) : List Byte × State :=
  let (n, s) := s.draw
  (Config.challenge n, s.onSec fun x => { x with challenge := some (Config.challenge n) })

/-- An unlock attempt: it consumes the challenge. Answers 0 or the status. -/
def State.unlock (token : List Byte) (s : State) : Nat × State :=
  match s.sec.challenge with
  | none => (0x2004, s)
  | some c =>
    let s := s.onSec fun x => { x with challenge := none }
    let body := token.take 64
    let good := token.length == 2884 && body.take 4 == ascii4 0x42 0x4B 0x44 0x55 && leNat ((body.drop 4).take 2) == 1 &&
      leNat ((body.drop 8).take 8) == Config.serial.toNat && (body.drop 16).take 32 == c &&
      Config.xmssVerify 1 body (token.drop 64)
    if good then
      let scope := leNat ((body.drop 6).take 2) % 8
      let s := s.onSec fun x =>
        { x with scopes := x.scopes ||| scope, secureOpened := x.secureOpened || scope.testBit 2 }
      (0, s.notice 0x1082 [itemN 1 1 s.sec.scopes])
    else (0x2002, s.countSec 2)

/-- SEC_STATUS. -/
def State.secStatus (s : State) : Word :=
  fieldsWord [(s.sec.svn, 16), (s.sec.scopes, 9), (bit s.sec.secureOpened, 8), (s.slotsValid / 2, 5), (s.slotsValid % 2, 4),
    (bit (decide (1048576 ≤ s.sec.nvm.index)), 2), (bit (s.sec.scopes.testBit 2), 1), (s.sec.booted, 0)]

/-- Clears the counters that the mask names. -/
def clearSec (mask : Nat) (s : State) : State := s.onSec fun x => { x with cnt := clearMasked x.cnt mask }

end Sys2Proof.Machine
end

