-- ==== Sys2Proof/Machine/PowerOps.lean ====
section
/-!
DEFINITION. Resets, the boot, heat, orderly shutdown and the control pairs (20_power_heat_and_faults.md, R447 to R465).
-/

namespace Sys2Proof.Machine

/-! ## Resets (R448, R450) -/

/-- Everything at its power-on reset value but what lies outside the device or survives power-on: the NVM, the boot flash
on the board, the levels on the pins, and a hard stop's record; `queue` and what has been sent are the model's own. DESIGN
CHOICE, unsafe (log entry 8): state index and first boot slot of a new part are not stated; 0 and 0. -/
def State.cleared (s : State) : State :=
  { State.reset with
    pending := s.pending, outbox := s.outbox, fresh := s.fresh
    sec := { ({} : SecState) with nvm := s.sec.nvm, flash := s.sec.flash }
    bus := { ({} : BusState) with gpioIn := s.bus.gpioIn } }

/-- A power-on reset: after a hard stop its record puts HARD_STOP beside POWER_ON and the next boot is a recovery. DESIGN
CHOICE, unsafe (log entry 53): HARD_STOP over power-on, and the end of a shutdown. -/
def powerOnReset (s : State) : State :=
  let hard := s.power.held == .hardStop
  let t := s.cleared
  let cause : Word := if hard then 0x21 else 0x01
  (t.onControl fun c => { c with resetCause := cause, resetCauseCopy := cause }).onPower fun p =>
    { p with recovery := hard, bootFaults := if hard then [0x0D] else [] }

/-- Any other reset: the always-on domain keeps its state; SYS_RESET_CAUSE gains bit `cause`. -/
def State.enterReset (cause : Option Nat) (held : Held) (recovery : Bool) (faults : List Nat) (s : State) : State :=
  let t := s.cleared
  let w : Word := match cause with
    | some b => putBit s.control.resetCause b true
    | none => s.control.resetCause
  (t.onControl fun c =>
    { c with resetCause := w, resetCauseCopy := s.control.resetCauseCopy, aoPending := s.control.aoPending
             sincePowerGood := s.control.sincePowerGood }).onPower fun p =>
    { p with held, recovery, bootFaults := faults, log := s.power.log, logNext := s.power.logNext }

/-- RESET_N low for at least 1 µs: ignored while a thermal shutdown or a hard stop holds the device (R458, R459). DESIGN
CHOICE, unsafe (log entry 53): HARD_STOP over power-on, and the end of a shutdown. -/
def resetBall (s : State) : State :=
  if s.power.held == .thermal || s.power.held == .hardStop then s
  else (s.enterReset (some 1) .no false []).onControl fun c => { c with sincePowerGood := 0 }

/-- The watchdog's reset (R461); fault code 0x0E is logged at the next boot. -/
def State.watchdogReset (s : State) : State := s.enterReset (some 3) .no true [0x0E]

/-- 1 ms after SYS_RESET with SCOPE 1. -/
def commandReset (s : State) : State := if s.control.resetAsked then s.enterReset (some 2) .no false [] else s

/-- The analogue comparator at 158 °C (R459). DESIGN CHOICE, unsafe (log entry 53): HARD_STOP over power-on, and the end
of a shutdown. -/
def hardStop (s : State) : State :=
  if s.power.held == .hardStop then s
  else ((s.enterReset (some 5) .hardStop false []).onPower fun p => { p with faultN := true }).send .powerFault

/-! ## The boot (R451 to R453) -/

/-- The boot ends: STAGE 15 and FAIL_CODE. -/
def State.bootFail (code : Nat) (s : State) : State := s.onControl fun c => { c with stage := 15, failCode := code }

/-- Whether the device is out of reset. -/
def State.awake (s : State) : Bool := !s.power.inReset

/-- RESET_END: the straps are sampled and the boot begins. -/
def resetEnd (straps twiAddr : Nat) (s : State) : State :=
  if s.awake || s.power.held != .no then s else
  let split := straps % 4
  let ep := straps / 4 % 2 == 1
  let rate := straps / 8 % 4
  let s := (s.onPower fun p => { p with inReset := false, bifurcation := split }).onControl fun c => { c with pcie0Ep := ep }
  let s := s.onGranary fun g => { g with dataRate := [6400, 7500, 8533].getD rate 6400 }
  let s := (s.onBus fun b => { b with target := { b.target with strap := twiAddr % 8 } }).targetRevert
  if split = 3 ∨ rate = 3 ∨ (ep ∧ split ≠ 2) then s.bootFail 0x0020 else s

/-- BOOT_ROM_DONE: the reference and the PLLs, the NVM, the fused AVS code (R449). -/
def bootRomDone (refOk nvmOk : Bool) (s : State) : State :=
  if !s.awake || s.control.stage != 0 then s
  else if !refOk then s.bootFail 0x0010
  else if !nvmOk then s.bootFail 0x0011
  else (s.onPower fun p => { p with avsTarget := min 80 Config.avsFuse }).onControl fun c => { c with stage := 1 }

/-- FIRMWARE_VERIFIED: the slots in the order of R434; the first that passes boots. -/
def firmwareVerified (s : State) : State :=
  if !s.awake || s.control.stage != 1 then s
  else
    let a := s.sec.nvm.bootSlot
    let b := 1 - a
    let run (k : Nat) (second : Bool) : State :=
      let img := s.sec.flash.getD k []
      ((s.onSec fun x => { x with booted := k, svn := imageSvn img, fwDigest := shake256 (imageBody img) }).onControl
        fun c => { c with stage := 2, fwVersion := BitVec.ofNat 32 (imageVersion img) }).onPower fun p => { p with slotFailed := second }
    if s.slotCheck a = 0 then run a false
    else if s.slotCheck b = 0 then run b true
    else s.bootFail (s.slotCheck b)

/-- DRAM_TRAINING_DONE (R276, R453): the first channel that fails or differs ends the boot. -/
def dramTrainingDone (channels : List ChannelInfo) (s : State) : State :=
  if !s.awake || decide (2 < s.control.stage) || s.granary.dramReady then s
  else
    let info (n : Nat) : ChannelInfo := channels.getD n { trained := false, capacity := 0, ranks := 1 }
    let cap (n : Nat) : Nat := (info n).capacity % 4
    let rk (n : Nat) : Nat := max 1 (min 2 (info n).ranks)
    let bad (n : Nat) : Option Nat :=
      if !(info n).trained then some (0x0100 + n)
      else if cap n ≠ cap 0 ∨ rk n ≠ rk 0 then some (0x0180 + n) else none
    match (List.range 24).findSome? bad with
    | some code => s.bootFail code
    | none => s.onGranary fun g =>
        { g with dramReady := true
                 channels := (indexed g.channels).map fun kc =>
                   { kc.2 with up := true, capacity := cap kc.1, ranks := List.replicate (rk kc.1) {} } }

/-- MAILBOX_READY: Oluhenu answers HELLO from now on, the raster runs (R19), routed mode is selected unless this is a
recovery (R379, R455), and what the last reset left to log is logged (R462). -/
def mailboxReady (s : State) : State :=
  if !s.awake || s.control.stage != 2 || !s.granary.dramReady then s
  else
    let s := (s.onControl fun c => { c with stage := 3 }).onRaster fun r => { r with running := true }
    let faults := s.power.bootFaults
    let s := (s.onPower fun p => { p with bootFaults := [] }).onEvents fun v => { v with channelMode := s.power.recovery }
    let s := faults.foldl (fun s code => s.faultLog code 0x1100 0) s
    if s.power.recovery then
      s.notice 0x1184 [itemN 1 4 s.control.resetCause.toNat, itemN 2 4 (s.power.logNext - 1).toNat]
    else s

/-- BOOT_STAGE_TIMEOUT. -/
def bootStageTimeout (s : State) : State := if s.awake && decide (s.control.stage < 3) then s.bootFail 0x0050 else s

/-- AVS_STEP: the code moves by at most 1 (R449). -/
def avsStep (s : State) : State :=
  s.onPower fun p => { p with avs := if p.avs < p.avsTarget then p.avs + 1 else if p.avsTarget < p.avs then p.avs - 1 else p.avs }

/-! ## Heat (R456, R457) -/

/-- The junction temperature, in 1/16 °C. -/
def State.junction (s : State) : Int := s.power.temps.foldl max (s.power.temps.headD 0)

/-- A channel in refresh band 3 (R296, R456). -/
def State.dramHot (s : State) : Bool := s.granary.channels.any fun c => c.up && c.band == 3

/-- A change of WARNING or THROTTLE: SYS_IRQ_STATUS.THERMAL and PWR_THERMAL. -/
def State.thermalNotice (what : Nat) (s : State) : State :=
  (s.setSystemIrq 25).notice 0x1180 [itemN 1 1 what, itemI 2 2 s.junction]

/-- Whether a clip of the mounted volume is open. -/
def State.clipsOpen (s : State) : Bool := (s.record.volume.map fun v => v.clips.any (·.isOpen)).getD false

/-- The end of an orderly shutdown: the device enters reset and is held (R458). -/
def State.shutdownEnd (s : State) : State :=
  match s.power.shuttingDown with
  | none => s
  | some 1 => s.enterReset (some 4) .thermal true []
  | some _ => s.enterReset none .command false []

/-- Steps 1 and 2 of an orderly shutdown, with cause 1 = thermal or 2 = command (R458). -/
def State.shutdownBegin (cause : Nat) (s : State) : State :=
  if s.power.shuttingDown.isSome then s
  else
    let s := (s.onPower fun p => { p with shuttingDown := some cause, downAt := none, awaitClips := s.clipsOpen })
    let s := s.notice 0x1182 [itemN 1 1 cause, itemN 2 4 s.raster.frame.toNat]
    let s := if cause = 1 then s.faultLog 0x0C 0x1100 ((s.junction % 4294967296).toNat) else s
    s.recStopAll s.raster.frame 2 1

/-- SHUTDOWN_TIMEOUT: 20 ms after PWR_SHUTDOWN. -/
def shutdownTimeout (s : State) : State := s.shutdownEnd

/-- TEMP_SAMPLE: the threshold states of R456, which change on J only. In a thermal hold, J below 110 °C lets the device
boot (R458). -/
def tempSample (readings : List Int) (s : State) : State :=
  if readings.isEmpty then s else
  let temps := (readings.take 16) ++ List.replicate (16 - readings.length) (readings.headD 0)
  let j := temps.foldl max (temps.headD 0)
  if !s.awake then
    if s.power.held == .thermal && decide (j < 1760) then s.onPower fun p => { p with held := .no } else s
  else
    let w := s.power.warning
    let t := s.power.throttle
    let sh := s.power.shutdown
    let w' := if w then decide (1920 ≤ j) else decide (2000 ≤ j)
    let t' := if t then decide (2144 ≤ j) else decide (2240 ≤ j)
    let sh' := if sh then decide (1760 ≤ j) else decide (2432 ≤ j)
    let s := s.onPower fun p =>
      { p with temps, peak := some ((p.peak.map (max · j)).getD j), warning := w', throttle := t', shutdown := sh'
               cnt := if !w && w' then bumpAt p.cnt 0 else p.cnt }
    let s := if w' == w then s else s.thermalNotice (if w' then 1 else 2)
    let s := if t' == t then s else s.thermalNotice (if t' then 3 else 4)
    if !sh && sh' then s.shutdownBegin 1 else s

/-- LEVEL takes a new value: PWR_THROTTLE, and the dwell starts again. -/
def State.setLevel (n : Nat) (s : State) : State :=
  let old := s.power.level
  if n = old then s
  else (s.onPower fun p => { p with level := n, dwell := some 0, cnt := bumpAt p.cnt 1 }).notice 0x1181
    [itemN 1 1 old, itemN 2 1 n, itemN 3 4 s.raster.frame.toNat, itemI 4 2 s.junction]

/-- The Mill keeps the fewest sixteenths of its cycles, from 8, at which the last frame's occupancy stays within 0.90.
DEDUCED, unsafe (log entry 36): when R457 divides the clocks. -/
def millCyclesFor (util : Nat) : Nat :=
  (((List.range 9).map (· + 8)).find? fun m => decide (util * 160 ≤ 9 * 65536 * m)).getD 16

/-- The clocks are matched to the work that remains; this never sheds work (R457). DEDUCED, unsafe (log entry 36): when
R457 divides the clocks. -/
def State.matchClocks (s : State) : State :=
  s.onPower fun p => { p with millCycles := millCyclesFor s.mill.util, sheafDiv := if s.sheaf.load * 20 ≤ 9 * 65536 then 2 else 1 }

/-- A step point of R457. DEDUCED, unsafe (log entry 36): when R457 divides the clocks. -/
def State.thermalStep (s : State) : State :=
  let p := s.power
  let hot := decide (2240 ≤ s.junction) || s.dramHot
  let cool := decide (s.junction < 2144) && !s.dramHot
  let since (n : Nat) : Bool := p.dwell.all fun d => decide (n ≤ d)
  let next :=
    if p.level < p.cfg.throttleMin then p.cfg.throttleMin
    else if hot && since p.cfg.riseDwell then min 19 (p.level + 1)
    else if cool && since p.cfg.fallDwell then max p.cfg.throttleMin (p.level - 1)
    else p.level
  (s.setLevel next).matchClocks

/-! ## The control pairs (R461) -/

/-- The active pair fails: the standby takes over within 100 µs, or, when it has failed before, the watchdog resets the
device. -/
def State.pairFail (s : State) : State :=
  let a := s.power.activePair
  if !s.awake || s.power.takeover.isSome then s
  else if s.power.pairOk.getD (1 - a) false then
    s.onPower fun p => { p with pairOk := setAt p.pairOk a false, takeover := some a }
  else s.watchdogReset

def lockstepMismatch (s : State) : State := s.pairFail
def checkpointMissed (s : State) : State := s.pairFail

/-- CHECKPOINT: the standby pair holds Oluhenu's state of this instant. -/
def checkpoint (s : State) : State :=
  if !s.awake || s.power.takeover.isSome then s else s.onPower fun p => { p with checkpointAt := some s.raster.clock }

/-- PAIR_TAKEOVER: the standby resumes; the image path, the Timetable and the raster have not stopped. -/
def pairTakeover (s : State) : State :=
  match s.power.takeover with
  | none => s
  | some a =>
    (s.onPower fun p => { p with activePair := 1 - a, takeover := none, cnt := bumpAt p.cnt 3 }).faultLog 0x07 0x1100 a

/-! ## Registers (R463, R465) -/

def clearPwr (mask : Nat) (s : State) : State :=
  s.onPower fun p => { p with cnt := clearMasked p.cnt mask, peak := if mask = 0 then p.peak else some s.junction }

/-- PWR_STATUS. -/
def State.pwrStatus (s : State) : Word :=
  let p := s.power
  fieldsWord [(p.level, 16), (p.activePair, 10), (bit (p.pairOk.getD 1 false), 9), (bit (p.pairOk.getD 0 false), 8),
    (bit p.recovery, 5), (bit p.shuttingDown.isSome, 4), (bit (decide (0 < p.cfg.throttleMin)), 3), (bit p.throttle, 2),
    (bit p.warning, 1), (bit s.dramHot, 0)]

end Sys2Proof.Machine
end

