-- ==== Sys2Proof/Machine/MonitorOps.lean ====
section
/-!
DEFINITION. What the monitor output does: flips, scan-out, the overlay and the check rectangles
(14_monitor_output.md, R340 to R352).
-/

namespace Sys2Proof.Machine

/-- Adds 1 to a monitor counter. -/
def State.countMon (k : Nat) (s : State) : State := s.onMonitor fun m => { m with cnt := bumpAt m.cnt k }

/-- Active size of a FORMAT (R340). -/
def monSize (format : Nat) : Nat × Nat :=
  match format with
  | 0 => (1280, 720)
  | 1 | 2 => (1920, 1080)
  | 3 | 5 => (3840, 2160)
  | _ => (4096, 2160)

/-- Rates that a FORMAT lists (R340). -/
def monRates (format : Nat) : List (Nat × Nat) :=
  let film := [(24000, 1001), (24, 1), (25, 1), (30000, 1001), (30, 1)]
  let fast := [(50, 1), (60000, 1001), (60, 1)]
  match format with
  | 0 | 2 => fast
  | 1 | 3 | 4 => film
  | _ => film ++ [(48000, 1001), (48, 1)] ++ fast

/-- Whether the raster's rate is listed for FORMAT; rates are compared as fractions. -/
def State.monListed (s : State) : Bool :=
  let c := s.raster.cfg.force
  (monRates s.monitor.cfg.format).any fun r => r.1 * c.rateDen == c.rateNum * r.2

/-- The rendition whose DEST is 1. -/
def State.monRend (s : State) : Option Nat :=
  (List.range 48).find? fun r => (s.rend r).cfg.force.dest == 1

/-- MON_SHOWN_FRAME. -/
def State.shownFrame (s : State) : Frame :=
  if s.monitor.black || !s.monitor.running then 0xFFFFFFFF
  else (s.monitor.held.map fun h => h.frame).getD 0xFFFFFFFF

/-- Whether a slot's picture may be shown (R344). -/
def monFits (format : Nat) (fmt : List Nat) : Bool :=
  let g (k : Nat) : Nat := fmt.getD k 9
  (g 4 == 1 || g 4 == 2) && (g 2 == 1 || g 2 == 2) && g 3 == 10 && g 5 == 0 && (g 0, g 1) == monSize format

/-- Returns the held slot to FREE. -/
def State.monRelease (s : State) : State :=
  match s.monitor.held with
  | none => s
  | some h => (s.slotFree h.rend h.slot).onMonitor fun m => { m with held := none }

/-- The newest slot READY before now, and the older ones (R344). -/
def State.monReady (r : Nat) (s : State) : Option (Nat × Slot) × List Nat :=
  let now := Clk.units s.raster.clock
  let ready := (indexed (s.rend r).slots).filter fun ks => ks.2.st == .ready && decide (Clk.units ks.2.readyAt < now)
  let best := ready.foldl (fun (b : Option (Nat × Slot)) ks => match b with
    | none => some ks
    | some c => if Clk.units c.2.readyAt < Clk.units ks.2.readyAt then some ks else some c) none
  (best, (ready.filter fun ks => best.map (·.1) != some ks.1).map (·.1))

/-- The flip of a running output (R344, R345). -/
def State.monFlip (s : State) : State :=
  let s := s.onMonitor fun m => { m with ovlNow := m.ovl.force, rectsNow := m.rects.force, cut := false
                                         lastFlip := some s.raster.frame, flipTime := s.raster.clock, frameCount := m.frameCount + 1 }
  let s := match s.monRend with
    | none => (s.monRelease).onMonitor fun m => { m with black := true }
    | some r =>
      let runs := (s.rend r).running
      let (best, older) := s.monReady r
      let s := older.foldl (fun (s : State) k => (s.slotFree r k).countMon 2) s
      match best with
      | some (k, sl) =>
        let s := (s.monRelease).countMon 0
        let s := s.onRend r (Rendition.onSlot k fun x => { x with st := .held })
        if monFits s.monitor.cfg.format sl.fmt then
          s.onMonitor fun m =>
            { m with held := some { rend := r, slot := k, frame := sl.frame, fmt := sl.fmt }, black := !runs, mismatch := false
                     colour := (sl.fmt.getD 4 1, sl.fmt.getD 6 1) }
        else
          let s := (s.slotFree r k).countMon 3
          let s := if s.monitor.mismatch then s else s.notice 0x0B83 [itemN 1 4 sl.frame.toNat]
          s.onMonitor fun m => { m with black := true, mismatch := true }
      | none =>
        if !runs then s.monRelease.onMonitor fun m => { m with black := true }
        else if s.monitor.held.isSome then (s.countMon 1).onMonitor fun m => { m with black := false }
        else s.onMonitor fun m => { m with black := true }
  let m := s.monitor
  let c := s.raster.cfg.force
  let s := s.send (.monFrame m.cfg.format c.rateNum c.rateDen m.colour.1 m.colour.2
    (if m.black then none else m.held.map fun (h : Shown) => h.frame))
  if m.cfg.flipNotify = 0 then s
  else s.notice 0x0B80 [itemN 1 4 m.frameCount.toNat, itemN 2 4 s.shownFrame.toNat,
    itemN 3 1 (if m.black then 0xFF else ((m.held.map fun (h : Shown) => h.slot).getD 0xFF)), itemB 4 (clkBytes m.flipTime)]

/-- Whether a stop ends the output at this flip: the output frame in progress at its frame has ended (R350). -/
def State.monStops (s : State) : Bool :=
  match s.monitor.stopAt with
  | none => false
  | some none => true
  | some (some f) =>
    !Frame.passed s.raster.frame f &&
      !(s.raster.frame == f && s.monitor.cfg.outLine == 0 && s.monitor.cfg.outPhase == 0)

/-- FLIP: the raster has reached (OUT_LINE, OUT_PHASE). -/
def flip (s : State) : State :=
  let s := if s.monitor.running && s.monStops then
      s.monRelease.onMonitor fun m => { m with running := false, stopAt := none, black := false, unlocked := false }
    else s
  let s := if !s.monitor.running && s.monitor.startAt.any fun f => !Frame.passed s.raster.frame f then
      s.onMonitor fun m =>
        { m with running := true, startAt := none, stopAt := if s.monStops then none else m.stopAt, frameCount := 0, mismatch := false
                 colour := (1, 1), black := true }
    else s
  if !s.monitor.running || s.monitor.unlocked then s else s.monFlip

/-! ## Scan-out (R346 to R348) -/

/-- A 16-bit little-endian code of a buffer. -/
def codeAt (m : Mem) (a : Nat) : Int := (leNat (Mem.readN m a 2) : Int)

/-- The 10-bit codes of a shown slot: luma at (y, x), and the chroma pair at (y, pair x). -/
def slotCode (m : Mem) (base : Nat) (fmt : List Nat) (k y x : Nat) : Int :=
  let g (i : Nat) : Nat := fmt.getD i 0
  let lay := slotLayout { outW := g 0, outH := g 1, chroma := g 2 } (g 4)
  if k = 0 then codeAt m (base + lay.offsets.getD 0 0 + y * lay.pitch1 + 2 * x) / 64
  else
    let row (r : Nat) : Int := codeAt m (base + lay.offsets.getD 1 0 + r * lay.pitch2 + 4 * (x / 2) + 2 * (k - 1))
    if g 2 = 1 then row y / 64
    else
      let c := y / 2
      let last := g 1 / 2 - 1
      let v := if y % 2 = 0 then row (c - 1) + 3 * row c else 3 * row c + row (min last (c + 1))
      roundDiv v 4 / 64

/-- Overlay pitch. -/
def ovlPitch (w : Nat) : Nat := ceilDiv w 256 * 256

/-- The blended code of component `k` (0 = luma, 1 = CB, 2 = CR) at (y, x) as sent (R346, R347). -/
def State.monCode (k y x : Nat) (s : State) : Int :=
  let m := s.monitor
  let video : Int := match (if m.black then none else m.held) with
    | none => if k = 0 then 64 else 512
    | some h =>
      match s.buffer? (BitVec.ofNat 32 (s.rend h.rend).cfg.force.planes) with
      | none => if k = 0 then 64 else 512
      | some b =>
        let lay := slotLayout (s.rend h.rend).cfg.force (h.fmt.getD 4 1)
        slotCode b.data (h.slot * lay.size) h.fmt k y x
  if m.ovlNow.enable = 0 then video
  else
    let w := (monSize m.cfg.format).1
    let idx := match s.buffer? (BitVec.ofNat 32 m.ovlNow.handle) with
      | none => 0
      | some b => (Mem.read b.data (m.ovlNow.offset + y * ovlPitch w + x)).toNat
    let e := m.ovlNow.palette.getD idx 0
    let alpha : Int := e / 16777216
    let code : Int := 4 * (e / 256 ^ k % 256 : Nat)
    roundDiv (alpha * code + (128 - alpha) * video) 128

/-- The CRC of a rectangle (R348). -/
def State.rectCrc (r : RectConfig) (s : State) : Word :=
  crc32c ((List.range r.h).flatMap fun j => (List.range (r.w / 2)).flatMap fun i =>
    let y := r.y + j
    let x := r.x + 2 * i
    [s.monCode 1 y x, s.monCode 0 y x, s.monCode 2 y x, s.monCode 0 y (x + 1)].flatMap fun c => toLe 2 c.toNat)

/-- MON_OUTPUT_FRAME_END: the results of the output frame; a frame that was cut publishes none. -/
def monOutputFrameEnd (s : State) : State :=
  let m := s.monitor
  if !m.running || m.cut || m.unlocked || m.lastFlip.isNone then s
  else
    let res := (indexed m.rectsNow).map fun kr =>
      if kr.2.enable = 1 then some (s.rectCrc kr.2) else none
    let fails := (List.range 8).map fun k => match res.getD k none, m.rectsNow[k]? with
      | some v, some r => r.compare == 1 && v != BitVec.ofNat 32 r.expected
      | _, _ => false
    let n := (fails.filter id).length
    let s := s.onMonitor fun m =>
      { m with results := (indexed m.results).map fun kv => (res.getD kv.1 none).getD kv.2, failed := fails, cnt := addAt m.cnt 5 n }
    if n = 0 then s
    else s.notice 0x0B81 ([itemN 1 4 m.frameCount.toNat, itemN 2 4 s.shownFrame.toNat] ++
      ((List.range 8).filter fun k => fails.getD k false).map fun k => itemB 3 (toLe 1 k ++ toLe 4 (s.monitor.results.getD k 0).toNat))

/-! ## The raster's part (R342, R343) -/

/-- A crash lock cut the raster frame: the output frame in progress is cut too. -/
def State.monCut (s : State) : State :=
  if s.monitor.running && !s.monitor.unlocked then (s.countMon 4).onMonitor fun m => { m with cut := true } else s

/-- The raster's rate was committed: the output unlocks, or realigns. -/
def State.monRate (s : State) : State :=
  let m := s.monitor
  if !m.running then s
  else if s.monListed then
    if m.unlocked then (s.countMon 4).onMonitor fun m => { m with unlocked := false, cut := true } else s
  else if m.unlocked then s
  else
    let c := s.raster.cfg.force
    (s.onMonitor fun m => { m with unlocked := true, black := true }).notice 0x0B82 [itemB 1 (toLe 4 c.rateNum ++ toLe 4 c.rateDen)]

/-- Clears the counters that the mask names. -/
def clearMon (mask : Nat) (s : State) : State := s.onMonitor fun m => { m with cnt := clearMasked m.cnt mask }

/-- MON_STATUS. -/
def State.monStatus (s : State) : Word :=
  let m := s.monitor
  fieldsWord [(m.cfg.format, 8), (m.ovlNow.enable, 3), (bit (m.running && (m.black || m.held.isNone)), 2), (bit m.unlocked, 1), (bit m.running, 0)]

end Sys2Proof.Machine
end

