-- ==== Sys2Proof/Machine/NetOps.lean ====
section
/-!
DEFINITION. What the network ports do: ARP and ICMP, control over UDP, PTP and RTP (13_network_and_time.md, R321 to R339).
-/

namespace Sys2Proof.Machine

def State.onNetPort (p : Nat) (f : NetPort → NetPort) (s : State) : State :=
  s.onNet fun n => { n with ports := modAt n.ports p f }
def State.netPort? (p : Nat) (s : State) : Option NetPort := s.net.ports[p]?
def State.onPtp (f : Ptp → Ptp) (s : State) : State := s.onNet fun n => { n with ptp := f n.ptp }
def State.onRtp (n : Nat) (f : RtpStream → RtpStream) (s : State) : State :=
  s.onNet fun x => { x with streams := modAt x.streams n f }
def State.countNet (k : Nat) (s : State) : State := s.onNet fun n => { n with cnt := bumpAt n.cnt k }
def State.countPort (p k : Nat) (s : State) : State := s.onNetPort p fun x => { x with cnt := bumpAt x.cnt k }

/-- A port that takes and sends frames. -/
def State.portOpen (p : Nat) (s : State) : Bool := (s.netPort? p).any fun x => x.cfg.portEnable == 1 && x.linkUp

/-- A port that takes and sends IP traffic (R322). -/
def State.portIp (p : Nat) (s : State) : Bool := s.portOpen p && (s.netPort? p).any fun x => x.cfg.ipAddr != 0

/-- Sends a frame and counts it. -/
def State.netSend (p : Nat) (m : NetMsg) (s : State) : State :=
  if s.portOpen p then (s.countPort p 1).send (.net p m) else s

/-- Sends IP traffic. -/
def State.ipSend (p : Nat) (m : NetMsg) (s : State) : State := if s.portIp p then s.netSend p m else s

/-! ## Links, ARP and ICMP (R321 to R323) -/

/-- ETH_LINK_CHANGE. -/
def ethLinkChange (p : Nat) (up : Bool) (s : State) : State :=
  match s.netPort? p with
  | none => s
  | some x =>
    if x.linkUp == up || (up && x.cfg.portEnable == 0) then s
    else (s.onNetPort p fun x => { x with linkUp := up }).notice 0x0A80
      [itemN 1 1 p, itemN 2 1 (bit up), itemN 3 1 x.cfg.speed, itemN 4 1 x.cfg.fec]

/-- Puts an address into the cache of 64; the oldest goes first. DESIGN CHOICE, unsafe (log entry 45): which datagrams
look into the ARP cache, and how it ages out by number. -/
def arpPut (ip mac : Nat) (l : List (Nat × Nat)) : List (Nat × Nat) :=
  let l := (l.filter fun e => e.1 != ip) ++ [(ip, mac)]
  l.drop (l.length - 64)

/-- ARP_PACKET: an address already in the cache is updated; a packet for this port adds its sender, and a request is
answered. -/
def arpPacket (p : Nat) (a : ArpPacket) (s : State) : State :=
  if !s.portOpen p then s
  else
    let s := s.countPort p 0
    match s.netPort? p with
    | none => s
    | some x =>
      if x.cfg.ipAddr = 0 then s
      else
        let mine := a.targetIp.toNat == x.cfg.ipAddr
        let s := if mine || x.arp.any fun e => e.1 == a.senderIp.toNat then
            s.onNetPort p fun x => { x with arp := arpPut a.senderIp.toNat a.senderMac x.arp }
          else s
        if mine && a.request then s.ipSend p (.arpReply a.senderIp.toNat a.senderMac) else s

/-- ARP_REFRESH: an entry of the cache is asked for again. -/
def arpRefresh (p : Nat) (ip : Word) (s : State) : State :=
  if (s.netPort? p).any fun x => x.arp.any fun e => e.1 == ip.toNat then s.ipSend p (.arpRequest ip.toNat) else s

/-- ICMP_ECHO_REQUEST. -/
def icmpEchoRequest (p : Nat) (src dst : Word) (data : List Byte) (s : State) : State :=
  if !s.portOpen p then s
  else
    let s := s.countPort p 0
    if (s.netPort? p).any fun x => x.cfg.ipAddr != 0 && x.cfg.ipAddr == dst.toNat then s.ipSend p (.icmpReply src data) else s

/-- The next hop of an address (R323). -/
def NetPortConfig.hop (c : NetPortConfig) (dst : Nat) : Nat :=
  if dst &&& c.netmask == c.ipAddr &&& c.netmask then dst else c.gateway

/-- Whether an address is multicast. -/
def isMulticast (ip : Nat) : Bool := ip / 2 ^ 28 == 14

/-- Whether a frame to an address has a place to go: multicast, or a hop in the cache. DESIGN CHOICE, unsafe (log entry
45): which datagrams look into the ARP cache, and how it ages out by number. -/
def NetPort.resolves (x : NetPort) (dst : Nat) : Bool := isMulticast dst || x.arp.any fun e => e.1 == x.cfg.hop dst

/-! ## Control over UDP (R324, R325) -/

def State.transport (k : Nat) (s : State) : Transport := s.net.transports.getD k {}
def State.onTransport (k : Nat) (f : Transport → Transport) (s : State) : State :=
  s.onNet fun n => { n with transports := modAt n.transports k f }

/-- The fill limit F of a port. -/
def NetPortConfig.fill (c : NetPortConfig) : Nat := min 4096 ((c.mtu - 36) / 4 * 4)

/-- A control datagram is dropped. -/
def State.ctlDrop (s : State) : State := s.countNet 4

/-- The binding of mailbox 8 + k ends, with the effects of SESSION_RESET. -/
def State.unbind (k : Nat) (s : State) : State :=
  let s := (s.sessionReset (8 + k)).onMbx (8 + k) fun m => { m with sending := [], posts := [] }
  s.onTransport k fun t => { t with client := none, rx := none, out := none, nextFill := 0 }

/-- Sends the outstanding fill of mailbox 8 + k. -/
def State.sendFill (k : Nat) (s : State) : State :=
  match (s.transport k).client, (s.transport k).out with
  | some (p, ip, port), some f => s.ipSend p (.control ip port (8 + k) (bit f.last) f.msgSeq f.fillNo f.bytes)
  | _, _ => s

/-- Sends the next fill of every bound Ethernet mailbox that has none outstanding. -/
def State.netPump (s : State) : State :=
  (List.range 4).foldl (fun s k =>
    let t := s.transport k
    match t.client, t.out, s.control.mailboxes[8 + k]? with
    | some (p, _, _), none, some m =>
      let start : Option (List Byte × Bool × List Post) :=
        if m.sending ≠ [] then some (m.sending, m.sendingReset, m.posts)
        else match m.posts with
          | [] => none
          | q :: rest => some (q.bytes, q.thenReset, rest)
      match start with
      | none => s
      | some (bs, r, rest) =>
        let f := ((s.netPort? p).map fun x => x.cfg.fill).getD 1464
        let last := decide (bs.length ≤ f)
        let s := s.onMbx (8 + k) fun m =>
          { m with sending := bs.drop f, sendingReset := r && !last, posts := rest, resetOnAck := r && last }
        let s := s.onTransport k fun t =>
          { t with out := some { msgSeq := t.nextSeq, fillNo := t.nextFill, last, bytes := bs.take f }
                   nextSeq := if last then (t.nextSeq + 1) % 65536 else t.nextSeq, nextFill := if last then 0 else t.nextFill + 1 }
        s.sendFill k
    | _, _, _ => s) s

/-- Whether a datagram keeps the table of R324. -/
def datagramSound (d : Datagram) : Bool :=
  d.ver == 1 && decide (8 ≤ d.mailbox) && decide (d.mailbox ≤ 11) && decide (d.flags < 8) && d.reserved == 0

/-- An acknowledgement frees the outstanding fill; a session whose end waited for it ends (R74). -/
def State.ctlAck (k : Nat) (d : Datagram) (s : State) : State :=
  match (s.transport k).out with
  | some f =>
    if f.msgSeq == d.msgSeq && f.fillNo == d.fillNo && d.fill.isEmpty then
      let s := s.onTransport k fun t => { t with out := none }
      if (s.control.mailboxes[8 + k]?).any fun m => m.resetOnAck then s.sessionReset (8 + k) else s
    else s.ctlDrop
  | none => s.ctlDrop

/-- A fill: acknowledged, and taken unless it came before. -/
def State.ctlFill (table : Nat → Option Cmd) (k : Nat) (d : Datagram) (s : State) : State :=
  let t := s.transport k
  let f := ((s.netPort? d.port).map fun x => x.cfg.fill).getD 1464
  let last := d.flags.testBit 0
  let sized := if last then decide (1 ≤ d.fill.length) && decide (d.fill.length ≤ f) else d.fill.length == f
  let ack (s : State) : State := s.ipSend d.port (.control d.srcIp d.srcPort (8 + k) 2 d.msgSeq d.fillNo [])
  if !sized then s.ctlDrop
  else
    let again := t.rx.any fun r => r.1 == d.msgSeq && r.2.1 == d.fillNo
    let next := match t.rx with
      | some (m, i, true) => m == d.msgSeq && d.fillNo == i + 1
      | _ => d.fillNo == 0
    if again then ack s
    else if !next then s.ctlDrop
    else
      let s := ack (s.onTransport k fun t => { t with rx := some (d.msgSeq, d.fillNo, !last) })
      takeFill table (8 + k) d.fill last s

/-- A control datagram (R324, R325). RESET is taken from any sender, who is then bound. -/
def State.ctlDatagram (table : Nat → Option Cmd) (d : Datagram) (s : State) : State :=
  if !s.portIp d.port then s
  else
    let s := s.countPort d.port 0
    if !datagramSound d || !s.ready then s.ctlDrop
    else
      let k := d.mailbox - 8
      let who := (d.port, d.srcIp, d.srcPort)
      let reset := d.flags.testBit 2
      let s := if reset then s.unbind k else s
      let bound := (s.transport k).client
      if bound.any fun c => c != who then s.ctlDrop
      else
        let s := s.onTransport k fun t => { t with client := some who }
        if d.flags.testBit 1 then s.ctlAck k d
        else if reset && d.fill.isEmpty then s
        else s.ctlFill table k d

def controlFillDatagram (table : Nat → Option Cmd) (d : Datagram) (s : State) : State := s.ctlDatagram table d
def controlAckDatagram (table : Nat → Option Cmd) (d : Datagram) (s : State) : State := s.ctlDatagram table d
def controlResetDatagram (table : Nat → Option Cmd) (d : Datagram) (s : State) : State := s.ctlDatagram table d

/-- CONTROL_RESEND_TIMER: the fill is sent again up to five times; then the binding ends. -/
def controlResendTimer (mailbox : Nat) (s : State) : State :=
  if mailbox < 8 ∨ 11 < mailbox then s
  else
    let k := mailbox - 8
    match (s.transport k).out with
    | none => s
    | some f =>
      if f.resends < 5 then (s.onTransport k fun t => { t with out := some { f with resends := f.resends + 1 } }).sendFill k
      else ((s.unbind k).countNet 5).notice 0x0A86 [itemN 1 1 mailbox, itemN 2 1 0]

/-- CONTROL_BIND_TIMEOUT. -/
def controlBindTimeout (mailbox : Nat) (s : State) : State :=
  if mailbox < 8 ∨ 11 < mailbox || (s.transport (mailbox - 8)).client.isNone then s
  else (s.unbind (mailbox - 8)).notice 0x0A86 [itemN 1 1 mailbox, itemN 2 1 1]

/-! ## PTP (R326 to R331) -/

/-- Changes the PTP state and says so. -/
def State.ptpMode (m : PtpMode) (s : State) : State :=
  let old := s.net.ptp.mode
  if old = m then s
  else (s.onPtp fun x => { x with mode := m }).notice 0x0A81
    [itemN 1 1 old.code, itemN 2 1 m.code, itemN 3 8 s.net.ptp.grandmaster]

/-- This clock's identity. PRESUMED, unsafe (log entry 44): own variance and IEEE 1588's comparison. -/
def clockIdentity : Nat := Config.serial.toNat

/-- The dataset that this clock announces (R326). PRESUMED, unsafe (log entry 44): own variance and IEEE 1588's
comparison. -/
def Ptp.own (x : Ptp) : PtpAnnounce :=
  { source := clockIdentity, priority1 := x.cfg.priority1, clockClass := 248, accuracy := 0xFE, variance := 0xFFFF
    priority2 := x.cfg.priority2, grandmaster := clockIdentity, steps := 0, utcOffset := x.utcOffset, utcValid := false, syncTlv := [] }

/-- Order of two lists of numbers. -/
def lexLess : List Nat → List Nat → Bool
  | a :: as, b :: bs => decide (a < b) || (a == b && lexLess as bs)
  | _, _ => false

/-- Whether dataset `a` is better than `b` under the default algorithm. PRESUMED, unsafe (log entry 44): own variance and
IEEE 1588's comparison. -/
def betterClock (a b : PtpAnnounce) : Bool :=
  if a.grandmaster = b.grandmaster then lexLess [a.steps, a.source] [b.steps, b.source]
  else lexLess [a.priority1, a.clockClass, a.accuracy, a.variance, a.priority2, a.grandmaster]
    [b.priority1, b.clockClass, b.accuracy, b.variance, b.priority2, b.grandmaster]

/-- The best of the masters heard twice. -/
def Ptp.best (x : Ptp) : Option PtpAnnounce :=
  (x.foreign.filter fun f => decide (2 ≤ f.2) && decide (f.1.steps < 255)).foldl (fun m f => match m with
    | none => some f.1
    | some a => if betterClock f.1 a then some f.1 else some a) none

/-- A new master begins: no Sync of its has been accepted. -/
def Ptp.follow (a : PtpAnnounce) (x : Ptp) : Ptp :=
  { x with master := some a, accepted := 0, lastOffset := none, outliers := 0, pathDelay := none, pendingSync := none
           lastForward := none, delayReq := none, goodRun := 0, badRun := 0, largeSent := false }

/-- Runs the best master clock algorithm on what has been heard (R326, R330); `timedOut` says that the announce receipt
timeout has expired. -/
def State.bmca (timedOut : Bool) (s : State) : State :=
  let x := s.net.ptp
  match x.best with
  | some a =>
    if x.cfg.masterCapable = 1 && betterClock x.own a then
      (s.onPtp fun x => { x with master := none }).ptpMode .master
    else if x.master.map (·.source) = some a.source && x.master.map (·.grandmaster) = some a.grandmaster then
      s.onPtp fun x => { x with master := some a }
    else
      let changed := x.grandmaster ≠ 0 ∧ x.grandmaster ≠ a.grandmaster
      let s := if changed then
          (s.countNet 3).notice 0x0A82 [itemN 1 8 x.grandmaster, itemN 2 8 a.grandmaster]
        else s
      let s := s.onPtp fun x => { x.follow a with grandmaster := a.grandmaster }
      s.ptpMode (if x.stepDue then .uncalibrated else .holdover)
  | none =>
    if x.cfg.masterCapable = 1 ∧ (timedOut ∨ x.mode = .master) then (s.onPtp fun x => { x with master := none }).ptpMode .master
    else if timedOut && x.mode != .listening then (s.onPtp fun x => { x with master := none }).ptpMode .holdover
    else s

/-- Whether a PTP message on a port is taken; one on the other port is dropped and counted (R326). -/
def State.ptpTakes (p : Nat) (s : State) : Bool × State :=
  if !s.portIp p then (false, s)
  else
    let s := s.countPort p 0
    if s.net.ptp.cfg.enable = 0 then (false, s)
    else if p ≠ s.net.ptp.cfg.port then (false, s.countPort p 3)
    else (true, s)

/-- ANNOUNCE_RECEIVED. -/
def announceReceived (p : Nat) (a : PtpAnnounce) (s : State) : State :=
  match s.ptpTakes p with
  | (false, s) => s
  | (true, s) =>
    if a.source = clockIdentity ∨ a.grandmaster = clockIdentity then s
    else
      let s := s.onPtp fun x =>
        let heard := ((x.foreign.find? fun f => f.1.source == a.source).map (·.2)).getD 0
        { x with foreign := (x.foreign.filter fun f => f.1.source != a.source) ++ [(a, min 2 (heard + 1))] }
      let s := s.bmca false
      if s.net.ptp.master.map (·.source) = some a.source then
        s.onPtp fun x => { x with utcOffset := if a.utcValid then a.utcOffset else x.utcOffset, tlv := a.syncTlv }
      else s

/-- ANNOUNCE_RECEIPT_TIMEOUT. -/
def announceReceiptTimeout (s : State) : State :=
  let x := s.net.ptp
  if x.cfg.enable = 0 then s
  else
    let s := if x.master.isSome then s.countNet 2 else s
    let s := s.onPtp fun y =>
      { y with foreign := y.foreign.filter fun f => x.master.map (·.source) != some f.1.source, master := none }
    s.bmca true

/-- RATE_MAX (R328). -/
def rateMax : Int := 219902326

/-- The servo on one accepted offset. -/
def Ptp.servo (o : Int) (x : Ptp) : Ptp :=
  let integ := sat (-(rateMax * 65536)) (rateMax * 65536) (x.integ - x.cfg.ki * o)
  let large := decide ((x.cfg.stepThreshold * 65536 : Int) < o ∨ o < -(x.cfg.stepThreshold * 65536 : Int))
  let adj := if large then (if 0 < o then -rateMax else rateMax)
    else roundDiv (sat (-(rateMax * 65536)) (rateMax * 65536) (integ - x.cfg.kp * o)) 65536
  { x with integ, rateAdj := adj }

/-- An offset of a Sync is accepted (R328 to R330). -/
def State.acceptOffset (o : Int) (s : State) : State :=
  let now := s.raster.clock
  let s := (s.countNet 0).onPtp fun x =>
    { x with lastOffset := some o, outliers := 0, offset := o, accepted := min 16 (x.accepted + 1), lastSync := now }
  let s := s.raise 0x098
  let x := s.net.ptp
  match x.mode with
  | .uncalibrated | .holdover =>
    if x.accepted < 16 then s
    else if x.stepDue then
      let s := s.onRaster fun r => { r with clock := Clk.ofUnits (Clk.units r.clock - o), renumber := true }
      let s := s.onPtp fun x => { x with stepDue := false, stepped := true, offset := 0, lastOffset := some 0, goodRun := 0, badRun := 0 }
      (s.notice 0x0A84 [itemI 1 8 (roundDiv (-o) 65536), itemB 2 (clkBytes s.raster.clock)]).ptpMode .tracking
    else (s.onPtp fun x => { x with integ := x.rateAdj * 65536, goodRun := 0, badRun := 0 }).ptpMode .tracking
  | .tracking | .locked =>
    let large := decide ((x.cfg.stepThreshold * 65536 : Int) < o ∨ o < -(x.cfg.stepThreshold * 65536 : Int))
    let s := s.onPtp (Ptp.servo o)
    let s := if large && !x.largeSent then s.notice 0x0A83 [itemI 1 8 (roundDiv o 65536)] else s
    let good := decide (o.natAbs < x.cfg.lockNs * 65536)
    let bad := decide (4 * x.cfg.lockNs * 65536 ≤ o.natAbs)
    let g := if good then min 16 (x.goodRun + 1) else 0
    let b := if bad then min 16 (x.badRun + 1) else 0
    let s := s.onPtp fun x => { x with goodRun := g, badRun := b, largeSent := large }
    if x.mode = .tracking && g == 16 then s.ptpMode .locked
    else if x.mode = .locked && b == 16 then s.ptpMode .tracking
    else s
  | _ => s

/-- A complete Sync: `forward` is t2 − t1 less the corrections. -/
def State.syncComplete (forward : Int) (s : State) : State :=
  let s := s.onPtp fun x => { x with lastForward := some forward }
  let x := s.net.ptp
  match x.pathDelay with
  | none => s
  | some d =>
    let o := forward - d - x.cfg.delayAsym * 65536
    let far := x.lastOffset.any fun l => decide (x.cfg.outlierNs * 65536 < (o - l).natAbs)
    if far && decide (x.outliers < 3) then (s.countNet 1).onPtp fun x => { x with outliers := x.outliers + 1 }
    else s.acceptOffset o

/-- SYNC_RECEIVED: a one-step Sync is complete; a two-step one waits for its Follow_Up. -/
def syncReceived (p : Nat) (m : PtpSync) (s : State) : State :=
  match s.ptpTakes p with
  | (false, s) => s
  | (true, s) =>
    if s.net.ptp.master.map (·.source) ≠ some m.source then s
    else if m.twoStep then s.onPtp fun x => { x with pendingSync := some m }
    else s.syncComplete (m.received - m.origin - m.correction)

/-- FOLLOW_UP_RECEIVED: its origin and correction complete the Sync of the same sequence number. -/
def followUpReceived (p : Nat) (m : PtpSync) (s : State) : State :=
  match s.ptpTakes p with
  | (false, s) => s
  | (true, s) =>
    match s.net.ptp.pendingSync with
    | none => s
    | some y =>
      if y.source ≠ m.source ∨ y.seq ≠ m.seq then s
      else (s.onPtp fun x => { x with pendingSync := none }).syncComplete (y.received - m.origin - y.correction - m.correction)

/-- DELAY_REQ_TIMER. -/
def delayReqTimer (s : State) : State :=
  let x := s.net.ptp
  if x.cfg.enable = 0 || x.master.isNone || !s.portIp x.cfg.port then s
  else (s.onPtp fun y =>
    { y with delayReq := some (y.reqSeq, Clk.units s.raster.clock), reqSeq := (y.reqSeq + 1) % 65536 }).ipSend x.cfg.port
      (.ptpDelayReq (x.cfg.delayUnicast == 1) x.reqSeq)

/-- DELAY_RESP_RECEIVED: the mean path delay. -/
def delayRespReceived (p : Nat) (m : PtpDelayResp) (s : State) : State :=
  match s.ptpTakes p with
  | (false, s) => s
  | (true, s) =>
    match s.net.ptp.delayReq, s.net.ptp.lastForward with
    | some (seq, t3), some f =>
      if s.net.ptp.master.map (·.source) ≠ some m.source ∨ seq ≠ m.seq then s
      else s.onPtp fun x => { x with delayReq := none, pathDelay := some ((f + (m.received - t3 - m.correction)) / 2) }
    | _, _ => s

/-- SYNC_TX_TIMER: as master, a one-step Sync from the Device Clock. -/
def syncTxTimer (s : State) : State :=
  let x := s.net.ptp
  if x.mode ≠ .master then s
  else (s.onPtp fun y => { y with syncSeq := (y.syncSeq + 1) % 65536 }).ipSend x.cfg.port (.ptpSync x.syncSeq s.raster.clock)

/-- ANNOUNCE_TX_TIMER. -/
def announceTxTimer (s : State) : State :=
  let x := s.net.ptp
  if x.mode ≠ .master then s
  else (s.onPtp fun y => { y with announceSeq := (y.announceSeq + 1) % 65536 }).ipSend x.cfg.port (.ptpAnnounce x.announceSeq x.own)

/-- DELAY_REQ_RECEIVED: as grandmaster, answered with its receive stamp. -/
def delayReqReceived (p src seq : Nat) (s : State) : State :=
  match s.ptpTakes p with
  | (false, s) => s
  | (true, s) => if s.net.ptp.mode ≠ .master then s else s.ipSend p (.ptpDelayResp src seq s.raster.clock)

/-- What a write of PTP_ENABLE does: enabling begins to listen, disabling puts the clock into HOLDOVER (R331). -/
def State.ptpEnabled (was : Nat) (s : State) : State :=
  let now := s.net.ptp.cfg.enable
  if was = now then (if now = 1 then s.bmca false else s)
  else if now = 1 then (s.onPtp fun x => { x with foreign := [], master := none, accepted := 0 }).ptpMode .listening
  else (s.onPtp fun x => { x with foreign := [], master := none }).ptpMode .holdover

/-- PTP_RESTEP. -/
def State.ptpRestep (s : State) : State :=
  (s.onPtp fun x => { x with stepDue := true, accepted := 0, lastOffset := none, outliers := 0 }).ptpMode .uncalibrated

/-! ## RTP (R332 to R336) -/

def rtpUnit (n : Nat) : Nat := 0x0A10 + n
def RtpStream.queue (x : RtpStream) (s : State) : Handle := BitVec.ofNat 32 (s.shf x.cfg.context).cfg.force.queue

/-- Bytes of the RTP header and its extension. -/
def RtpConfig.head (c : RtpConfig) : Nat := if c.extId = 0 then 12 else 24

/-- P (R333). -/
def State.rtpP (c : RtpConfig) (s : State) : Nat := ((s.netPort? c.port).map fun x => x.cfg.mtu).getD 1500 - 28 - c.head

/-- The fragmentation units of a large NAL unit: its type in the FU header, the body in pieces of P − 3. -/
def fuUnits (p : Nat) (u : List Byte) : List (List Byte) :=
  let b0 := (u.headD 0).toNat
  let ty := b0 / 2 % 64
  let head := toLe 1 (b0 &&& 0x81 ||| 49 * 2) ++ (u.drop 1).take 1
  let parts := chunks (p - 3) u.length (u.drop 2)
  (indexed parts).map fun ip =>
    head ++ toLe 1 (ty + (if ip.1 = 0 then 128 else 0) + (if ip.1 + 1 = parts.length then 64 else 0)) ++ ip.2

/-- The payloads of an AU, each with the marker (R333). -/
def auPayloads (p : Nat) (au : List Byte) : List (List Byte × Bool) :=
  let us := (nalUnits [] au).filter fun u => nalType u != 35 && nalType u != 38
  let ps := us.flatMap fun u => if u.length ≤ p then [u] else fuUnits p u
  (indexed ps).map fun ip => (ip.2, ip.1 + 1 == ps.length)

/-- The RTP timestamp of a Device Clock value (R334). -/
def rtpStamp (c : Clk) : Nat := (roundDiv (90000 * Clk.units c) (65536 * 1000000000) % (2 ^ 32 : Int)).toNat

/-- One RTP packet (R333, R334). -/
def rtpPacket (c : RtpConfig) (seq : Nat) (a : RtpAu) (payload : List Byte) (marker : Bool) : List Byte :=
  toLe 1 (0x80 + (if c.extId = 0 then 0 else 0x10)) ++ toLe 1 (c.payloadType + (if marker then 128 else 0)) ++ toBe 2 seq ++
    toBe 4 a.stamp ++ toBe 4 c.ssrc ++
    (if c.extId = 0 then [] else
      toBe 2 0xBEDE ++ toBe 2 2 ++ toLe 1 (c.extId * 16 + 3) ++ toBe 4 a.frame.toNat ++ toLe 1 (c.extId * 16 + 1) ++ toBe 2 a.flags) ++
    payload

/-- Releases the entry of an AU. -/
def State.rtpRelease (n entry : Nat) (s : State) : State :=
  match s.net.streams[n]? with
  | none => s
  | some x => s.letGo (x.queue s) (rtpUnit n) entry

/-- An AU is released unsent: 1 = link, 2 = ARP, 3 = late (R335). -/
def State.rtpDrop (n entry cause : Nat) (s : State) : State :=
  ((s.rtpRelease n entry).onRtp n fun x => { x with cnt := bumpAt x.cnt 2 }).onNet fun y => { y with drops := y.drops ++ [(n, cause)] }

/-- The stream's stop is complete: it releases and detaches. -/
def State.rtpEnd (n : Nat) (s : State) : State :=
  match s.net.streams[n]? with
  | none => s
  | some x => (s.ringLeave (x.queue s) (rtpUnit n)).onRtp n fun x => { x with running := false, set := false, stopAt := none, aus := [] }

/-- Takes the AUs that have been published since: a stream that does not run, or does not yet send, releases them. -/
def State.rtpTake (n : Nat) (s : State) : State :=
  match s.net.streams[n]? with
  | none => s
  | some x =>
    if !x.set then s
    else
      let h := x.queue s
      let s := if (s.readerOf h (rtpUnit n)).isSome then s else (s.ringAttach h (rtpUnit n)).2
      let new := (s.unread h (rtpUnit n)).filter fun e => !(x.aus.any fun a => a.entry == e.id)
      let s := new.foldl (fun s e =>
        let bs := s.entryBytes h e
        let fr : Frame := BitVec.ofNat 32 (leNat ((bs.drop 8).take 4))
        let sends := x.running && Frame.atOrAfter fr x.firstFrame && x.stopAt.all fun f => Frame.passed fr f
        if !sends then s.letGo h (rtpUnit n) e.id
        else if !s.portIp x.cfg.port then s.rtpDrop n e.id 1
        else if !((s.netPort? x.cfg.port).any fun p => p.resolves x.cfg.destAddr) then
          ((s.rtpDrop n e.id 2).ipSend x.cfg.port
            (.arpRequest (((s.netPort? x.cfg.port).map fun p => p.cfg.hop x.cfg.destAddr).getD 0)))
        else
          let fl := leNat ((bs.drop 20).take 2) % 8192 + 8192 * (leNat ((bs.drop 22).take 1) % 8)
          let t := ((s.net.stamps.find? fun st => st.1 == fr).map (·.2)).getD (clkOf ((bs.drop 28).take 12))
          let a : RtpAu := { entry := e.id, frame := fr, stamp := rtpStamp t, flags := fl
                             payloads := auPayloads (s.rtpP x.cfg) ((bs.drop 80).take (leNat ((bs.drop 24).take 4))) }
          s.onRtp n fun x => { x with aus := x.aus ++ [a] }) s
      match s.net.streams[n]? with
      | none => s
      | some y =>
        match y.stopAt with
        | none => s
        | some f =>
          let ctx := s.shf y.cfg.context
          let seen := new.any fun e => Frame.atOrAfter (BitVec.ofNat 32 (leNat (((s.entryBytes h e).drop 8).take 4))) f
          if y.running && y.aus.isEmpty && (seen || !ctx.running || Frame.atOrAfter (ctx.lastFrame + 1) f) then s.rtpEnd n else s

/-- Detaches a stream from every ring but its context's QUEUE, and from that one while it is not set (R332). -/
def State.rtpDetach (n : Nat) (s : State) : State :=
  match s.net.streams[n]? with
  | none => s
  | some x =>
    let keep := if x.set then x.queue s else 0
    (s.granary.buffers.filter fun b => b.handle != keep && (s.readerOf b.handle (rtpUnit n)).isSome).foldl
      (fun s b => s.ringLeave b.handle (rtpUnit n)) s

/-- Every stream takes what has been published. -/
def State.rtpWork (s : State) : State := (List.range 16).foldl (fun s n => (s.rtpDetach n).rtpTake n) s

/-- RTP_PACKET_SEND: the next paced packet; the entry is released after an AU's last packet. -/
def rtpPacketSend (n : Nat) (s : State) : State :=
  match s.net.streams[n]? with
  | none => s
  | some x =>
    match x.aus with
    | [] => s
    | a :: rest =>
      match a.payloads with
      | [] => ((s.rtpRelease n a.entry).onRtp n fun x => { x with aus := rest, cnt := bumpAt x.cnt 0 }).rtpTake n
      | (p, m) :: ps =>
        let s := s.ipSend x.cfg.port (.udp x.cfg.destAddr x.cfg.destPort x.cfg.ttl x.cfg.dscp (rtpPacket x.cfg x.seq a p m))
        let s := s.onRtp n fun x => { x with seq := (x.seq + 1) % 65536, packets := (x.packets + 1) % 2 ^ 32
                                             octets := (x.octets + p.length) % 2 ^ 32, cnt := bumpAt x.cnt 1
                                             aus := { a with payloads := ps, begun := true } :: rest }
        if ps.isEmpty then
          ((s.rtpRelease n a.entry).onRtp n fun x => { x with aus := rest, cnt := bumpAt x.cnt 0 }).rtpTake n
        else s

/-- RTP_AU_LATE: the oldest AU is dropped. -/
def rtpAuLate (n : Nat) (s : State) : State :=
  match s.net.streams[n]? with
  | none => s
  | some x =>
    match x.aus with
    | [] => s
    | a :: rest => ((s.onRtp n fun x => { x with aus := rest }).rtpDrop n a.entry 3).rtpTake n

/-- RTCP_SENDER_REPORT (R336). -/
def rtcpSenderReport (n : Nat) (s : State) : State :=
  match s.net.streams[n]? with
  | none => s
  | some x =>
    if !x.running then s
    else
      let c := s.raster.clock
      let sec := ((c.sec.toNat : Int) - s.net.ptp.utcOffset + 2208988800) % (2 ^ 32 : Int)
      let frac := (c.ns.toNat * 65536 + c.frac.toNat) * 2 ^ 32 / (1000000000 * 65536)
      let bs := toLe 1 0x80 ++ toLe 1 200 ++ toBe 2 6 ++ toBe 4 x.cfg.ssrc ++ toBe 4 sec.toNat ++ toBe 4 frac ++
        toBe 4 (rtpStamp c) ++ toBe 4 x.packets ++ toBe 4 x.octets
      s.ipSend x.cfg.port (.udp x.cfg.destAddr (x.cfg.destPort + 1) x.cfg.ttl x.cfg.dscp bs)

/-- RTCP_RECEIVED: counted among the frames received, and not used. -/
def rtcpReceived (p : Nat) (s : State) : State := if s.portIp p then s.countPort p 0 else s

/-- Line rate of a port in bit/s. -/
def NetPortConfig.lineRate (c : NetPortConfig) : Nat := if c.speed = 0 then 10000000000 else 25000000000

/-- Whether a start of stream `n` would pass 90 % of its port's line rate (R332). -/
def State.rateExceeded (n : Nat) (s : State) : Bool :=
  match s.net.streams[n]? with
  | none => false
  | some x =>
    let sum := ((indexed s.net.streams).map fun iy =>
      if iy.1 = n ∨ (iy.2.running && iy.2.cfg.port == x.cfg.port) then iy.2.cfg.maxRate else 0).sum
    decide (((s.netPort? x.cfg.port).map fun p => p.cfg.lineRate).getD 0 * 9 < sum * 10)

/-- A stream starts with the first AU whose FRAME is at or after `f`. -/
def State.rtpStart (n : Nat) (f : Frame) (s : State) : State :=
  (s.onRtp n fun x => if x.running then x else { x with running := true, set := true, firstFrame := f, stopAt := none }).rtpTake n

/-- A stream sends every AU before `f`, then ends. -/
def State.rtpStop (n : Nat) (f : Frame) (s : State) : State :=
  (s.onRtp n fun x => if x.running then { x with stopAt := some f } else x).rtpTake n

/-- The frame starts: its stamp is kept, and the drops of the frame that ended are reported. -/
def State.netFrameStart (ended : Frame) (s : State) : State :=
  let s := if s.net.drops.isEmpty then s
    else s.notice 0x0A85 ([itemN 1 4 ended.toNat] ++ s.net.drops.map fun d => itemB 2 (toLe 1 d.1 ++ toLe 1 d.2))
  (s.onNet fun n => { n with drops := [], stamps := ((s.raster.frame, s.raster.clock) :: n.stamps).take 256 }).rtpWork

/-- Clears the counters of the three masks (R337). -/
def clearNet (net ports streams : Nat) (s : State) : State :=
  s.onNet fun n =>
    { n with cnt := clearMasked n.cnt net
             ports := (indexed n.ports).map fun ix => if ports.testBit ix.1 then { ix.2 with cnt := clearAll ix.2.cnt } else ix.2
             streams := (indexed n.streams).map fun ix => if streams.testBit ix.1 then { ix.2 with cnt := clearAll ix.2.cnt } else ix.2 }

/-! ## Status (R339) -/

def State.netStatus (s : State) : Word :=
  fieldsWord (((indexed s.net.streams).map fun ix => (bit ix.2.running, 16 + ix.1)) ++
    ((indexed s.net.transports).map fun ix => (bit ix.2.client.isSome, 12 + ix.1)) ++
    (indexed s.net.ports).map fun ix => (bit (ix.2.linkUp && ix.2.cfg.portEnable == 1), ix.1))

def Ptp.status (x : Ptp) : Word :=
  fieldsWord [(x.cfg.domain, 16), (bit x.stepped, 11), (x.cfg.masterCapable, 10), (x.cfg.port, 9), (x.mode.code, 0)]

def NetPort.status (x : NetPort) : Word :=
  let up := x.linkUp && x.cfg.portEnable == 1
  fieldsWord [(x.cfg.fec, 10), (if up then x.cfg.speed + 1 else 0, 8), (x.cfg.portEnable, 1), (bit up, 0)]

def RtpStream.status (x : RtpStream) : Word :=
  fieldsWord [(x.seq, 16), (x.cfg.context, 8), (x.cfg.port, 1), (bit x.running, 0)]

/-- o in ns, saturating (R339). -/
def Ptp.offsetNs (x : Ptp) : Int := sat (-(2 ^ 31 - 1)) (2 ^ 31 - 1) (roundDiv x.offset 65536)

end Sys2Proof.Machine
end

