-- ==== Sys2Proof/Machine/DecoderOps.lean ====
section
/-!
DEFINITION. Effects of the review decoder's commands (09_review_decoding.md).
-/

namespace Sys2Proof.Machine

def State.onDecoder (f : DecoderState → DecoderState) (s : State) : State := { s with decoder := f s.decoder }
def State.onDec (c : Nat) (f : DecContext → DecContext) (s : State) : State :=
  s.onDecoder fun d => { d with ctxs := modAt d.ctxs c f }
def State.dec (c : Nat) (s : State) : DecContext := s.decoder.ctxs.getD c {}

/-- Adds `n` to counter `k` of a context: 0 = PICTURES, 1 = ERRORS, 2 = CONCEALED, 3 = SUBSTITUTED, 4 = LOST,
5 = DISCARDED. -/
def State.countDec (c k n : Nat) (s : State) : State := s.onDec c fun x => { x with cnt := addAt x.cnt k n }

/-- A notice of context `c`, sent only while its NOTIFY is 1 (R243). -/
def State.decNotice (c op : Nat) (items : List Item) (s : State) : State :=
  if (s.dec c).cfg.notify = 1 then s.notice op items else s

/-! ## Buffers (R231 to R233) -/

/-- Layout of a code-plane picture with ENCODING 1 (R184). -/
def decLayout (w h chroma : Nat) : Layout := slotLayout { outW := w, outH := h, chroma } 1

/-- S_d of R231. -/
def DecConfig.slotSize (c : DecConfig) : Nat :=
  (decLayout c.maxW c.maxH c.maxChroma).size +
    roundUp (roundUp c.maxW 64 / 16 * (roundUp c.maxH 64 / 16) * 16) 4096

/-- POOL keeps R231: a buffer of role DECODE_POOL of at least NBUF × S_d bytes. -/
def State.decPoolOk (c : DecConfig) (s : State) : Bool :=
  (s.buffer? (BitVec.ofNat 32 c.pool)).any fun b => b.role == 9 && decide (c.nbuf * c.slotSize ≤ b.size)

/-- The buffers that a context has. -/
def DecContext.own (x : DecContext) : List (Nat × DecSlot) := indexed (x.slots.take x.cfg.nbuf)

/-- A buffer of the decoded picture buffer: a reference or awaiting output. -/
def DecSlot.inDpb (k : DecSlot) : Bool := k.st != .free && k.st != .decoding && (k.isRef || k.waiting)

def State.onDecSlot (c k : Nat) (f : DecSlot → DecSlot) (s : State) : State :=
  s.onDec c fun x => { x with slots := modAt x.slots k f }

/-- A buffer is no longer a reference. -/
def DecSlot.unref (k : DecSlot) : DecSlot :=
  let k := { k with isRef := false }
  match k.st with
  | .heldRef => { k with st := .free, planes := [] }
  | .reference => if k.waiting then k else { k with st := .free, planes := [] }
  | _ => k

/-- A buffer awaiting output is discarded. -/
def DecSlot.drop (k : DecSlot) : DecSlot :=
  let k := { k with waiting := false }
  if k.st == .reference && !k.isRef then { k with st := .free, planes := [] } else k

/-- The record of R233. -/
def decRecord (c : Nat) (k : DecSlot) (done : Clk) : List Byte :=
  let lay := decLayout k.cropW k.cropH k.chroma
  toLe 2 0x0601 ++ toLe 2 1 ++ toLe 4 k.frame ++ toLeInt 4 k.poc ++ toLe 2 k.flags ++ toLe 2 k.auFlags ++ toLe 1 c ++
    toLe 1 k.chroma ++ toLe 1 k.bitDepth ++ toLe 1 0 ++ toLe 4 k.concealed ++ toLe 2 k.cropW ++ toLe 2 k.cropH ++
    toLe 4 lay.pitch1 ++ toLe 4 lay.pitch2 ++ toLe 4 (lay.offsets.getD 1 0) ++ clkBytes done ++ List.replicate 4044 0

/-- A picture is output: its buffer becomes READY with its record (R232, R233). -/
def State.decOutput (c k : Nat) (s : State) : State :=
  let x := s.dec c
  match x.slots[k]? with
  | none => s
  | some sl =>
    let now := s.raster.clock
    let s := s.putBytes (BitVec.ofNat 32 x.cfg.pool) (k * x.cfg.slotSize) (decRecord c sl now)
    let s := s.onDecSlot c k fun z => { z with st := .ready, waiting := false }
    let s := (s.onDec c fun x => { x with outputs := x.outputs + 1, lastPoc := sl.poc, lastFlags := sl.flags }).countDec c 0 1
    (s.onDecoder fun d => { d with readyTime := now }).decNotice c 0x0680
      [itemN 1 1 c, itemN 2 1 k, itemI 3 4 sl.poc, itemN 4 4 sl.frame, itemN 5 2 sl.flags]

/-- The picture awaiting output with the lowest POC. DESIGN CHOICE, unsafe (log entry 37): AFTER_SKIP and the bumping
order. -/
def DecContext.nextOutput (x : DecContext) : Option Nat :=
  (x.own.foldl (fun acc ks =>
    if !ks.2.waiting then acc
    else match acc with
      | none => some ks
      | some b => if ks.2.poc < b.2.poc then some ks else acc) none).map (·.1)

/-- Bumping (H.265 Annex C.5.2): outputs pictures while `more` asks for it. DESIGN CHOICE, unsafe (log entry 37):
AFTER_SKIP and the bumping order. -/
def State.bump (c : Nat) (more : DecContext → Bool) : Nat → State → State
  | 0, s => s
  | n + 1, s =>
    let x := s.dec c
    if more x then match x.nextOutput with
      | none => s
      | some k => State.bump c more n (s.decOutput c k)
    else s

/-- Outputs every picture that is still awaiting output (R236). -/
def State.flush (c : Nat) (s : State) : State := s.bump c (fun _ => true) 32

/-- The two conditions of C.5.2 that ask for another output: too many pictures wait, or one has waited too long. -/
def DecContext.crowded (p : ParsedPicture) (x : DecContext) : Bool :=
  let waiting := x.own.filter fun ks => ks.2.waiting
  decide (p.maxReorder < waiting.length) || (p.maxLatency != 0 && waiting.any fun ks => decide (p.maxLatency ≤ ks.2.latency))

/-! ## Input (R234 to R236) -/

/-- The bytes of a chunk from `pos` on; `none` for a byte in a block returned poisoned. -/
def State.chunkBytes (k : Chunk) (pos : Nat) (s : State) : List (Option Byte) :=
  match s.buffer? k.handle with
  | none => List.replicate (k.length - pos) none
  | some b => (indexed (Mem.readN b.data (k.offset + pos) (k.length - pos))).map fun ib =>
      if b.poison.contains ((k.offset + pos + ib.1) / 64) then none else some ib.2

/-- The queued input up to the first chunk with END, and whether it ends there. -/
def State.gatherInput (s : State) : List Chunk → Nat → List (Option Byte) × Bool
  | [], _ => ([], false)
  | k :: rest, pos =>
    let bs := s.chunkBytes k pos
    if k.final then (bs, true)
    else let (more, e) := s.gatherInput rest 0
      (bs ++ more, e)

/-- A little-endian number in the input; a poisoned byte reads 0. -/
def leIn (bs : List (Option Byte)) (off n : Nat) : Nat := leNat (((bs.drop off).take n).map fun b => b.getD 0)

/-- First place at or after `i` where the bytes `pat` stand. -/
def findBytes (pat : List Byte) : List (Option Byte) → Nat → Option Nat
  | [], _ => none
  | b :: rest, i => if ((b :: rest).take pat.length) == pat.map some then some i else findBytes pat rest (i + 1)

/-- What a context reads next. -/
inductive DecNext where
  /-- nothing whole is queued -/
  | wait
  /-- the input is read to its END -/
  | finish
  /-- bytes that hold nothing to decode; afterwards the chunk reads as Annex B or not -/
  | skip (n : Nat) (annexB : Bool)
  /-- a picture, the bytes of input it uses up, the bytes to decode, FRAME and AU_FLAGS -/
  | picture (p : ParsedPicture) (n : Nat) (input : List (Option Byte)) (frame auFlags : Nat)

/-- What context `x` reads next (R234, R235). -/
def State.decNext (x : DecContext) (s : State) : DecNext :=
  let (bs, ended) := s.gatherInput x.chunks x.pos
  let inChunk := ((x.chunks.head?).map fun k => k.length - x.pos).getD 0
  if bs.isEmpty then (if ended then .finish else .wait)
  else if x.annexB then
    let part := bs.take inChunk
    match Config.parsePicture x.sets part true with
    | none => .skip part.length false
    | some p => .picture p (max 1 (min p.used part.length)) (part.take p.used) 0xFFFFFFFF 0
  else if x.cfg.format = 1 then
    match Config.parsePicture x.sets bs ended with
    | none => if ended then .skip bs.length false else .wait
    | some p => .picture p (max 1 (min p.used bs.length)) (bs.take p.used) 0xFFFFFFFF 0
  else if bs.length < 8 then (if ended then .skip bs.length false else .wait)
  else
    let len := leIn bs 4 4
    if leIn bs 0 2 ≠ 0x0501 ∨ len < 80 ∨ len % 16 ≠ 0 then
      let part := bs.take inChunk
      match findBytes [0, 0, 0, 1] part 0 with
      | none => .skip (max 1 part.length) false
      | some i => match findBytes [0, 0, 1, 0x46] (part.drop i) i with
        | none => .skip (max 1 part.length) false
        | some j => .skip j true
    else if bs.length < len ∧ !ended then .wait
    else if leIn bs 12 1 ≠ x.cfg.source ∨ bs.length < 80 then .skip (min len bs.length) false
    else
      let au := ((bs.take len).drop 80).take (leIn bs 24 4)
      match Config.parsePicture x.sets au true with
      | none => .skip (min len bs.length) false
      | some p => .picture p (min len bs.length) au (leIn bs 8 4) (leIn bs 20 2)

/-- Chunks read to their end leave the queue; an END chunk leaves it in `decFinish`. -/
def State.dropChunks (c : Nat) : Nat → State → State
  | 0, s => s
  | n + 1, s =>
    let x := s.dec c
    match x.chunks with
    | [] => s
    | k :: rest =>
      if k.final ∨ x.pos < k.length then s
      else
        let s := s.onDec c fun x => { x with chunks := rest, pos := x.pos - k.length, annexB := false }
        State.dropChunks c n (s.decNotice c 0x0681 [itemN 1 1 c, itemN 2 4 k.handle.toNat, itemN 3 8 k.offset])

/-- Bytes of input are read. -/
def State.consume (c n : Nat) (s : State) : State :=
  (s.onDec c fun x => { x with pos := x.pos + n }).dropChunks c 64

/-- How decoding begins at a start, after END and after an unsupported stream (R238). -/
def DecContext.begin_ (x : DecContext) : DecContext :=
  { x with first := true, skipping := x.cfg.startMode = 0, discarded := false, raslSkip := false, annexB := false }

/-- END has been read (R236): the pictures still waiting are output, and the context keeps running. -/
def State.decFinish (c : Nat) (s : State) : State :=
  let s := s.flush c
  let s := match (s.dec c).chunks with
    | [] => s
    | k :: rest => (s.onDec c fun x => { x with chunks := rest, pos := 0 }).decNotice c 0x0681
        [itemN 1 1 c, itemN 2 4 k.handle.toNat, itemN 3 8 k.offset]
  let s := s.decNotice c 0x0684 [itemN 1 1 c, itemN 2 4 (s.dec c).outputs]
  s.onDec c fun x => { x.begin_ with unsupported := false, sets := [], slots := x.slots.map DecSlot.unref }

/-- Why a picture's stream is unsupported (R237, R243), 0 if it is not. -/
def DecConfig.unsupported (c : DecConfig) (p : ParsedPicture) : Nat :=
  if p.outside ≠ 0 then p.outside
  else if c.maxW < p.width ∨ c.maxH < p.height ∨ p.chroma < c.maxChroma then 3
  else if c.nbuf - 2 < p.maxBuffering then 4 else 0

/-- The CTUs that a picture's errors lose. -/
def picLost (p : ParsedPicture) : List Nat := (p.errors.flatMap (·.2)).eraseDups

/-- A picture that is not decoded: the state after its input is read; `none` for one that is decoded (R237, R238). DESIGN
CHOICE, unsafe (log entry 37): AFTER_SKIP and the bumping order. -/
def State.decDiscard (c : Nat) (p : ParsedPicture) (s : State) : Option State :=
  let x := s.dec c
  let why := x.cfg.unsupported p
  if p.headerLost then
    some ((s.countDec c 1 p.errors.length).countDec c 4 1 |>.decNotice c 0x0682
      [itemN 1 1 c, itemN 2 4 0x80000000, itemN 3 1 ((p.errors.map (·.1)).headD 2), itemN 4 4 (picLost p).length])
  else if why ≠ 0 ∧ (p.irap ∨ !x.unsupported) then
    let s := s.onDec c fun x => { x.begin_ with unsupported := true, skipping := true, discarded := true }
    let s := (s.countDec c 1 1).decNotice c 0x0682 [itemN 1 1 c, itemI 2 4 p.poc, itemN 3 1 6, itemN 4 4 0]
    some ((s.decNotice c 0x0683 [itemN 1 1 c, itemN 2 1 why]).countDec c 5 1)
  else if x.skipping ∧ !p.irap ∨ x.unsupported ∧ !p.irap ∨ x.raslSkip ∧ p.rasl then
    some ((s.onDec c fun x => { x with discarded := true }).countDec c 5 1)
  else none

/-- Reads a context's input up to the next picture to decode. -/
def State.decAdvance (c : Nat) : Nat → State → State
  | 0, s => s
  | n + 1, s =>
    let x := s.dec c
    if !x.running || s.decoder.job.any (fun j => j.ctx == c) then s
    else match s.decNext x with
      | .wait => s
      | .finish => State.decAdvance c n (s.decFinish c)
      | .skip k a => State.decAdvance c n ((s.onDec c fun x => { x with annexB := a }).consume c k)
      | .picture p k _ _ _ => match s.decDiscard c p with
        | none => s
        | some s => State.decAdvance c n ((s.onDec c fun x => { x with sets := p.sets }).consume c k)

/-- Reads on in context `c`; the fuel covers every byte queued. -/
def State.decRead (c : Nat) (s : State) : State :=
  let s := s.dropChunks c 64
  s.decAdvance c (((s.dec c).chunks.map fun k => k.length + 1).sum + 1)

/-! ## Decoding (R229, R238 to R240) -/

/-- The picture that a context would decode now, when it has a FREE buffer for it. -/
def State.decodable (c : Nat) (s : State) : Option (ParsedPicture × Nat × List (Option Byte) × Nat × Nat × Nat) :=
  let x := s.dec c
  if !x.running then none
  else match s.decNext x with
    | .picture p n bs f a => if (s.decDiscard c p).isSome then none
        else (x.own.find? fun ks => ks.2.st == .free).map fun ks => (p, n, bs, f, a, ks.1)
    | _ => none

/-- Distance of two POCs. -/
def pocDist (a b : Int) : Nat := (a - b).natAbs

/-- The picture of the decoded picture buffer whose POC is nearest, ties to the lower (R239). -/
def DecContext.nearest (poc : Int) (x : DecContext) : Option DecSlot :=
  (x.own.filter fun ks => ks.2.inDpb).foldl (fun (acc : Option DecSlot) ks =>
    match acc with
    | none => some ks.2
    | some b =>
      let d := pocDist ks.2.poc poc
      let e := pocDist b.poc poc
      if d < e ∨ d = e ∧ ks.2.poc < b.poc then some ks.2 else some b) none

/-- Width and height of plane `k` of a picture. -/
def picPlane (p : ParsedPicture) (k : Nat) : Nat × Nat :=
  if k = 0 then (p.width, p.height)
  else (if p.chroma = 0 then p.width else (p.width + 1) / 2, if p.chroma = 2 then (p.height + 1) / 2 else p.height)

/-- A plane with every sample at 2^(BitDepth − 1). -/
def picGrey (p : ParsedPicture) : List (List (List Nat)) :=
  (List.range 3).map fun k =>
    let d := picPlane p k
    List.replicate d.2 (List.replicate d.1 (2 ^ (p.bitDepth - 1)))

/-- Tainted (R240): any of bits 0 to 5. -/
def tainted (flags : Nat) : Bool := flags % 64 != 0

/-- The core begins a picture (R229, R232, R238, R239). -/
def State.decBegin (c : Nat) (p : ParsedPicture) (used : Nat) (input : List (Option Byte)) (frame auFlags slot : Nat)
    (s : State) : State :=
  let x := s.dec c
  let start := x.first && p.irap
  let fl := if x.discarded then 64 else 0
  let rasl := if p.irap then x.first || x.unsupported else x.raslSkip
  let s := s.onDec c fun x =>
    { x with first := false, skipping := false, unsupported := false, discarded := false, raslSkip := rasl, sets := p.sets }
  let refs := if start then [] else p.refs
  let s := s.onDec c fun x =>
    { x with slots := x.slots.map fun k => if k.isRef && !refs.contains k.poc then k.unref else k }
  let s := if p.newSequence || start then
      if p.noOutputPrior then s.onDec c fun x => { x with slots := x.slots.map fun k => if k.waiting then k.drop else k }
      else s.flush c
    else s.bump c (fun x => x.crowded p ||
      decide (p.maxBuffering ≤ (x.own.filter fun ks => ks.2.inDpb).length)) 32
  let x := s.dec c
  let found (r : Int) : Option DecSlot := ((x.own.map (·.2)).find? fun k => k.inDpb && k.isRef && k.poc == r)
  let got := refs.map fun r => match found r with
    | some k => (r, some k, false)
    | none => (r, x.nearest r, true)
  let missing := got.filter fun g => g.2.2
  let flags := fl +
    (if missing.any fun g => g.2.1.isSome then 4 else 0) + (if missing.any fun g => g.2.1.isNone then 8 else 0) +
    (if got.any fun g => p.listed.contains g.1 && (g.2.2 || g.2.1.any fun k => tainted k.flags) then 16 else 0) +
    (if input.contains none || (s.buffer? (BitVec.ofNat 32 x.cfg.pool)).any (fun b => x.own.any fun ks =>
        ks.2.inDpb && p.listed.contains ks.2.poc && b.poisoned (ks.1 * x.cfg.slotSize) x.cfg.slotSize) then 32 else 0)
  let job : DecJob :=
    { ctx := c, slot, pic := p, input, used, frame, auFlags, flags, substituted := missing.length
      refs := got.map fun g => (g.1, (g.2.1.map fun k => k.planes).getD (picGrey p)) }
  let switch := if s.decoder.lastCtx.any fun l => l != c then 12000 else 0
  let s := s.onDecSlot c slot fun _ => { st := .decoding }
  (s.onDec c fun x => { x with served := s.decoder.served + 1 }).onDecoder fun d =>
    { d with job := some job, recovering := false, lastCtx := some c, served := d.served + 1
             busy := d.busy + ceilDiv (p.width * p.height * 10) 22 + switch }

/-- DEC_PICTURE_START: the free core takes the next decodable picture by PRIORITY, then by the longest wait (R229). -/
def decPictureStart (s : State) : State :=
  if s.decoder.job.isSome then s
  else
    let s := (List.range 8).foldl (fun s c => s.decRead c) s
    let ready := (List.range 8).filter fun c => (s.decodable c).isSome
    let best := ready.foldl (fun (acc : Option Nat) c => match acc with
      | none => some c
      | some b =>
        let pc := (s.dec c).cfg.priority
        let pb := (s.dec b).cfg.priority
        if pb < pc ∨ pb = pc ∧ (s.dec c).served < (s.dec b).served then some c else some b) none
    match best with
    | none => s
    | some c => match s.decodable c with
      | none => s
      | some (p, n, bs, f, a, k) => s.decBegin c p n bs f a k

/-! ## Concealment (R239) -/

/-- CTU size of plane `k`, across and down. -/
def picCtu (p : ParsedPicture) (k : Nat) : Nat × Nat :=
  if k = 0 then (p.ctb, p.ctb)
  else (if p.chroma = 0 then p.ctb else p.ctb / 2, if p.chroma = 2 then p.ctb / 2 else p.ctb)

/-- A spatially concealed sample: between the last row of the nearest decoded CTU above and the first row of the
nearest decoded CTU below in its column. -/
def spatialSample (plane : List (List Nat)) (lostRow : Nat → Bool) (ch h y x : Nat) (grey : Nat) : Nat :=
  let cy := y / ch
  let above := ((List.range cy).reverse.find? fun r => !lostRow r).map fun r => r * ch + ch - 1
  let below := ((List.range (ceilDiv h ch)).find? fun r => decide (cy < r) && !lostRow r).map fun r => r * ch
  let at_ (r : Nat) : Nat := (plane.getD r []).getD x 0
  match above, below with
  | some a, some b => (roundDiv (((at_ a * (b - y) + at_ b * (y - a) : Nat)) : Int) (b - a)).toNat
  | some a, none => at_ a
  | none, some b => at_ b
  | none, none => grey

/-- The planes of a picture with its lost CTUs repaired from the nearest reference, or spatially. -/
def concealPicture (p : ParsedPicture) (lost : List Nat) (near : Option (List (List (List Nat)))) (planes : List (List (List Nat))) :
    List (List (List Nat)) :=
  if lost.isEmpty then planes
  else
    let cols := ceilDiv p.width p.ctb
    (List.range 3).map fun k =>
      let plane := planes.getD k []
      let (cw, ch) := picCtu p k
      let d := picPlane p k
      let gone (cy cx : Nat) : Bool := lost.contains (cy * cols + cx)
      (List.range d.2).map fun y => (List.range d.1).map fun x =>
        if !gone (y / ch) (x / cw) then (plane.getD y []).getD x 0
        else match near with
          | some q => ((q.getD k []).getD y []).getD x 0
          | none => spatialSample plane (fun r => gone r (x / cw)) ch d.2 y x (2 ^ (p.bitDepth - 1))

/-- The bytes of the cropped planes from their offsets on: codes shifted left by 16 − BitDepth, CB and CR interleaved. -/
def decPlaneBytes (p : ParsedPicture) (planes : List (List (List Nat))) : List (Nat × List Byte) :=
  let lay := decLayout p.cropW p.cropH p.chroma
  let code (v : Nat) : List Byte := toLe 2 (v * 2 ^ (16 - p.bitDepth))
  let sx := if p.chroma = 0 then 1 else 2
  let sy := if p.chroma = 2 then 2 else 1
  let cut (k : Nat) : List (List Nat) :=
    if k = 0 then (((planes.getD 0 []).drop p.top).take p.cropH).map fun r => (r.drop p.left).take p.cropW
    else (((planes.getD k []).drop (p.top / sy)).take (ceilDiv p.cropH sy)).map fun r =>
      (r.drop (p.left / sx)).take (ceilDiv p.cropW sx)
  [(lay.offsets.getD 0 0, (cut 0).flatMap fun r => padRow lay.pitch1 (r.flatMap code)),
   (lay.offsets.getD 1 0, ((cut 1).zip (cut 2)).flatMap fun bc =>
      padRow lay.pitch2 ((bc.1.zip bc.2).flatMap fun v => code v.1 ++ code v.2))]

/-- The picture in the core ends, with `more` errors that the core itself met (R229, R236, R237, R239, R240). -/
def State.decEnd (more : List (Nat × List Nat)) (s : State) : State :=
  match s.decoder.job with
  | none => s
  | some j =>
    let c := j.ctx
    let p := j.pic
    let x := s.dec c
    let errors := p.errors ++ more
    let lost := (errors.flatMap (·.2)).eraseDups
    let near := x.nearest p.poc
    let raw := Config.decodePicture p.sets j.input j.refs
    let planes := concealPicture p lost (near.map fun k => k.planes) raw
    let flags := j.flags + (if lost.isEmpty then 0 else if near.isSome then 1 else 2)
    let h : Handle := BitVec.ofNat 32 x.cfg.pool
    let s := (decPlaneBytes p planes).foldl (fun s ob => s.putBytes h (j.slot * x.cfg.slotSize + ob.1) ob.2) s
    let slot : DecSlot :=
      { st := .reference, isRef := true, waiting := p.output, poc := p.poc, frame := j.frame, flags, auFlags := j.auFlags
        chroma := p.chroma, bitDepth := p.bitDepth, concealed := lost.length, cropW := p.cropW, cropH := p.cropH, planes }
    let older (k : DecSlot) : DecSlot :=
      if p.output && k.waiting && decide (p.poc < k.poc) then { k with latency := k.latency + 1 } else k
    let s := s.onDec c fun x => { x with slots := x.slots.map older }
    let s := (s.onDecSlot c j.slot fun _ => slot).onDecoder fun d => { d with job := none }
    let s := ((s.countDec c 1 errors.length).countDec c 2 lost.length).countDec c 3 j.substituted
    let s := if errors.isEmpty then s
      else s.decNotice c 0x0682
        [itemN 1 1 c, itemI 2 4 p.poc, itemN 3 1 ((errors.map (·.1)).headD 1), itemN 4 4 lost.length]
    let s := s.bump c (fun x => x.crowded p) 32
    (s.consume c j.used).decRead c

/-- DEC_PICTURE_DONE. -/
def decPictureDone (s : State) : State := s.decEnd []

/-- DEC_CORE_FAULT: the CTUs from the failure to the end of the picture are lost; where it failed is free (R237, R462). -/
def decCoreFault (s : State) : State :=
  match s.decoder.job with
  | none => s
  | some j =>
    let n := ceilDiv j.pic.width j.pic.ctb * ceilDiv j.pic.height j.pic.ctb
    let (d, s) := s.draw
    let from_ := Config.freeNat d % n
    let s := s.decEnd [(7, (List.range n).filter fun a => decide (from_ ≤ a))]
    (s.onDecoder fun x => { x with recovering := true }).faultLog 0x0B (0x0600 + j.ctx) j.ctx

/-! ## Starting, stopping and feeding (R234, R241) -/

/-- A context starts; the host's READY buffers stay with it. -/
def State.decStart (c : Nat) (s : State) : State :=
  if (s.dec c).running then s
  else s.onDec c fun x =>
    { x.begin_ with running := true, unsupported := false, sets := [], outputs := 0, chunks := [], pos := 0 }

/-- A context stops: the picture in progress ends, the rest is discarded; answers the discarded chunks. -/
def State.decStop (c : Nat) (s : State) : List Chunk × State :=
  if !(s.dec c).running then ([], s)
  else
    let s := if s.decoder.job.any fun j => j.ctx == c then s.decEnd [] else s
    ((s.dec c).chunks, s.onDec c fun x =>
      { x with running := false, skipping := false, chunks := [], pos := 0, annexB := false
               slots := x.slots.map fun k => if k.st == .ready then { k with isRef := false } else {} })

/-- A chunk joins the input queue. -/
def State.decFeed (c : Nat) (k : Chunk) (s : State) : State :=
  (s.onDec c fun x => { x with chunks := x.chunks ++ [k] }).decRead c

/-- The host releases a READY buffer (R232). -/
def State.decRelease (c k : Nat) (s : State) : State :=
  s.onDecSlot c k fun z => if z.st == .ready then { z with st := if z.isRef then .heldRef else .free } else z

/-- Clears counters of the contexts in the mask (R242, R244). -/
def clearDec (mask : Nat) (s : State) : State :=
  s.onDecoder fun d =>
    { d with ctxs := (indexed d.ctxs).map fun cx => if mask.testBit cx.1 then { cx.2 with cnt := clearAll cx.2.cnt } else cx.2
             peak := if mask = 0 then d.peak else d.load }

/-- The frame ends: BUSY of DEC_LOAD in units of 2^-16 of the frame's period (R244). -/
def State.decFrameEnd (s : State) : State :=
  let c := s.raster.cfg.force
  let load := min 65535 (s.decoder.busy * 65536 * c.rateNum / (c.rateDen * 1000000000))
  s.onDecoder fun d => { d with busy := 0, load, peak := max d.peak load }

end Sys2Proof.Machine
end

