-- ==== Sys2Proof/Machine/RasterOps.lean ====
section
/-!
DEFINITION. What the raster does: its sources, syncs, relocking, holdover, frame numbers, marks, the Timetable's choice of
periods, and timecode (02_raster_time.md, R17 to R47).
-/

namespace Sys2Proof.Machine

def State.countRas (k n : Nat) (s : State) : State := s.onRaster fun r => { r with cnt := addAt r.cnt k n }

/-- Bits of the frame mark word (R30). -/
def markRelock : Nat := 0
def markHoldover : Nat := 1
def markCut : Nat := 2
def markSource : Nat := 3
def markTc : Nat := 4
def markJump : Nat := 5

/-- Sets a mark on the frame in progress; the first HOLDOVER of a frame counts it (R29). -/
def State.setMark (b : Nat) (s : State) : State :=
  let was := s.raster.mark.getLsbD b
  let s := s.onRaster fun r => { r with mark := putBit r.mark b true }
  if b = markHoldover && !was then s.countRas 4 1 else s

/-! ## Sources (R21, R24, R25, R29, R31 to R33) -/

/-- Enters holdover with its cause: 0 = missing, 1 = mismatch, 2 = no frame sync. -/
def State.rasHoldover (cause : Nat) (s : State) : State :=
  if s.raster.mode == .holdover then s
  else ((s.onRaster fun r => { r with mode := .holdover, holdRun := 0, lastOutlier := false, noWindow := 0, goodFrames := 0 }).setMark
    markHoldover).notice 0x0181 [itemN 1 1 s.raster.inUse, itemN 2 4 s.raster.frame.toNat, itemN 3 1 cause]

/-- Starts re-evaluation: the raster runs on at its last period and each frame is marked RELOCK (R25). -/
def State.rasReeval (s : State) : State :=
  ((s.onRaster fun r => { r with mode := .acquire, lastOutlier := false, noWindow := 0, goodFrames := 0 }).countRas 1 1).setMark
    markRelock

/-- Whether the source's signal is present now (R21, R23): genlock by its amplitude, a sensor by its port, PTP by its
lock, upstream by its link. -/
def State.sourcePresent (src : Nat) (s : State) : Bool :=
  match src with
  | 0 => true
  | 1 => decide (100 ≤ s.raster.gen.ampl)
  | 2 => (s.unit 0).portState == 3
  | 3 => (s.unit (if s.ganged then 0 else 1)).portState == 3
  | 4 => s.net.ptp.mode == .locked
  | _ => s.tree.upstream.any fun p => (s.tree.ports[p]?).any (·.up)

/-- The raster changes to a source (R21): free run keeps phase and period and marks nothing; any other relocks at once, and
the next frame is the first after the change. A change to PTP or upstream cancels a preset (R486). -/
def State.rasSource (src : Nat) (s : State) : State :=
  if src = s.raster.inUse then s
  else
    let s := s.onRaster fun r =>
      { r with inUse := src, lastOutlier := false, noWindow := 0, goodFrames := 0, holdRun := 0, phaseErr := 0
               refMismatch := false, refPresent := s.sourcePresent src
               preset := if 4 ≤ src then none else r.preset, renumber := src == 4, upstreamNext := none }
    if src = 0 then s.onRaster fun r => { r with mode := .free }
    else
      let s := s.onRaster fun r => { r with nextMark := putBit r.nextMark markSource true }
      if !s.sourcePresent src then s.rasHoldover 0
      else if src = 4 then s.onRaster fun r => { r with mode := .locked }
      else (s.onRaster fun r => { r with mode := .acquire }).setMark markRelock

/-- With PTP as source, LOCKED follows the PTP service (R32). -/
def State.rasFollowPtp (s : State) : State :=
  if s.raster.inUse ≠ 4 then s
  else if s.net.ptp.mode == .locked then s.onRaster fun r => { r with mode := .locked, refPresent := true }
  else (s.onRaster fun r => { r with refPresent := false }).rasHoldover 0

/-- Whether line syncs are expected: a genlock or sensor source, once locked or relocking. -/
def State.syncsExpected (s : State) : Bool :=
  (s.raster.inUse == 1 || s.raster.inUse == 2 || s.raster.inUse == 3) &&
    (s.raster.mode == .locked || s.raster.mode == .slew || s.raster.mode == .crashPending)

/-- SYNC_WINDOW_OPEN (R24): the expected line sync is classed by whether an edge fell inside its window, or elsewhere in
its span. Two outliers in a row start re-evaluation; three syncs in a row without an in-window one, holdover. -/
def syncWindowOpen (inside elsewhere : Bool) (s : State) : State :=
  if !s.syncsExpected then s
  else if inside then
    let s := if s.raster.lastOutlier then s.countRas 0 1 else s
    s.onRaster fun r => { r with lastOutlier := false, noWindow := 0 }
  else if elsewhere && s.raster.lastOutlier then s.rasReeval
  else
    let s := if elsewhere then s else s.countRas 2 1
    let s := s.onRaster fun r => { r with lastOutlier := elsewhere, noWindow := r.noWindow + 1 }
    if 3 ≤ s.raster.noWindow then s.rasHoldover 0 else s

/-- GENLOCK_CALIBRATE (R23): a reference below 100 mV is absent. -/
def genlockCalibrate (m : GenlockMeasure) (s : State) : State :=
  let s := s.onRaster fun r => { r with gen := m }
  if s.raster.inUse ≠ 1 then s
  else
    let s := s.onRaster fun r => { r with refPresent := decide (100 ≤ m.ampl) }
    if m.ampl < 100 then s.rasHoldover 0 else s

/-- A phase error wrapped into the range of R25, in phase units. -/
def wrapPhase (span : Nat) (v : Int) : Int :=
  if span = 0 then 0 else (v + (span / 2 : Nat)) % (span : Int) - (span / 2 : Nat)

/-- Phase units in one reference frame. -/
def State.refSpan (s : State) : Nat :=
  (if s.raster.inUse = 1 then s.raster.src.genRatio else 1) * s.raster.cfg.force.totalLines * 256

/-- REF_FRAME_SYNC (R37) at the raster's position: it is stamped; under slew or lock it measures the phase error. Answers
whether a crash lock cuts the frame in progress here (R27). DESIGN CHOICE, unsafe (log entry 23): STATE between a crash
cut and the next frame sync. -/
def refFrameSync (s : State) : Bool × State :=
  let s := (s.onRaster fun r => { r with refStamp := r.clock }).raise 0x01A
  let r := s.raster
  if r.inUse = 0 ∨ r.inUse = 4 then (false, s)
  else if r.mode == .crashPending then (true, s)
  else if r.mode == .slew || r.mode == .locked then
    let at_ : Int := (((if r.inUse = 1 then r.inGroup else 0) * r.cfg.force.totalLines + r.line) * 256 + r.phase : Nat)
    (false, s.onRaster fun r => { r with phaseErr := wrapPhase s.refSpan at_ })
  else (false, s)

/-- The raster relocks by the method selected, or is locked when the phase error is below 1 phase unit (R25 to R27). -/
def State.rasRelock (err : Int) (s : State) : State :=
  s.onRaster fun r =>
    { r with phaseErr := err, goodFrames := 0
             mode := if err = 0 then .locked else if r.src.relockMode = 1 then .crashPending else .slew }

/-- REEVAL_DONE (R25, R31). -/
def reevalDone (m : Reeval) (s : State) : State :=
  let r := s.raster
  if r.mode != .acquire || r.inUse == 0 || r.inUse == 4 then s
  else if !m.syncsFound then (s.onRaster fun r => { r with refPresent := false }).rasHoldover 2
  else
    let s := s.onRaster fun r => { r with refPresent := true, linePeriod := m.linePeriod }
    let lines := (r.inUse == 2 || r.inUse == 3) && m.refLines != r.cfg.force.activeLines
    if !m.rateInRange || lines then
      ((s.onRaster fun r => { r with refMismatch := true }).notice 0x0182 [itemN 1 4 m.framePeriod, itemN 2 2 m.refLines]).rasHoldover 1
    else (s.onRaster fun r => { r with refMismatch := false }).rasRelock (wrapPhase s.refSpan m.phaseErr)

/-- HOLDOVER_FALLBACK (R29). -/
def holdoverFallback (s : State) : State :=
  let r := s.raster
  if r.mode == .holdover && r.src.holdFrames != 0 && r.src.fallback != 255 && decide (r.src.holdFrames ≤ r.holdRun) &&
      r.src.fallback != r.inUse then
    (s.rasSource r.src.fallback).notice 0x0183
      [itemN 1 1 r.inUse, itemN 2 1 r.src.fallback, itemN 3 4 r.frame.toNat]
  else s

/-- SOURCE_RETURN (R29): the return of the source starts re-evaluation; PTP returns by its own lock (R32). -/
def sourceReturn (s : State) : State :=
  if s.raster.mode == .holdover && s.raster.inUse != 4 then
    (s.onRaster fun r => { r with refPresent := true }).rasReeval
  else s

/-- UPSTREAM_TIME_MISSING (R33). -/
def upstreamTimeMissing (s : State) : State :=
  if s.raster.inUse = 5 then (s.onRaster fun r => { r with refPresent := false }).rasHoldover 0 else s

/-! ## Timecode (R44 to R47) -/

/-- Raster frames per timecode frame: 1, 2 or 4; none when the raster rate fits no base rate. -/
def tcRatio (c : TcConfig) (r : RasConfig) : Option Nat :=
  [1, 2, 4].find? fun m =>
    r.rateNum * (if c.tc1001 = 1 then 1001 else 1) == c.base * m * (if c.tc1001 = 1 then 1000 else 1) * r.rateDen

/-- The timecode one frame later, with the drop-frame skip of ST 12-1. -/
def tcSucc (base : Nat) (t : Timecode) : Timecode :=
  if t.frames + 1 < base then { t with frames := t.frames + 1 }
  else
    let total := (t.hours * 3600 + t.minutes * 60 + t.seconds + 1) % 86400
    let mins := total / 60 % 60
    let skip := t.drop && total % 60 == 0 && mins % 10 != 0
    { t with hours := total / 3600, minutes := mins, seconds := total % 60, frames := if skip then 2 else 0 }

/-- The time of day of the Device Clock as a timecode and sub-frame index (R45, SMPTE ST 2059-1). -/
def State.tcOfClock (m : Nat) (s : State) : Timecode × Nat :=
  let c := s.raster.tc.force
  let day : Int := 86400 * 1000000000 * 65536
  let u := (Clk.units s.raster.clock + (c.localOffset - s.net.ptp.utcOffset) * (1000000000 * 65536)) % day
  let units := u.toNat
  let sec := units / 65536000000000
  let idx := units % 65536000000000 * (c.base * m) / 65536000000000
  let drop := c.drop == 1
  let t : Timecode := { hours := sec / 3600, minutes := sec / 60 % 60, seconds := sec % 60, frames := idx / m, drop }
  let gone := drop && t.seconds == 0 && t.minutes % 10 != 0 && decide (t.frames < 2)
  (if gone then { t with frames := 2 } else t, idx % m)

/-- LTC_CODEWORD (R45). A codeword is whole one timecode frame after its first bit, so the frame in progress when it
arrives is the one after the frame that it names. -/
def ltcCodeword (good : Bool) (tc : Timecode) (user : Word) (s : State) : State :=
  let c := s.raster.tc.force
  if !good then (s.countRas 7 1).onRaster fun r => { r with ltcSeen := true, ltcPrev := none }
  else
    let follows := s.raster.ltcPrev.any fun p => tcSucc c.base p == tc
    let s := s.onRaster fun r => { r with ltcSeen := true, ltcUser := user, ltcPrev := some tc }
    let now := tcSucc c.base tc
    if c.source ≠ 0 then s
    else if c.ltcMode = 0 then
      if !s.raster.ltcLocked && follows then
        s.onRaster fun r => { r with ltcLocked := true, tcNext := if r.tcNow = now then none else some (tcSucc c.base now) }
      else s
    else s.onRaster fun r => { r with ltcLocked := true, tcNext := if r.tcNow = now then none else some (tcSucc c.base now) }

/-- TC_DAILY_JAM (R45): the count of a 1000/1001 base rate is derived afresh. -/
def tcDailyJam (s : State) : State :=
  let c := s.raster.tc.force
  if c.source = 1 ∧ c.tc1001 = 1 then
    match tcRatio c s.raster.cfg.force with
    | some m => s.onRaster fun r => { r with tcNext := some (tcSucc c.base (s.tcOfClock m).1) }
    | none => s
  else s

/-- The timecode of the frame that begins (R44 to R46): by the preset, the source or the count. `first` is the frame at
mailbox-ready, which follows no other. -/
def State.tcFrameStart (first : Bool) (was : TcConfig) (s : State) : State :=
  let r := s.raster
  let c := r.tc.force
  let user : Word := if c.userBitsSrc = 0 then r.ltcUser else BitVec.ofNat 32 c.userBits
  match tcRatio c r.cfg.force with
  | none => s.onRaster fun r => { r with tcUser := user, ltcLocked := false, tcNext := none }
  | some m =>
    let wraps := decide (m ≤ r.tcSub + 1)
    let base : Timecode := { r.tcNow with drop := c.drop == 1 }
    let count : Timecode × Nat := if first then (base, 0) else if wraps then (tcSucc c.base base, 0) else (base, r.tcSub + 1)
    let preset := r.tcPreset.filter fun p => Frame.atOrAfter r.frame p.1
    let jam := if wraps then r.tcNext else none
    let took : Timecode × Nat :=
      match c.source, preset with
      | 3, some p => (p.2, 0)
      | 1, _ =>
        if c.tc1001 = 0 ∨ was.source ≠ 1 then s.tcOfClock m
        else match jam with
          | some t => (t, 0)
          | none => count
      | 2, _ =>
        match r.tcUp with
        | some (f, t, sub) =>
          if f = r.frame then (t, sub)
          else if f + 1 = r.frame then (if sub + 1 < m then (t, sub + 1) else (tcSucc c.base t, 0))
          else count
        | none => count
      | 0, _ => match jam with
        | some t => (t, 0)
        | none => count
      | _, _ => count
    let follows := first || took == count
    let s := s.onRaster fun r =>
      { r with tcNow := took.1, tcSub := took.2, tcUser := user, tcNext := if wraps then none else r.tcNext
               tcPreset := if preset.isSome then none else r.tcPreset
               ltcPresent := if took.2 = 0 then r.ltcSeen else r.ltcPresent
               ltcSeen := if took.2 = 0 then false else r.ltcSeen
               ltcLocked := if c.source = 0 ∧ c.ltcMode = was.ltcMode ∧ was.source = 0 then r.ltcLocked else false }
    let s := if follows then s
      else (s.setMark markTc).notice 0x0186 [itemN 1 4 s.raster.frame.toNat, itemB 2 (tcBytes r.tcNow), itemB 3 (tcBytes took.1)]
    if c.ltcOutEn = 1 ∧ took.2 = 0 then
      s.onRaster fun r => { r with ltcOut := r.ltcOut ++ [(c.ltcOutLine, took.1, user)] }
    else s

/-! ## The Timetable's choice (R38, R39, R43) -/

/-- Whether a selector names a frame (R39). -/
def Period.names (p : Period) (f : Frame) : Bool :=
  match p.selector with
  | 0 => true
  | 1 => f.toNat % (max 1 p.n) == p.frameValue
  | _ => f.toNat == p.frameValue

/-- Changes period `i`. -/
def State.onPeriod (i : Nat) (f : TtEntry → TtEntry) (s : State) : State :=
  s.onRaster fun r => { r with periods := modAt r.periods i f }

/-- ENABLE clears in force, and in the shadow unless that has been written since. -/
def TtEntry.disable (e : TtEntry) : TtEntry :=
  { e with cfg := { force := { e.cfg.force with enable := 0 }
                    shadow := if e.written then e.cfg.shadow else { e.cfg.shadow with enable := 0 } } }

/-- A ONCE period expires: ENABLE clears, nothing fires and TT_PERIOD_EXPIRED is sent (R39). -/
def State.periodExpires (i : Nat) (s : State) : State :=
  (s.onPeriod i fun e => { e.disable with expired := true }).notice 0x0184 [itemN 1 1 i, itemN 2 4 s.raster.frame.toNat]

/-- The raster's own commit of group 1 and the expiry of ONCE periods that comes with a frame start (R38, R39, R43,
R486). -/
def State.timetableStart (jump : Option Frame) (s : State) : State :=
  let n := s.raster.frame
  let total := s.raster.cfg.force.totalLines
  let taken := (indexed s.raster.periods).filterMap fun ie => if ie.2.written then some ie.1 else none
  let s := s.onRaster fun r =>
    { r with periods := r.periods.map fun e =>
        if e.written then { e with cfg := e.cfg.commit, written := false, expired := false, fired := none } else e }
  let held := s.raster.carried.map (·.index)
  let once (i : Nat) (p : Period) : Bool :=
    p.enable == 1 && p.selector == 2 &&
      ((taken.contains i && Frame.passed (BitVec.ofNat 32 p.frameValue) n) ||
       (!held.contains i && jump.any fun prev => jumpPasses prev n (BitVec.ofNat 32 p.frameValue)) ||
       (decide (total ≤ p.line) && p.names n))
  let late := (s.raster.periods.filter fun e => e.cfg.force.enable == 1 && decide (total ≤ e.cfg.force.line) && e.cfg.force.names n).length
  let gone := (indexed s.raster.periods).filterMap fun ie => if once ie.1 ie.2.cfg.force then some ie.1 else none
  gone.foldl (fun s i => s.periodExpires i) (if late = 0 then s else s.countRas 5 late)

/-- Periods that fall on a position of the frame in progress: index, and whether it is a COMMIT. -/
def State.duePeriods (line phase : Nat) (s : State) : List (Nat × Period) :=
  (indexed s.raster.periods).filterMap fun ie =>
    let p := ie.2.cfg.force
    if p.enable = 1 ∧ p.line = line ∧ p.phase = phase ∧ p.names s.raster.frame then some (ie.1, p) else none

/-- Whether position `a` lies before position `b` of a frame. -/
def posBefore (a b : Nat × Nat) : Bool := decide (a.1 < b.1) || (a.1 == b.1 && decide (a.2 < b.2))

/-- The least of some positions. -/
def firstPos (ps : List (Nat × Nat)) : Option (Nat × Nat) :=
  ps.foldl (fun acc p => match acc with
    | none => some p
    | some a => if posBefore p a then some p else some a) none

/-- Positions of the frame in progress, after the present one, at which periods are due or carried. -/
def State.periodPositions (s : State) : List (Nat × Nat) :=
  let r := s.raster
  let own := r.periods.filterMap fun e =>
    let p := e.cfg.force
    if p.enable = 1 ∧ p.line < r.cfg.force.totalLines ∧ posBefore (r.line, r.phase) (p.line, p.phase) = true ∧ p.names r.frame
    then some (p.line, p.phase) else none
  if r.carried.isEmpty then own else (r.line + 1, 0) :: own

/-- A period that finds 16 fired on its line is carried (R42). -/
def State.carry (c : Carried) (s : State) : State :=
  (s.countRas 5 1).onRaster fun r => { r with carried := r.carried ++ [c], deferred := r.deferred + 1 }

/-- When crash lock cuts the frame, the periods of the part not produced are carried, in the order of their positions
(R43). -/
def State.carryRest (s : State) : State :=
  let r := s.raster
  let rank (p : Period) : Nat := if p.action = 1 then 0 else 2
  let rest := (indexed r.periods).filterMap fun ie =>
    let p := ie.2.cfg.force
    if p.enable = 1 ∧ p.line < r.cfg.force.totalLines ∧ posBefore (r.line, r.phase) (p.line, p.phase) = true ∧ p.names r.frame
    then some (((p.line * 256 + p.phase) * 4 + rank p) * 65536 + ie.1, ({ index := ie.1, action := p.action, arg := p.arg } : Carried))
    else none
  let old := (indexed r.carried).map fun kc => (((r.line + 1) * 256 * 4 + 1) * 65536 + kc.1, kc.2)
  let all := (old ++ rest).mergeSort fun a b => decide (a.1 ≤ b.1)
  (s.countRas 5 rest.length).onRaster fun r => { r with carried := all.map (·.2), deferred := r.deferred + rest.length }

/-! ## Frame starts (R22, R28, R32, R34, R38) -/

/-- The end of a raster frame: the confirming frames of a relock, holdover's count, TT_DEFER. -/
def State.rasFrameEnd (s : State) : State :=
  let r := s.raster
  let s := if r.mode == .slew then
      if r.phaseErr = 0 then
        if 7 ≤ r.goodFrames then
          (((s.onRaster fun r => { r with mode := .locked, goodFrames := 0 }).countRas 3 1).notice 0x0180
            [itemN 1 1 r.inUse, itemN 2 4 r.frame.toNat])
        else s.onRaster fun r => { r with goodFrames := r.goodFrames + 1 }
      else s.onRaster fun r => { r with goodFrames := 0, phaseErr := if 0 < r.phaseErr then max 0 (r.phaseErr - 16) else min 0 (r.phaseErr + 16) }
    else if r.mode == .holdover then s.onRaster fun r => { r with holdRun := r.holdRun + 1 }
    else s
  let s := if r.deferred = 0 then s else s.notice 0x0185 [itemN 1 4 r.frame.toNat, itemN 2 4 r.deferred]
  s.onRaster fun r => { r with deferred := 0 }

/-- The number that PTP gives the frame that starts now: the k whose instant k × RATE_DEN / RATE_NUM is nearest (R32). -/
def State.ptpFrame (s : State) : Frame :=
  let c := s.raster.cfg.force
  let u := (Clk.units s.raster.clock).toNat
  let d := c.rateDen * 65536000000000
  BitVec.ofNat 32 ((2 * u * c.rateNum + d) / (2 * d))

/-- The new frame: its number, marks and stamp, and the raster's own commit of group 0. Answers the count before a jump,
the value that RAS_CLOCK_SET put into force, and whether the rate changed with an upstream source (R199). DEDUCED, unsafe
(log entry 24): COMMIT_AT of a held raster configuration, and the start of frame 0. -/
def State.rasNewFrame (first : Bool) (s : State) : Option Frame × Option Clk × Bool × State :=
  let r := s.raster
  let s := match r.clockSet with
    | some c => s.onRaster fun r => { r with clock := c, clockSet := none }
    | none => s
  let natural : Frame := if first then 0 else r.frame + 1
  let fromPreset := (r.preset.filter fun p => p.1 == natural).map (·.2)
  let n : Frame := if first then 0
    else if r.inUse = 4 then (if r.renumber then s.ptpFrame else natural)
    else if r.inUse = 5 then r.upstreamNext.getD natural
    else fromPreset.getD natural
  let jump := n != natural || (decide (r.inUse < 4) && fromPreset.isSome)
  let mark := if jump then putBit r.nextMark markJump true else r.nextMark
  let produced := r.line + 1
  let s := s.onRaster fun r =>
    { r with frame := n, line := 0, phase := 0, mark, nextMark := 0, firedOnLine := 0, renumber := false, upstreamNext := none
             preset := if fromPreset.isSome && decide (r.inUse < 4) then none else r.preset
             inGroup := if r.src.genRatio ≤ r.inGroup + 1 then 0 else r.inGroup + 1
             ltcOut := r.ltcOut.map fun x => (x.1 - produced, x.2)
             frameStamp := r.clock }
  let s := if s.raster.mode == .acquire || s.raster.mode == .slew || s.raster.mode == .crashPending then s.setMark markRelock else s
  let s := if s.raster.mode == .holdover then s.setMark markHoldover else s
  let s := match s.raster.held with
    | some (f, c) => if Frame.atOrAfter n f then s.onRaster fun r => { r with cfg := { r.cfg with shadow := c }, held := none } else s
    | none => s
  let old := s.raster.cfg.force
  let s := s.onRaster fun r => { r with cfg := r.cfg.commit, tc := r.tc.commit }
  let s := match s.raster.inUse, s.raster.upCfg with
    | 5, some c => s.onRaster fun r => { r with cfg := .of c, upCfg := none }
    | _, _ => s.onRaster fun r => { r with upCfg := none }
  let new := s.raster.cfg.force
  (if jump then some r.frame else none, r.clockSet,
    s.raster.inUse == 5 && old.rateNum * new.rateDen != new.rateNum * old.rateDen, s)

/-! ## Configuration and reading (R18, R48, R50) -/

/-- Whether a configuration is within R18. -/
def RasConfig.fits (c : RasConfig) : Bool :=
  decide (c.activeLines + 8 ≤ c.totalLines) && decide (c.rateDen ≤ c.rateNum) && decide (c.rateNum ≤ 1000 * c.rateDen) &&
    decide (c.rateNum * c.totalLines ≤ 2000000 * c.rateDen)

/-- Whether two configurations hold rates that differ in value. -/
def RasConfig.rateDiffers (a b : RasConfig) : Bool := a.rateNum * b.rateDen != b.rateNum * a.rateDen

/-- ARG of an action, within its range (R40). -/
def argFits (action arg : Nat) : Bool :=
  match action with
  | 1 => decide (2 ≤ arg) && decide (arg ≤ 63)
  | 4 | 5 => decide (arg ≤ 2)
  | 6 | 7 => decide (arg ≤ 15)
  | 8 | 9 => decide (arg ≤ 47)
  | 10 | 11 => decide (1 ≤ arg)
  | _ => true

/-- STATE of RAS_STATUS. -/
def RasMode.code : RasMode → Nat
  | .free => 1
  | .acquire => 2
  | .locked => 3
  | .slew => 4
  | .crashPending => 5
  | .holdover => 6

/-- The line period in use, in 2^-16 ns: measured, or what R20 gives. -/
def State.linePeriodNow (s : State) : Nat :=
  let r := s.raster
  if (r.inUse = 0 ∨ r.inUse = 4) ∨ r.linePeriod = 0 then
    (roundDiv ((r.cfg.force.rateDen * 65536000000000 : Nat) : Int) (r.cfg.force.rateNum * r.cfg.force.totalLines)).toNat
  else r.linePeriod

/-- RAS_STATUS. -/
def State.rasStatus (s : State) : Word :=
  let r := s.raster
  fieldsWord [(min 2 r.gen.syncType, 16), (bit (r.mark != 0), 12), (bit r.ltcLocked, 11), (bit r.ltcPresent, 10),
    (bit r.refMismatch, 9), (bit (r.inUse == 0 || r.refPresent), 8), (r.mode.code, 4), (r.inUse, 0)]

/-- DESIGN CHOICE, unsafe (log entry 55): unknown bits of counter masks are ignored. -/
def clearRas (mask : Nat) (s : State) : State := s.onRaster fun r => { r with cnt := clearMasked r.cnt mask }

end Sys2Proof.Machine
end

