-- ==== Sys2Proof/Machine/TreeOps.lean ====
section
/-!
DEFINITION. Tabsout links and the tree service: replay, routing, Roll Call, time, events, ring healing and disagreement
(17_tabsout_trees.md, R393 to R417).
-/

namespace Sys2Proof.Machine

def State.countTree (k n : Nat) (s : State) : State := s.onTree fun r => { r with cnt := addAt r.cnt k n }
def State.countLink (t k n : Nat) (s : State) : State := s.onTreePort t fun p => { p with cnt := addAt p.cnt k n }

def State.isHead (s : State) : Bool := s.tree.cfg.role == 1
def State.isMember (s : State) : Bool := s.tree.cfg.role == 2

/-- Ports with a use, in ascending order. -/
def State.portsOf (u : PortUse) (s : State) : List Nat := (List.range 4).filter fun t => (s.treePort t).use == u && (s.treePort t).up

/-! ## Routing (R401) -/

/-- Sends a sequenced flit on its way from this device; `from_` is the port that it came on, if any. -/
def State.route (f : Flit) (from_ : Option Nat) (s : State) : State :=
  let up (s : State) : State :=
    match s.tree.upstream with
    | some u => if some u = from_ then s.countTree 3 1 else s.sendSeq u f
    | none => s.countTree 3 1
  match f.route with
  | .link => s
  | .up => if s.isHead then s else up s
  | .down => (s.portsOf .downstream).foldl (fun s t => if some t = from_ then s else s.sendSeq t f) s
  | .node =>
    if s.tree.nodeId = some f.dest then s
    else match (s.portsOf .downstream).find? fun t => (s.treePort t).range.any fun lh => decide (lh.1 ≤ f.dest) && decide (f.dest ≤ lh.2) with
      | some t => s.sendSeq t f
      | none => up s

/-- A flit of this device. -/
def State.ownFlit (cls : FlitClass) (route : Route4) (dest : Nat) (body : FlitBody) (s : State) : Flit :=
  { cls, route, dest, src := s.node, body }

/-! ## The link layer (R394 to R399) -/

/-- ACK frees the flits up to it; progress ends a run of fruitless replays. -/
def State.ackTo (t : Nat) (ack : Nat) (s : State) : State :=
  let p := s.treePort t
  match p.unacked.findIdx? fun sf => sf.1.toNat == ack with
  | none => s
  | some i =>
    (s.onTreePort t fun p => { p with unacked := p.unacked.drop (i + 1), fruitless := 0, replaying := false }).txPump t p.waiting.length

/-- Every unacknowledged flit goes out again, in order; after 8 replays without progress the link is down (R399). -/
def State.replay (t : Nat) (s : State) : State :=
  let p := s.treePort t
  if !p.up || p.unacked.isEmpty then s
  else if 8 ≤ p.fruitless then s.linkDown t
  else
    let s := (s.countLink t 1 1).onTreePort t fun p => { p with fruitless := p.fruitless + 1, replaying := true }
    p.unacked.foldl (fun s sf => s.sendFlit t (some sf.1) sf.2) s

/-- The class that CLASS codes. -/
def flitClassOf (n : Nat) : FlitClass :=
  match n with
  | 0 => .time
  | 1 => .bell
  | 2 => .control
  | 3 => .event
  | 4 => .bulk
  | _ => .link

/-- The flit that 256 bytes spell, ready to be passed on: HOPS rises by 1 (R395). -/
def flitOf (bs : List Byte) : Flit :=
  let w := leNat (bs.take 2)
  let d := leNat ((bs.drop 4).take 4)
  { cls := flitClassOf (w / 4096 % 8)
    route := match d / 2 ^ 18 % 4 with | 0 => .node | 1 => .up | 2 => .down | _ => .link
    dest := d % 2 ^ 18, src := leNat ((bs.drop 8).take 4) % 2 ^ 18, hops := leNat ((bs.drop 12).take 1) + 1
    body := .raw ((bs.drop 13).take 239) }

/-- SEQUENCED_FLIT_RECEIVED (R397): accepted when its CRC passes and its SEQ is the next one, and then routed; the first
discard after an accepted flit sends NAK. What an accepted flit brings to this device itself is the row of its own kind. -/
def sequencedFlitReceived (t : Nat) (bs : List Byte) (s : State) : State :=
  let p := s.treePort t
  if !p.up then s
  else
    let good := bs.length == 256 && crc32c (bs.take 252) == BitVec.ofNat 32 (leNat (bs.drop 252))
    let s := if good then s.ackTo t (leNat ((bs.drop 2).take 2) % 4096) else s.countLink t 0 1
    if good && leNat (bs.take 2) % 4096 == (p.rxSeq + 1).toNat then
      let s := (s.onTreePort t fun p => { p with rxSeq := p.rxSeq + 1, nakSent := false, ackDue := true }).countLink t 3 1
      s.route (flitOf bs) (some t)
    else if p.nakSent then s
    else (s.sendUnseq t (s.ownFlit .link .link 0 .nak)).onTreePort t fun p => { p with nakSent := true }

def linkAckReceived (t ack : Nat) (s : State) : State := if (s.treePort t).up then s.ackTo t ack else s
def nakReceived (t ack : Nat) (s : State) : State := (linkAckReceived t ack s).replay t
def replayTimeout (t : Nat) (s : State) : State := s.replay t

/-- ACK_FLIT_TIMER: when nothing else has carried it, a LINK flit carries the ACK. -/
def ackFlitTimer (t : Nat) (s : State) : State :=
  if (s.treePort t).up && (s.treePort t).ackDue then s.sendUnseq t (s.ownFlit .link .link 0 .ack) else s

def idleFlitTimer (t : Nat) (s : State) : State :=
  if (s.treePort t).up then s.sendUnseq t (s.ownFlit .link .link 0 .idle) else s

def exchangeFlitTimer (t : Nat) (s : State) : State :=
  if (s.treePort t).exchanging then s.sendUnseq t s.exchangeFlit else s

/-- TBL_NODE for every node that a lost downstream link of the head cuts off (R416). -/
def State.nodesLost (t : Nat) (s : State) : State :=
  if !s.isHead || s.tree.cfg.topology != 0 then s
  else match (s.treePort t).range with
    | none => s
    | some (lo, hi) =>
      (s.tree.nodes.filter fun n => decide (lo ≤ n.id) && decide (n.id ≤ hi)).foldl (fun s n =>
        s.notice 0x0E82 [itemN 1 4 n.id, itemN 2 8 n.serial, itemN 3 1 3]) s

/-- LINK_DOWN_TIMEOUT (R399). -/
def linkDownTimeout (t : Nat) (s : State) : State := if (s.treePort t).up then (s.linkDown t).nodesLost t else s

/-- EXCHANGE_FLIT_RECEIVED (R394): the highest version that both list, or the lanes return to DETECT; a standalone device
refuses (R400). -/
def exchangeFlitReceived (t : Nat) (x : ExchangeInfo) (s : State) : State :=
  let p := s.treePort t
  if !p.exchanging then s
  else
    match (linkVersions.filter fun v => x.versions.contains v).getLast? with
    | some v =>
      if s.tree.cfg.role = 0 then (s.onTreePort t fun p => { p with exchanging := false }).portToDetect (2 + t)
      else
        let late := s.isMember && s.tree.nodeId.isSome && s.tree.upstream == some t
        let s := (s.sendUnseq t s.exchangeFlit).portToActive (2 + t)
        let s := s.onTreePort t fun p =>
          { p with exchanging := false, up := true, version := v, partnerSerial := x.serial, txSeq := 0, rxSeq := 0xFFF, unacked := []
                   waiting := [], nakSent := false, ackDue := false, fruitless := 0, replaying := false
                   use := if late then .upstream else p.use }
        (s.onTree fun r => { r with announcing := r.announcing || late }).notice 0x0E81 [itemN 1 1 t, itemN 2 1 1, itemN 3 2 v]
    | none => (s.onTreePort t fun p => { p with exchanging := false }).portToDetect (2 + t)

/-! ## Time (R405 to R407) -/

/-- A TIME flit down one port. -/
def State.timeFlit (t : Nat) (s : State) : State :=
  let r := s.raster
  let c := r.cfg.force
  s.sendUnseq t (s.ownFlit .time .link 0 (.time (r.frame, r.line, r.phase) (c.rateNum, c.rateDen) (c.totalLines, c.activeLines)
    r.mark.toNat r.tcNow r.tcSub r.tcUser (Clk.units r.clock) (s.treePort t).delay))

/-- TIME flits on every downstream link: at line 0 and every 64th line (R405). -/
def State.timeFlits (s : State) : State := (s.portsOf .downstream).foldl (fun s t => s.timeFlit t) s

/-- ECHO_RECEIVED (R405): D from the four stamps, in ps. -/
def echoReceived (t : Nat) (t1 t2 t3 t4 : Int) (s : State) : State :=
  s.onTreePort t fun p => { p with delay := roundDiv (((t4 - t1) - (t3 - t2)) * 1000) (2 * 65536) + p.asym }

/-- Nominal line time in ps. -/
def RasConfig.linePs (c : RasConfig) : Nat := c.rateDen * 1000000000000 / (c.rateNum * max 1 c.totalLines)

/-- The Bell lead in lines (R407). -/
def State.treeLead (s : State) : Nat :=
  let c := s.raster.cfg.force
  let worst := s.tree.nodes.foldl (fun m n => max m (n.depth * 1500000 + 3 * n.pathDelay)) 0
  ceilDiv ((worst + s.tree.cfg.bellMargin * 1000000) * (c.rateNum * c.totalLines)) (c.rateDen * 1000000000000)

/-- This device's own offset: OUT_OF_STEP beyond TREE_TOLERANCE, in step again after 16 TIME flits below half of it
(R412). -/
def State.ownOffset (o : Int) (s : State) : State :=
  let tol : Int := s.tree.cfg.tolerance * 1000
  let small := decide (2 * (o.natAbs : Int) < tol)
  let n := if small then s.tree.inStep + 1 else 0
  let was := s.tree.outOfStep
  let now := if was then decide (n < 16) else decide (tol < (o.natAbs : Int))
  let s := s.onTree fun r => { r with offset := o, inStep := min 16 n, outOfStep := now }
  if was == now then s else s.notice 0x0E84 [itemN 1 4 s.node, itemN 2 1 (if now then 0 else 1), itemI 3 8 o]

/-- TIME_FLIT_RECEIVED (R405, R406) on the upstream port: the offset, an ECHO, and with upstream as source the raster's
period, configuration, frame number and timecode. Answers whether a crash lock cuts the frame here. -/
def timeFlitReceived (t : Nat) (x : TimeFlit) (s : State) : Bool × State :=
  let p := s.treePort t
  if !p.up || !s.isMember || s.tree.upstream != some t then (false, s)
  else
    let now := Clk.units s.raster.clock
    let s := (s.onTreePort t fun p => { p with delay := x.delay }).onTree fun r => { r with lastTime := s.raster.clock }
    let s := s.sendUnseq t (s.ownFlit .time .link 0 (.echo x.t1 x.t2 now))
    let s := s.ownOffset x.offset
    if s.raster.inUse ≠ 5 then (false, s)
    else
      let r := s.raster
      let c : RasConfig := { rateNum := x.rateNum, rateDen := x.rateDen, totalLines := x.totalLines, activeLines := x.activeLines }
      let half := r.cfg.force.totalLines / 2
      let next := if x.line + half < r.line then x.frame else if r.line + half < x.line then x.frame + 2 else x.frame + 1
      let s := s.onRaster fun r =>
        { r with refPresent := true, refMismatch := false, upCfg := if c.fits && c != r.cfg.force then some c else none
                 upstreamNext := some next, tcUp := some (x.frame, x.tc, x.sub)
                 linePeriod := (roundDiv ((x.rateDen * 65536000000000 : Nat) : Int) (max 1 (x.rateNum * x.totalLines))).toNat }
      let err := roundDiv (x.offset * 256) (max 1 c.linePs)
      let s := if r.mode == .holdover then s.rasReeval else s
      match s.raster.mode with
      | .acquire => (false, s.rasRelock (-err))
      | .crashPending =>
        if x.line = 0 ∧ x.phase = 0 then (true, s.onRaster fun r => { r with upstreamNext := some x.frame }) else (false, s)
      | _ => (false, s.onRaster fun r => { r with phaseErr := -err })

/-! ## Run flags (R414) -/

/-- The RUN_MAP of this device. -/
def State.runMap (s : State) : BitVec 128 :=
  let flags : List Bool := s.intake.units.map (·.running) ++ s.compress.sessions.map (·.running) ++ s.record.sessions.map (·.running) ++
    s.sheaf.ctxs.map (·.running) ++ s.looks.rends.map (·.running) ++ [s.monitor.running] ++ s.audio.captures.map (·.running)
  BitVec.ofNat 128 (((indexed flags).map fun kb => if kb.2 then 2 ^ kb.1 else 0).sum)

/-- The STATE report of R414 in its frame; a RESYNC is applied once RUN_MAP is the one that it carried, and at the latest
with the next report. -/
def State.stateReport (s : State) : State :=
  let s := if s.tree.resyncTo == some s.runMap then s.onTree fun r => { r with resyncTo := none } else s
  let c := s.raster.cfg.force
  let every := ceilDiv c.rateNum c.rateDen
  match s.isMember, s.tree.nodeId with
  | true, some id =>
    if s.raster.frame.toNat % every = id % every then
      (s.onTree fun r => { r with resyncTo := none }).route (s.ownFlit .control .up 0 (.state s.tree.epoch s.tree.offset s.runMap)) none
    else s
  | _, _ => s

/-! ## Roll Call (R402, R403) -/

/-- CALL on the ports listed. -/
def State.callOn (ts : List Nat) (s : State) : State :=
  ts.foldl (fun s t => (s.onTreePort t fun p => { p with called := true, count := none }).sendSeq t
    (s.ownFlit .control .link 0 .call)) s

/-- Subtree size so far: this device and its children's counts. -/
def State.subtree (s : State) : Nat := 1 + (s.tree.ports.map fun p => if p.called then p.count.getD 0 else 0).sum

/-- Identifiers and nodes that disagree, for TBL_ROLL_CALL_DONE. -/
def NodeRec.quarantined (n : NodeRec) : Bool := n.badVersion || n.badEpoch

/-- One node's record changes. -/
def State.onNode (id : Nat) (f : NodeRec → NodeRec) (s : State) : State :=
  s.onTree fun r => { r with nodes := r.nodes.map fun n => if n.id == id then f n else n }
def State.node? (id : Nat) (s : State) : Option NodeRec := s.tree.nodes.find? fun n => n.id == id

/-- A node enters or leaves a cause of quarantine: 1 = version, 2 = epoch (R412). -/
def State.quarantine (id cause : Nat) (bad : Bool) (s : State) : State :=
  match s.node? id with
  | none => s
  | some n =>
    let was := if cause = 1 then n.badVersion else n.badEpoch
    if was == bad then s
    else (s.onNode id fun n => if cause = 1 then { n with badVersion := bad } else { n with badEpoch := bad }).notice 0x0E83
      [itemN 1 4 id, itemN 2 1 (if bad then 0 else 1), itemN 3 1 cause]

/-- The head checks one report's version and epoch (R412). -/
def State.checkNode (id : Nat) (s : State) : State :=
  match s.node? id with
  | none => s
  | some n =>
    let bad := n.version / 256 != 1 || decide (n.version % 256 < s.tree.cfg.minMinor)
    (s.quarantine id 1 bad).quarantine id 2 (n.epoch != s.tree.epoch)

/-- The message HELLO that lists 3.0, which the head sends to every member at the end of Roll Call (R404). -/
def helloMessage : List Byte :=
  toLe 1 3 ++ toLe 1 0 ++ toLe 2 0 ++ toLe 2 0 ++ toLe 2 0 ++ toLe 4 8 ++ toLe 4 0 ++ toLe 2 1 ++ toLe 2 2 ++ toLe 2 0x0300 ++ toLe 2 0

/-- A message to a member's mailbox, in CONTROL flits of up to 232 bytes (R404). -/
def State.sendMessage (route : Route4) (dest : Nat) (bs : List Byte) (s : State) : State :=
  let ps := chunks 232 bs.length bs
  (indexed ps).foldl (fun s kp =>
    s.route (s.ownFlit .control route dest (.message (232 * kp.1 % 4096) kp.2 (kp.1 + 1 == ps.length))) none) s

/-- Roll Call settles: the checks, HELLO to every member, LEAD, TBL_ROLL_CALL_DONE. Answers the result items. -/
def State.rollCallSettle (s : State) : List Item × State :=
  let ids := s.tree.nodes.map (·.id)
  let s := ids.foldl (fun s id => s.checkNode id) s
  let s := s.onTree fun r => { r with rollCall := false, rollPort := none, awaited := [], ringHealed := false }
  let s := s.onTree fun r => { r with lead := s.treeLead }
  let s := ids.foldl (fun s id => s.sendMessage .node id helloMessage) s
  let depth := s.tree.nodes.foldl (fun m n => max m n.depth) 0
  let items := [itemN 1 4 (ids.length + 1), itemN 2 4 depth, itemN 3 4 s.tree.lead]
  (items.map fun i => { i with ty := 0x4000 + i.ty },
    s.notice 0x0E80 (items ++ [itemN 4 4 (s.tree.nodes.filter (·.quarantined)).length]))

/-- ASSIGN down every called port that has replied, from identifier `first`; answers the identifiers given out. -/
def State.assignFrom (first : Nat) (a : AssignInfo) (s : State) : Nat × State :=
  (List.range 4).foldl (fun (acc : Nat × State) t =>
    let (lo, s) := acc
    let p := s.treePort t
    match p.called, p.count with
    | true, some n =>
      if n = 0 then (lo, s)
      else
        let s := s.onTreePort t fun p => { p with use := .downstream, range := some (lo, lo + n - 1) }
        (lo + n, s.sendSeq t (s.ownFlit .control .link 0 (.assign { a with first := lo })))
    | _, _ => (lo, s)) (first, s)

/-- What the head's ASSIGN carries. DESIGN CHOICE, unsafe (log entry 51): order of identifiers over ports. -/
def State.headAssign (s : State) : AssignInfo :=
  let c := s.tree.cfg
  { first := 1, depth := 1, topology := c.topology, ringPort := c.ringPort, tolerance := c.tolerance, bellMargin := c.bellMargin
    minMinor := c.minMinor, pushTimeout := c.pushTimeout, epoch := s.tree.epoch, version := 0x0100 }

/-- The head has its counts: it assigns, and awaits a REPORT from every identifier; with none to await it settles. -/
def State.headCounted (s : State) : Option (List Item) × State :=
  match s.tree.rollPort with
  | some t =>
    let p := s.treePort t
    let lo := (p.range.map (·.1)).getD 1
    let room := (p.range.map fun lh => lh.2 + 1 - lh.1).getD 0
    let n := p.count.getD 0
    if n = 0 ∨ room < n then
      let s := if n = 0 then s else s.notice 0x0E82 [itemN 1 4 lo, itemN 2 8 p.partnerSerial, itemN 3 1 1]
      (none, s.onTree fun r => { r with rollCall := false, rollPort := none })
    else
      let s := s.onTreePort t fun p => { p with use := .downstream }
      let s := s.sendSeq t (s.ownFlit .control .link 0 (.assign { s.headAssign with first := lo }))
      (none, s.onTree fun r => { r with awaited := (List.range n).map (· + lo) })
  | none =>
    let (next, s) := s.assignFrom 1 s.headAssign
    let ids := (List.range (next - 1)).map (· + 1)
    let s := s.onTree fun r => { r with awaited := ids }
    if ids.isEmpty then
      let (items, s) := (s.onTree fun r => { r with nodes := [] }).rollCallSettle
      (some items, s)
    else (none, s)

/-- Counts are in, or overdue: the head goes on to assign, a member sends COUNT upstream. -/
def State.counted (s : State) : Option (List Item) × State :=
  if s.isHead then (if s.tree.rollCall && s.tree.awaited.isEmpty then s.headCounted else (none, s))
  else match s.tree.upstream with
    | some u =>
      if s.tree.countSent then (none, s)
      else (none, (s.onTree fun r => { r with countSent := true }).sendSeq u (s.ownFlit .control .link 0 (.count s.subtree)))
    | none => (none, s)

/-- Whether every called port has replied. -/
def State.allCounted (s : State) : Bool := s.tree.ports.all fun p => !p.called || p.count.isSome || !p.up

/-- Roll Call begins on the head (R402): over every downstream port, or over the one to a rejoined subtree (R403). DESIGN
CHOICE, unsafe (log entry 51): order of identifiers over ports. -/
def State.rollCallStart (viaPort : Option Nat) (s : State) : Option (List Item) × State :=
  let ports := match viaPort with
    | some t => [t]
    | none => (List.range 4).filter fun t => (s.treePort t).up && !(s.tree.cfg.topology == 1 && t == s.tree.cfg.ringPort)
  let s := s.onTree fun r =>
    { r with rollCall := true, rollPort := viaPort, awaited := [], nodeId := some 0, depth := 0, upstream := none
             ports := r.ports.map fun p =>
               if viaPort.isSome then { p with called := false, count := none } else { p with called := false, count := none, use := .none, range := none } }
  let s := s.callOn ports
  if s.allCounted then s.counted else (none, s)

/-- CALL_RECEIVED (R402, R403). -/
def callReceived (t : Nat) (s : State) : State :=
  let p := s.treePort t
  if !p.up then s
  else if s.isHead then
    if s.tree.cfg.topology = 1 ∧ t = s.tree.cfg.ringPort then s.onTreePort t fun p => { p with use := .standby, range := none }
    else (s.onTreePort t fun p => { p with use := .blocked }).countTree 4 1
  else if !s.isMember then s
  else if s.tree.upstream.all (· == t) then
    let s := s.onTree fun r =>
      { r with upstream := some t, countSent := false, announcing := false
               ports := (indexed r.ports).map fun kp =>
                 { kp.2 with called := false, count := none, range := none, use := if kp.1 == t then .upstream else .none } }
    let s := s.callOn ((List.range 4).filter fun q => q != t && (s.treePort q).up)
    if s.allCounted then s.counted.2 else s
  else if s.tree.cfg.topology = 0 then (s.onTreePort t fun p => { p with use := .blocked }).countTree 4 1
  else s

/-- COUNT_RECEIVED. -/
def countReceived (t n : Nat) (s : State) : Option (List Item) × State :=
  let p := s.treePort t
  if !p.up || !p.called || p.count.isSome then (none, s)
  else
    let s := s.onTreePort t fun p => { p with count := some n, use := .downstream }
    if s.allCounted then s.counted else (none, s)

/-- COUNT_TIMEOUT: children that have not replied are left out. -/
def countTimeout (s : State) : Option (List Item) × State :=
  if s.tree.ports.any (·.called) then s.counted else (none, s)

/-- ASSIGN_RECEIVED on the upstream port of a member: identifier, ranges, tree fields, raster source 5; then REPORT. -/
def assignReceived (t : Nat) (a : AssignInfo) (s : State) : State :=
  if !s.isMember || s.tree.upstream != some t then s
  else
    let s := s.onTree fun r =>
      { r with nodeId := some a.first, depth := a.depth, announcing := false, outOfStep := false, inStep := 0
               cfg := { r.cfg with topology := a.topology, ringPort := a.ringPort, tolerance := a.tolerance
                                   bellMargin := a.bellMargin, minMinor := a.minMinor, pushTimeout := a.pushTimeout }
               quarantined := r.epoch != a.epoch || a.version / 256 != 1 || decide (0 < a.minMinor) }
    let (_, s) := s.assignFrom (a.first + 1) { a with depth := a.depth + 1 }
    let s := (s.onRaster fun r => { r with src := { r.src with primary := 5, fallback := 255 } }).rasSource 5
    let links := s.tree.ports.map fun p => if p.up then p.version else 0
    s.route (s.ownFlit .control .up 0 (.report
      { node := a.first, serial := Config.serial.toNat, depth := a.depth, upstream := t, links, version := 0x0100
        epoch := s.tree.epoch, runMap := s.runMap, pathDelay := (s.treePort t).delay.toNat })) none

/-- REPORT_RECEIVED (R402): a serial that the head has on record keeps its own record of run flags. -/
def reportReceived (x : NodeReport) (s : State) : Option (List Item) × State :=
  if !s.isHead || !s.tree.awaited.contains x.node then (none, s)
  else
    let old := s.tree.nodes.find? fun n => n.serial == x.serial
    let n : NodeRec :=
      { id := x.node, serial := x.serial, depth := x.depth, upstream := x.upstream, links := x.links, version := x.version
        epoch := x.epoch, runMap := x.runMap, record := (old.map (·.record)).getD 0, pathDelay := x.pathDelay
        badVersion := (old.map (·.badVersion)).getD false, badEpoch := (old.map (·.badEpoch)).getD false
        outOfStep := (old.map (·.outOfStep)).getD false }
    let s := s.onTree fun r =>
      { r with awaited := r.awaited.filter (· != x.node)
               nodes := ((r.nodes.filter fun m => m.serial != x.serial && m.id != x.node) ++ [n]).mergeSort fun a b => decide (a.id ≤ b.id) }
    if s.tree.awaited.isEmpty then
      let (items, s) := s.rollCallSettle
      (some items, s)
    else (none, s)

/-- TBL_ANNOUNCE_RECEIVED (R403): a known serial rejoins over a Roll Call towards it; a new one waits for the host. -/
def tblAnnounceReceived (t serial : Nat) (s : State) : Option (List Item) × State :=
  if !s.isHead || s.tree.rollCall then (none, s)
  else match s.tree.nodes.find? fun n => n.serial == serial with
    | some n => (s.notice 0x0E82 [itemN 1 4 n.id, itemN 2 8 serial, itemN 3 1 2]).rollCallStart (some t)
    | none => (none, s.notice 0x0E82 [itemN 1 4 0, itemN 2 8 serial, itemN 3 1 1])

/-- TBL_ANNOUNCE_TIMER: a late-joining or quarantined member announces itself (R403, R413). -/
def tblAnnounceTimer (s : State) : State :=
  if !s.isMember || !(s.tree.announcing || s.tree.quarantined || s.tree.nodeId.isNone) then s
  else
    let ports := match s.tree.upstream with
      | some u => [u]
      | none => (List.range 4).filter fun t => (s.treePort t).up
    ports.foldl (fun s t => s.sendSeq t (s.ownFlit .control .up 0 (.announce Config.serial.toNat))) s

/-! ## Disagreement (R411 to R414) -/

/-- STATE_REPORT_RECEIVED: the head checks epoch, offset and RUN_MAP. -/
def stateReportReceived (id : Nat) (epoch : Word) (offset : Int) (runMap : BitVec 128) (s : State) : State :=
  match s.isHead, s.node? id with
  | true, some n =>
    let tol : Int := s.tree.cfg.tolerance * 1000
    let out := if n.outOfStep then !decide (2 * (offset.natAbs : Int) < tol) else decide (tol < (offset.natAbs : Int))
    let dis := if runMap = n.record then 0 else n.disagree + 1
    let s := s.onNode id fun n => { n with epoch, offset, runMap, outOfStep := out, disagree := if 2 ≤ dis then 0 else dis }
    let s := s.quarantine id 2 (epoch != s.tree.epoch)
    let s := if n.outOfStep == out then s else s.notice 0x0E84 [itemN 1 4 id, itemN 2 1 (if out then 0 else 1), itemI 3 8 offset]
    if dis < 2 then s
    else (s.route (s.ownFlit .control .node id (.resync n.record)) none).notice 0x0E85
      [itemN 1 4 id, itemB 2 (toLe 16 runMap.toNat), itemB 3 (toLe 16 n.record.toNat)]
  | _, _ => s

/-- The bundle as BULK flits of 236 bytes (R411). -/
def State.sendBundle (route : Route4) (dest : Nat) (s : State) : State :=
  match s.tree.bundle with
  | none => s
  | some (h, n) =>
    (chunks 236 n (s.bytesOf h 0 n)).foldl (fun s bs => s.route (s.ownFlit .bulk route dest (.bundle bs s.tree.epoch)) none) s

/-- TBL_EPOCH_DONE once no acknowledgement is awaited (R416). -/
def State.pushSettle (s : State) : State :=
  if s.tree.pushWaiting.isEmpty then
    s.notice 0x0E87 [itemN 1 4 s.tree.epoch.toNat, itemN 2 4 s.tree.pushAcked, itemN 3 4 s.tree.pushFailed]
  else s

/-- TBL_CONFIG_PUSH has been accepted: the bundle goes out and the head takes EPOCH; answers the members addressed. -/
def State.push (h : Handle) (len : Nat) (epoch : Word) (s : State) : Nat × State :=
  let ids := s.tree.nodes.map (·.id)
  let s := s.onTree fun r => { r with epoch, bundle := some (h, len), pushWaiting := ids, pushAcked := 0, pushFailed := 0 }
  (ids.length, (s.sendBundle .down 0).pushSettle)

/-- EPOCH_ACK_RECEIVED (R411). -/
def epochAckReceived (id : Nat) (epoch : Word) (failed : Option (Nat × Nat)) (s : State) : State :=
  match s.isHead, s.node? id with
  | true, some _ =>
    let s := if failed.isNone then s.onNode id fun n => { n with epoch } else s
    let s := s.quarantine id 2 (failed.isSome || epoch != s.tree.epoch)
    if s.tree.pushWaiting.contains id then
      (s.onTree fun r =>
        { r with pushWaiting := r.pushWaiting.filter (· != id), pushAcked := r.pushAcked + (if failed.isNone then 1 else 0)
                 pushFailed := r.pushFailed + (if failed.isSome then 1 else 0) }).pushSettle
    else s
  | _, _ => s

/-- PUSH_TIMEOUT: members that have not acknowledged disagree. -/
def pushTimeout (s : State) : State :=
  let late := s.tree.pushWaiting
  if late.isEmpty then s
  else
    let s := late.foldl (fun s id => s.quarantine id 2 true) s
    (s.onTree fun r => { r with pushWaiting := [], pushFailed := r.pushFailed + late.length }).pushSettle

/-- EPOCH_REPUSH_TIMER (R412). -/
def epochRepushTimer (id : Nat) (s : State) : State :=
  if s.isHead && (s.node? id).any (·.badEpoch) then s.sendBundle .node id else s

/-- A member has executed a bundle (R411): the epoch when every message returned OK, or the first that failed. -/
def State.bundleDone (epoch : Word) (failed : Option (Nat × Nat)) (s : State) : State :=
  let s := if failed.isNone then s.onTree fun r => { r with epoch, quarantined := false } else s
  s.route (s.ownFlit .control .up 0 (.epochAck s.tree.epoch failed)) none

/-! ## Ring healing (R410) -/

/-- HEAL_RECEIVED: a member turns its two ports round and passes HEAL on; at the head the ring is healed. -/
def healReceived (t origin : Nat) (s : State) : State :=
  let r := s.tree
  if r.cfg.topology ≠ 1 ∨ !(s.treePort t).up then s
  else if s.isHead then
    if t ≠ r.cfg.ringPort ∨ r.ringHealed then s
    else
      let last := r.nodes.foldl (fun m n => max m n.id) 0
      let far := ((s.node? last).map (·.pathDelay)).getD 0
      let d := (s.treePort t).delay.toNat
      let s := s.onTree fun r =>
        { r with ringHealed := true
                 ports := (indexed r.ports).map fun kp =>
                   if kp.1 = t then { kp.2 with use := .downstream, range := if origin ≤ last then some (origin, last) else none }
                   else if kp.2.use = .downstream then { kp.2 with range := if origin ≤ 1 then none else some (1, origin - 1) }
                   else kp.2
                 nodes := r.nodes.map fun n =>
                   if origin ≤ n.id then { n with depth := last + 1 - n.id, pathDelay := d + (far - n.pathDelay) } else n }
      let s := s.onTree fun r => { r with lead := s.treeLead }
      (((s.timeFlit t).countTree 0 1).notice 0x0E86 [itemN 1 4 origin, itemN 2 4 s.raster.frame.toNat, itemN 3 4 s.tree.lead]).faultLog
        0x06 0x0E00 origin
  else if s.isMember && r.upstream == some t then
    match (s.portsOf .downstream).head? with
    | none => s
    | some d =>
      let s := s.sendUnseq d (s.ownFlit .link .link 0 (.heal origin))
      s.onTree fun r =>
        { r with upstream := some d
                 ports := (indexed r.ports).map fun kp =>
                   if kp.1 = d then { kp.2 with use := .upstream, range := none }
                   else if kp.1 = t then { kp.2 with use := .downstream, range := if origin < s.node then some (origin, s.node - 1) else none }
                   else kp.2 }
  else s

/-! ## Events and messages (R404, R409) -/

/-- The event that a tree event becomes on arrival. -/
def State.treeEv (e : TreeEvent) (s : State) : Ev :=
  { source := e.source, gen := e.gen, originNode := e.originNode, originSource := e.originSource, originFrame := e.frame
    originLine := e.line, frame := s.raster.frame, line := s.raster.line, phase := s.raster.phase, time := s.raster.clock
    reRaise := true, fromTree := true }

/-- The head re-raises a tree event at its own source and broadcasts it. -/
def State.headEvent (e : TreeEvent) (s : State) : State :=
  let s := s.reRaise (0xC8 + e.tag % 8) (s.treeEv e) true
  s.route (s.ownFlit .event .down 0 (.event e)) none

/-- An event delivered to the consumer TREE. -/
def State.toTree (tag : Nat) (e : Ev) (s : State) : State :=
  let x : TreeEvent := { source := e.source, gen := e.gen, originNode := e.originNode, originSource := e.originSource
                         frame := e.originFrame, line := e.originLine, tag }
  if s.isHead then s.headEvent x
  else s.route (s.ownFlit .event .up 0 (.event x)) none

/-- EVENT_FLIT_RECEIVED (R409): on the head from below; on a member from above, but for the origin's own node. -/
def eventFlitReceived (t : Nat) (e : TreeEvent) (s : State) : State :=
  if !(s.treePort t).up then s
  else if s.isHead then s.headEvent e
  else if s.isMember && s.tree.upstream == some t && e.originNode != s.node then s.reRaise (0xC8 + e.tag % 8) (s.treeEv e) true
  else s

/-- Messages of the Tabsout mailboxes go out as CONTROL flits: upstream's towards the head, any other's on its own link
(R404). -/
def State.treePump (s : State) : State :=
  (List.range 4).foldl (fun s t =>
    match s.control.mailboxes[12 + t]? with
    | none => s
    | some m =>
      if m.posts.isEmpty then s
      else
        let s := s.onMbx (12 + t) fun m => { m with posts := [] }
        m.posts.foldl (fun s p =>
          let bs := Post.bytes p
          let s := if s.tree.upstream = some t then s.sendMessage .up 0 bs
            else
              let ps := chunks 232 bs.length bs
              (indexed ps).foldl (fun s kp =>
                s.sendSeq t (s.ownFlit .control .link 0 (.message (232 * kp.1 % 4096) kp.2 (kp.1 + 1 == ps.length)))) s
          if p.thenReset then s.sessionReset (12 + t) else s) s) s

/-- The run flag that a start or stop command of opcode `op` with instance `k` sets or clears, once OK (R414). -/
def runFlagOf (op k : Nat) : Option (Nat × Bool) :=
  match op with
  | 0x0206 => if k < 3 then some (k, true) else none
  | 0x0207 => if k < 3 then some (k, false) else none
  | 0x0701 => if k < 4 then some (3 + k, true) else none
  | 0x0702 => if k < 4 then some (3 + k, false) else none
  | 0x0905 => if k < 16 then some (7 + k, true) else none
  | 0x0906 => if k < 16 then some (7 + k, false) else none
  | 0x0502 => if k < 48 then some (23 + k, true) else none
  | 0x0503 => if k < 48 then some (23 + k, false) else none
  | 0x0405 => if k < 48 then some (71 + k, true) else none
  | 0x0406 => if k < 48 then some (71 + k, false) else none
  | 0x0B01 => some (119, true)
  | 0x0B02 => some (119, false)
  | 0x0C03 => if k < 4 then some (120 + k, true) else none
  | 0x0C04 => if k < 4 then some (120 + k, false) else none
  | _ => none

/-- The head's record follows a member's OK reply to a message (R414). -/
def State.recordRun (id : Nat) (message : List Byte) (s : State) : State :=
  let op := leNat ((message.drop 2).take 2)
  let its := (parseItems message.length (message.drop 16)).1
  let k := ((its.find? fun i => i.ty == 1).map fun i => leNat i.val).getD 0
  match runFlagOf op k with
  | some (b, on) => s.onNode id fun n => { n with record := putBit n.record b on }
  | none => s

/-- The whole messages of a bundle (R411). -/
def bundleMessages : Nat → List Byte → List (List Byte)
  | 0, _ => []
  | n + 1, bs =>
    if bs.length < 16 then []
    else
      let len := 16 + leNat ((bs.drop 8).take 4)
      bs.take len :: bundleMessages n (bs.drop (roundUp len 4))

/-! ## Registers (R417) -/

def PortUse.code : PortUse → Nat
  | .none => 0
  | .upstream => 1
  | .downstream => 2
  | .blocked => 3
  | .standby => 4

/-- TBL_STATUS. -/
def State.tblStatus (s : State) : Word :=
  let r := s.tree
  fieldsWord [(bit r.rollCall, 9), (bit r.ringHealed, 8), (bit r.resyncTo.isSome, 7), (bit r.outOfStep, 6), (bit r.quarantined, 5),
    (bit r.nodeId.isSome, 4), (r.upstream.getD 0, 2), (r.cfg.role, 0)]

/-- TBL_NODE. -/
def State.tblNode (s : State) : Word := fieldsWord [(s.tree.depth % 256, 20), (s.node % 2 ^ 18, 0)]

/-- TBLp_STATUS. -/
def TreePort.status (p : TreePort) : Word :=
  fieldsWord [(if p.up then p.version else 0, 16), (p.use.code, 2), (bit p.replaying, 1), (bit p.up, 0)]

/-- TBL_OFFSET, saturating. -/
def State.tblOffset (s : State) : Word := BitVec.ofInt 32 (sat (-2147483647) 2147483647 s.tree.offset)

def clearTbl (mask ports : Nat) (s : State) : State :=
  s.onTree fun r =>
    { r with cnt := clearMasked r.cnt mask
             ports := (indexed r.ports).map fun kp => if ports.testBit kp.1 then { kp.2 with cnt := clearAll kp.2.cnt } else kp.2 }

end Sys2Proof.Machine
end

