-- ==== Sys2Proof/Machine/Regs.lean ====
section
/-!
DEFINITION. The register windows: what every register of R50, R81, R101, R138, R165, R194, R227, R244, R275, R303, R320,
R339, R352, R371, R392, R417, R431, R446 and R465 reads as, the wide windows of R59, and what the Bell latches (R386).
-/

namespace Sys2Proof.Machine

/-! ## Places -/

/-- Number of a block's wide window, in the order of the windows. -/
def blkIndex : Blk → Nat
  | .sys => 0
  | .ras => 1
  | .ina => 2
  | .inb => 3
  | .mil => 4
  | .lks => 5
  | .shf => 6
  | .dec => 7
  | .cmp => 8
  | .grn => 9
  | .rcd => 10
  | .net => 11
  | .mon => 12
  | .aud => 13
  | .evt => 14
  | .tbl => 15
  | .bus => 16
  | .sec => 17
  | .pwr => 18

/-- Base address of window `i`. -/
def windowBase (i : Nat) : Nat :=
  if i = 0 then 0 else if i = 1 then 0x20000 else if i = 2 then 0x30000 else if i = 3 then 0x38000 else i * 0x10000

/-- The window of an address and the offset in it; `none` for the MBX window and for addresses outside every window. -/
def windowOf (a : Nat) : Option (Nat × Nat) :=
  let w := a / 0x10000
  let o := a % 0x10000
  if w = 0 then some (0, o) else if w = 1 then none else if w = 2 then some (1, o)
  else if w = 3 then some (if o < 0x8000 then (2, o) else (3, o - 0x8000))
  else if w < 19 then some (w, o) else none

/-- Offset of the wide window's selector in window `i`. -/
def wideOffset (i : Nat) : Nat := if i = 2 ∨ i = 3 then 0xC0 else 0x40

/-- Instance and offset within it of an offset in `n` blocks of `step` bytes from `base`. -/
def blockAt (o base step n : Nat) : Option (Nat × Nat) :=
  if base ≤ o ∧ o < base + step * n then some ((o - base) / step, (o - base) % step) else none

/-- The value at an offset among those listed; every other offset reads 0 (R57). -/
def regAt (o : Nat) (rs : List (Nat × Word)) : Word := ((rs.find? fun r => r.1 == o).map (·.2)).getD 0

/-- Registers that lie 4 bytes apart from `base`. -/
def regRun (base : Nat) (ws : List Word) : List (Nat × Word) := (indexed ws).map fun iw => (base + 4 * iw.1, iw.2)

/-- A word of a natural number. -/
def wordN (n : Nat) : Word := BitVec.ofNat 32 n

/-- A 16-bit value above a 16-bit value. -/
def halves (hi lo : Nat) : Word := BitVec.ofNat 32 (hi % 65536 * 65536 + lo % 65536)

/-- The two's complement of a number in `w` bits, as a natural number. -/
def twos (w : Nat) (v : Int) : Nat := (v % (2 ^ w : Int)).toNat

/-- Bits set where a list is true. -/
def bitsOf (l : List Bool) : Nat := ((indexed l).map fun ib => if ib.2 then 2 ^ ib.1 else 0).sum

/-! ## Interrupts (R81) -/

/-- SYS_IRQ_STATUS: the sticky bits with the live copies of OUT_FULL. -/
def State.irqStatus (s : State) : Word :=
  s.control.irq ||| wordN (bitsOf ((s.control.mailboxes.take 8).map (·.outFull)))

/-- The bits of SYS_IRQ_STATUS that HOST_IRQ_N follows: those of mailboxes bound to PCIe signal on MSI-X instead. -/
def State.hostIrq (s : State) : Bool :=
  let pcie := bitsOf ((s.control.mailboxes.take 8).map fun m => m.path == some .pcie)
  (s.irqStatus &&& s.control.irqEnable &&& ~~~(wordN (pcie + pcie * 256))) != 0

/-! ## Windows -/

def Session.code : Session → Nat
  | .unnegotiated => 0
  | .v2 _ => 1
  | .v3 => 2

/-- MBXn_STATUS. -/
def Mailbox.status (m : Mailbox) : Word :=
  fieldsWord [(if m.outFull then m.outCount else 0, 16), (bit (m.outFull && m.outLast), 15), (bit m.outFull, 14), (bit m.inEmpty, 13),
    (m.session.code, 11), (match m.path with | none => 0 | some .controlPort => 1 | some .pcie => 2, 9)]

/-- SYS_BOOT. -/
def ControlState.boot (c : ControlState) : Word := fieldsWord [(c.failCode, 16), (bit c.pcie0Ep, 8), (c.stage, 0)]

/-- The SYS window (R81). -/
def sysReg (o : Nat) (s : State) : Word :=
  let c := s.control
  match blockAt o 0x100 0x10 8 with
  | some (n, k) =>
    let m := c.mailboxes.getD n {}
    regAt k [(0x0, m.status), (0x4, fieldsWord [(bit m.bellLast, 13), (m.bellCount, 0)]), (0xC, m.cntErr)]
  | none =>
    regAt o [(0x000, 0x0B16C0A2), (0x004, c.fwVersion), (0x008, c.boot), (0x00C, c.resetCauseCopy), (0x010, s.irqStatus),
      (0x014, c.irqEnable), (0x018, c.cntCpErr)]

/-- RAS_LINE. -/
def RasterState.lineWord (r : RasterState) : Word := fieldsWord [(r.line, 16), (r.phase, 8)]

/-- The RAS window (R50). -/
def rasReg (o : Nat) (s : State) : Word :=
  let r := s.raster
  regAt o ([(0x000, s.rasStatus), (0x004, r.frame), (0x008, r.lineWord),
    (0x00C, halves r.cfg.force.rateNum r.cfg.force.rateDen), (0x010, halves r.cfg.force.totalLines r.cfg.force.activeLines),
    (0x014, halves (twos 16 r.gen.tip) r.gen.ampl), (0x018, halves (r.gen.offsetCode % 1024) (r.gen.dacCode % 1024)),
    (0x01C, BitVec.ofInt 32 r.phaseErr)] ++ regRun 0x020 r.cnt)

def LanePhase.code : LanePhase → Nat
  | .disabled => 0
  | .detect => 1
  | .train => 2
  | .lock => 3
  | .exchange => 4
  | .active => 5
  | .standby => 6
  | .retrain => 7
  | .failed => 8
  | .loop => 9

def FailCause.code : FailCause → Nat
  | .none => 0
  | .train => 1
  | .fom => 2
  | .prbs => 3
  | .lock => 4
  | .skew => 5
  | .fast => 6

/-- LANE_STATUS. -/
def Lane.status (l : Lane) : Word :=
  fieldsWord [(l.logical, 18), (l.role, 16), (l.failCause.code, 12), (bit l.tx, 4), (l.phase.code, 0)]

/-- The layout of LANE_TAPS. -/
def tapsWord (t : Taps) (fom : Nat) : Word := fieldsWord [(fom % 256, 24), (t.pre % 64, 16), (t.main % 64, 8), (t.post % 64, 0)]

/-- The lane registers of port `p` (R101). -/
def laneReg (p o : Nat) (s : State) : Word :=
  match blockAt o 0x100 0x40 (s.laneCount p) with
  | some (k, b) =>
    let l := s.lane (macroOf p k)
    regAt b ([(0x00, l.status), (0x04, tapsWord l.taps l.fom), (0x08, tapsWord l.stored l.storedFom)] ++ regRun 0x10 l.cnt)
  | none =>
    let ls := (s.macros p).map s.lane
    let x := s.lanePort p
    regAt o [(0x000, fieldsWord [((ls.filter fun l => l.phase == .standby).length, 16),
        ((ls.filter fun l => l.phase == .active && l.role == 1).length, 8), (bit (s.portUp p), 0)]),
      (0x004, x.cntTakeover), (0x008, wordN x.maxSkew)]

/-- Whether the source of Mill context `k` runs. -/
def State.sourceRuns (k : Nat) (s : State) : Bool := (s.unit k).running

/-- INx_STATUS. -/
def State.intakeStatus (p : Nat) (s : State) : Word :=
  let u := s.unit p
  fieldsWord [(u.version / 256 % 16, 20), (u.version % 16, 16), (bit s.ganged, 10), (bit u.inFrame, 9), (bit u.running, 8), (u.portState, 0)]

/-- INx_BACKLOG. -/
def IntakeUnit.backlog (u : IntakeUnit) : Word := fieldsWord [(u.peakRows, 16), (u.rowsHeld, 0)]

/-- REPLAY_STATUS. -/
def State.replayStatus (s : State) : Word :=
  let y := s.intake.replay
  fieldsWord [(y.cfg.entryTap, 4), (y.cfg.loop, 3), (bit ((s.unit 2).running && !y.inFrame && y.ready.isNone), 2), (bit y.inFrame, 1),
    (bit (s.unit 2).running, 0)]

/-- The INA and INB windows (R138). -/
def intakeReg (p o : Nat) (s : State) : Word :=
  if 0x4000 ≤ o then laneReg p (o - 0x4000) s
  else
    let u := s.unit p
    let y := s.intake.replay
    regAt o ([(0x000, s.intakeStatus p), (0x008, u.lastFrame), (0x00C, halves u.lastMark.toNat u.lastFlags.toNat),
      (0x010, u.backlog), (0x014, wordN (s.lineTime p))] ++ regRun 0x020 u.cnt ++
      (if p = 0 then [(0x200, s.replayStatus), (0x204, wordN y.next), (0x208, y.cntFrames), (0x20C, y.cntSlip)] else []))

/-- MILk_STATUS. -/
def State.millStatus (k : Nat) (s : State) : Word :=
  let x := s.ctx k
  fieldsWord [(x.tnrCause, 16), (bit x.refValid, 2), (bit x.taking.isSome, 1), (bit (s.sourceRuns k), 0)]

/-- MILk_LAST_FLAGS. -/
def MillContext.lastWord (x : MillContext) : Word := halves x.lastMark.toNat x.lastFlags.toNat

/-- The context that holds the Mill now, 3 for none: a grant's clocks at 1.6 GHz are 40,960 / 65,536 ns each (R134, R165). -/
def State.millHolder (s : State) : Nat := if Clk.units s.raster.clock < Clk.units s.mill.heldTo then s.mill.granted else 3

/-- MIL_STATUS. -/
def State.milStatus (s : State) : Word :=
  fieldsWord [(bit s.ganged, 11), (bitsOf ((List.range 3).map fun k => s.sourceRuns k), 8), (s.millHolder, 0)]

/-- The MIL window (R165). -/
def milReg (o : Nat) (s : State) : Word :=
  match blockAt o 0x100 0x80 3 with
  | some (k, b) =>
    let x := s.ctx k
    regAt b ([(0x00, s.millStatus k), (0x04, x.lastFrame), (0x08, x.lastWord)] ++ regRun 0x10 x.cnt)
  | none => regAt o [(0x000, s.milStatus), (0x008, halves s.mill.peak s.mill.util)]

/-- LOOKk_STATUS. -/
def State.lookStatus (k : Nat) (s : State) : Word :=
  let x := s.look k
  fieldsWord [(x.cfg.force.source, 6), (x.cfg.force.mode, 5), (bit x.loading.isSome, 4), (x.cfg.shadow.tableBank, 3),
    (x.cfg.force.tableBank, 2), (bit (s.sourceRuns x.cfg.force.source), 0)]

/-- RENDr_STATUS. A rendition without PLANES has no slots. -/
def Rendition.status (x : Rendition) : Word :=
  let slots (st : SlotState) : Nat :=
    if x.cfg.force.planes = 0 then 0 else bitsOf ((x.slots.take x.cfg.force.nslots).map fun k => k.st == st)
  fieldsWord [(slots .free, 24), (slots .held, 16), (x.lastSkip, 10), (bit x.shed, 9), (x.cfg.force.dest, 4), (bit x.running, 0)]

/-- LOOKS_RUNNING of LKS_STATUS. -/
def State.looksRunning (s : State) : Nat := bitsOf ((List.range 8).map fun k => s.sourceRuns (s.look k).cfg.force.source)

/-- The LKS window (R194). -/
def lksReg (o : Nat) (s : State) : Word :=
  match blockAt o 0x100 0x20 8 with
  | some (k, b) =>
    let x := s.look k
    regAt b [(0x00, s.lookStatus k), (0x04, x.cntFrames), (0x08, x.cntLoads)]
  | none => match blockAt o 0x400 0x20 48 with
    | some (r, b) =>
      let x := s.rend r
      regAt b ([(0x00, x.status), (0x04, x.lastFrame)] ++ regRun 0x08 x.cnt)
    | none => regAt o [(0x000, wordN s.looksRunning), (0x008, halves s.looks.peak s.looks.used)]

def CoreState.code : CoreState → Nat
  | .idle => 0
  | .coding => 1
  | .waiting => 2
  | .recovering => 3

/-- SHF_STATUS. -/
def State.shfStatus (s : State) : Word :=
  fieldsWord [((s.sheaf.ctxs.filter (·.running)).length, 8), (bit (decide (1 < s.power.sheafDiv)), 2), (bit !s.sheaf.pool.isEmpty, 1),
    (bit (s.sheaf.plan.isSome && s.sheaf.planMade), 0)]

/-- SHF_COREk_STATUS. -/
def ShfCore.status (x : ShfCore) : Word :=
  fieldsWord [((x.cur.map (·.ctx)).getD 0xFF, 16), (x.pictures % 256, 8), (x.st.code, 0)]

/-- SHFc_STATUS. -/
def ShfContext.status (x : ShfContext) : Word :=
  fieldsWord [(x.lastReason % 16, 24), (twos 8 x.qpLast, 16), (x.refs.length, 8), (x.cfg.force.rcMode, 2), (bit x.deferred.isSome, 1),
    (bit x.running, 0)]

/-- The SHF window (R227). -/
def shfReg (o : Nat) (s : State) : Word :=
  match blockAt o 0x400 0x20 48 with
  | some (c, b) =>
    let x := s.shf c
    regAt b ([(0x00, x.status), (0x04, x.lastFrame)] ++ regRun 0x08 x.cnt)
  | none =>
    regAt o ([(0x000, s.shfStatus), (0x008, halves s.sheaf.peak s.sheaf.load)] ++
      regRun 0x010 (s.sheaf.cores.map ShfCore.status) ++ regRun 0x020 s.sheaf.cnt)

/-- Buffers FREE of a decode context that has a pool. -/
def DecContext.freeBufs (x : DecContext) : Nat :=
  if x.cfg.pool = 0 then 0 else (x.own.filter fun k => k.2.st == .free).length

/-- Whether a context waits for a FREE buffer. -/
def DecContext.waits (x : DecContext) : Bool := x.running && !x.chunks.isEmpty && x.freeBufs == 0

/-- DECc_STATUS. -/
def DecContext.status (x : DecContext) : Word :=
  fieldsWord [(x.freeBufs, 24), (x.lastFlags % 128, 16), (x.chunks.length, 8), (bit x.waits, 2),
    (bit (x.running && (x.skipping || x.unsupported)), 1), (bit x.running, 0)]

/-- DEC_STATUS. -/
def State.decStatus (s : State) : Word :=
  let d := s.decoder
  let run := bitsOf (d.ctxs.map (·.running))
  fieldsWord [(run, 8), ((d.job.map (·.ctx)).getD 0xF, 4),
    (if d.recovering then 3 else if d.job.isSome then 1 else if run = 0 then 0 else 2, 0)]

/-- The DEC window (R244). -/
def decReg (o : Nat) (s : State) : Word :=
  match blockAt o 0x100 0x20 8 with
  | some (c, b) =>
    let x := s.dec c
    regAt b ([(0x00, x.status), (0x04, BitVec.ofInt 32 x.lastPoc)] ++ regRun 0x08 x.cnt)
  | none => regAt o [(0x000, s.decStatus), (0x008, halves s.decoder.peak s.decoder.load)]

/-- CMPs_STATUS. -/
def CmpSession.status (x : CmpSession) : Word :=
  fieldsWord [(x.cfg.q, 16), (x.cfg.level, 12), (x.cfg.source, 8), (x.cfg.tap, 4), (bit !x.keyReq.isEmpty, 1), (bit x.running, 0)]

/-- CMP_STATUS. -/
def State.cmpStatus (s : State) : Word :=
  let busy := s.compress.engines.filter (·.job.isSome)
  fieldsWord [(bit (busy.any fun e => match e.job with | some (.replay _) => true | _ => false), 12),
    (bitsOf (s.compress.sessions.map (·.running)), 8), (busy.length, 0)]

/-- CMPD_STATUS. -/
def State.cmpdStatus (s : State) : Word := fieldsWord [(s.compress.lastStripe, 8), (s.compress.lastCause, 0)]

/-- The CMP window (R275). -/
def cmpReg (o : Nat) (s : State) : Word :=
  match blockAt o 0x100 0x20 4 with
  | some (k, b) =>
    let x := s.cmp k
    regAt b ([(0x00, x.status), (0x04, x.lastFrame), (0x18, wordN (x.ratio % 65536))] ++ regRun 0x08 x.cnt)
  | none =>
    regAt o ([(0x000, s.cmpStatus), (0x008, halves s.compress.peak s.compress.util), (0x200, s.cmpdStatus)] ++
      regRun 0x204 s.compress.cnt)

/-- GRN_STATUS. -/
def State.grnStatus (s : State) : Word :=
  let g := s.granary
  fieldsWord [(g.cfg.privChannels, 16), ((g.channels.filter (·.up)).length, 8), ((g.channels.map (·.band)).foldl max 0, 4),
    (bit s.migrating, 3), (g.cfg.migrateEnable, 2), (bit g.dramReady, 0)]

/-- CHn_STATUS. DESIGN CHOICE, unsafe (log entry 41): RETRAINING is never seen as 1. -/
def State.chStatus (n : Nat) (s : State) : Word :=
  let c := s.channel n
  let down := (c.ranks.filter (·.down)).length
  fieldsWord [(c.ranks.length, 12), (c.capacity, 10), (c.band, 8), (if down = 0 then 0 else if down = c.ranks.length then 2 else 1, 6),
    (bit (decide (n < s.granary.cfg.privChannels)), 4), (bit (decide (0 < c.window)), 2), (bit c.retrainDue, 1), (bit c.up, 0)]

/-- The GRN window (R303). -/
def grnReg (o : Nat) (s : State) : Word :=
  match blockAt o 0x100 0x20 24 with
  | some (n, b) =>
    let c := s.channel n
    regAt b [(0x00, s.chStatus n), (0x04, c.cntReread), (0x08, c.cntPoison), (0x0C, halves c.peak c.util)]
  | none =>
    regAt o ([(0x000, s.grnStatus), (0x008, wordN s.sramFree), (0x00C, wordN (s.classFree false / 256)),
      (0x010, wordN (s.classFree true / 256)), (0x014, wordN s.granary.buffers.length), (0x058, s.granary.cnt.getD 8 0)] ++
      regRun 0x020 (s.granary.cnt.take 8))

/-- The REC window (R320). -/
def recReg (o : Nat) (s : State) : Word :=
  match blockAt o 0x100 0x20 4 with
  | some (d, b) => regAt b ((0x00, (s.drive d).status) :: regRun 0x04 (s.drive d).cnt)
  | none => match blockAt o 0x200 0x20 16 with
    | some (n, b) =>
      let x := s.recSession n
      regAt b ([(0x00, s.recStatus n), (0x04, x.lastFrame)] ++ regRun 0x08 x.cnt)
    | none => regAt o [(0x000, s.recWord), (0x008, wordN s.freeExtents)]

/-- PTP_OFFSET. -/
def State.ptpOffset (s : State) : Word := BitVec.ofInt 32 s.net.ptp.offsetNs

/-- The NET window (R339). -/
def netReg (o : Nat) (s : State) : Word :=
  match blockAt o 0x100 0x40 2 with
  | some (p, b) => match s.netPort? p with
    | some x => regAt b ((0x00, x.status) :: regRun 0x04 x.cnt)
    | none => 0
  | none => match blockAt o 0x200 0x20 16 with
    | some (n, b) => match s.net.streams[n]? with
      | some x => regAt b ((0x00, x.status) :: regRun 0x04 x.cnt)
      | none => 0
    | none =>
      let x := s.net.ptp
      regAt o ([(0x000, s.netStatus), (0x008, x.status), (0x00C, BitVec.ofInt 32 x.rateAdj), (0x010, s.ptpOffset),
        (0x014, BitVec.ofInt 32 (roundDiv (x.pathDelay.getD 0) 65536))] ++ regRun 0x020 s.net.cnt)

/-- The MON window (R352). -/
def monReg (o : Nat) (s : State) : Word :=
  let m := s.monitor
  regAt o ([(0x000, s.monStatus), (0x008, m.frameCount), (0x00C, s.shownFrame), (0x010, wordN (bitsOf m.failed))] ++
    regRun 0x020 m.cnt ++ regRun 0x100 m.results)

/-- AUDp_STATUS. -/
def State.audPortStatus (p : Nat) (s : State) : Word :=
  let x := s.audPort p
  fieldsWord [(x.fill, 8), (bit (decide (12 ≤ x.fill) || decide (x.fill ≤ 4)), 7),
    (bit (x.gates.any Gate.waits), 6), (x.cfg.rate, 4), (x.cfg.clock, 2), (bit (x.cfg.clock != 2 || x.locked), 1), (bit (s.portRuns p), 0)]

/-- AUDc_STATUS. -/
def AudCapture.status (x : AudCapture) : Word := fieldsWord [(x.lead, 8), (bit (x.masks != x.maskShadow), 7), (bit x.running, 0)]

/-- AUD_STATUS. -/
def State.audStatus (s : State) : Word :=
  fieldsWord [(bitsOf (s.audio.captures.map (·.running)), 8), (bitsOf ((List.range 8).map fun p => s.portRuns p), 0)]

/-- A word of four bytes, the first lowest. -/
def leWords (n : Nat) (bs : List Byte) : List Word := (List.range n).map fun k => wordN (leNat ((bs.drop (4 * k)).take 4))

/-- The AUD window (R371). -/
def audReg (o : Nat) (s : State) : Word :=
  match blockAt o 0x100 0x40 8 with
  | some (p, b) =>
    let x := s.audPort p
    regAt b ((0x00, s.audPortStatus p) :: regRun 0x04 x.cnt ++
      (if (p = 4 ∨ p = 5) ∧ s.isInput p then regRun 0x20 (leWords 6 x.status) else []))
  | none => match blockAt o 0x400 0x20 4 with
    | some (c, b) =>
      let x := s.capture c
      regAt b ([(0x00, x.status), (0x04, wordN x.lastSeq)] ++ regRun 0x08 x.cnt)
    | none => regAt o [(0x000, s.audStatus), (0x008, s.audio.cntGate)]

/-- EVT_STATUS. -/
def EventState.status (v : EventState) : Word :=
  fieldsWord [(bit (v.logRing != 0), 3), (v.bell.hold, 2), (bit v.modeNext.isSome, 1), (bit v.channelMode, 0)]

/-- The EVT window (R392). -/
def evtReg (o : Nat) (s : State) : Word :=
  let v := s.events
  regAt o ([(0x000, v.status), (0x004, fieldsWord [(v.bell.hold, 2)]), (0x00C, wordN v.groups.toNat), (0x010, v.seq),
    (0x014, wordN v.cause.toNat), (0x058, v.cnt.getD 8 0), (0x05C, v.cnt.getD 9 0), (0x06C, v.cnt.getD 10 0)] ++
    regRun 0x020 (v.cnt.take 8))

/-- The TBL window (R417). -/
def tblReg (o : Nat) (s : State) : Word :=
  match blockAt o 0x4000 0x400 4 with
  | some (p, b) => laneReg (2 + p) b s
  | none => match blockAt o 0x100 0x20 4 with
    | some (p, b) =>
      let x := s.treePort p
      regAt b ([(0x00, x.status), (0x04, BitVec.ofInt 32 x.delay)] ++ regRun 0x08 x.cnt)
    | none =>
      regAt o ([(0x000, s.tblStatus), (0x008, s.tblNode), (0x00C, s.tree.epoch), (0x010, s.tblOffset),
        (0x014, wordN s.tree.lead)] ++ regRun 0x020 s.tree.cnt)

/-- The BUS window (R431). -/
def busReg (o : Nat) (s : State) : Word :=
  let b := s.bus
  regAt o ([(0x000, s.busStatus), (0x008, b.gpioIn), (0x00C, b.gpioOut &&& 0xFFFF), (0x010, b.gpioOut >>> 16),
    (0x058, b.target.cntProto), (0x05C, b.lens.cntMiss)] ++
    regRun 0x020 (b.i2c.flatMap fun x => [x.cntArb, x.cntClear]) ++ regRun 0x068 (b.uarts.map (·.cntErr)))

/-- The SEC window (R446). -/
def secReg (o : Nat) (s : State) : Word :=
  let n := s.sec.nvm
  regAt o ([(0x000, s.secStatus), (0x008, wordN n.rollback), (0x00C, wordN n.index),
    (0x010, fieldsWord [(s.tokenSeconds % 1024, 16), (n.tokens, 0)])] ++ regRun 0x020 s.sec.cnt)

/-- A temperature in bits [15:0]. -/
def tempWord (t : Int) : Word := wordN (twos 16 t)

/-- The PWR window (R465). -/
def pwrReg (o : Nat) (s : State) : Word :=
  let p := s.power
  regAt o ([(0x000, s.pwrStatus), (0x008, tempWord s.junction), (0x00C, tempWord (p.peak.getD s.junction)), (0x010, wordN p.avs),
    (0x014, if p.log.isEmpty then 0xFFFFFFFF else p.logNext - 1)] ++ regRun 0x020 p.cnt ++ regRun 0x100 (p.temps.map tempWord))

/-- The registers of window `i` that are neither snapshots nor wide. -/
def blockReg (i o : Nat) (s : State) : Word :=
  match i with
  | 0 => sysReg o s
  | 1 => rasReg o s
  | 2 => intakeReg 0 o s
  | 3 => intakeReg 1 o s
  | 4 => milReg o s
  | 5 => lksReg o s
  | 6 => shfReg o s
  | 7 => decReg o s
  | 8 => cmpReg o s
  | 9 => grnReg o s
  | 10 => recReg o s
  | 11 => netReg o s
  | 12 => monReg o s
  | 13 => audReg o s
  | 14 => evtReg o s
  | 15 => tblReg o s
  | 16 => busReg o s
  | 17 => secReg o s
  | 18 => pwrReg o s
  | _ => 0

/-! ## Wide windows (R51, R59) -/

/-- The layout of a Device Clock value (R51). -/
def clkWords (c : Clk) : List Word :=
  [wordN c.frac.toNat, wordN c.ns.toNat, wordN c.sec.toNat, wordN (c.sec.toNat / 2 ^ 32)]

/-- A 64-bit value in two words, the lower first. -/
def words64 (v : Nat) : List Word := [wordN v, wordN (v / 2 ^ 32)]

/-- The word 0 repeated. -/
def zeros4 : List Word := [0, 0, 0, 0]

/-- Bytes that channels have read and written in the last complete raster frame (R303). -/
def State.moved (only : Nat → Bool) (s : State) : List Word :=
  let cs := (indexed s.granary.channels).filter fun nc => only nc.1
  words64 ((cs.map (·.2.lastRead)).sum) ++ words64 ((cs.map (·.2.lastWritten)).sum)

/-- The four words that selector `sel` of window `i` gives. -/
def State.wideValue (i sel : Nat) (s : State) : List Word :=
  match i, sel with
  | 0, 0 => words64 Config.serial.toNat ++ [0, 0]
  | 0, 1 => words64 s.control.sincePowerGood.toNat ++ [0, 0]
  | 1, 0 => clkWords s.raster.clock
  | 1, 1 => clkWords s.raster.frameStamp
  | 1, 2 => clkWords s.raster.bellStamp
  | 1, 3 => clkWords s.raster.refStamp
  | 2, 0 => ((s.unit 0).lastStart.map fun f => clkWords f.2).getD zeros4
  | 2, 1 => clkWords (s.unit 0).lastEnd
  | 3, 0 => ((s.unit 1).lastStart.map fun f => clkWords f.2).getD zeros4
  | 3, 1 => clkWords (s.unit 1).lastEnd
  | 4, 0 => clkWords (s.ctx 0).outTime
  | 4, 1 => clkWords (s.ctx 1).outTime
  | 4, 2 => clkWords (s.ctx 2).outTime
  | 5, 0 => clkWords s.looks.readyTime
  | 6, 0 => clkWords s.sheaf.planTime
  | 6, 1 => clkWords s.sheaf.auTime
  | 6, 2 => s.poolCounts.map wordN
  | 7, 0 => clkWords s.decoder.readyTime
  | 8, 0 => clkWords s.compress.chunkTime
  | 8, 1 => clkWords s.compress.replayTime
  | 9, 0 => s.moved fun _ => true
  | 9, 1 => s.moved fun n => decide (n < s.granary.cfg.privChannels)
  | 9, 2 => clkWords s.granary.switchTime
  | 10, 0 => match s.record.volume with
    | some v => words64 v.written ++ words64 (s.freeExtents * 2 ^ v.shift)
    | none => zeros4
  | 10, 1 => clkWords s.record.journalTime
  | 11, 0 => clkWords s.net.ptp.lastSync
  | 11, 1 => words64 (twos 64 s.net.ptp.offset) ++ [0, 0]
  | 11, 2 => words64 s.net.ptp.grandmaster ++ [0, 0]
  | 12, 0 => clkWords s.monitor.flipTime
  | 13, 0 => clkWords s.audio.lastFirst
  | 14, 0 => clkWords s.raster.bellStamp
  | 14, 1 => clkWords s.events.logTime
  | 15, 0 => clkWords s.tree.lastTime
  | 15, 1 => words64 (twos 64 (roundDiv (s.tree.offset * 65536) 1000)) ++ [0, 0]
  | 15, 2 => words64 (s.runMap.toNat % 2 ^ 64) ++ words64 (s.runMap.toNat / 2 ^ 64)
  | 16, 0 => clkWords s.bus.lens.lastRequest
  | 17, 0 => leWords 4 s.sec.fwDigest
  | 17, 1 => leWords 4 (s.sec.fwDigest.drop 16)
  | 17, 2 => leWords 4 s.control.configDigest
  | 17, 3 => leWords 4 (s.control.configDigest.drop 16)
  | 18, 0 => ((s.power.log.getLast?).map fun e => clkWords e.time).getD zeros4
  | _, _ => zeros4

/-- WIDE_VALUE_VALID: the four words hold the value selected (R59). DESIGN CHOICE, unsafe (log entry 26): wide data while
VALID is 0. -/
def wideValueValid (b : Blk) (s : State) : State :=
  s.onControl fun c => { c with wides := modAt c.wides (blkIndex b) fun w =>
    if w.valid then w else { w with valid := true, data := s.wideValue (blkIndex b) w.sel } }

/-- WIDE_SEL_WRITE: SELECT is written and VALID clears; the words until VALID sets again are free (R59). DESIGN CHOICE,
unsafe (log entry 26): wide data while VALID is 0. -/
def wideSelWrite (b : Blk) (v : Word) (s : State) : State :=
  let n := s.fresh
  { s with control := { s.control with wides := modAt s.control.wides (blkIndex b) fun _ =>
             { sel := v.toNat % 4, valid := false, data := (List.range 4).map fun k => wordN (Config.freeNat (n + k)) } }
           fresh := n + 4 }

/-- Word `k` of a wide window: WIDE_SEL, WIDE_STATUS, then the four data words. -/
def Wide.word (k : Nat) (w : Wide) : Word :=
  match k with
  | 0 => wordN w.sel
  | 1 => wordN (bit w.valid)
  | k + 2 => w.data.getD k 0

/-! ## Snapshots (R386) -/

/-- What a Bell latches that gives the sequence number `seq`: every snapshot register, by address. -/
def State.snapMap (seq : Word) (s : State) : List (Nat × Word) :=
  let at_ (i : Nat) (rs : List (Nat × Word)) : List (Nat × Word) := rs.map fun r => (windowBase i + r.1, r.2)
  let lanes (p base : Nat) : List (Nat × Word) := (List.range (s.laneCount p)).flatMap fun k =>
    let l := s.lane (macroOf p k)
    let b := base + 0x100 + 0x40 * k
    [(b + 0x30, seq), (b + 0x34, l.status), (b + 0x38, l.cnt.getD 0 0)]
  let intake (p : Nat) : List (Nat × Word) := at_ (2 + p) ([(0x0E0, seq), (0x0E4, (s.unit p).lastFrame),
    (0x0E8, (s.unit p).backlog), (0x0EC, (s.unit p).cnt.getD 1 0)] ++ lanes p 0x4000)
  at_ 0 [(0x060, seq), (0x064, s.irqStatus)] ++
  at_ 1 [(0x060, seq), (0x064, s.raster.frame), (0x068, s.raster.lineWord)] ++
  intake 0 ++ intake 1 ++
  at_ 4 ([(0x060, seq), (0x064, halves s.mill.peak s.mill.util)] ++ (List.range 3).flatMap fun k =>
    [(0x130 + 0x80 * k, (s.ctx k).lastFrame), (0x134 + 0x80 * k, (s.ctx k).lastWord)]) ++
  at_ 5 ([(0x060, seq), (0x064, halves s.looks.peak s.looks.used)] ++ (List.range 48).map fun r =>
    (0x414 + 0x20 * r, (s.rend r).lastFrame)) ++
  at_ 6 ([(0x060, seq), (0x064, halves s.sheaf.peak s.sheaf.load)] ++ (List.range 48).map fun c =>
    (0x41C + 0x20 * c, (s.shf c).lastFrame)) ++
  at_ 7 [(0x060, seq), (0x064, halves s.decoder.peak s.decoder.load)] ++
  at_ 8 ([(0x060, seq), (0x064, halves s.compress.peak s.compress.util)] ++ (List.range 4).map fun k =>
    (0x11C + 0x20 * k, (s.cmp k).lastFrame)) ++
  at_ 9 ([(0x060, seq), (0x064, s.grnStatus)] ++ (List.range 24).map fun n =>
    (0x110 + 0x20 * n, halves (s.channel n).peak (s.channel n).util)) ++
  at_ 10 ([(0x060, seq), (0x064, wordN s.freeExtents)] ++ (List.range 16).map fun n =>
    (0x210 + 0x20 * n, (s.recSession n).lastFrame)) ++
  at_ 11 [(0x060, seq), (0x064, s.ptpOffset)] ++
  at_ 12 [(0x060, seq), (0x064, s.shownFrame)] ++
  at_ 13 ([(0x060, seq), (0x064, s.audStatus)] ++ (List.range 4).map fun c =>
    (0x410 + 0x20 * c, wordN (s.capture c).lastSeq)) ++
  at_ 14 [(0x060, seq), (0x064, wordN s.events.cause.toNat), (0x068, wordN s.events.groups.toNat)] ++
  at_ 15 ([(0x060, seq), (0x064, s.tblOffset)] ++ (List.range 4).flatMap fun t => lanes (2 + t) (0x4000 + 0x400 * t)) ++
  at_ 16 [(0x060, seq), (0x064, s.bus.gpioIn)] ++
  at_ 17 [(0x060, seq), (0x064, s.secStatus)] ++
  at_ 18 [(0x060, seq), (0x064, tempWord s.junction)]

/-! ## Reads -/

/-- A word of the slot memory (R61): in-slots and out-slots alternate every 4 KiB; only the eight host mailboxes have them. -/
def State.slotWord (o : Nat) (s : State) : Word := wordN (leNat (Mem.readN s.control.slots o 4))

/-- What a register or slot word reads as (R53, R57): until mailbox-ready only the SYS window answers. -/
def State.readReg (addr : Nat) (s : State) : Word :=
  let a := addr / 4 * 4
  if !s.ready && decide (0x10000 ≤ a) then 0
  else if a / 0x10000 = 1 then s.slotWord (a % 0x10000)
  else match windowOf a with
    | none => 0
    | some (i, o) =>
      if wideOffset i ≤ o ∧ o < wideOffset i + 0x18 then (s.control.wides.getD i {}).word ((o - wideOffset i) / 4)
      else match s.control.snaps.find? fun r => r.1 == a with
        | some r => r.2
        | none => blockReg i o s

end Sys2Proof.Machine
end

