-- ==== Sys2Proof/Machine/Events.lean ====
section
/-!
DEFINITION. The event router and the Bell (16_events_and_the_bell.md, R372 to R388): how what is due within an instant is
delivered, wave by wave, in ascending source order.
-/

namespace Sys2Proof.Machine

/-! ## Bell (R385 to R387) -/

/-- Counts 1 in counter `k` of R392. -/
def State.countEvt (k : Nat) (s : State) : State := s.onEvents fun v => { v with cnt := bumpAt v.cnt k }

/-- Phase units from one position to another by frame numbers and lines. -/
def State.phasesSince (p : Pos) (s : State) : Nat :=
  let h := s.here
  (((h.frame - p.frame).toNat * s.raster.cfg.force.totalLines + h.line) * 256 + h.phase) - (p.line * 256 + p.phase)

/-- A trigger lies within HOLDOFF_LINES lines after the last Bell (R386). -/
def State.heldOff (s : State) : Bool :=
  match s.events.lastBell with
  | none => false
  | some p => decide (s.phasesSince p < s.events.bell.holdoff * 256)

/-- Latches every snapshot register under the sequence number in force (R386, R387). -/
def State.latch (s : State) : State := s.onControl fun c => { c with snaps := s.snapMap s.events.seq }

/-- A Bell rings: the number, the cause, the snapshots, BELL_RUNG and, when asked for, the notice (R386, R387). -/
def State.ring (cause : Nat) (tree : Option Word) (e : Option Ev) (s : State) : State :=
  let s := s.onEvents fun v =>
    { v with seq := tree.getD (v.seq + 1), cause := putBit 0 cause true, lastBell := some s.here, bellNow := true, cnt := bumpAt v.cnt 4 }
  let s := s.onRaster fun r => { r with bellStamp := r.clock }
  let s := s.latch
  let s := match e with
    | some e => s.reRaise 0x0B8 e false
    | none => s.raise 0x0B8
  if s.events.bell.notify = 1 then s.onEvents fun v => { v with due := v.due ++ [.notice] } else s

/-- A trigger of cause bit `cause` (R385, R386). DESIGN CHOICE, unsafe (log entry 4): R386's window of 8 fabric cycles is
the model's step. -/
def State.trigger (cause : Nat) (tree : Option Word) (e : Option Ev) (s : State) : State :=
  let v := s.events
  if !v.bell.srcEn.testBit cause then s
  else if v.bell.hold = 1 then s.countEvt 6
  else if v.bellNow then
    let s := (s.onEvents fun v => { v with cause := putBit v.cause cause true }).countEvt 5
    match tree with
    | some n => (s.onEvents fun v => { v with seq := n }).latch
    | none => s
  else if cause ≠ 1 ∧ cause ≠ 5 ∧ s.heldOff then s.countEvt 6
  else s.ring cause tree e

/-- BELL_RUNG_NOTICE (R391). -/
def State.bellNotice (s : State) : State :=
  let v := s.events
  let p := v.lastBell.getD s.here
  s.notice 0x0D80 [itemN 1 4 v.seq.toNat, itemN 2 1 v.cause.toNat, itemN 3 4 p.frame.toNat,
    itemB 4 (toLe 2 p.line ++ toLe 1 p.phase)]

/-! ## Delivery (R374 to R381) -/

/-- Whether a source is secure (R373). -/
def secureSource (n : Nat) : Bool := n == 8 || (decide (0xF0 ≤ n) && decide (n ≤ 0xFF))

/-- The consumers that an event reaches, or the counter that a drop counts in: 9 = SECURE_BLOCK, 10 = GATED. -/
def EventState.targets (gate : BitVec 16) (e : Ev) (v : EventState) : Except Nat (List Nat) :=
  let r := v.routes.getD e.source {}
  let only (secure : Bool) (cs : List Nat) : List Nat := if secure then cs.filter fun c => c == 0 || c == 2 else cs
  if v.channelMode then
    if 128 ≤ r.publish then .ok []
    else
      let ch := v.channels.getD r.publish {}
      if secureSource e.source && !ch.secure then .error 9
      else if !gate.getLsbD (r.publish / 8) then .error 10
      else .ok (only ch.secure (((indexed v.subscribe).filter fun cs => cs.2 == r.publish).map (·.1)))
  else if secureSource e.source && r.secure == 0 then .error 9
  else
    let on (b c : Nat) : List Nat := if b = 1 then [c] else []
    .ok (only (r.secure == 1) (on r.bellEn 0 ++ on r.hostEn 1 ++ on r.fwEn 2 ++ on r.treeEn 3 ++ on r.pinEn (0x10 + r.pin)))

/-- The record of an event in LOG_RING (R384). -/
def logRecord (e : Ev) : List Byte :=
  toLe 2 0x0D01 ++ toLe 2 e.source ++ toLe 1 e.gen ++ toLe 1 (bit e.reRaise + 2 * bit e.fromTree) ++ toLe 2 e.originSource ++
    toLe 4 (e.originNode % 2 ^ 18) ++ toLe 4 e.frame.toNat ++ toLe 2 e.line ++ toLe 1 e.phase ++ [0] ++ clkBytes e.time

/-- The unit that writes LOG_RING. -/
def logUnit : Nat := 0x0D00

/-- A HOST delivery: one record, or one record lost (R384). -/
def State.hostLog (e : Ev) (s : State) : State :=
  match s.ringRecord s.events.logRing logUnit (logRecord e) with
  | (some _, s) => s.onEvents fun v => { v with logTime := e.time }
  | (none, s) => (s.countEvt 3).onEvents fun v => { v with logLost := v.logLost + 1 }

/-- Delivers an event to one consumer that is no group switch. -/
def State.deliverTo (e : Ev) (s : State) (c : Nat) : State :=
  if c = 0 then s.trigger 0 none (some e)
  else if c = 1 then s.hostLog e
  else if c = 2 then s.onEvents fun v => { v with delivered := v.delivered ++ [(e.source, e.gen)] }
  else if c = 3 then s.toTree (s.events.routes.getD e.source {}).treeTag e
  else if 0x10 ≤ c ∧ c < 0x30 then s.startPulse (c - 0x10) e
  else s

/-- A group switch that an event asks for: the group, whether it goes on, and the event. -/
structure Switch where
  group : Nat
  on : Bool
  event : Ev

/-- Delivers one event under the group states that stood at the gate; answers the group switches it asks for. -/
def State.deliver (gate : BitVec 16) (e : Ev) (s : State) : List Switch × State :=
  match s.events.targets gate e with
  | .error k => ([], s.countEvt k)
  | .ok cs =>
    ((cs.filter fun c => decide (0x30 ≤ c)).map fun c => ⟨c % 16, decide (c < 0x40), e⟩, cs.foldl (State.deliverTo e) s)

/-- The switches of one wave take effect together: a group switched on and off is off; each change raises GROUP_CHANGED as
a re-raise (R375, R378). -/
def State.switchGroups (sw : List Switch) (s : State) : State :=
  (List.range 16).foldl (fun s g =>
    let mine := sw.filter fun x => x.group == g
    let off := mine.find? fun x => !x.on
    match off <|> mine.head? with
    | none => s
    | some x =>
      if s.events.groups.getLsbD g == x.on then s
      else (s.onEvents fun v => { v with groups := putBit v.groups g x.on }).reRaise 0x0B9 x.event false) s

/-- Places an event by ascending source, after those of the same source. -/
def insertEv (e : Ev) : List Ev → List Ev
  | [] => [e]
  | x :: rest => if x.source ≤ e.source then x :: insertEv e rest else e :: x :: rest

/-- What is due and carries no event. -/
def State.dueNow (s : State) (d : Due) : State :=
  match d with
  | .event _ => s
  | .bell c => s.trigger c none none
  | .treeBell n => s.trigger 5 (some n) none
  | .notice => s.bellNotice

/-- One wave: the triggers without an event, then the events by source, then the group switches. -/
def State.wave (s : State) : State :=
  let ds := s.events.due
  let gate := s.events.groups
  let s := s.onEvents fun v => { v with due := [] }
  let s := ds.foldl State.dueNow s
  let es := (ds.filterMap fun d => match d with | .event e => some e | _ => none).foldl (fun l e => insertEv e l) []
  let (sw, s) := es.foldl (fun (acc : List Switch × State) e =>
    let (more, s) := acc.2.deliver gate e
    (acc.1 ++ more, s)) ([], s)
  s.switchGroups sw

/-- Waves until nothing is due; a re-raise carries at most generation 7, so the fuel is never used up. -/
def State.waves : Nat → State → State
  | 0, s => s
  | n + 1, s => if s.events.due.isEmpty then s else State.waves n s.wave

/-- Delivers all that is due within the present instant; a later trigger no longer joins a Bell of it. DESIGN CHOICE,
unsafe (log entry 3): consequences within an instant are all carried out in the step that caused them. DESIGN CHOICE,
unsafe (log entry 4): R386's window of 8 fabric cycles is the model's step. -/
def settle (s : State) : State :=
  if s.events.due.isEmpty && !s.events.bellNow then s
  else (State.waves 32 s).onEvents fun v => { v with bellNow := false }

/-- Delivers what is due without ending the instant. -/
def deliverDue (s : State) : State := State.waves 32 s

end Sys2Proof.Machine
end

