-- ==== Sys2Proof/Machine/Position.lean ====
section
/-!
DEFINITION. What happens as the raster reaches its positions: commits, Timetable periods, Bells, frame starts and the cut
of a crash lock (02_raster_time.md, R22, R27, R38 to R43; 03_control_model.md, R77 to R79).
-/

namespace Sys2Proof.Machine

/-! ## Commits (R38, R77, R78) -/

/-- The units that have FRAME fields and are bound to groups 2 to 63: Mill contexts, Looks, renditions, encoding contexts,
the ladder and the monitor. -/
def frameUnits : List Nat :=
  (List.range 3).map (0x0300 + ·) ++ (List.range 8).map (0x0400 + ·) ++ (List.range 48).map (0x0410 + ·) ++
    (List.range 48).map (0x0500 + ·) ++ [0x0530, 0x0B00]

/-- A unit's shadow is copied into force. -/
def State.commitUnit (u : Nat) (s : State) : State :=
  if 0x0300 ≤ u ∧ u < 0x0303 then s.onCtx (u - 0x0300) fun x => { x with cfg := x.cfg.commit }
  else if 0x0400 ≤ u ∧ u < 0x0408 then s.onLook (u - 0x0400) fun x => { x with cfg := x.cfg.commit }
  else if 0x0410 ≤ u ∧ u < 0x0440 then s.onRend (u - 0x0410) fun x => { x with cfg := x.cfg.commit, filters := x.filters.commit }
  else if 0x0500 ≤ u ∧ u < 0x0530 then s.onShf (u - 0x0500) fun x => { x with cfg := x.cfg.commit }
  else if u = 0x0530 then s.onSheaf fun x => { x with ladder := x.ladder.commit }
  else if u = 0x0B00 then s.onMonitor fun m => { m with ovl := m.ovl.commit, rects := m.rects.commit }
  else s

/-- COMMIT_SEQ of a group rises by 1. -/
def State.bumpGroup (g : Nat) (s : State) : State :=
  s.onControl fun c => { c with groups := modAt c.groups g fun x => { seq := x.seq + 1, lastFrame := some s.raster.frame } }

/-- A commit of a group: the shadows of every unit bound to it, at one instant (R78). -/
def State.commitGroup (g : Nat) (s : State) : State :=
  let us := frameUnits.filter fun u => s.groupOf u == g
  (us.foldl (fun s u => s.commitUnit u) s).bumpGroup g

/-! ## Periods (R40 to R42) -/

/-- What an action does at the position where it fires (R40). DESIGN CHOICE, unsafe (log entry 25): RECORD_START by a
period while a rate change waits. -/
def State.act (i action arg : Nat) (s : State) : State :=
  let now := s.raster.frame
  match action with
  | 1 => s.commitGroup arg
  | 2 => s.raise (0x100 + i)
  | 3 => s.onEvents fun v => { v with due := v.due ++ [.bell 1] }
  | 4 => s.intakeStart arg
  | 5 => s.intakeStop arg
  | 6 => if s.raster.cfg.shadow.rateDiffers s.raster.cfg.force then s else s.recStart arg now false
  | 7 => s.recStop arg now 0 0
  | 8 => match s.shfStart arg now with
    | .inl _ => s
    | .inr r => r.2
  | 9 => (s.shfStop arg).2
  | 10 => s.refreshWindow arg
  | 11 => s.retrainWindow
  | 12 => s.thermalStep
  | _ => s

/-- A ONCE period that fires clears its ENABLE (R39). -/
def TtEntry.fire (now : Frame) (e : TtEntry) : TtEntry :=
  let p := e.cfg.force
  let e := { e with fired := some now }
  if p.selector = 2 ∧ p.enable = 1 ∧ Frame.atOrAfter now (BitVec.ofNat 32 p.frameValue) = true then e.disable else e

/-- A period due or carried here fires, unless 16 have fired on the line; a quarantined member passes over what its head
wrote last (R42, R413). -/
def State.fire (c : Carried) (s : State) : State :=
  if s.tree.quarantined && (s.raster.periods.getD c.index {}).fromHead then s.countTree 2 1
  else if 16 ≤ s.raster.firedOnLine then s.carry c
  else
    let s := s.onRaster fun r => { r with firedOnLine := r.firedOnLine + 1 }
    (s.onPeriod c.index (TtEntry.fire s.raster.frame)).act c.index c.action c.arg

/-- SYS_COMMITs due at the frame start, in the order of their apply instants (R78, R486). -/
def State.sysCommits (s : State) : State :=
  let due := s.control.commits.filter fun p => s.raster.frame.atOrAfter p.frame
  let s := s.onControl fun c => { c with commits := c.commits.filter fun p => !s.raster.frame.atOrAfter p.frame }
  due.foldl (fun s p => s.commitGroup p.group) s

/-- A change of event mode takes effect (R379). -/
def State.modeChange (s : State) : State :=
  match s.events.modeNext with
  | some (f, m) => if s.raster.frame.atOrAfter f then s.onEvents fun v => { v with channelMode := m, modeNext := none } else s
  | none => s

/-- Bells asked for at this position: the tree's first, so that a Bell of the same position joins it (R389). DESIGN
CHOICE, unsafe (log entry 22): positions behind the present one, and Bells in a cut part of a frame. -/
def State.bellsHere (s : State) : State :=
  let h := s.here
  let here (b : BellAt) : Bool := b.pos.line == h.line && b.pos.phase == h.phase && h.frame.atOrAfter b.pos.frame
  let due := s.events.bellsAt.filter here
  s.onEvents fun v =>
    { v with bellsAt := v.bellsAt.filter fun b => !here b
             due := v.due ++ due.filterMap (fun b => b.tree.map Due.treeBell) ++
               (due.filter fun b => b.tree.isNone).map fun _ => Due.bell 2 }

/-- Codewords of the LTC output that start on this line (R47). -/
def State.ltcHere (s : State) : State :=
  let due := s.raster.ltcOut.filter fun x => x.1 == s.raster.line
  (due.foldl (fun s x => s.send (.ltc x.2.1 x.2.2)) s).onRaster fun r => { r with ltcOut := r.ltcOut.filter fun x => x.1 != r.line }

/-- What falls at the start of a line whatever the Timetable holds: line ACTIVE_LINES, TIME flits on every 64th line, LTC
codewords and the lens poll (R372, R405, R47, R427). -/
def State.lineStart (s : State) : State :=
  let r := s.raster
  let s := if r.line = r.cfg.force.activeLines then s.raise 0x019 else s
  let s := if r.line % 64 = 0 then s.timeFlits else s
  let s := if s.bus.lens.cfg.bus ≠ 255 ∧ s.bus.lens.cfg.lensLine = r.line then s.lensPoll else s
  s.ltcHere

/-- Everything that falls at the present position, in the order of R41. -/
def State.atPosition (s : State) : State :=
  let r := s.raster
  let due := s.duePeriods r.line r.phase
  let asCarried (ip : Nat × Period) : Carried := { index := ip.1, action := ip.2.action, arg := ip.2.arg }
  let held := if r.phase = 0 then r.carried else []
  let s := if r.phase = 0 then s.onRaster fun r => { r with carried := [] } else s
  let s := s.bellsHere
  let s := (due.filter fun ip => ip.2.action == 1).foldl (fun s ip => s.fire (asCarried ip)) s
  let s := held.foldl (fun s c => s.fire c) s
  let s := if r.line = 0 ∧ r.phase = 0 then s.sysCommits.migrationSwitch.modeChange else s
  let s := (due.filter fun ip => ip.2.action != 1).foldl (fun s ip => s.fire (asCarried ip)) s
  if r.phase = 0 then s.lineStart else s

/-! ## Frame starts -/

/-- The event block's notices at the end of a frame (R383, R384). -/
def State.eventFrameEnd (s : State) : State :=
  let v := s.events
  let f := s.raster.frame.toNat
  let s := if v.genDrops + v.loopDrops = 0 then s
    else s.notice 0x0D82 [itemN 1 4 f, itemN 2 4 v.genDrops, itemN 3 4 v.loopDrops]
  let s := if v.logLost = 0 then s else s.notice 0x0D83 [itemN 1 4 f, itemN 2 4 v.logLost]
  s.onEvents fun v => { v with genDrops := 0, loopDrops := 0, logLost := 0 }

/-- The end of the frame for the intakes: frames that never came (R122, R133). -/
def State.intakeFrameEnd (s : State) : State :=
  let missed (p : Nat) : Bool := (s.unit p).running && !(s.unit p).gotFrame
  let a := missed 0
  let b := missed 1
  let c := missed 2
  let s := (s.countUnit 0 12 (bit a)).countUnit 1 12 (bit b)
  s.onIntake fun i =>
    { i with units := i.units.map fun u => { u with gotFrame := false }
             replay := if c then { i.replay with cntSlip := i.replay.cntSlip + 1 } else i.replay }

/-- The end of a raster frame, with the values that were in force in it. -/
def State.frameEnd (s : State) : State :=
  let s := s.rasFrameEnd.eventFrameEnd.intakeFrameEnd
  s.millFrameEnd.poolFrameEnd.channelFrameEnd.decFrameEnd.cmpFrameEnd

/-- What a frame gives the Sheaf for the records of its AUs. -/
def State.frameInfo (s : State) : FrameInfo :=
  { frame := s.raster.frame, mark := s.raster.mark, start := s.raster.frameStamp, tc := s.raster.tcNow, sub := s.raster.tcSub }

/-- A member whose upstream rate has changed ends its streams and its recordings (R199). -/
def State.rateEnds (last : Frame) (s : State) : State :=
  let s := (List.range 48).foldl (fun s c =>
    s.onShf c fun x => if x.running && x.stopFrame.isNone then { x with stopFrame := some last, stopAt := none } else x) s
  s.recStopAll s.raster.frame 3 0

/-- RAS_CLOCK_SET is answered at the frame start that it waited for (R48). -/
def State.clockAnswered (s : State) : State :=
  (List.range 16).foldl (fun s _ => complete .clockSet stOk [itemB 0x4001 (clkBytes s.raster.frameStamp)] s) s

/-- Starts and stops of the intakes that name this frame (R126, R136). -/
def State.intakeTurn (s : State) : State :=
  (List.range 3).foldl (fun s p =>
    let due (x : Frame × Bool) : Bool := s.raster.frame.atOrAfter x.1
    let turns := (s.unit p).turns
    let s := s.onUnit p fun u => { u with turns := u.turns.filter fun x => !due x }
    (turns.filter due).foldl (fun s x => if x.2 then s.intakeStart p else s.intakeStop p) s) s

/-- A power-down that names this frame, and a throttle step when no period asks for one (R456, R458, R463). -/
def State.powerTurn (s : State) : State :=
  let stepping := s.raster.periods.any fun e => e.cfg.force.enable == 1 && e.cfg.force.action == 12
  let s := if stepping then s else s.thermalStep
  if s.power.downAt.any fun f => s.raster.frame.atOrAfter f then
    (s.onPower fun p => { p with downAt := none }).shutdownBegin 2
  else s

/-- The services' part of a frame start: the plan for the frame that has ended, starts and stops that name this frame. -/
def State.frameTurn (first : Bool) (ended : FrameInfo) (s : State) : State :=
  let s := s.intakeTurn.shfStopsDue ended.frame
  let s := if first then s else s.shfPlan ended
  let s := s.audFrameStart
  let s := if first then s else s.netFrameStart ended.frame
  s.recFrameStart.recWork.monRate.stateReport.powerTurn

/-- A frame starts: the raster's own commit first, then the position, then the services (R38, R41). -/
def State.frameStart (first : Bool) (s : State) : State :=
  let ended := s.frameInfo
  let was := s.raster.tc.force
  let s := if first then s else deliverDue s.frameEnd
  let (jump, _, rate, s) := s.rasNewFrame first
  let s := (s.bumpGroup 0).bumpGroup 1
  let s := s.onPower fun p => { p with dwell := p.dwell.map (· + 1) }
  let s := (s.timetableStart jump).ladderJump jump
  let s := if rate then s.rateEnds ended.frame else s
  let s := s.tcFrameStart first was
  let s := s.clockAnswered.raise 0x018
  let s := if s.raster.tcSub = 0 ∧ (tcRatio s.raster.tc.force s.raster.cfg.force).isSome = true then s.raise 0x01B else s
  settle (s.atPosition.frameTurn first ended)

/-- The reference ends the frame at once (R27): it is marked CUT, the periods of the part not produced are carried, and
the frame that starts is aligned with the reference. DESIGN CHOICE, unsafe (log entry 23): STATE between a crash cut and
the next frame sync. -/
def State.crashCut (s : State) : State :=
  let s := ((s.setMark markCut).countRas 6 1).carryRest
  let s := s.cutFrames.audCut.monCut
  let s := s.onRaster fun r => { r with inGroup := r.src.genRatio, phaseErr := 0, mode := .slew, goodFrames := 0 }
  s.frameStart false

/-! ## Reaching a position -/

/-- Lines that pass count down the refresh windows. -/
def State.linesPass (n : Nat) (s : State) : State :=
  if n = 0 then s
  else s.onGranary fun g => { g with channels := g.channels.map fun c => { c with window := c.window - n } }

/-- The first position after the present one, up to the target, at which something falls. -/
def State.nextPos (target : Nat × Nat) (s : State) : Option (Nat × Nat) :=
  let r := s.raster
  let lines := [r.cfg.force.activeLines, (r.line / 64 + 1) * 64] ++
    (if s.bus.lens.cfg.bus = 255 then [] else [s.bus.lens.cfg.lensLine]) ++ r.ltcOut.map (·.1)
  let bells := s.events.bellsAt.filterMap fun b => if r.frame.atOrAfter b.pos.frame then some (b.pos.line, b.pos.phase) else none
  let all := s.periodPositions ++ bells ++ lines.map fun l => (l, 0)
  firstPos (all.filter fun p => posBefore (r.line, r.phase) p && !posBefore target p && decide (p.1 < r.cfg.force.totalLines))

/-- Moves to a position of the frame in progress. -/
def State.moveTo (p : Nat × Nat) (s : State) : State :=
  let s := s.linesPass (p.1 - s.raster.line)
  s.onRaster fun r => { r with line := p.1, phase := p.2, firedOnLine := if p.1 = r.line then r.firedOnLine else 0 }

/-- Reaches every position up to the target in turn. DESIGN CHOICE, unsafe (log entry 22): positions behind the present
one, and Bells in a cut part of a frame. -/
def State.runTo (target : Nat × Nat) : Nat → State → State
  | 0, s => s.moveTo target
  | n + 1, s =>
    match s.nextPos target with
    | none => if posBefore (s.raster.line, s.raster.phase) target then s.moveTo target else s
    | some p => State.runTo target n (settle (s.moveTo p).atPosition)

/-- More positions than a frame can hold. -/
def State.posFuel (s : State) : Nat := 65536 + 256 + s.events.bellsAt.length

/-- Runs to the end of the frame in progress and starts the next one. -/
def State.toNextFrame (s : State) : State :=
  let total := s.raster.cfg.force.totalLines
  let s := s.runTo (total - 1, 255) s.posFuel
  (s.linesPass 1).frameStart false

/-- The raster has reached a position: a later one of the frame in progress, or line 0, phase 0 of the next frame. Any
other position is none that the running raster can reach next. DESIGN CHOICE, unsafe (log entry 22): positions behind the
present one, and Bells in a cut part of a frame. -/
def rasterPositionReached (line phase : Nat) (s : State) : State :=
  let r := s.raster
  if !r.running then s
  else if line = 0 ∧ phase = 0 then s.toNextFrame
  else if line < r.cfg.force.totalLines ∧ phase < 256 ∧ posBefore (r.line, r.phase) (line, phase) = true then
    s.runTo (line, phase) s.posFuel
  else s

/-- REF_FRAME_SYNC at a raster position (R22, R25, R27): the raster reaches the position, then takes the sync. A cut due
at the very start of a frame finds it aligned. DESIGN CHOICE, unsafe (log entry 23): STATE between a crash cut and the
next frame sync. -/
def refFrameSyncAt (line phase : Nat) (s : State) : State :=
  let s := if (line, phase) = (s.raster.line, s.raster.phase) then s else rasterPositionReached line phase s
  let (cut, s) := refFrameSync s
  if !cut then s
  else if s.raster.line = 0 ∧ s.raster.phase = 0 then
    s.onRaster fun r => { r with inGroup := 0, phaseErr := 0, mode := .slew, goodFrames := 0 }
  else s.crashCut

end Sys2Proof.Machine
end

