-- ==== Sys2Proof/Machine/ControlCommands.lean ====
section
/-!
DEFINITION. The system commands (03_control_model.md, R72, R74, R77, R78).
-/

namespace Sys2Proof.Machine

/-! ## HELLO and information -/

/-- The versions that Oluhenu supports (R72). -/
def supportedVersions : List Nat := [0x0300, 0x0200, 0x0201, 0x0202, 0x0203, 0x0204]

/-- The version chosen from those that the host lists: the highest common major, and the lower of both ends' highest
minors (R72). -/
def chosenVersion (vs : List Nat) : Option Nat :=
  let minors (major : Nat) : List Nat := (vs.filter fun v => v / 256 == major).map (· % 256)
  if minors 3 ≠ [] then some 0x0300
  else if minors 2 ≠ [] then some (0x0200 + min 4 ((minors 2).foldl max 0))
  else none

/-- The session of a version. -/
def sessionOf (v : Nat) : Session := if v / 256 = 3 then .v3 else .v2 (v % 256)

/-- DESIGN CHOICE, unsafe (log entry 58): order of notices of one instant. -/
def cmdHello : Cmd where
  op := 0x0000
  args :=
    [ { ty := 1, form := .nat, count := 65535, packed := 2, judge := fun _ _ _ v => if v.nat ≤ 0xFFFF then none else some stRange },
      Arg.bytes 2 0 32 false 1 fun _ _ v => if v.bytes.all fun b => b.toNat < 128 then none else some stRange ]
  run c gs s :=
    match chosenVersion (gotNs gs 1) with
    | none => .err stVersion (gotPos gs 1) 1
    | some v =>
      let s := s.onMbx c.mb fun m => { m with session := sessionOf v }
      .items [itemN 0x4001 2 v, itemN 0x4002 4 s.control.fwVersion.toNat,
        itemN 0x4003 4 (if v / 256 = 3 then 65536 else 4096), itemN 0x4004 1 c.mb] s

def cmdSysInfoGet : Cmd where
  op := 0x0001
  args := []
  run _ _ s := .items ([itemN 0x4001 4 0x0B16C0A2, itemN 0x4002 4 s.control.fwVersion.toNat,
    itemN 0x4003 8 Config.serial.toNat, itemN 0x4004 1 (bit s.control.pcie0Ep)] ++ supportedVersions.map (itemN 0x4005 2)) s

def cmdSysNoticeSubscribe : Cmd where
  op := 0x0002
  args := [Arg.nat 1 0 (2 ^ 18 - 1) false]
  writes gs := has gs 1
  run c gs s :=
    let was := ((s.control.mailboxes[c.mb]?).map fun m => m.subs.toNat).getD 0
    .items [itemN 0x4001 4 was] (match gotN? gs 1 with
      | some v => s.onMbx c.mb fun m => { m with subs := BitVec.ofNat 18 v }
      | none => s)

/-! ## Commit groups -/

/-- Whether a unit's shadow differs from what is in force. -/
def State.unitPending (u : Nat) (s : State) : Bool :=
  if u = 0x0100 then s.raster.cfg.shadow != s.raster.cfg.force || s.raster.tc.shadow != s.raster.tc.force
  else if u = 0x0101 then s.raster.periods.any fun e => e.cfg.shadow != e.cfg.force
  else if 0x0300 ≤ u ∧ u < 0x0303 then (s.ctx (u - 0x0300)).cfg.shadow != (s.ctx (u - 0x0300)).cfg.force
  else if 0x0400 ≤ u ∧ u < 0x0408 then (s.look (u - 0x0400)).cfg.shadow != (s.look (u - 0x0400)).cfg.force
  else if 0x0410 ≤ u ∧ u < 0x0440 then
    let x := s.rend (u - 0x0410)
    x.cfg.shadow != x.cfg.force || x.filters.shadow != x.filters.force
  else if 0x0500 ≤ u ∧ u < 0x0530 then (s.shf (u - 0x0500)).cfg.shadow != (s.shf (u - 0x0500)).cfg.force
  else if u = 0x0530 then s.sheaf.ladder.shadow != s.sheaf.ladder.force
  else if u = 0x0B00 then s.monitor.ovl.shadow != s.monitor.ovl.force || s.monitor.rects.shadow != s.monitor.rects.force
  else false

/-- The units bound to a group. -/
def State.unitsOf (g : Nat) (s : State) : List Nat := (([0x0100, 0x0101] ++ frameUnits).filter fun u => s.groupOf u == g)

def cmdSysGroupBind : Cmd where
  op := 0x0003
  args :=
    [ Arg.nat 1 0 0xFFFF true fun s _ v =>
        if !frameUnits.contains v.nat then some stRange else if s.unitPending v.nat then some stBusy else none,
      Arg.nat 2 2 63 ]
  run _ gs s :=
    let u := gotN gs 1
    .items [itemN 0x4001 1 (s.groupOf u)]
      (s.onControl fun c => { c with bound := (u, gotN gs 2) :: c.bound.filter fun b => b.1 != u })

def cmdSysGroupStatus : Cmd where
  op := 0x0004
  args := [Arg.nat 1 0 63]
  run _ gs s :=
    let g := gotN gs 1
    let x := s.control.groups.getD g {}
    let us := s.unitsOf g
    let (last, s) := match x.lastFrame with
      | some f => (f.toNat, s)
      | none => (Config.freeNat s.draw.1 % 2 ^ 32, s.draw.2)
    .items ([itemN 0x4001 4 x.seq.toNat, itemN 0x4002 4 last, itemN 0x4003 1 (bit (us.any fun u => s.unitPending u))] ++
      us.map (itemN 0x4004 2)) s

/-- Frames from 0 to `x` whose number mod `n` equals `v`. -/
def namedUpTo (n v x : Nat) : Nat := if x < v then 0 else (x - v) / n + 1

/-- Frames that EVERY_N names among `len` frames from `first` on; the count of frames wraps at 2^32 (R17, R39). -/
def namedIn (n v first len : Nat) : Nat :=
  let upTo (lo hi : Nat) : Nat := namedUpTo n v hi - (if lo = 0 then 0 else namedUpTo n v (lo - 1))
  if len = 0 then 0
  else if first + len ≤ 2 ^ 32 then upTo first (first + len - 1)
  else upTo first (2 ^ 32 - 1) + upTo 0 (first + len - 1 - 2 ^ 32)

/-- Commits that a period makes in the frames after the present one, up to line 0, phase 0 of the target (R78). -/
def Period.commitsUntil (p : Period) (now target : Frame) (total : Nat) : Nat :=
  let len := (target - now).toNat - 1
  let at0 := p.line == 0 && p.phase == 0
  if p.enable ≠ 1 ∨ total ≤ p.line then 0
  else match p.selector with
    | 0 => len + bit at0
    | 1 => namedIn (max 1 p.n) p.frameValue (now + 1).toNat len + bit (at0 && p.names target)
    | _ =>
      let d := (BitVec.ofNat 32 p.frameValue - now).toNat
      bit (decide (0 < d) && decide (d ≤ len)) + bit (at0 && BitVec.ofNat 32 p.frameValue == target)

/-- Commits of group `g` due before the SYS_COMMIT that names `target` (R78): of the Timetable in force in the rest of this
frame, of the Timetable in shadow from then on, of carried periods, and of SYS_COMMITs already scheduled. -/
def State.commitsAhead (g : Nat) (target : Frame) (s : State) : Nat :=
  let r := s.raster
  let skip (e : TtEntry) : Bool := s.tree.quarantined && e.fromHead
  let own (p : Period) : Bool := p.action == 1 && p.arg == g
  let rest := (r.periods.filter fun e => own e.cfg.force && e.cfg.force.enable == 1 && !skip e && e.cfg.force.names r.frame &&
    posBefore (r.line, r.phase) (e.cfg.force.line, e.cfg.force.phase) && decide (e.cfg.force.line < r.cfg.force.totalLines)).length
  let later := (r.periods.filter fun e => own e.cfg.shadow && !skip e).map fun e =>
    e.cfg.shadow.commitsUntil r.frame target r.cfg.shadow.totalLines
  let carried := (r.carried.filter fun c => c.action == 1 && c.arg == g).length
  let scheduled := (s.control.commits.filter fun p =>
    p.group == g && decide ((p.frame - r.frame).toNat ≤ (target - r.frame).toNat)).length
  rest + later.sum + carried + scheduled

def cmdSysCommit : Cmd where
  op := 0x0005
  args := [Arg.nat 1 2 63, atFrameArg 2]
  run _ gs s :=
    let g := gotN gs 1
    let f := s.frameOr gs 2
    let n := s.commitSeq g + BitVec.ofNat 32 (s.commitsAhead g f) + 1
    .items [itemN 0x4001 4 n.toNat, itemN 0x4002 4 f.toNat]
      (s.onControl fun c => { c with commits := c.commits ++ [{ group := g, frame := f }] })

/-! ## Reset and echo -/

def cmdSysReset : Cmd where
  op := 0x0006
  args := [Arg.nat 1 0 1]
  run c gs s :=
    if gotN gs 1 = 0 then
      .wait .sessionEnd (s.post c.mb { replyPost 0x0006 c stOk [] s with thenReset := true })
    else .done (s.onControl fun c => { c with resetAsked := true })

def cmdSysEcho : Cmd where
  op := 0x0007
  args := [Arg.bytes 1 0 65535]
  run _ gs s := .items [itemB 0x4001 (gotB gs 1)] s

/-- The system commands. -/
def controlCommands : List Cmd :=
  [cmdHello, cmdSysInfoGet, cmdSysNoticeSubscribe, cmdSysGroupBind, cmdSysGroupStatus, cmdSysCommit, cmdSysReset, cmdSysEcho]

end Sys2Proof.Machine
end

