-- ==== Sys2Proof/Machine/RasterCommands.lean ====
section
/-!
DEFINITION. The raster, Timetable and timecode commands (02_raster_time.md, R48).
-/

namespace Sys2Proof.Machine

/-! ## Raster -/

/-- Whether a Sheaf context or a recording session runs (R199). -/
def State.rateUsers (s : State) : Bool := s.sheaf.ctxs.any (·.running) || s.record.sessions.any (·.running)

/-- The raster configuration of the shadow, a held one counted as part of it (R48). -/
def State.rasShadow (s : State) : RasConfig := (s.raster.held.map (·.2)).getD s.raster.cfg.shadow

/-- Judges a raster configuration: the relations of R18, then R199. -/
def State.judgeRas (gs : List Got) (n : RasConfig) (s : State) : Option (Nat × Nat × Nat) :=
  firstErr [
    refuseFirst gs [4, 3] stRange (n.activeLines + 8 ≤ n.totalLines),
    refuseFirst gs [1, 2] stRange (decide (n.rateDen ≤ n.rateNum) && decide (n.rateNum ≤ 1000 * n.rateDen)),
    refuseFirst gs [3, 1, 2] stRange (n.rateNum * n.totalLines ≤ 2000000 * n.rateDen),
    refuseFirst gs [1, 2, 3, 4] stBusy
      (!(s.rateUsers && [s.raster.cfg.force, s.raster.cfg.shadow, s.rasShadow].any fun c => c.rateDiffers n))]

/-- DEDUCED, unsafe (log entry 24): COMMIT_AT of a held raster configuration, and the start of frame 0. -/
def cmdRasConfigSet : Cmd where
  op := 0x0100
  args := fieldArgs 1 rasConfigFlds (fun _ _ => false) ++ [atFrameArg 5]
  writes gs := gs.any fun g => decide (g.ty ≤ 4)
  run _ gs s :=
    let wrote := gs.any fun g => decide (g.ty ≤ 4)
    let n := (putFields 1 rasConfigFlds gs s.raster.cfg).shadow
    let f := s.frameOr gs 5
    let at_ := [itemN 0x4001 4 f.toNat]
    if !wrote then .items at_ s
    else Ans.orElse (s.judgeRas gs n) <|
      if has gs 5 then
        .ok at_ [(0, s.commitSeq 0 + (f - s.raster.frame))] (s.onRaster fun r => { r with held := some (f, n) })
      else .ok at_ [s.nextCommit 0x0100] (s.onRaster fun r => { r with held := none, cfg := { r.cfg with shadow := n } })

def cmdRasConfigGet : Cmd where
  op := 0x0101
  args := []
  run _ _ s :=
    let f := (s.raster.held.map (·.1)).getD (s.raster.frame + 1)
    .items (itemN 0x4001 4 f.toNat :: shadowedItems rasConfigFlds { force := s.raster.cfg.force, shadow := s.rasShadow }) s

/-- RAS_SOURCE_SET (R21, R48): a genlock or sensor source that is absent is selected all the same, the raster enters
holdover and the status says so. DESIGN CHOICE, unsafe (log entry 46): what judges the raster source, timecode and binding
commands. -/
def cmdRasSourceSet : Cmd where
  op := 0x0102
  args := fieldArgs 1 rasSourceFlds (fun _ _ => false)
  writes gs := writesAbove 1 gs
  run _ gs s :=
    let s := s.onRaster fun r => { r with src := putPlain 1 rasSourceFlds gs r.src }
    match gotN? gs 1 with
    | none => .done s
    | some p =>
      let s := s.rasSource p
      if 1 ≤ p ∧ p ≤ 3 ∧ s.sourcePresent p = false then .kept stRefAbsent (gotPos gs 1) 1 (s.rasHoldover 0) else .done s

def cmdRasStatusGet : Cmd where
  op := 0x0103
  args := []
  run _ _ s := .items [itemN 0x4001 1 s.raster.mode.code, itemN 0x4002 1 s.raster.inUse, itemI 0x4003 4 s.raster.phaseErr,
    itemN 0x4004 8 s.linePeriodNow, itemW 0x4005 s.raster.cnt] s

def cmdRasFramePreset : Cmd where
  op := 0x0104
  args :=
    [ Arg.nat 1 0 0xFFFFFFFF true fun s _ v =>
        if 4 ≤ s.raster.inUse then some stSourceOwns
        else if s.expired (BitVec.ofNat 32 v.nat) then some stExpired else none,
      Arg.nat 2 0 0xFFFFFFFF ]
  run _ gs s := .done (s.onRaster fun r => { r with preset := some (gotF gs 1, gotF gs 2) })

def cmdRasClockSet : Cmd where
  op := 0x0105
  args := [clkArg 1 fun s _ _ => if s.net.ptp.stepped then some stSourceOwns else none]
  run _ gs s := .wait .clockSet (s.onRaster fun r => { r with clockSet := some (clkOf (gotB gs 1)) })

def cmdRasCountersClear : Cmd where
  op := 0x0106
  args := [maskArg 1]
  run _ gs s := .done (clearRas (gotN gs 1) s)

/-! ## Timetable -/

def cmdTtPeriodSet : Cmd where
  op := 0x0110
  args := Arg.nat 1 0 255 :: fieldArgs 2 periodFlds (fun _ _ => false)
  writes gs := writesAbove 2 gs
  run c gs s :=
    let i := gotN gs 1
    let e := s.raster.periods.getD i {}
    let cfg := putFields 2 periodFlds gs e.cfg
    let p := cfg.shadow
    let wrote := writesAbove 2 gs
    Ans.orElse (firstErr [
      refuseFirst gs [7, 6, 5] stRange (p.selector != 1 || decide (p.frameValue < p.n)),
      refuseFirst gs [9, 8] stRange (argFits p.action p.arg)]) <|
      .ok [] (s.commitAt 0x0101 wrote) (if wrote then
        s.onPeriod i fun e => { e with cfg, written := true, fromHead := s.fromUpstream c } else s)

def cmdTtPeriodGet : Cmd where
  op := 0x0111
  args := [Arg.nat 1 0 255]
  run _ gs s :=
    let e := s.raster.periods.getD (gotN gs 1) {}
    .items (fieldItems 0x4100 periodFlds e.cfg.force ++ [itemN 0x4001 1 (bit e.expired)] ++
      (e.fired.toList.map fun f => itemN 0x4002 4 f.toNat)) s

def cmdTtPeriodClear : Cmd where
  op := 0x0112
  args := [{ Arg.nats 1 0 255 65535 with packed := 1 }]
  writes _ := true
  run c gs s :=
    let s' := (gotNs gs 1).foldl (fun s i => s.onPeriod i fun e =>
      { e with cfg := { e.cfg with shadow := {} }, written := true, fromHead := s.fromUpstream c }) s
    .ok [] [s.nextCommit 0x0101] s'

/-! ## Timecode -/

/-- DESIGN CHOICE, unsafe (log entry 46): what judges the raster source, timecode and binding commands. -/
def cmdTcConfigSet : Cmd where
  op := 0x0120
  args := fieldArgs 1 tcConfigFlds (fun _ _ => false)
  writes gs := writesAbove 1 gs
  run _ gs s :=
    let cfg := putFields 1 tcConfigFlds gs s.raster.tc
    let n := cfg.shadow
    let wrote := writesAbove 1 gs
    Ans.orElse (firstErr [
      refuseFirst gs [4, 2, 3] stRange (n.drop == 0 || (n.base == 30 && n.tc1001 == 1)),
      refuseFirst gs ([2, 3] ++ (List.range 12)) stRange (tcRatio n s.raster.cfg.shadow).isSome]) <|
      .ok [] (s.commitAt 0x0100 wrote) (s.onRaster fun r => { r with tc := cfg })

/-- The number that a BCD byte spells, its flag bits apart; none when a digit is above 9. -/
def bcdOf (bits : Nat) (b : Byte) : Option Nat :=
  let v := b.toNat % 2 ^ bits
  if v % 16 ≤ 9 then some (v / 16 * 10 + v % 16) else none

/-- The time address that four bytes spell (ST 12-1, laid out as in R223). -/
def tcRead (bs : List Byte) : Option Timecode :=
  let at_ (k : Nat) : Byte := bs.getD k 0
  match bcdOf 6 (at_ 0), bcdOf 7 (at_ 1), bcdOf 7 (at_ 2), bcdOf 6 (at_ 3) with
  | some f, some se, some m, some h =>
    if f < 30 ∧ se < 60 ∧ m < 60 ∧ h < 24 then some { hours := h, minutes := m, seconds := se, frames := f, drop := (at_ 0).getLsbD 6 }
    else none
  | _, _, _, _ => none

/-- DESIGN CHOICE, unsafe (log entry 46): what judges the raster source, timecode and binding commands. -/
def cmdTcPreset : Cmd where
  op := 0x0121
  args :=
    [ Arg.nat 1 0 0xFFFFFFFF true fun s _ v =>
        if s.raster.tc.force.source ≠ 3 then some stSourceOwns
        else if s.expired (BitVec.ofNat 32 v.nat) then some stExpired else none,
      Arg.bytes 2 4 4 true 1 fun s _ v =>
        if (tcRead v.bytes).any fun t => t.frames < s.raster.tc.force.base then none else some stRange ]
  run _ gs s :=
    match tcRead (gotB gs 2) with
    | some t => .done (s.onRaster fun r => { r with tcPreset := some (gotF gs 1, { t with drop := r.tc.force.drop == 1 }) })
    | none => .err stRange (gotPos gs 2) 2

def cmdTcGet : Cmd where
  op := 0x0122
  args := []
  run _ _ s := .items [itemB 0x4001 (tcBytes s.raster.tcNow), itemN 0x4002 1 s.raster.tcSub,
    itemN 0x4003 4 s.raster.tcUser.toNat] s

/-- The raster, Timetable and timecode commands. -/
def rasterCommands : List Cmd :=
  [cmdRasConfigSet, cmdRasConfigGet, cmdRasSourceSet, cmdRasStatusGet, cmdRasFramePreset, cmdRasClockSet, cmdRasCountersClear,
   cmdTtPeriodSet, cmdTtPeriodGet, cmdTtPeriodClear, cmdTcConfigSet, cmdTcPreset, cmdTcGet]

end Sys2Proof.Machine
end

