-- ==== Sys2Proof/Machine/EventCommands.lean ====
section
/-!
DEFINITION. The event and Bell commands (16_events_and_the_bell.md, R380, R390).
-/

namespace Sys2Proof.Machine

/-! ## Owners (R380) -/

/-- Whether a call may write an item with this owner: the host's mailboxes and Ethernet's for owner 1, the upstream Tabsout
port's for owner 2. -/
def State.mayWrite (owner : Nat) (c : Call) (s : State) : Bool :=
  match owner with
  | 1 => decide (c.mb < 12)
  | 2 => s.tree.upstream.any fun u => c.mb == 12 + u
  | _ => false

/-- Owner of a channel; a number that names none counts as the host's. -/
def State.channelOwner (n : Nat) (s : State) : Nat := ((s.events.channels[n]?).map (·.owner)).getD 1

/-- Owner of a source's route word. -/
def State.routeOwner (n : Nat) (s : State) : Nat := ((s.events.routes[n]?).map (·.owner)).getD 0

/-- A refusal with DENIED at the first value of TYPE `ty` that the call may not write. -/
def denied (gs : List Got) (ty : Nat) (may : Val → Bool) : Option (Nat × Nat × Nat) :=
  (gs.find? fun g => g.ty == ty && !may g.val).map fun g => (stDenied, g.pos, ty)

/-! ## Routes, channels and subscriptions -/

/-- DESIGN CHOICE, unsafe (log entry 49): rights of the event commands. -/
def cmdEvtModeSet : Cmd where
  op := 0x0D00
  args := [Arg.nat 1 0 1 false, atFrameArg 2]
  writes gs := has gs 1
  run _ gs s :=
    let f := s.frameOr gs 2
    .items [itemN 0x4001 4 f.toNat] (match gotN? gs 1 with
      | some m => s.onEvents fun v => { v with modeNext := some (f, m == 1) }
      | none => s)

/-- Fields of R376 that EVT_ROUTE_SET writes: OWNER and SECURE stand apart. -/
def routeKeep (j : Nat) : Bool := j != 7 && j != 8

/-- A channel that a source publishes on or a consumer subscribes to: 0 to 127, or 0xFF for none. -/
def channelOk (n : Nat) : Bool := decide (n < 128) || n == 255

def cmdEvtRouteSet : Cmd where
  op := 0x0D01
  args := { Arg.nats 1 0 511 512 with packed := 2 } :: fieldArgs 0x100 routeFlds (fun _ _ => false) (keep := routeKeep) ++
    [ Arg.nat 2 0 255 false fun s _ v =>
        if !channelOk v.nat then some stRange else if s.channelOwner v.nat = 0 then some stDenied else none ]
  writes gs := gs.any fun g => decide (2 ≤ g.ty) && decide (g.ty < 0x8000)
  run c gs s :=
    Ans.orElse (denied gs 1 fun v => s.mayWrite (s.routeOwner v.nat) c) <|
      let set (r : Route) : Route :=
        let r := putPlain 0x100 routeFlds gs r
        { r with publish := (gotN? gs 2).getD r.publish }
      .done (s.onEvents fun v => { v with routes := (gotNs gs 1).foldl (fun l n => modAt l n set) v.routes })

def cmdEvtRouteGet : Cmd where
  op := 0x0D02
  args := [Arg.nat 1 0 511]
  run _ gs s :=
    let r := s.events.routes.getD (gotN gs 1) {}
    .items (fieldItems 0x4100 routeFlds r ++ [itemN 0x4001 1 r.publish]) s

def cmdEvtChannelSet : Cmd where
  op := 0x0D03
  args := [Arg.nat 1 0 127, Arg.nat 2 0 1 false]
  writes gs := has gs 2
  run c gs s :=
    Ans.orElse (denied gs 1 fun v => s.mayWrite (s.channelOwner v.nat) c) <|
      .done (match gotN? gs 2 with
        | some b => s.onEvents fun v => { v with channels := modAt v.channels (gotN gs 1) fun x => { x with secure := b == 1 } }
        | none => s)

/-- Consumers of R374. -/
def consumerOk (n : Nat) : Bool := decide (n < 4) || (decide (0x10 ≤ n) && decide (n < 0x50))

/-- Consumer and channel of one pair of EVT_SUBSCRIBE_SET. -/
def subPair (v : Val) : Nat × Nat := ((v.bytes.getD 0 0).toNat, (v.bytes.getD 1 0).toNat)

/-- A subscription takes the owner of the channel that it names: a call must be allowed on the channel that it leaves and
on the one that it takes (R377, R380). DESIGN CHOICE, unsafe (log entry 49): rights of the event commands. -/
def cmdEvtSubscribeSet : Cmd where
  op := 0x0D04
  args := [Arg.bytes 1 2 2 true 0x50 fun s _ v =>
    if !consumerOk (subPair v).1 || !channelOk (subPair v).2 then some stRange
    else if s.channelOwner (subPair v).2 = 0 then some stDenied else none]
  writes _ := true
  run c gs s :=
    let may (v : Val) : Bool :=
      s.mayWrite (s.channelOwner (s.events.subscribe.getD (subPair v).1 255)) c && s.mayWrite (s.channelOwner (subPair v).2) c
    Ans.orElse (denied gs 1 may) <|
      .done (s.onEvents fun x =>
        { x with subscribe := (gotAll gs 1).foldl (fun l v => setAt l (subPair v).1 (subPair v).2) x.subscribe })

/-- DESIGN CHOICE, unsafe (log entry 49): rights of the event commands. -/
def cmdEvtGroupSet : Cmd where
  op := 0x0D05
  args := [Arg.nat 1 0 65535, Arg.nat 2 0 65535 true fun _ _ v => if v.nat.testBit 0 then some stDenied else none]
  writes _ := true
  run _ gs s :=
    let e := BitVec.ofNat 16 (gotN gs 1)
    let m := BitVec.ofNat 16 (gotN gs 2)
    let s := s.onEvents fun v => { v with groups := (v.groups &&& ~~~m) ||| (e &&& m) }
    .items [itemN 0x4001 2 s.events.groups.toNat] s

def cmdEvtOwnerSet : Cmd where
  op := 0x0D06
  args := [Arg.nat 1 0 1, Arg.nat 2 0 511 true fun _ gs v => if gotN gs 1 = 1 ∧ 127 < v.nat then some stRange else none,
    Arg.nat 3 1 2]
  writes _ := true
  run c gs s :=
    let i := gotN gs 2
    let o := gotN gs 3
    let owner := if gotN gs 1 = 0 then s.routeOwner i else s.channelOwner i
    Ans.orElse (refuseAt gs 2 stDenied (!s.mayWrite owner c)) <|
      .done (s.onEvents fun v =>
        if gotN gs 1 = 0 then { v with routes := modAt v.routes i fun r => { r with owner := o } }
        else { v with channels := modAt v.channels i fun x => { x with owner := o } })

def cmdEvtRaise : Cmd where
  op := 0x0D07
  args := [Arg.nat 1 0x0B0 0x0B7]
  run _ gs s := .items [itemB 0x4001 (clkBytes s.raster.clock)] (s.raise (gotN gs 1))

def cmdEvtLogSet : Cmd where
  op := 0x0D08
  args := [handleArg 1 true [12] false, Arg.nat 2 10 65535 false]
  writes gs := writesAbove 1 gs
  run _ gs s := .done (s.onEvents fun v =>
    { v with logRing := if has gs 1 then gotH gs 1 else v.logRing, pinPulse := (gotN? gs 2).getD v.pinPulse })

/-! ## The Bell -/

def cmdBellConfigSet : Cmd where
  op := 0x0D10
  args := fieldArgs 1 bellConfigFlds (fun _ _ => false)
  writes gs := writesAbove 1 gs
  run _ gs s := .done (s.onEvents fun v => { v with bell := putPlain 1 bellConfigFlds gs v.bell })

/-- Phase units from now to a position. -/
def State.phasesTo (p : Pos) (s : State) : Nat :=
  let h := s.here
  (((p.frame - h.frame).toNat * s.raster.cfg.force.totalLines + p.line) * 256 + p.phase) - (h.line * 256 + h.phase)

/-- BELL_RING (R389, R390): at once, at a position of this device, or at a position of the tree. -/
def cmdBellRing : Cmd where
  op := 0x0D11
  args := [Arg.nat 1 0 1 true fun s _ v => if v.nat = 1 ∧ s.isHead = false then some 0x1D00 else none,
    Arg.nat 2 0 0xFFFFFFFF false, Arg.nat 3 0 65534 false, Arg.nat 4 0 255 false]
  run c gs s :=
    let tree := gotN gs 1 == 1
    let p : Pos := { frame := gotF gs 2, line := gotN gs 3, phase := gotN gs 4 }
    let placed := tree || has gs 2 || has gs 3 || has gs 4
    let missing := if placed then [2, 3, 4].find? fun t => !has gs t else none
    match missing with
    | some t => .err stBadItem (effItems c s).1.length t
    | none =>
      if !placed then
        let was := s.events.cnt.getD 4 0
        let s := s.trigger 2 none none
        let rung := s.events.cnt.getD 4 0 != was
        .items (itemN 0x4001 4 s.events.seq.toNat :: if rung then [itemB 0x4002 (clkBytes s.raster.bellStamp)] else []) s
      else
        let n := s.events.seq + 1
        Ans.orElse (firstErr [
          refuseAt gs 2 stExpired (s.posExpired p),
          refuseAt gs 2 stRange (tree && decide (s.phasesTo p < s.tree.lead * 256))]) <|
          let s := s.onEvents fun v => { v with bellsAt := v.bellsAt ++ [{ pos := p, tree := if tree then some n else none }] }
          .items [itemN 0x4001 4 n.toNat]
            (if tree then s.route (s.ownFlit .bell .down 0 (.bell (p.frame, p.line, p.phase) n)) none else s)

def cmdEvtStatusGet : Cmd where
  op := 0x0D12
  args := []
  run _ _ s := .items [itemN 0x4001 4 s.events.status.toNat, itemN 0x4002 4 s.events.groups.toNat,
    itemN 0x4003 4 s.events.seq.toNat, itemN 0x4004 4 s.events.cause.toNat, itemW 0x4005 s.events.cnt] s

def cmdEvtCountersClear : Cmd where
  op := 0x0D13
  args := [maskArg 1]
  run _ gs s := .done (s.onEvents fun v => { v with cnt := clearMasked v.cnt (gotN gs 1) })

/-- The event and Bell commands. -/
def eventCommands : List Cmd :=
  [cmdEvtModeSet, cmdEvtRouteSet, cmdEvtRouteGet, cmdEvtChannelSet, cmdEvtSubscribeSet, cmdEvtGroupSet, cmdEvtOwnerSet,
   cmdEvtRaise, cmdEvtLogSet, cmdBellConfigSet, cmdBellRing, cmdEvtStatusGet, cmdEvtCountersClear]

end Sys2Proof.Machine
end

