-- ==== Sys2Proof/Machine/IntakeCommands.lean ====
section
/-!
DEFINITION. The intake commands (05_sensor_intake.md, R136; lane fields of R100).
-/

namespace Sys2Proof.Machine

def stSensorNak : Nat := 0x1200
def stSensorTimeout : Nat := 0x1201
def stPortDown : Nat := 0x1202
def stGanged : Nat := 0x1203

/-- PORT, from 0 to `hi`; port B is refused while the ports are ganged (R102). -/
def portArg (hi : Nat) : Arg State :=
  Arg.nat 1 0 hi true fun s _ v => if v.nat = 1 ∧ s.ganged = true then some stGanged else none

/-- Whether the source that PORT names runs. -/
def portRuns (s : State) (gs : List Got) : Bool := (s.unit (gotN gs 1)).running

/-- BUSY for an IDLE item of the source that PORT names. -/
def portIdle (s : State) (gs : List Got) (_ : Val) : Option Nat := if portRuns s gs then some stBusy else none

/-! ## Ports -/

/-- How many physical lanes the port has with the MODE that the command leaves. -/
def State.lanesWith (gs : List Got) (s : State) : Nat :=
  if gotN gs 1 = 0 ∧ (gotN? gs 2).getD (s.unit 0).cfg.mode = 1 then 64 else 32

/-- A lane mask names only lanes of the port (R100). -/
def laneMaskOk (s : State) (gs : List Got) (v : Val) : Option Nat := if v.nat < 2 ^ s.lanesWith gs then none else some stRange

/-- The lane fields fit a port of `lanes` lanes (R89, R100). -/
def judgeLanes (gs : List Got) (lanes mode : Nat) (c : LaneConfig) : Option (Nat × Nat × Nat) :=
  let w := ((List.range lanes).filter fun k => c.enable.testBit k).length
  let used := c.map.take w
  firstErr [
    refuseFirst gs [0x101, mode] stRange (c.enable < 2 ^ lanes),
    refuseFirst gs [0x102, mode] stRange (c.spares < 2 ^ lanes),
    refuseFirst gs [0x101, 0x102] stRange (c.enable &&& c.spares == 0),
    refuseFirst gs [0x103, 0x101, mode] stRange (used.all (fun k => decide (k < lanes)) && used.eraseDups.length == used.length),
    refuseFirst gs [0x108, 0x109, 0x10A] stRange ({ pre := c.fixedPre, main := c.fixedMain, post := c.fixedPost } : Taps).valid]

/-- The command carries a lane field that places the port's lanes. -/
def movesLanes (gs : List Got) : Bool := hasAny gs fun t => [0x101, 0x102, 0x103, 0x10B].contains t

/-- DESIGN CHOICE, unsafe (log entry 29): LANE_MAP beyond the logical width. DEDUCED, unsafe (log entry 30): what a MODE
change does to port B. -/
def cmdIntakePortSet : Cmd where
  op := 0x0200
  args := portArg 1 ::
    firstAt 2 (fun s gs v =>
        if gotN gs 1 = 1 ∧ v.nat ≠ 0 then some stRange
        else if gotN gs 1 = 0 ∧ v.nat ≤ 1 ∧ v.nat ≠ (s.unit 0).cfg.mode ∧ (s.unit 1).running = true then some stBusy else none)
      (fieldArgs 2 portFlds portRuns) ++
    firstAt 0x101 laneMaskOk (firstAt 0x102 laneMaskOk (fieldArgs 0x100 laneFlds portRuns))
  writes gs := writesAbove 2 gs
  run _ gs s :=
    let p := gotN gs 1
    let cfg := putPlain 2 portFlds gs (s.unit p).cfg
    let lanes := putPlain 0x100 laneFlds gs (s.lanePort p).cfg
    let moved := cfg.mode != (s.unit p).cfg.mode
    Ans.orElse (judgeLanes gs (s.lanesWith gs) 2 lanes) <|
      if !writesAbove 2 gs then .done s
      else
        let s := s.onUnit p fun u =>
          { u with cfg, exchangeFails := 0, portState := if u.portState = 4 then 1 else u.portState }
        let s := s.onLanePort p fun q => { q with cfg := lanes }
        let s := if moved then
            ((s.unit 1).sbOut.toList ++ (s.unit 1).sbQueue).foldl (fun s r => match r.ask with
              | .regWrite id => complete (.sensor id) stSensorTimeout [] s
              | .regRead id => complete (.sensor id) stSensorTimeout [] s
              | _ => s)
            (s.onUnit 1 fun u => { u with portState := 0, sbOut := none, sbQueue := [], answering := false })
          else s
        let s := if moved || movesLanes gs then s.applyLaneConfig p else s
        .done (if moved && !s.ganged then s.applyLaneConfig 1 else s)

/-- The CAP_REPLY items of INTAKE_PORT_GET, from TYPE 0x400B on (R112). -/
def SensorCap.items (c : SensorCap) : List Item :=
  [itemN 0x400B 2 c.version, itemN 0x400C 1 c.maxLanes, itemN 0x400D 1 c.rates, itemN 0x400E 1 c.bits,
   itemN 0x400F 1 c.maxExposures, itemN 0x4010 2 c.maxWidth, itemN 0x4011 2 c.maxLines, itemN 0x4012 1 c.history,
   itemN 0x4013 1 c.flags, itemN 0x4014 4 c.vendor]

def cmdIntakePortGet : Cmd where
  op := 0x0201
  args := [portArg 1]
  run _ gs s :=
    let p := gotN gs 1
    let u := s.unit p
    .items (fieldItems 0x4001 portFlds u.cfg ++ fieldItems 0x4100 laneFlds (s.lanePort p).cfg ++
      [itemN 0x4009 1 u.portState, itemN 0x400A 2 u.version] ++ (u.cap.map SensorCap.items).getD []) s

/-! ## Samples -/

/-- The range of an L40 value. -/
def l40Lo : Int := -2 ^ 39
def l40Hi : Int := 2 ^ 39 - 1

/-- The largest code of a source: BITS of its port; Replay takes each frame's own. -/
def State.codeMax (p : Nat) (s : State) : Nat := if p = 2 then 65535 else 2 ^ (s.unit p).cfg.bits - 1

def cmdIntakeLineariseSet : Cmd where
  op := 0x0202
  args := [portArg 2, Arg.nat 2 0 3, Arg.nat 3 0 3, Arg.ints 4 l40Lo l40Hi 1025 8 false portIdle,
    Arg.nat 5 0 65535 false fun s gs v => if s.codeMax (gotN gs 1) < v.nat then some stRange else portIdle s gs v]
  writes gs := writesAbove 4 gs
  run _ gs s :=
    let ks := (gotAll gs 4).map Val.int
    let set (c : Curve) : Curve := { knots := ks ++ c.knots.drop ks.length, black := (gotN? gs 5).getD c.black }
    .done (s.onUnit (gotN gs 1) fun u =>
      { u with curves := modAt u.curves (gotN gs 2) fun cs => modAt cs (gotN gs 3) set })

/-- A list with its first values replaced (R488). -/
def putFront {α : Type} (vs l : List α) : List α := vs ++ l.drop vs.length

def cmdIntakeMergeSet : Cmd where
  op := 0x0203
  args := [portArg 2, { Arg.nats 2 0 0xFFFFFFFF 4 false portIdle with packed := 4 }, Arg.ints 3 l40Lo l40Hi 4 8 false portIdle,
    { Arg.nats 4 0 38 4 false portIdle with packed := 1 }]
  writes gs := writesAbove 2 gs
  run _ gs s :=
    .done (s.onUnit (gotN gs 1) fun u =>
      { u with merge :=
        { gain := putFront (gotNs gs 2) u.merge.gain, knee := putFront ((gotAll gs 3).map Val.int) u.merge.knee
          ws := putFront (gotNs gs 4) u.merge.ws } })

/-- Whether the command carries a STATIC_LIST item of no bytes: an empty list. -/
def emptyList (c : Call) (ty : Nat) (s : State) : Bool := (effItems c s).1.any fun it => it.ty == ty && it.val.isEmpty

def cmdIntakeDefectSet : Cmd where
  op := 0x0204
  args := [portArg 2,
    { ty := 2, form := .nat, need := false, count := 2 ^ 32, packed := 4, empty := true
      judge := fun s gs i v =>
        if 0xFFFFFFFF < v.nat ∨ 65536 ≤ i then some stRange
        else if 0 < i ∧ v.nat ≤ (gotNs gs 2).getD (i - 1) 0 then some stRange else portIdle s gs v },
    Arg.nat 3 0 1 false, Arg.ints 4 l40Lo l40Hi 1 0 false]
  writes gs := writesAbove 2 gs
  run c gs s :=
    let none_ := emptyList c 2 s
    if none_ && portRuns s gs then .err stBusy ((effItems c s).1.findIdx fun it => it.ty == 2) 2
    else .done (s.onUnit (gotN gs 1) fun u =>
      { u with defect :=
        { static := if none_ then [] else if has gs 2 then gotNs gs 2 else u.defect.static
          dynamic := (gotN? gs 3).getD u.defect.dynamic, thresh := (gotI? gs 4).getD u.defect.thresh } })

def cmdIntakeTapSet : Cmd where
  op := 0x0205
  args := [portArg 2, Arg.nat 2 0 3,
    Arg.nat 3 0 0xFFFFFFFF false fun s gs v =>
      if v.nat ≠ 0 ∧ s.hasRole (BitVec.ofNat 32 v.nat) [1] = false then some stBadHandle else portIdle s gs v,
    Arg.nat 4 0 1 false]
  writes gs := writesAbove 3 gs
  run _ gs s :=
    let s := s.onUnit (gotN gs 1) fun u =>
      { u with taps := modAt u.taps (gotN gs 2) fun t =>
        { t with ring := if has gs 3 then gotH gs 3 else t.ring, enable := ((gotN? gs 4).map (· == 1)).getD t.enable } }
    .done s.cmpFollow

/-! ## Starts and stops -/

/-- INTAKE_START and INTAKE_STOP: at the next K28.1, or at the first one in AT_FRAME (R126, R136). -/
def intakeTurnAt (start : Bool) (gs : List Got) (s : State) : Ans :=
  let p := gotN gs 1
  match gotF? gs 2 with
  | some f => .items [itemN 0x4001 4 f.toNat] (s.onUnit p fun u => { u with turns := u.turns ++ [(f, start)] })
  | none => .items [itemN 0x4001 4 s.raster.frame.toNat] (if start then s.intakeStart p else s.intakeStop p)

def cmdIntakeStart : Cmd where
  op := 0x0206
  args := [portArg 2, atFrameArg 2]
  run _ gs s := intakeTurnAt true gs s

def cmdIntakeStop : Cmd where
  op := 0x0207
  args := [portArg 2, atFrameArg 2]
  run _ gs s := intakeTurnAt false gs s

/-! ## Sensor registers (R112, R113) -/

/-- PORT of a sensor transfer: a port whose sensor answers. -/
def sensorPort : Arg State :=
  Arg.nat 1 0 1 true fun s _ v =>
    if v.nat = 1 ∧ s.ganged = true then some stGanged else if (s.unit v.nat).answering then none else some stPortDown

/-- The most words of one transfer: 16 while the port is ACTIVE and the source runs, else 64 (R112). -/
def State.sensorWords (gs : List Got) (s : State) : Nat :=
  let u := s.unit (gotN gs 1)
  if u.portState = 3 ∧ u.running = true then 16 else 64

def cmdIntakeSensorWrite : Cmd where
  op := 0x0208
  args := [sensorPort, Arg.nat 2 0 0xFFFFFFFF,
    { ty := 3, form := .nat, count := 64, packed := 4
      judge := fun s gs i v => if 0xFFFFFFFF < v.nat ∨ s.sensorWords gs ≤ i then some stRange else none }]
  run _ gs s :=
    let (id, s) := s.draw
    let ws := gotNs gs 3
    .wait (.sensor id) (s.sbAsk (gotN gs 1) 0x07 (.regWrite id)
      (toLe 4 (gotN gs 2) ++ toLe 1 ws.length ++ ws.flatMap (toLe 4)))

def cmdIntakeSensorRead : Cmd where
  op := 0x0209
  args := [sensorPort, Arg.nat 2 0 0xFFFFFFFF,
    Arg.nat 3 1 64 true fun s gs v => if s.sensorWords gs < v.nat then some stRange else none]
  run _ gs s :=
    let (id, s) := s.draw
    .wait (.sensor id) (s.sbAsk (gotN gs 1) 0x08 (.regRead id) (toLe 4 (gotN gs 2) ++ toLe 1 (gotN gs 3)))

/-! ## Status and Replay -/

def cmdIntakeStatusGet : Cmd where
  op := 0x020A
  args := [portArg 2]
  run _ gs s :=
    let p := gotN gs 1
    let u := s.unit p
    .items [itemN 0x4001 4 (s.intakeStatus p).toNat, itemW 0x4002 u.cnt, itemN 0x4003 4 u.backlog.toNat] s

/-- INTAKE_COUNTERS_CLEAR; for Replay, bits 0 (FRAMES) and 12 (MISSED) also clear REPLAY_CNT_FRAMES and
REPLAY_CNT_SLIP. -/
def cmdIntakeCountersClear : Cmd where
  op := 0x020B
  args := [portArg 2, maskArg 2]
  run _ gs s :=
    let p := gotN gs 1
    let m := gotN gs 2
    let s := s.onUnit p fun u => { u with cnt := clearMasked u.cnt m, peakRows := if m = 0 then u.peakRows else u.rowsHeld }
    .done (if p ≠ 2 then s else s.onIntake fun i =>
      { i with replay := { i.replay with cntFrames := if m.testBit 0 then 0 else i.replay.cntFrames
                                         cntSlip := if m.testBit 12 then 0 else i.replay.cntSlip } })

/-- Every frame chunk that the source holds now has the geometry of the fields (R136, R262). -/
def State.replayFits (c : ReplayConfig) (s : State) : Bool :=
  let s := s.onIntake fun i => { i with replay := { i.replay with cfg := c } }
  match s.buffer? (BitVec.ofNat 32 c.source) with
  | none => true
  | some b => s.replayChunks.all fun oc => c.accepts (chunkHead (b.fetch oc.1 608))

/-- DESIGN CHOICE, unsafe (log entry 32): Replay's counters at a start. -/
def cmdReplaySet : Cmd where
  op := 0x0210
  args := firstAt 1 (fun s _ v =>
      if v.nat ≠ 0 ∧ v.nat ≤ 0xFFFFFFFF ∧ s.hasRole (BitVec.ofNat 32 v.nat) [10] = false then some stBadHandle else none)
    (fieldArgs 1 replayFlds fun s _ => (s.unit 2).running)
  writes gs := writesAbove 1 gs
  run _ gs s :=
    let was := s.intake.replay.cfg
    let c := putPlain 1 replayFlds gs was
    Ans.orElse (refuseFirst gs [3, 4, 5, 6, 2, 1] stRange (s.replayFits c)) <|
      let s := if c.source = was.source then s else s.ringLeave (BitVec.ofNat 32 was.source) 0x0202
      let s := s.onIntake fun i => { i with replay := { i.replay with cfg := c } }
      .done (if c.source = was.source then s else (s.ringAttach (BitVec.ofNat 32 c.source) 0x0202).2)

def cmdReplayStatusGet : Cmd where
  op := 0x0211
  args := []
  run _ _ s :=
    let y := s.intake.replay
    .items [itemN 0x4001 4 y.next, itemN 0x4002 4 y.delivered, itemN 0x4003 4 y.cntSlip.toNat] s

/-- The intake commands. -/
def intakeCommands : List Cmd :=
  [cmdIntakePortSet, cmdIntakePortGet, cmdIntakeLineariseSet, cmdIntakeMergeSet, cmdIntakeDefectSet, cmdIntakeTapSet,
   cmdIntakeStart, cmdIntakeStop, cmdIntakeSensorWrite, cmdIntakeSensorRead, cmdIntakeStatusGet, cmdIntakeCountersClear,
   cmdReplaySet, cmdReplayStatusGet]

end Sys2Proof.Machine
end

