-- ==== Sys2Proof/Machine/MillCommands.lean ====
section
/-!
DEFINITION. The Mill's commands (06_the_mill.md, R162, R163).
-/

namespace Sys2Proof.Machine

/-- CONTEXT: context 1 is refused while the ports are ganged. -/
def ctxArg : Arg State :=
  Arg.nat 1 0 2 true fun s _ v => if v.nat = 1 ∧ s.ganged = true then some 0x1300 else none

/-- Whether the source of the context that CONTEXT names runs. -/
def millRuns (s : State) (gs : List Got) : Bool := s.sourceRuns (gotN gs 1)

/-- Fields `lo` to `lo + n - 1` of R162. -/
def millPart (lo n : Nat) : List (Fld MillConfig) := (millFlds.drop lo).take n

/-- Writes fields `lo` on of the context, TYPE 2 first. -/
def millPut (lo n : Nat) (gs : List Got) (s : State) : State :=
  s.onCtx (gotN gs 1) fun x => { x with cfg := putFields 2 (millPart lo n) gs x.cfg }

/-- The COMMIT_AT of a command that writes fields `lo` on of the context. -/
def millCommits (lo n : Nat) (gs : List Got) (s : State) : List (Nat × Word) :=
  s.commitAt (0x0300 + gotN gs 1) (writesFrame 2 (millPart lo n) gs)

/-- A command that writes a run of FRAME fields. -/
def millSetter (op lo n : Nat) : Cmd where
  op := op
  args := ctxArg :: fieldArgs 2 (millPart lo n) millRuns
  writes gs := writesAbove 2 gs
  run _ gs s := .ok [] (millCommits lo n gs s) (millPut lo n gs s)

/-- The fields of SHOT (TYPE 2) and READ (TYPE 3) per exposure, as fields of R162 with TYPE 2 on. -/
def noiseItems (gs : List Got) : List Got :=
  gs.map fun g => if g.ty = 2 then { g with ty := 2 + g.idx, idx := 0 } else if g.ty = 3 then { g with ty := 6 + g.idx, idx := 0 } else g

def cmdMillNoiseSet : Cmd where
  op := 0x0300
  args := [ctxArg, { Arg.nats 2 0 16777215 4 false with packed := 4 }, { Arg.nats 3 0 281474976710655 4 false with packed := 8 }]
  writes gs := writesAbove 2 gs
  run _ gs s := .ok [] (s.commitAt (0x0300 + gotN gs 1) (writesAbove 2 gs)) (millPut 0 8 (noiseItems gs) s)

def cmdMillSnrSet : Cmd := millSetter 0x0301 8 7

/-- Width and lines of the frames of source `k`. -/
def State.sourceShape (k : Nat) (s : State) : Nat × Nat :=
  if k = 2 then (s.intake.replay.cfg.width, s.intake.replay.cfg.lines) else ((s.unit k).cfg.width, (s.unit k).cfg.lines)

def cmdMillTnrSet : Cmd where
  op := 0x0302
  args := ctxArg :: firstAt 5 (fun s gs v =>
      let g := s.sourceShape (gotN gs 1)
      badHandle [3] (fun b => decide (referenceBytes g.1 g.2 ≤ b.size)) s v)
    (fieldArgs 2 (millPart 15 4) millRuns)
  writes gs := writesAbove 2 gs
  run _ gs s := .ok [] (millCommits 15 4 gs s) (millPut 15 4 gs s)

/-- MILL_TNR_RESET (R163): without AT_FRAME it falls due from the next raster frame on. -/
def cmdMillTnrReset : Cmd where
  op := 0x0303
  args := [ctxArg, atFrameArg 2]
  run _ gs s :=
    let f := s.frameOr gs 2
    .items [itemN 0x4001 4 f.toNat] (s.onCtx (gotN gs 1) fun x => { x with resets := x.resets ++ [f] })

def cmdMillWbSet : Cmd := millSetter 0x0304 19 4
def cmdMillReconSet : Cmd := millSetter 0x0305 23 1
def cmdMillMatrixSet : Cmd := millSetter 0x0306 24 12

def cmdMillStatsSet : Cmd where
  op := 0x0307
  args := ctxArg :: firstAt 7 (fun s _ v => badHandle [12] (fun _ => true) s v) (fieldArgs 2 (millPart 36 7) millRuns)
  writes gs := writesAbove 2 gs
  run _ gs s :=
    let s' := millPut 36 7 gs s
    let c := (s'.ctx (gotN gs 1)).cfg
    .ok [itemN 0x4001 4 c.force.recordLength, itemN 0x4002 4 c.shadow.recordLength] (millCommits 36 7 gs s) s'

def cmdMillConfigGet : Cmd where
  op := 0x0308
  args := [ctxArg]
  run _ gs s := .items (shadowedItems millFlds (s.ctx (gotN gs 1)).cfg) s

def cmdMillStatusGet : Cmd where
  op := 0x0309
  args := [ctxArg]
  run _ gs s :=
    let k := gotN gs 1
    let x := s.ctx k
    .items [itemN 0x4001 4 (s.millStatus k).toNat, itemN 0x4002 4 x.lastFrame.toNat, itemN 0x4003 4 x.lastWord.toNat,
      itemW 0x4004 x.cnt, itemN 0x4005 4 (halves s.mill.peak s.mill.util).toNat] s

def cmdMillCountersClear : Cmd where
  op := 0x030A
  args := [ctxArg, maskArg 2]
  run _ gs s := .done (s.clearMill (gotN gs 1) (gotN gs 2))

/-- The Mill's commands. -/
def millCommands : List Cmd :=
  [cmdMillNoiseSet, cmdMillSnrSet, cmdMillTnrSet, cmdMillTnrReset, cmdMillWbSet, cmdMillReconSet, cmdMillMatrixSet,
   cmdMillStatsSet, cmdMillConfigGet, cmdMillStatusGet, cmdMillCountersClear]

end Sys2Proof.Machine
end

