-- ==== Sys2Proof/Machine/LooksCommands.lean ====
section
/-!
DEFINITION. The Look and rendition commands (07_looks_and_renditions.md, R174 to R188, R192).
-/

namespace Sys2Proof.Machine

def stBadTable : Nat := 0x1400
def stMonitorTaken : Nat := 0x1401
def stContextTaken : Nat := 0x1402

def lookArg : Arg State := Arg.nat 1 0 7
def rendArg : Arg State := Arg.nat 1 0 47

/-! ## Looks -/

/-- Fields of R176 that LOOK_SET writes: TABLE_BANK keeps its place (R66). -/
def lookKeep (j : Nat) : Bool := j != 21

def cmdLookSet : Cmd where
  op := 0x0400
  args := lookArg :: fieldArgs 0x100 lookFlds (fun _ _ => false) (keep := lookKeep)
  writes gs := writesAbove 0x100 gs
  run _ gs s :=
    let k := gotN gs 1
    let cfg := putFields 0x100 lookFlds gs (s.look k).cfg
    Ans.orElse (refuseFirst gs [0x113, 0x114] stRange (cfg.shadow.lo < cfg.shadow.hi)) <|
      .ok [] (s.commitAt (0x0400 + k) (writesAbove 0x100 gs)) (s.onLook k fun l => { l with cfg })

def cmdLookTablesLoad : Cmd where
  op := 0x0401
  args := [Arg.nat 1 0 7 true fun s _ v => if (s.look v.nat).loading.isSome then some stBusy else none,
    Arg.nat 2 0 0xFFFFFFFF true fun s _ v =>
      if v.nat = 0 then some stBadHandle else badHandle [5] (fun b => decide (1795208 ≤ b.size)) s v,
    Arg.nat 3 0 15]
  writes _ := true
  run _ gs s :=
    let k := gotN gs 1
    Ans.orElse (refuseAt gs 2 stBadTable (!s.tablesOk (gotH gs 2) (gotN gs 3))) <|
      .wait (.lookLoad k) (s.startLoad k (gotH gs 2) (gotN gs 3))

def cmdLookGet : Cmd where
  op := 0x0402
  args := [lookArg]
  run _ gs s :=
    let l := s.look (gotN gs 1)
    .items (shadowedItems lookFlds l.cfg ++ [itemN 0x4001 1 (bit l.loading.isSome)]) s

/-! ## Renditions -/

/-- Whether the rendition that REND names runs. -/
def rendRuns (s : State) (gs : List Got) : Bool := (s.rend (gotN gs 1)).running

/-- Each ratio lies within 1/32 to 8 (R177). -/
def ratioOk (out crop : Nat) : Bool := decide (crop ≤ 32 * out) && decide (out ≤ 8 * crop)

/-- The relations between a rendition's fields (R177). -/
def judgeRend (gs : List Got) (c : RendConfig) : Option (Nat × Nat × Nat) :=
  firstErr [
    refuseFirst gs [0x105, 0x10E] stRange (c.chroma == 0 || c.outW % 2 == 0),
    refuseFirst gs [0x106, 0x10E] stRange (c.chroma != 2 || c.outH % 2 == 0),
    refuseFirst gs [0x10F, 0x10E, 0x110] stRange (c.planeFormat == 0 || (c.chroma == 0 && c.dest == 2)),
    refuseFirst gs [0x110, 0x10F] stRange (decide (2 ≤ c.dest) || c.planeFormat == 0),
    refuseFirst gs [0x111, 0x110] stRange (c.dest == 0 || c.target == 0),
    refuseFirst gs [0x105, 0x103] stRange (ratioOk c.outW c.cropW),
    refuseFirst gs [0x106, 0x104] stRange (ratioOk c.outH c.cropH)]

/-- Bytes of one slot under the fields, with the ENCODING in shadow of the Look that they name (R184); a statistics
rendition has no slots. -/
def State.slotBytes (c : RendConfig) (s : State) : Nat :=
  if c.dest = 3 then 0 else (slotLayout c (s.look c.look).cfg.shadow.encoding).size

/-- DESIGN CHOICE, unsafe (log entry 56): unset filter tables, CLASS items. -/
def cmdRendSet : Cmd where
  op := 0x0403
  args := rendArg :: fieldArgs 0x100 rendFlds rendRuns
  writes gs := writesAbove 0x100 gs
  run _ gs s :=
    let r := gotN gs 1
    let x := s.rend r
    let cfg := putFields 0x100 rendFlds gs x.cfg
    let c := cfg.shadow
    let size := s.slotBytes c
    let taken := c.dest == 0 && (indexed s.looks.rends).any fun ky =>
      ky.1 != r && ky.2.cfg.force.dest == 0 && ky.2.cfg.force.target == c.target
    let planes := c.planes == 0 || (s.buffer? (BitVec.ofNat 32 c.planes)).any fun b =>
      if c.dest = 3 then b.role == 12 else b.role == 6 && decide (c.nslots * size ≤ b.size)
    let anew := c.planes != x.cfg.force.planes || c.nslots != x.cfg.force.nslots
    Ans.orElse (firstErr [judgeRend gs c,
      refuseFirst gs [0x111, 0x110] stContextTaken (!taken),
      refuseFirst gs [0x112, 0x113, 0x105, 0x106, 0x10D, 0x10E, 0x10F, 0x110, 0x100] stBadHandle planes]) <|
      .ok [itemN 0x4001 4 size] (s.commitAt (0x0410 + r) (writesFrame 0x100 rendFlds gs))
        (s.onRend r fun x => { x with cfg, slots := if anew then List.replicate 8 {} else x.slots })

/-- Whether every phase of a filter table sums to 16,384 (R180). -/
def phasesOk (taps : Nat) (t : List Int) : Bool := (pieces taps 64 t).all fun p => p.sum == 16384

/-- REND_FILTER_SET: the values given replace the table's first ones; what no command has yet written counts as 0, so the
first write of a table is a whole one. -/
def cmdRendFilterSet : Cmd where
  op := 0x0404
  args := [rendArg, Arg.ints 2 (-32768) 32767 512 2 false, Arg.ints 3 (-32768) 32767 384 2 false]
  writes gs := writesAbove 2 gs
  run _ gs s :=
    let r := gotN gs 1
    let sh := (s.rend r).filters.shadow
    let h := putFront ((gotAll gs 2).map Val.int) (sh.h.getD (List.replicate 512 0))
    let v := putFront ((gotAll gs 3).map Val.int) (sh.v.getD (List.replicate 384 0))
    let n : FilterTables := { h := if has gs 2 then some h else sh.h, v := if has gs 3 then some v else sh.v }
    Ans.orElse (firstErr [refuseAt gs 2 stBadTable (has gs 2 && !phasesOk 8 h),
      refuseAt gs 3 stBadTable (has gs 3 && !phasesOk 6 v)]) <|
      .ok [] (s.commitAt (0x0410 + r) (writesAbove 2 gs))
        (s.onRend r fun x => { x with filters := { x.filters with shadow := n } })

/-- Another running rendition drives the monitor (R188). -/
def monitorTaken (s : State) (r : Nat) : Bool :=
  (s.rend r).cfg.force.dest == 1 && (indexed s.looks.rends).any fun ky => ky.1 != r && ky.2.running && ky.2.cfg.force.dest == 1

def cmdRendStart : Cmd where
  op := 0x0405
  args := [Arg.nat 1 0 47 true fun s _ v => if monitorTaken s v.nat then some stMonitorTaken else none, atFrameArg 2]
  run _ gs s :=
    let r := gotN gs 1
    match gotF? gs 2 with
    | some f => .items [itemN 0x4001 4 f.toNat] (s.onRend r fun x => { x with turns := x.turns ++ [(f, true)] })
    | none => .items [itemN 0x4001 4 s.raster.frame.toNat] (s.rendRun r)

def cmdRendStop : Cmd where
  op := 0x0406
  args := [rendArg, atFrameArg 2]
  run _ gs s :=
    let r := gotN gs 1
    match gotF? gs 2 with
    | some f => .items [itemN 0x4001 4 (f - 1).toNat] (s.onRend r fun x => { x with turns := x.turns ++ [(f, false)] })
    | none => .items [itemN 0x4001 4 s.raster.frame.toNat] (s.rendHalt r)

/-- Codes of the slot states: FREE, WRITING, READY and HELD in R186's order. -/
def SlotState.code : SlotState → Nat
  | .free => 0
  | .writing => 1
  | .ready => 2
  | .held => 3

def cmdRendGet : Cmd where
  op := 0x0407
  args := [rendArg]
  run _ gs s :=
    let x := s.rend (gotN gs 1)
    .items (shadowedItems rendFlds x.cfg ++ (x.slots.take x.cfg.force.nslots).map fun k => itemN 0x4001 1 k.st.code) s

def cmdRendSlotRelease : Cmd where
  op := 0x0408
  args := [rendArg, Arg.nat 2 0 7 true fun s gs v =>
    let x := s.rend (gotN gs 1)
    if decide (v.nat < x.cfg.force.nslots) && (x.slots.getD v.nat {}).st == .held then none else some stRange]
  run _ gs s := .done (s.slotFree (gotN gs 1) (gotN gs 2))

def cmdRendCapture : Cmd where
  op := 0x0409
  args := [Arg.nat 1 0 47 true fun s _ v => if (s.rend v.nat).cfg.force.captureMode = 2 then none else some stRange,
    atFrameArg 2, Arg.nat 3 1 65535]
  run _ gs s :=
    let f := s.frameOr gs 2
    .items [itemN 0x4001 4 f.toNat]
      (s.onRend (gotN gs 1) fun x => { x with captures := x.captures ++ [{ first := f, count := gotN gs 3 }] })

/-! ## Status -/

def cmdLksStatusGet : Cmd where
  op := 0x040A
  args := []
  run _ _ s := .items [itemN 0x4001 4 s.looksRunning, itemN 0x4002 4 (halves s.looks.peak s.looks.used).toNat,
    itemW 0x4003 ((indexed s.looks.looks).flatMap fun kl => [s.lookStatus kl.1, kl.2.cntFrames, kl.2.cntLoads]),
    itemW 0x4004 (s.looks.rends.flatMap fun x => x.status :: x.cnt)] s

def cmdLksCountersClear : Cmd where
  op := 0x040B
  args := [Arg.nat 1 0 255, Arg.nat 2 0 (2 ^ 48 - 1)]
  run _ gs s := .done (s.clearLks (gotN gs 1) (gotN gs 2))

/-- The Look and rendition commands. -/
def looksCommands : List Cmd :=
  [cmdLookSet, cmdLookTablesLoad, cmdLookGet, cmdRendSet, cmdRendFilterSet, cmdRendStart, cmdRendStop, cmdRendGet,
   cmdRendSlotRelease, cmdRendCapture, cmdLksStatusGet, cmdLksCountersClear]

end Sys2Proof.Machine
end

