-- ==== Sys2Proof/Machine/SheafCommands.lean ====
section
/-!
DEFINITION. The Sheaf's commands (08_sheaf_encoding.md, R199 to R201, R206 to R212, R225, R227).
-/

namespace Sys2Proof.Machine

def stLadderOff : Nat := 0x1502

def shfArg : Arg State := Arg.nat 1 0 47

def shfRuns (s : State) (gs : List Got) : Bool := (s.shf (gotN gs 1)).running

/-- The format that a rendition in force gives context `c`. -/
def State.shfFormat (c : Nat) (s : State) : Option ShfFormat :=
  match (s.shf c).fmt with
  | some f => if (s.shf c).running then some f else (s.targetOf c).map fun r => s.formatOf r
  | none => (s.targetOf c).map fun r => s.formatOf r

/-- The range that a field's table row gives only with other state: QP fields start at −6 × (BIT_DEPTH − 8), where
BIT_DEPTH is that of the context's format, or the reset value 10 when no rendition targets it; QUEUE is a handle. -/
def shfOwn (s : State) (gs : List Got) (j _ : Nat) (v : Val) : Option Nat :=
  if 19 ≤ j ∧ j ≤ 23 then
    let d : Nat := ((s.shfFormat (gotN gs 1)).map (·.depth)).getD 10
    if v.int < -6 * ((d : Int) - 8) then some stRange else none
  else if j = 18 then badHandle [8] (fun _ => true) s v
  else none

/-- The combinations that R200 refuses. -/
def judgeShf (gs : List Got) (c : ShfConfig) : Option (Nat × Nat × Nat) :=
  let ltr := bit (decide (0 < c.ltrInterval))
  firstErr [
    refuseFirst gs [0x105, 0x103, 0x104, 0x106] stRange (c.gop != 2 || decide (c.subgop + ltr ≤ c.refLimit)),
    refuseFirst gs [0x105, 0x103, 0x106] stRange (c.gop != 1 || ltr == 0 || decide (2 ≤ c.refLimit)),
    refuseFirst gs [0x103, 0x100] stRange (c.profile != 3 || c.gop == 0),
    refuseFirst gs [0x10D, 0x10C, 0x10B] stRange (decide (c.rcMode < 2) || decide (c.bitrate ≤ c.maxBitrate)),
    refuseFirst gs [0x116, 0x117] stRange (decide (c.qpMin ≤ c.qpMax))]

def cmdShfContextSet : Cmd where
  op := 0x0500
  args := shfArg :: fieldArgs 0x100 shfFlds shfRuns shfOwn
  writes gs := writesAbove 0x100 gs
  run _ gs s :=
    let c := gotN gs 1
    let cfg := putFields 0x100 shfFlds gs (s.shf c).cfg
    Ans.orElse (judgeShf gs cfg.shadow) <|
      .ok [itemN 0x4001 8 (((s.shfFormat c).map refSize).getD 0)] (s.commitAt (0x0500 + c) (writesFrame 0x100 shfFlds gs))
        (s.onShf c fun x => { x with cfg })

/-- A captured format as its seven fields in the order of R198. -/
def ShfFormat.list (f : ShfFormat) : List Nat := [f.w, f.h, f.chroma, f.depth, f.encoding, f.range, f.transfer]

def cmdShfContextGet : Cmd where
  op := 0x0501
  args := [shfArg]
  run _ gs s :=
    let x := s.shf (gotN gs 1)
    .items (shadowedItems shfFlds x.cfg ++
      ((x.fmt.map ShfFormat.list).getD []).map (itemN 0x4001 2) ++ [itemN 0x4002 1 x.core]) s

def cmdShfContextStart : Cmd where
  op := 0x0502
  args := [Arg.nat 1 0 47 true fun s gs v => match s.shfStart v.nat (s.frameOr gs 2) with
      | .inl st => some st
      | .inr _ => none,
    atFrameArg 2]
  run _ gs s := match s.shfStart (gotN gs 1) (s.frameOr gs 2) with
    | .inl st => .err st (gotPos gs 1) 1
    | .inr (f, s') => .items [itemN 0x4001 4 f.toNat] s'

/-- SHF_CONTEXT_STOP: with AT_FRAME = F the LAST AU is that of frame F − 1; a stop that already waits for an earlier frame
stands. -/
def cmdShfContextStop : Cmd where
  op := 0x0503
  args := [shfArg, atFrameArg 2]
  run _ gs s :=
    let c := gotN gs 1
    let x := s.shf c
    match gotF? gs 2 with
    | none => let (f, s') := s.shfStop c; .items [itemN 0x4001 4 f.toNat] s'
    | some f =>
      if !x.running then .items [itemN 0x4001 4 x.lastFrame.toNat] s
      else match x.stopFrame with
        | some l => .items [itemN 0x4001 4 l.toNat] s
        | none =>
          let at_ : Frame := match x.stopAt with
            | some g => if g.atOrAfter f then f else g
            | none => f
          .items [itemN 0x4001 4 (at_ - 1).toNat] (s.onShf c fun x => { x with stopAt := some at_ })

/-- A CLASS item: handle (4 bytes), buffer size (8) and count (4). -/
def poolClassOf (v : Val) : PoolClass :=
  let b := v.bytes
  { handle := BitVec.ofNat 32 (leNat (b.take 4)), size := leNat ((b.drop 4).take 8), count := leNat (b.drop 12) }

/-- SHF_POOL_SET (R209). One class needs a size and a count; an empty list removes the pool; two classes on one handle would
overlap. -/
def cmdShfPoolSet : Cmd where
  op := 0x0504
  args := [Arg.bytes 1 16 16 false 512 fun s gs v =>
    let k := poolClassOf v
    let all := (gotAll gs 1).map poolClassOf
    if k.size = 0 ∨ k.count = 0 ∨ 8 < all.length ∨ 512 < (all.map (·.count)).sum ∨ !(all.map (·.handle)).Nodup then some stRange
    else if s.sheaf.ctxs.any (·.running) then some stBusy
    else if (s.buffer? k.handle).any fun b => b.role == 7 && decide (k.size * k.count ≤ b.size) then none else some stBadHandle]
  writes _ := true
  run _ gs s :=
    let all := (gotAll gs 1).map poolClassOf
    if all.isEmpty && s.sheaf.ctxs.any (·.running) then .err stBusy 0 1
    else .items [itemN 0x4001 2 (all.map (·.count)).sum] (s.onSheaf fun x => { x with pool := all })

/-- SHF_MOTION_SET: the buffer holds two slots of S_m (R212). -/
def cmdShfMotionSet : Cmd where
  op := 0x0505
  args := [Arg.nat 1 0 2, Arg.nat 2 0 0xFFFFFFFF true fun s gs v =>
    if s.sourceRuns (gotN gs 1) then some stBusy
    else
      let g := s.sourceShape (gotN gs 1)
      badHandle [4] (fun b => decide (2 * motionSize g.1 g.2 ≤ b.size)) s v]
  writes _ := true
  run _ gs s :=
    let g := s.sourceShape (gotN gs 1)
    .items [itemN 0x4001 8 (motionSize g.1 g.2)]
      (s.onSheaf fun x => { x with motion := modAt x.motion (gotN gs 1) fun _ => { field := gotH gs 2 } })

def cmdShfLadderSet : Cmd where
  op := 0x0506
  args := fieldArgs 1 ladderFlds fun _ _ => false
  writes gs := writesAbove 1 gs
  run _ gs s := .ok [] (s.commitAt 0x0530 (writesAbove 1 gs))
    (s.onSheaf fun x => { x with ladder := putFields 1 ladderFlds gs x.ladder })

/-- SHF_IRAP_REQUEST: CONTEXTS when LADDER_ALL is absent or 0. -/
def cmdShfIrapRequest : Cmd where
  op := 0x0507
  args := [Arg.nat 1 0 (2 ^ 48 - 1) false fun s gs v =>
      if gotN gs 2 ≠ 1 ∧ (indexed s.sheaf.ctxs).any (fun kx => v.nat.testBit kx.1 && kx.2.running && kx.2.cfg.force.ladder == 1) then
        some stRange else none,
    Arg.nat 2 0 1 false fun s _ v =>
      if v.nat = 1 ∧ !(s.sheaf.ctxs.any fun x => x.running && x.cfg.force.ladder == 1) then some stLadderOff else none,
    atFrameArg 3]
  writes gs := gotN gs 2 == 1
  run c gs s :=
    let f := s.frameOr gs 3
    let reply := [itemN 0x4001 4 f.toNat]
    if gotN gs 2 = 1 then
      .ok reply [s.nextCommit 0x0530] (s.onSheaf fun x =>
        { x with ladderAt := some f, ladder := { x.ladder with shadow := { x.ladder.shadow with anchor := f.toNat } } })
    else if !has gs 1 then .err stBadItem (effItems c s).1.length 1
    else
      let mark (kx : Nat × ShfContext) : ShfContext :=
        if (gotN gs 1).testBit kx.1 then { kx.2 with forced := kx.2.forced ++ [f] } else kx.2
      .items reply (s.onSheaf fun x => { x with ctxs := (indexed x.ctxs).map mark })

def cmdShfStatusGet : Cmd where
  op := 0x0508
  args := []
  run _ _ s := .items [itemN 0x4001 4 s.shfStatus.toNat, itemN 0x4002 4 (halves s.sheaf.peak s.sheaf.load).toNat,
    itemW 0x4003 (s.sheaf.cores.map ShfCore.status), itemW 0x4004 s.sheaf.cnt,
    itemB 0x4005 (s.poolCounts.flatMap (toLe 4)),
    itemW 0x4006 (s.sheaf.ctxs.flatMap fun x => x.status :: x.cnt)] s

def cmdShfCountersClear : Cmd where
  op := 0x0509
  args := [maskArg 1, Arg.nat 2 0 (2 ^ 48 - 1)]
  run _ gs s := .done (s.clearShf (gotN gs 1) (gotN gs 2))

/-- The Sheaf's commands. -/
def sheafCommands : List Cmd :=
  [cmdShfContextSet, cmdShfContextGet, cmdShfContextStart, cmdShfContextStop, cmdShfPoolSet, cmdShfMotionSet, cmdShfLadderSet,
   cmdShfIrapRequest, cmdShfStatusGet, cmdShfCountersClear]

end Sys2Proof.Machine
end

