-- ==== Sys2Proof/Machine/DecoderCommands.lean ====
section
/-!
DEFINITION. The review decoder's commands (09_review_decoding.md, R230 to R234, R241, R242).
-/

namespace Sys2Proof.Machine

def stQueueFull : Nat := 0x1600
def stNotRunning : Nat := 0x1601

def decArg : Arg State := Arg.nat 1 0 7

def decRuns (s : State) (gs : List Got) : Bool := (s.dec (gotN gs 1)).running

/-- POOL is 0, or a pool that the fields fit (R231). -/
def State.decPoolFits (c : DecConfig) (s : State) : Bool := c.pool == 0 || s.decPoolOk c

def cmdDecContextSet : Cmd where
  op := 0x0600
  args := decArg :: fieldArgs 0x100 decFlds decRuns
  writes gs := writesAbove 0x100 gs
  run _ gs s :=
    let c := gotN gs 1
    let cfg := putPlain 0x100 decFlds gs (s.dec c).cfg
    Ans.orElse (refuseFirst gs [0x102, 0x103, 0x104, 0x105, 0x106] stBadHandle (s.decPoolFits cfg)) <|
      .items [itemN 0x4001 8 cfg.slotSize] (s.onDec c fun x => { x with cfg })

/-- Codes of the buffer states: FREE, DECODING, REFERENCE, READY, HELD_REF in the order of R232. -/
def DecSlotState.code : DecSlotState → Nat
  | .free => 0
  | .decoding => 1
  | .reference => 2
  | .ready => 3
  | .heldRef => 4

def cmdDecContextGet : Cmd where
  op := 0x0601
  args := [decArg]
  run _ gs s :=
    let x := s.dec (gotN gs 1)
    .items (fieldItems 0x4100 decFlds x.cfg ++ x.own.map (fun k => itemN 0x4001 1 k.2.st.code) ++
      [itemN 0x4002 1 x.chunks.length]) s

def cmdDecStart : Cmd where
  op := 0x0602
  args := [Arg.nat 1 0 7 true fun s _ v => if s.decPoolOk (s.dec v.nat).cfg then none else some stBadHandle]
  run _ gs s := .done (s.decStart (gotN gs 1))

/-- A chunk as a list element: handle (4 bytes), offset (8), length (8). -/
def Chunk.item (k : Chunk) : Item := itemB 0x4001 (toLe 4 k.handle.toNat ++ toLe 8 k.offset ++ toLe 8 k.length)

def cmdDecStop : Cmd where
  op := 0x0603
  args := [decArg]
  run _ gs s := let (ks, s') := s.decStop (gotN gs 1); .items (ks.map Chunk.item) s'

/-- DEC_FEED: OFFSET and LENGTH name bytes of the buffer. -/
def cmdDecFeed : Cmd where
  op := 0x0604
  args := [Arg.nat 1 0 7 true fun s _ v =>
      if !(s.dec v.nat).running then some stNotRunning else if 64 ≤ (s.dec v.nat).chunks.length then some stQueueFull else none,
    handleArg 2 false [8, 13, 10], Arg.nat 3 0 (2 ^ 64 - 1), Arg.nat 4 0 (2 ^ 64 - 1) true fun s gs v =>
      if (s.buffer? (gotH gs 2)).any fun b => decide (gotN gs 3 + v.nat ≤ b.size) then none else some stRange,
    Arg.nat 5 0 1]
  run _ gs s :=
    let c := gotN gs 1
    let s' := s.decFeed c { handle := gotH gs 2, offset := gotN gs 3, length := gotN gs 4, final := gotN gs 5 == 1 }
    .items [itemN 0x4001 1 ((s.dec c).chunks.length + 1)] s'

def cmdDecSlotRelease : Cmd where
  op := 0x0605
  args := [decArg, { Arg.nats 2 0 31 32 true fun s gs v =>
      if ((s.dec (gotN gs 1)).own.any fun k => k.1 == v.nat && k.2.st == .ready) && ((gotNs gs 2).count v.nat == 1) then none
      else some stRange with packed := 1 }]
  run _ gs s := .done ((gotNs gs 2).foldl (fun s k => s.decRelease (gotN gs 1) k) s)

def cmdDecStatusGet : Cmd where
  op := 0x0606
  args := []
  run _ _ s := .items [itemN 0x4001 4 s.decStatus.toNat, itemN 0x4002 4 (halves s.decoder.peak s.decoder.load).toNat,
    itemW 0x4003 (s.decoder.ctxs.flatMap fun x => x.status :: x.cnt)] s

def cmdDecCountersClear : Cmd where
  op := 0x0607
  args := [Arg.nat 1 0 255]
  run _ gs s := .done (clearDec (gotN gs 1) s)

/-- The decoder's commands. -/
def decoderCommands : List Cmd :=
  [cmdDecContextSet, cmdDecContextGet, cmdDecStart, cmdDecStop, cmdDecFeed, cmdDecSlotRelease, cmdDecStatusGet, cmdDecCountersClear]

end Sys2Proof.Machine
end

