-- ==== Sys2Proof/Machine/CompressCommands.lean ====
section
/-!
DEFINITION. The compression commands (10_raw_compression.md, R245, R258, R261, R273).
-/

namespace Sys2Proof.Machine

def stNotChunk : Nat := 0x1700

def cmpArg : Arg State := Arg.nat 1 0 3

def cmpRuns (s : State) (gs : List Got) : Bool := (s.cmp (gotN gs 1)).running

def cmdCmpSessionSet : Cmd where
  op := 0x0700
  args := cmpArg :: fieldArgs 0x100 cmpFlds cmpRuns fun s _ j _ v => if j = 2 then badHandle [1] (fun _ => true) s v else none
  writes gs := writesAbove 0x100 gs
  run _ gs s :=
    let k := gotN gs 1
    let cfg := putPlain 0x100 cmpFlds gs (s.cmp k).cfg
    .items [itemN 0x4001 8 (s.cmpWorst cfg)] ((s.onCmp k fun x => { x with cfg }).cmpFollow)

/-- The rings that a session needs: OUT_RING, and the ring of its tap (R131, R245). -/
def State.cmpRings (k : Nat) (s : State) : Bool :=
  let c := (s.cmp k).cfg
  let t := (s.unit c.source).taps.getD c.tap {}
  s.hasRole (BitVec.ofNat 32 c.outRing) [1] && s.hasRole t.ring [1]

def cmdCmpSessionStart : Cmd where
  op := 0x0701
  args := [Arg.nat 1 0 3 true fun s _ v => if s.cmpRings v.nat then none else some stBadHandle, atFrameArg 2]
  run _ gs s :=
    let k := gotN gs 1
    let f := if (s.cmp k).running then (s.cmp k).startAt else s.frameOr gs 2
    .items [itemN 0x4001 4 f.toNat] (s.cmpStart k f)

/-- The first frame that is not yet whole in a session's tap, for a stop without AT_FRAME (R261). -/
def State.cmpNotWhole (k : Nat) (s : State) : Frame :=
  let x := s.cmp k
  let u := s.unit x.cfg.source
  let whole := ((s.unread (x.reads.getD 0) (0x0700 + k)).filterMap fun e =>
    if x.taken.any (fun t => t.1 == e.id) then none
    else (u.tapped.find? fun t => t.id == e.id && t.tap == x.cfg.tap).map (·.frame)).getLast?
  match whole, x.begun with
  | some f, _ => f + 1
  | none, some (f, _) => f + 1
  | none, none => ((u.flight.map (·.frame)).head?).getD s.raster.frame

/-- CMP_SESSION_STOP; for a stopped session the last frame that it compressed. -/
def cmdCmpSessionStop : Cmd where
  op := 0x0702
  args := [cmpArg, atFrameArg 2]
  run _ gs s :=
    let k := gotN gs 1
    if !(s.cmp k).running then .items [itemN 0x4001 4 (s.cmp k).lastFrame.toNat] s
    else
      let f := (gotF? gs 2).getD (s.cmpNotWhole k)
      .items [itemN 0x4001 4 (f - 1).toNat] (s.cmpStop k f)

def cmdCmpKeyRequest : Cmd where
  op := 0x0703
  args := [cmpArg, atFrameArg 2]
  run _ gs s :=
    let f := s.frameOr gs 2
    .items [itemN 0x4001 4 f.toNat]
      (s.onCmp (gotN gs 1) fun x => if x.running then { x with keyReq := x.keyReq ++ [f] } else x)

def cmdCmpSessionGet : Cmd where
  op := 0x0704
  args := [cmpArg]
  run _ gs s :=
    let x := s.cmp (gotN gs 1)
    .items (fieldItems 0x4100 cmpFlds x.cfg ++ [itemN 0x4001 4 x.status.toNat]) s

/-- CMP_VERIFY: its reply waits for its 32 decompression jobs. DESIGN CHOICE, unsafe (log entry 38): the frame after one
skipped by an engine failure. -/
def cmdCmpVerify : Cmd where
  op := 0x0705
  args := [handleArg 1 false [1, 10, 13], Arg.nat 2 0 (2 ^ 64 - 1) true fun s gs v =>
    if (s.buffer? (gotH gs 1)).any fun b => decide (v.nat < b.size) && b.frameAt v.nat then none else some stNotChunk]
  run _ gs s :=
    match s.buffer? (gotH gs 1) with
    | none => .err stBadHandle (gotPos gs 1) 1
    | some b =>
      let (id, s) := s.draw
      .wait (.verify id) (s.onCompress fun x => { x with verifies := x.verifies ++
        [{ mb := id, handle := gotH gs 1, offset := gotN gs 2, work := decompChunk b (gotN gs 2) 0 }] })

def cmdCmpStatusGet : Cmd where
  op := 0x0706
  args := []
  run _ _ s := .items [itemN 0x4001 4 s.cmpStatus.toNat, itemN 0x4002 4 (halves s.compress.peak s.compress.util).toNat,
    itemW 0x4003 (s.compress.sessions.flatMap fun x => x.status :: x.cnt), itemW 0x4004 s.compress.cnt] s

def cmdCmpCountersClear : Cmd where
  op := 0x0707
  args := [Arg.nat 1 0 15, Arg.nat 2 0 1]
  run _ gs s := .done (clearCmp (gotN gs 1) (gotN gs 2 == 1) s)

/-- The compression commands. -/
def compressCommands : List Cmd :=
  [cmdCmpSessionSet, cmdCmpSessionStart, cmdCmpSessionStop, cmdCmpKeyRequest, cmdCmpSessionGet, cmdCmpVerify, cmdCmpStatusGet,
   cmdCmpCountersClear]

end Sys2Proof.Machine
end

