-- ==== Sys2Proof/Machine/GranaryCommands.lean ====
section
/-!
DEFINITION. The Granary's commands (11_granary.md, R279 to R291, R301, R489).
-/

namespace Sys2Proof.Machine

def stInUse : Nat := 0x1800
def stNotRing : Nat := 0x1801
def stNotEndpoint : Nat := 0x1802

/-! ## Who refers to a buffer (R280, R489) -/

/-- The units of a list of instances that satisfy `p`, from UNIT_ID `base` on. -/
def unitsWhere {α : Type} (base : Nat) (xs : List α) (p : α → Bool) : List Nat :=
  ((indexed xs).filter fun kx => p kx.2).map fun kx => base + kx.1

/-- UNIT_IDs of the fields, in force and in shadow, that hold the handle. -/
def State.fieldReferrers (h : Handle) (s : State) : List Nat :=
  let is (n : Nat) : Bool := n == h.toNat
  let r := s.intake.replay.cfg.source
  (unitsWhere 0x0200 s.intake.units fun u => u.taps.any fun t => t.ring == h) ++
  (if is r then [0x0202] else []) ++
  (unitsWhere 0x0300 s.mill.ctxs fun x => is x.cfg.force.tnrRef || is x.cfg.shadow.tnrRef || is x.cfg.force.statsRing ||
    is x.cfg.shadow.statsRing) ++
  (unitsWhere 0x0410 s.looks.rends fun x => is x.cfg.force.planes || is x.cfg.shadow.planes) ++
  (unitsWhere 0x0500 s.sheaf.ctxs fun x => is x.cfg.force.queue || is x.cfg.shadow.queue) ++
  (unitsWhere 0x0540 s.sheaf.motion fun u => u.field == h) ++
  (if s.sheaf.pool.any fun k => k.handle == h then [0x05FF] else []) ++
  (unitsWhere 0x0600 s.decoder.ctxs fun x => is x.cfg.pool) ++
  (unitsWhere 0x0700 s.compress.sessions fun x => is x.cfg.outRing) ++
  (unitsWhere 0x0900 s.record.sessions fun x => is x.cfg.audioRing || is x.cfg.preRoll) ++
  (if is s.monitor.ovl.force.handle || is s.monitor.ovl.shadow.handle then [0x0B00] else []) ++
  (unitsWhere 0x0C00 s.audio.ports fun x => is x.cfg.playout) ++
  (unitsWhere 0x0C10 s.audio.captures fun x => x.ring == h) ++
  (if s.events.logRing == h then [0x0D00] else []) ++
  unitsWhere 0x0F00 s.bus.uarts fun u => is u.cfg.rxRing

/-- UNIT_IDs of the readers attached to a ring. -/
def State.readerUnits (h : Handle) (s : State) : List Nat :=
  match s.ring? h with
  | none => []
  | some (_, r) => r.readers.filterMap fun x => x.map (·.unit)

/-- UNIT_IDs of the decode contexts with a queued chunk of the buffer. -/
def State.chunkUnits (h : Handle) (s : State) : List Nat :=
  unitsWhere 0x0600 s.decoder.ctxs fun x => x.chunks.any fun k => k.handle == h

/-- UNIT_IDs of the Looks that load tables from the buffer. -/
def State.loadUnits (h : Handle) (s : State) : List Nat :=
  unitsWhere 0x0400 s.looks.looks fun x => x.loading.any fun l => l.handle == h

/-- Every unit that refers to the buffer, each once, in ascending order. -/
def State.referrers (h : Handle) (s : State) : List Nat :=
  ((s.fieldReferrers h ++ s.readerUnits h ++ s.chunkUnits h ++ s.loadUnits h).mergeSort fun a b => decide (a ≤ b)).eraseDups

/-! ## Buffers -/

/-- HANDLE of an existing buffer, with a further judgement of it. -/
def grnHandle (ty : Nat) (judge : State → List Got → Buffer → Option Nat := fun _ _ _ => none) : Arg State :=
  Arg.nat ty 0 0xFFFFFFFF true fun s gs v => match s.buffer? (BitVec.ofNat 32 v.nat) with
    | none => some stBadHandle
    | some b => judge s gs b

def maxSize : Nat := 2 ^ 64 - 1

/-- GRN_ALLOC: its reply waits until the memory is cleared; a refusal for want of room is counted. -/
def cmdGrnAlloc : Cmd where
  op := 0x0800
  args := [Arg.nat 1 1 13, Arg.nat 2 1 maxSize,
    Arg.nat 3 0 2 true fun _ gs v => if v.nat ≠ 2 ∧ ringRoles.contains (gotN gs 1) then some stRange else none, Arg.nat 4 0 1]
  run _ gs s := match s.alloc (gotN gs 1) (roundUp (gotN gs 2) 4096) (gotN gs 3) (gotN gs 4 == 1) with
    | (none, s') => .kept stNoResource (gotPos gs 2) 2 s'
    | (some b, s') => .wait (.clear b.handle) s'

def cmdGrnFree : Cmd where
  op := 0x0801
  args := [grnHandle 1 fun s _ b => if (s.referrers b.handle).isEmpty then none else some stInUse]
  run _ gs s := .done (s.free (gotH gs 1))

def cmdGrnInfo : Cmd where
  op := 0x0802
  args := [grnHandle 1]
  run _ gs s :=
    let h := gotH gs 1
    match s.buffer? h with
    | none => .err stBadHandle (gotPos gs 1) 1
    | some b =>
      .items ([itemN 0x4001 1 b.role, itemN 0x4002 8 b.size, itemN 0x4003 1 b.pattern, itemN 0x4004 1 (bit b.rt),
        itemN 0x4005 1 b.place.code, itemN 0x4006 1 (bit b.pinned),
        itemN 0x4007 1 (bit (s.granary.migrations.any fun m => m.handle == h))] ++
        (s.referrers h).map (itemN 0x4008 2) ++
        [itemN 0x4009 2 (bitsOf (s.granary.apertures.map fun a => a.handle == h && decide (0 < a.length)))]) s

def cmdGrnPin : Cmd where
  op := 0x0803
  args := [grnHandle 1, Arg.nat 2 0 1 false]
  writes gs := has gs 2
  run _ gs s := .done (s.onBuffer (gotH gs 1) fun b => { b with pinned := ((gotN? gs 2).map (· == 1)).getD b.pinned })

/-- OFFSET and LENGTH of host accesses: multiples of 4, within the buffer, at most 61,440 bytes (R291). -/
def spanArg (ty : Nat) : Arg State :=
  Arg.nat ty 0 61440 true fun s gs v =>
    if v.nat % 4 = 0 ∧ (s.buffer? (gotH gs 1)).any (fun b => decide (gotN gs 2 + v.nat ≤ b.size)) then none else some stRange

def offsetArg : Arg State := Arg.nat 2 0 maxSize true fun s gs v =>
  if v.nat % 4 = 0 ∧ (s.buffer? (gotH gs 1)).any (fun b => decide (v.nat < b.size)) then none else some stRange

def cmdGrnRead : Cmd where
  op := 0x0804
  args := [grnHandle 1, offsetArg, spanArg 3]
  run _ gs s :=
    let h := gotH gs 1
    let off := gotN gs 2
    let n := gotN gs 3
    let bad := ((s.buffer? h).map fun b => (blocksOf off n).filter fun k => b.poison.contains k).getD []
    .items (itemB 0x4001 (s.bytesOf h off n) :: bad.map fun k => itemN 0x4002 8 (64 * k)) s

def cmdGrnWrite : Cmd where
  op := 0x0805
  args := [grnHandle 1, offsetArg, Arg.bytes 3 0 65535 true 1 fun s gs v =>
    if v.bytes.length % 4 = 0 ∧ v.bytes.length ≤ 61440 ∧
        (s.buffer? (gotH gs 1)).any (fun b => decide (gotN gs 2 + v.bytes.length ≤ b.size)) then none else some stRange]
  run _ gs s := .done (s.putBytes (gotH gs 1) (gotN gs 2) (gotB gs 3))

/-- GRN_APERTURE_MAP (R290): HANDLE 0 unmaps the window. -/
def cmdGrnApertureMap : Cmd where
  op := 0x0806
  args := [Arg.nat 1 0 15 true fun s _ _ => if s.control.pcie0Ep then none else some stNotEndpoint,
    Arg.nat 2 0 0xFFFFFFFF true fun s _ v => badHandle (List.range 14) (fun _ => true) s v,
    Arg.nat 3 0 maxSize true fun _ _ v => if v.nat % 4096 = 0 then none else some stRange,
    Arg.nat 4 0 (2 ^ 34) true fun s gs v =>
      if v.nat % 4096 = 0 ∧ (gotN gs 2 = 0 ∨ (s.buffer? (gotH gs 2)).any (fun b => decide (gotN gs 3 + v.nat ≤ b.size))) then none
      else some stRange]
  run _ gs s :=
    let w := gotN gs 1
    let a : Aperture := if gotN gs 2 = 0 then {} else { handle := gotH gs 2, offset := gotN gs 3, length := gotN gs 4 }
    .items [itemN 0x4001 8 (w * 2 ^ 34)] (s.onGranary fun g => { g with apertures := setAt g.apertures w a })

/-! ## Rings -/

/-- HANDLE of a ring. -/
def ringHandle (judge : State → Buffer → Ring → Option Nat := fun _ _ _ => none) : Arg State :=
  grnHandle 1 fun s _ b => match b.ring with
    | none => some stNotRing
    | some r => judge s b r

/-- A ring's position within its buffer. -/
def Buffer.posOf (p : Nat) (b : Buffer) : Nat := if b.size = 0 then 0 else p % b.size

/-- GRN_RING_ATTACH (R288): the host's reader i is unit 0x08F0 + i. -/
def cmdGrnRingAttach : Cmd where
  op := 0x0807
  args := [ringHandle fun _ _ r => if r.readers.any (·.isNone) then none else some stNoResource]
  run _ gs s := match s.ring? (gotH gs 1) with
    | none => .err stNotRing (gotPos gs 1) 1
    | some (b, r) =>
      match s.ringAttach (gotH gs 1) (0x08F0 + (r.readers.findIdx? (·.isNone)).getD 0) with
      | (none, _) => .err stNoResource (gotPos gs 1) 1
      | (some k, s') => .items [itemN 0x4001 1 k, itemN 0x4002 8 (b.posOf r.startPos)] s'

/-- The position of reader `k` of the ring that HANDLE names, when it is attached. -/
def readPos (s : State) (gs : List Got) (k : Nat) : Option Nat :=
  (s.ring? (gotH gs 1)).bind fun br => (br.2.readers.getD k none).map (·.pos)

/-- READER (TYPE 2): RANGE when it is not attached. -/
def readerArg : Arg State := Arg.nat 2 0 3 true fun s gs v => if (readPos s gs v.nat).isSome then none else some stRange

def cmdGrnRingDetach : Cmd where
  op := 0x0808
  args := [ringHandle, readerArg]
  run _ gs s := .done (s.ringDetach (gotH gs 1) (gotN gs 2))

def cmdGrnRingRelease : Cmd where
  op := 0x0809
  args := [ringHandle, readerArg, Arg.nat 3 0 maxSize true fun s gs v =>
    match s.ring? (gotH gs 1), readPos s gs (gotN gs 2) with
    | some (_, r), some p => if v.nat ≤ r.unreleased p then none else some stRange
    | _, _ => some stRange]
  run _ gs s :=
    match s.ring? (gotH gs 1), readPos s gs (gotN gs 2) with
    | some (b, r), some p =>
      .items [itemN 0x4001 8 (b.posOf (r.advance p (gotN gs 3)))] (s.ringRelease (gotH gs 1) (gotN gs 2) (gotN gs 3))
    | _, _ => .err stRange (gotPos gs 2) 2

/-- An ENTRY item of GRN_RING_STATUS. -/
def Buffer.entryItem (e : Entry) (b : Buffer) : Item :=
  itemB 0x4006 (toLe 8 (b.posOf e.start) ++ toLe 4 e.len ++ toLe 2 e.unit ++ toLe 2 0)

def cmdGrnRingStatus : Cmd where
  op := 0x080A
  args := [ringHandle]
  run _ gs s := match s.ring? (gotH gs 1) with
    | none => .err stNotRing (gotPos gs 1) 1
    | some (b, r) =>
      let shown := (r.visible.filter fun e => decide (r.floor < e.start + e.len)).take 256
      .items ([itemN 0x4001 8 b.size, itemN 0x4002 8 (b.posOf r.head), itemN 0x4003 8 r.used, itemN 0x4004 8 r.reserved] ++
        r.readers.map (fun x => itemN 0x4005 8 (match x with | some y => b.posOf y.pos | none => maxSize)) ++
        shown.map fun e => b.entryItem e) s

/-- GRN_RING_PUBLISH (R288): the host has written the entry at the head; a refusal for want of room is counted. -/
def cmdGrnRingPublish : Cmd where
  op := 0x080B
  args := [ringHandle fun _ b _ => if b.role = 10 ∨ b.role = 13 then none else some stNotRing, Arg.nat 2 1 maxSize]
  run _ gs s := match s.ringClaim (gotH gs 1) (gotN gs 2) 0x0800 with
    | (none, s') => .kept stNoResource (gotPos gs 2) 2 s'
    | (some (id, pos), s') => .items [itemN 0x4001 8 pos] (s'.ringPublish (gotH gs 1) id (gotN gs 2))

/-! ## Fields and status -/

/-- Whether a DRAM buffer exists (R283). -/
def State.dramUsed (s : State) : Bool := s.granary.buffers.any fun b => b.place != .sram

def cmdGrnDramSet : Cmd where
  op := 0x080C
  args := fieldArgs 1 dramFlds fun s _ => s.dramUsed
  writes gs := writesAbove 1 gs
  run _ gs s := .done (s.onGranary fun g => { g with cfg := putPlain 1 dramFlds gs g.cfg })

def cmdGrnStatusGet : Cmd where
  op := 0x080D
  args := []
  run _ _ s := .items [itemN 0x4001 4 s.grnStatus.toNat, itemN 0x4002 4 s.sramFree, itemN 0x4003 4 (s.classFree false / 256),
    itemN 0x4004 4 (s.classFree true / 256), itemW 0x4005 s.granary.cnt,
    itemW 0x4006 ((List.range 24).flatMap fun n =>
      let c := s.channel n
      [s.chStatus n, c.cntReread, c.cntPoison, halves c.peak c.util])] s

def cmdGrnCountersClear : Cmd where
  op := 0x080E
  args := [maskArg 1, Arg.nat 2 0 (2 ^ 24 - 1)]
  run _ gs s := .done (clearGrn (gotN gs 1) (gotN gs 2) s)

/-- The Granary's commands. -/
def granaryCommands : List Cmd :=
  [cmdGrnAlloc, cmdGrnFree, cmdGrnInfo, cmdGrnPin, cmdGrnRead, cmdGrnWrite, cmdGrnApertureMap, cmdGrnRingAttach, cmdGrnRingDetach,
   cmdGrnRingRelease, cmdGrnRingStatus, cmdGrnRingPublish, cmdGrnDramSet, cmdGrnStatusGet, cmdGrnCountersClear]

end Sys2Proof.Machine
end

