-- ==== Sys2Proof/Machine/RecordCommands.lean ====
section
/-!
DEFINITION. The recording commands (12_recording_and_storage.md, R304 to R318).
-/

namespace Sys2Proof.Machine

def stNoVolume : Nat := 0x1900
def stVolumeFull : Nat := 0x1901
def stDriveFormat : Nat := 0x1903
def stDriveFailed : Nat := 0x1904
def stExtentLost : Nat := 0x1905

/-! ## Volumes -/

/-- What keeps a format from naming drive `d`: absent or failed, or without a 4,096-byte format (R305, R318). -/
def State.driveRefusal (d : Nat) (s : State) : Option Nat :=
  match (s.drive d).info with
  | none => some stDriveFailed
  | some i => if (s.drive d).failed then some stDriveFailed else if !i.format4k then some stDriveFormat else none

/-- Member counts that a layout allows (R308). -/
def layoutAllows (layout members : Nat) : Bool :=
  match layout with
  | 0 => decide (1 ≤ members)
  | 1 => decide (2 ≤ members)
  | _ => members == 4

def cmdRecVolumeFormat : Cmd where
  op := 0x0900
  args := [Arg.nat 1 1 15 true fun s _ v => if s.recRuns then some stBusy else ((membersOf v.nat).findSome? fun d => s.driveRefusal d),
    Arg.nat 2 0 2 true fun _ gs v => if layoutAllows v.nat (membersOf (gotN gs 1)).length then none else some stRange,
    Arg.nat 3 24 30, Arg.nat 4 1024 1048576]
  run _ gs s :=
    let (id, sizes, s') := s.volumeFormat (gotN gs 1) (gotN gs 2) (gotN gs 3) (gotN gs 4)
    .items (itemB 0x4001 id :: sizes.map (itemN 0x4002 8)) s'

/-- Drives that a mask of Booleans names. -/
def maskOf (p : Nat → Bool) (n : Nat) : Nat := bitsOf ((List.range n).map p)

def cmdRecVolumeMount : Cmd where
  op := 0x0901
  args := [Arg.nat 1 1 15 true fun s _ v => if s.recRuns then some stBusy else s.mountRefusal v.nat]
  run _ gs s := match s.volumeMount (gotN gs 1) with
    | (none, _) => .err stNoVolume (gotPos gs 1) 1
    | (some (v, n), s') =>
      .items [itemB 0x4001 v.id, itemN 0x4002 1 v.layout, itemN 0x4003 4 v.clips.length, itemN 0x4004 4 n,
        itemN 0x4005 1 (maskOf (fun d => (s'.drive d).member && (s'.drive d).failed) 4)] s'

/-- NO_VOLUME of a command without items. -/
def needVolume (s : State) (k : Volume → Ans) : Ans :=
  match s.record.volume with
  | none => .err stNoVolume 0 0
  | some v => k v

def cmdRecVolumeUnmount : Cmd where
  op := 0x0902
  args := []
  run _ _ s := if s.recRuns then .err stBusy 0 0 else needVolume s fun _ => .done s.volumeUnmount

/-- REC_VOLUME_INFO: the superblock's fields are its first 128 bytes on the lowest member (R307). -/
def cmdRecVolumeInfo : Cmd where
  op := 0x0903
  args := []
  run _ _ s := needVolume s fun v =>
    let d := (membersOf v.members).headD 0
    let sns := (List.range 4).map fun k => if v.members.testBit k then ((s.drive k).info.map (·.serial)).getD [] else []
    .items ([itemB 0x4001 ((superBytes v d (s.drive d).extents sns).take 128)] ++
      (membersOf v.members).map (fun k => itemN 0x4002 8 ((s.drive k).extents - (s.drive k).next)) ++
      [itemN 0x4003 4 v.freeRecords] ++ s.record.drives.map fun x => itemN 0x4004 1 x.state) s

/-! ## Sessions -/

def recArg : Arg State := Arg.nat 1 0 15

/-- No other recording session names the same compression session or context (R313). -/
def State.namedOnce (n : Nat) (c : RecConfig) (s : State) : Bool :=
  (indexed s.record.sessions).all fun kx => kx.1 == n ||
    ((c.rawSession == 255 || kx.2.cfg.rawSession != c.rawSession) && kx.2.cfg.contexts &&& c.contexts == 0)

def cmdRecSessionSet : Cmd where
  op := 0x0904
  args := recArg :: fieldArgs 0x100 recFlds (fun s gs => (s.recSession (gotN gs 1)).running) fun s _ j _ v =>
    if j = 2 then badHandle [11] (fun _ => true) s v else if j = 3 then badHandle [2] (fun _ => true) s v else none
  writes gs := writesAbove 0x100 gs
  run _ gs s :=
    let n := gotN gs 1
    let cfg := putPlain 0x100 recFlds gs (s.recSession n).cfg
    Ans.orElse (refuseFirst gs [0x100, 0x101] stRange (s.namedOnce n cfg)) <|
      let s := s.onRec n fun x => { x with cfg }
      .done (if (s.recSession n).startAt.isSome then (s.reserveClips n).2 else s).recAttach

/-- What refuses a start of session `n` (R199, R315, R316, R318). -/
def State.recRefusal (n : Nat) (s : State) : Option Nat :=
  let ras := s.raster.cfg
  if (s.recSession n).running || ras.shadow.rateDiffers ras.force || (s.raster.held.any fun h => h.2.rateDiffers ras.force) then
    some stBusy
  else match s.record.volume with
    | none => some stNoVolume
    | some v => if v.full || decide (v.freeRecords < 64) || s.freeExtents == 0 then some stVolumeFull else none

def cmdRecStart : Cmd where
  op := 0x0905
  args := [Arg.nat 1 0 15 true fun s _ v => s.recRefusal v.nat, atFrameArg 2]
  run _ gs s :=
    let n := gotN gs 1
    let (clips, s) := if (s.recSession n).startAt.isSome then
        ((s.recSession n).rawClip.toList ++ (s.recSession n).ctxClips.map (·.2), s)
      else s.reserveClips n
    let f := (gotF? gs 2).getD s.raster.frame
    let s := if has gs 2 then s.onRec n fun x => { x with startAt := some f } else s.recStart n f true
    .items (itemN 0x4001 4 f.toNat :: clips.map (itemN 0x4002 4)) s

/-- REC_STOP: one of a session that neither runs nor waits to start does nothing. -/
def cmdRecStop : Cmd where
  op := 0x0906
  args := [recArg, atFrameArg 2]
  run _ gs s :=
    let n := gotN gs 1
    let x := s.recSession n
    match gotF? gs 2 with
    | some f =>
      .items [itemN 0x4001 4 f.toNat] (if x.running || x.startAt.isSome then s.onRec n fun x => { x with stopAt := some f } else s)
    | none =>
      .items [itemN 0x4001 4 ((x.stop.map (·.1)).getD s.raster.frame).toNat]
        (if x.running then s.recStop n s.raster.frame 0 0 else s)

/-- The host items of a REC_METADATA_ADD: bit 15 set and none of the general items (R66, R267). -/
def hostItems (c : Call) (s : State) : List Item :=
  (effItems c s).1.filter fun it => decide (0x8000 ≤ it.ty) && !(decide (0xC001 ≤ it.ty) && decide (it.ty ≤ 0xC004))

def cmdRecMetadataAdd : Cmd where
  op := 0x0907
  args := [recArg]
  run c gs s :=
    let n := gotN gs 1
    let its := hostItems c s
    let ty := (its.headD { ty := 0x8000, val := [] }).ty
    let pos := ((effItems c s).1.findIdx? fun it => it.ty == ty).getD 0
    if 4096 < (payloadBytes its).length then .err stRange pos ty
    else if 4096 < (payloadBytes ((s.recSession n).host ++ its)).length then .err stNoResource pos ty
    else .done (s.onRec n fun x => { x with host := x.host ++ its })

/-! ## Clips -/

/-- Extents of a clip of which no copy is left. -/
def Clip.lostExtents (c : Clip) : Nat := (c.extents.filter fun x => x.copies.all (·.lost)).length

/-- One clip of REC_CLIP_LIST: its CLIP_OPEN and CLIP_CLOSE records of R309, extents lost, gaps. -/
def Volume.clipItems (c : Clip) (v : Volume) : List Item :=
  let mine := v.journal.filter fun r => r.clip == c.no
  let rec_ (ty : Nat) : List Byte := (((mine.filter fun r => r.ty == ty).getLast?).map journalBytes).getD []
  [itemB 0x4001 (rec_ 1), itemB 0x4002 (rec_ 3), itemN 0x4003 4 c.lostExtents,
   itemN 0x4004 4 (mine.filter fun r => r.ty == 4).length]

/-- NO_VOLUME, judged at the first item. -/
def volumeJudge (s : State) (_ : List Got) (_ : Val) : Option Nat := if s.record.volume.isNone then some stNoVolume else none

def cmdRecClipList : Cmd where
  op := 0x0908
  args := [Arg.nat 1 0 0xFFFFFFFF true volumeJudge, Arg.nat 2 1 64]
  run _ gs s := needVolume s fun v =>
    let shown := (v.clips.filter fun c => decide (gotN gs 1 ≤ c.no)).take (gotN gs 2)
    .items (shown.flatMap v.clipItems) s

/-- REC_CLIP_READ: copies what the clip holds of the range into the buffer. -/
def cmdRecClipRead : Cmd where
  op := 0x0909
  args := [Arg.nat 1 0 0xFFFFFFFF true fun s _ v =>
      if s.record.volume.isNone then some stNoVolume else if (s.clip? v.nat).isNone then some stRange else none,
    Arg.nat 2 0 maxSize true fun s gs v =>
      if (s.clip? (gotN gs 1)).any fun c => decide (v.nat ≤ s.clipSize c) then none else some stRange,
    Arg.nat 3 0 67108864 true fun s gs v =>
      if v.nat % 4096 ≠ 0 then some stRange
      else match s.clip? (gotN gs 1), s.record.volume with
        | some c, some w =>
          let n := min v.nat (s.clipSize c - gotN gs 2)
          let first := gotN gs 2 / 2 ^ w.shift
          if n = 0 ∨ (List.range ((gotN gs 2 + n - 1) / 2 ^ w.shift - first + 1)).all (fun i => s.readable c (first + i)) then none
          else some stExtentLost
        | _, _ => none,
    handleArg 4 false [10, 13],
    Arg.nat 5 0 maxSize true fun s gs v =>
      if (s.buffer? (gotH gs 4)).any fun b => decide (v.nat + gotN gs 3 ≤ b.size) then none else some stRange]
  run _ gs s :=
    match s.clip? (gotN gs 1) with
    | none => .err stRange (gotPos gs 1) 1
    | some c =>
      let n := min (gotN gs 3) (s.clipSize c - gotN gs 2)
      .items [itemN 0x4001 4 n] (s.putBytes (gotH gs 4) (gotN gs 5) (s.clipRead c (gotN gs 2) n))

/-! ## Status -/

def cmdRecDriveInfo : Cmd where
  op := 0x090A
  args := [Arg.nat 1 0 3]
  run _ gs s :=
    let x := s.drive (gotN gs 1)
    let i (f : DriveInfo → List Byte) : List Byte := (x.info.map f).getD []
    .items [itemB 0x4001 (i (·.model)), itemB 0x4002 (i (·.serial)), itemB 0x4003 (i (·.firmware)), itemB 0x4004 (i (·.smart)),
      itemN 0x4005 4 x.status.toNat] s

def cmdRecStatusGet : Cmd where
  op := 0x090B
  args := []
  run _ _ s := .items [itemN 0x4001 4 s.recWord.toNat, itemW 0x4002 (s.record.drives.flatMap fun x => x.status :: x.cnt),
    itemW 0x4003 ((indexed s.record.sessions).flatMap fun nx => s.recStatus nx.1 :: nx.2.cnt)] s

def cmdRecCountersClear : Cmd where
  op := 0x090C
  args := [Arg.nat 1 0 15, Arg.nat 2 0 65535]
  run _ gs s := .done (clearRec (gotN gs 1) (gotN gs 2) s)

/-- The recording commands. -/
def recordCommands : List Cmd :=
  [cmdRecVolumeFormat, cmdRecVolumeMount, cmdRecVolumeUnmount, cmdRecVolumeInfo, cmdRecSessionSet, cmdRecStart, cmdRecStop,
   cmdRecMetadataAdd, cmdRecClipList, cmdRecClipRead, cmdRecDriveInfo, cmdRecStatusGet, cmdRecCountersClear]

end Sys2Proof.Machine
end

