-- ==== Sys2Proof/Machine/NetCommands.lean ====
section
/-!
DEFINITION. The network commands (13_network_and_time.md, R322, R325, R331, R332, R337).
-/

namespace Sys2Proof.Machine

def stRateExceeded : Nat := 0x1A00
def stNotLocked : Nat := 0x1A01

/-! ## Ports -/

def netPortArg : Arg State := Arg.nat 1 0 1

/-- The fields of the port that PORT names. -/
def netPortCfg (gs : List Got) (s : State) : NetPortConfig := ((s.netPort? (gotN gs 1)).map (·.cfg)).getD { mac := 0 }

/-- A port is stopped while PORT_ENABLE is 0 (R322). -/
def cmdNetPortSet : Cmd where
  op := 0x0A00
  args := netPortArg :: fieldArgs 0x100 netPortFlds fun s gs => (netPortCfg gs s).portEnable == 1
  writes gs := writesAbove 0x100 gs
  run _ gs s :=
    let cfg := putPlain 0x100 netPortFlds gs (netPortCfg gs s)
    Ans.orElse (refuseFirst gs [0x102, 0x101] stRange (cfg.fec != 2 || cfg.speed == 1)) <|
      .done (s.onNetPort (gotN gs 1) fun x => { x with cfg })

/-- The ARP cache is a list of address (4 bytes) and MAC (6 bytes). -/
def cmdNetPortGet : Cmd where
  op := 0x0A01
  args := [netPortArg]
  run _ gs s := match s.netPort? (gotN gs 1) with
    | none => .err stRange (gotPos gs 1) 1
    | some x => .items (fieldItems 0x4100 netPortFlds x.cfg ++ [itemN 0x4001 4 x.status.toNat] ++
        x.arp.map fun e => itemB 0x4002 (toLe 4 e.1 ++ toLe 6 e.2)) s

def cmdNetControlSet : Cmd where
  op := 0x0A02
  args := [Arg.nat 1 1 3600 false]
  writes gs := has gs 1
  run _ gs s := .done (s.onNet fun n => { n with bindTimeout := (gotN? gs 1).getD n.bindTimeout })

/-! ## PTP -/

def cmdPtpConfigSet : Cmd where
  op := 0x0A10
  args := fieldArgs 0x100 ptpFlds fun s _ => s.net.ptp.cfg.enable == 1
  writes gs := writesAbove 0x100 gs
  run _ gs s :=
    let was := s.net.ptp.cfg.enable
    .done ((s.onPtp fun x => { x with cfg := putPlain 0x100 ptpFlds gs x.cfg }).ptpEnabled was)

/-- The grandmaster's identity (8 bytes) and dataset: priority1, clock class, accuracy, variance (2 bytes), priority2 and
steps removed (2 bytes). -/
def datasetBytes (a : PtpAnnounce) : List Byte :=
  toLe 8 a.grandmaster ++ toLe 1 a.priority1 ++ toLe 1 a.clockClass ++ toLe 1 a.accuracy ++ toLe 2 a.variance ++
    toLe 1 a.priority2 ++ toLe 2 a.steps

def cmdPtpStatusGet : Cmd where
  op := 0x0A11
  args := []
  run _ _ s :=
    let x := s.net.ptp
    .items [itemN 0x4001 4 x.status.toNat, itemI 0x4002 4 x.offsetNs,
      itemI 0x4003 4 (roundDiv (x.pathDelay.getD 0) 65536), itemI 0x4004 4 x.rateAdj,
      itemB 0x4005 (datasetBytes (x.master.getD x.own)), itemI 0x4006 2 x.utcOffset, itemB 0x4007 x.tlv, itemW 0x4008 s.net.cnt] s

def cmdPtpRestep : Cmd where
  op := 0x0A12
  args := []
  run _ _ s := if s.net.ptp.mode = .tracking ∨ s.net.ptp.mode = .locked then .done s.ptpRestep else .err stNotLocked 0 0

/-! ## RTP -/

def rtpArg : Arg State := Arg.nat 1 0 15

/-- Whether a context has a QUEUE. -/
def State.hasQueue (ctx : Nat) (s : State) : Bool := s.hasRole (BitVec.ofNat 32 (s.shf ctx).cfg.force.queue) [8]

def rtpRuns (s : State) (gs : List Got) : Bool := (s.net.streams[gotN gs 1]?).any (·.running)

/-- RTP_STREAM_SET: the stream is then set, and reads its context's QUEUE (R332). -/
def cmdRtpStreamSet : Cmd where
  op := 0x0A20
  args := rtpArg :: fieldArgs 0x100 rtpFlds rtpRuns
  writes gs := writesAbove 0x100 gs
  run _ gs s := match s.net.streams[gotN gs 1]? with
    | none => .err stRange (gotPos gs 1) 1
    | some x =>
      let cfg := putPlain 0x100 rtpFlds gs x.cfg
      let reply := [itemN 0x4001 2 (s.rtpP cfg)]
      if !writesAbove 0x100 gs then .items reply s
      else Ans.orElse (refuseFirst gs [0x100, 1] stBadHandle (s.hasQueue cfg.context)) <|
        .items reply (((s.onRtp (gotN gs 1) fun x => { x with cfg, set := true }).rtpDetach (gotN gs 1)).rtpTake (gotN gs 1))

def cmdRtpStart : Cmd where
  op := 0x0A21
  args := [Arg.nat 1 0 15 true fun s _ v => match s.net.streams[v.nat]? with
      | none => some stRange
      | some x => if !s.hasQueue x.cfg.context then some stBadHandle
        else if !x.running && s.rateExceeded v.nat then some stRateExceeded else none,
    atFrameArg 2]
  run _ gs s := match s.net.streams[gotN gs 1]? with
    | none => .err stRange (gotPos gs 1) 1
    | some x =>
      let f := if x.running then x.firstFrame else s.frameOr gs 2
      .items [itemN 0x4001 4 f.toNat] (s.rtpStart (gotN gs 1) f)

/-- RTP_STOP: without AT_FRAME every AU that the context has written is sent. -/
def cmdRtpStop : Cmd where
  op := 0x0A22
  args := [rtpArg, atFrameArg 2]
  run _ gs s := match s.net.streams[gotN gs 1]? with
    | none => .err stRange (gotPos gs 1) 1
    | some x =>
      let f := (gotF? gs 2).getD ((s.shf x.cfg.context).lastFrame + 1)
      .items [itemN 0x4001 4 (f - 1).toNat] (s.rtpStop (gotN gs 1) f)

/-! ## Status -/

def cmdNetStatusGet : Cmd where
  op := 0x0A23
  args := []
  run _ _ s := .items [itemN 0x4001 4 s.netStatus.toNat, itemW 0x4002 (s.net.ports.flatMap fun x => x.status :: x.cnt),
    itemW 0x4003 (s.net.streams.flatMap fun x => x.status :: x.cnt)] s

def cmdNetCountersClear : Cmd where
  op := 0x0A24
  args := [maskArg 1, Arg.nat 2 0 3, Arg.nat 3 0 65535]
  run _ gs s := .done (clearNet (gotN gs 1) (gotN gs 2) (gotN gs 3) s)

/-- The network commands. -/
def netCommands : List Cmd :=
  [cmdNetPortSet, cmdNetPortGet, cmdNetControlSet, cmdPtpConfigSet, cmdPtpStatusGet, cmdPtpRestep, cmdRtpStreamSet, cmdRtpStart,
   cmdRtpStop, cmdNetStatusGet, cmdNetCountersClear]

end Sys2Proof.Machine
end

