-- ==== Sys2Proof/Machine/MonitorCommands.lean ====
section
/-!
DEFINITION. The monitor's commands (14_monitor_output.md, R340, R347 to R350).
-/

namespace Sys2Proof.Machine

def stMonFormat : Nat := 0x1B00

def cmdMonSet : Cmd where
  op := 0x0B00
  args := fieldArgs 1 monFlds (fun s _ => s.monitor.running)
  writes gs := writesAbove 1 gs
  run _ gs s :=
    let cfg := putPlain 1 monFlds gs s.monitor.cfg
    Ans.orElse (refuseFirst gs [2] stRange (!has gs 2 || decide (cfg.outLine < s.raster.cfg.force.totalLines))) <|
      .done (s.onMonitor fun m => { m with cfg })

/-- The raster frame of the next flip: this one's, while (OUT_LINE, OUT_PHASE) lies ahead in it (R342). -/
def State.nextFlip (s : State) : Frame :=
  let c := s.monitor.cfg
  if s.posExpired { frame := s.raster.frame, line := c.outLine, phase := c.outPhase } then s.raster.frame + 1 else s.raster.frame

/-- MON_START: one of an output that runs, with no stop waiting, changes nothing. -/
def cmdMonStart : Cmd where
  op := 0x0B01
  args := [atFrameArg 1]
  run _ gs s :=
    if !s.monListed then .err stMonFormat 0 (if has gs 1 then 1 else 0)
    else
      let f := (gotF? gs 1).getD s.nextFlip
      .items [itemN 0x4001 4 f.toNat]
        (if s.monitor.running && s.monitor.stopAt.isNone then s else s.onMonitor fun m => { m with startAt := some f })

/-- MON_STOP: the last output frame is named by the raster frame in which it starts. -/
def cmdMonStop : Cmd where
  op := 0x0B02
  args := [atFrameArg 1]
  run _ gs s :=
    let m := s.monitor
    match gotF? gs 1 with
    | some f =>
      .items [itemN 0x4001 4 (if m.cfg.outLine = 0 ∧ m.cfg.outPhase = 0 then f else f - 1).toNat]
        (if m.running || m.startAt.isSome then s.onMonitor fun m => { m with stopAt := some (some f) } else s)
    | none =>
      .items [itemN 0x4001 4 (m.lastFlip.getD (s.raster.frame - 1)).toNat]
        (s.onMonitor fun m => { m with startAt := none, stopAt := if m.running then some none else none })

/-- The overlay plane lies in its buffer (R347). -/
def State.overlayFits (c : OvlConfig) (s : State) : Bool :=
  let g := monSize s.monitor.cfg.format
  c.handle == 0 || (s.buffer? (BitVec.ofNat 32 c.handle)).any fun b => b.role == 13 && decide (c.offset + ovlPitch g.1 * g.2 ≤ b.size)

def cmdMonOverlaySet : Cmd where
  op := 0x0B03
  args := fieldArgs 1 ovlFlds fun _ _ => false
  writes gs := writesAbove 1 gs
  run _ gs s :=
    let ovl := putFields 1 ovlFlds gs s.monitor.ovl
    Ans.orElse (firstErr [refuseAt gs 4 stRange ((gotNs gs 4).any fun v => decide (128 < v / 16777216)),
      refuseFirst gs [2, 3] stBadHandle (s.overlayFits ovl.shadow)]) <|
      .ok [] (s.commitAt 0x0B00 (writesAbove 1 gs)) (s.onMonitor fun m => { m with ovl })

def cmdMonCheckSet : Cmd where
  op := 0x0B04
  args := Arg.nat 1 0 7 :: fieldArgs 2 rectFlds fun _ _ => false
  writes gs := writesAbove 2 gs
  run _ gs s :=
    let k := gotN gs 1
    let old := s.monitor.rects
    let one : Shadowed RectConfig := { force := old.force.getD k {}, shadow := old.shadow.getD k {} }
    let new := (putFields 2 rectFlds gs one).shadow
    let g := monSize s.monitor.cfg.format
    Ans.orElse (firstErr [refuseFirst gs [3, 5] stRange (decide (new.x + new.w ≤ g.1)),
      refuseFirst gs [4, 6] stRange (decide (new.y + new.h ≤ g.2))]) <|
      .ok [] (s.commitAt 0x0B00 (writesAbove 2 gs))
        (s.onMonitor fun m => { m with rects := { old with shadow := setAt old.shadow k new } })

def cmdMonStatusGet : Cmd where
  op := 0x0B05
  args := []
  run _ _ s :=
    let m := s.monitor
    .items [itemN 0x4001 4 s.monStatus.toNat, itemN 0x4002 4 m.frameCount.toNat, itemN 0x4003 4 s.shownFrame.toNat,
      itemW 0x4004 m.cnt, itemN 0x4005 4 (bitsOf m.failed), itemW 0x4006 m.results] s

def cmdMonCountersClear : Cmd where
  op := 0x0B06
  args := [maskArg 1]
  run _ gs s := .done (clearMon (gotN gs 1) s)

/-- The monitor's commands. -/
def monitorCommands : List Cmd :=
  [cmdMonSet, cmdMonStart, cmdMonStop, cmdMonOverlaySet, cmdMonCheckSet, cmdMonStatusGet, cmdMonCountersClear]

end Sys2Proof.Machine
end

