-- ==== Sys2Proof/Machine/AudioCommands.lean ====
section
/-!
DEFINITION. The audio commands (15_audio.md, R353 to R369).
-/

namespace Sys2Proof.Machine

def stRateMismatch : Nat := 0x1C00
def stPortTaken : Nat := 0x1C01

/-! ## Ports -/

def audPortArg : Arg State := Arg.nat 1 0 7

/-- BCLK of a TDM port in Hz (R354); an AES3 port has none. -/
def bclk (p : Nat) (c : AudPortConfig) : Nat := if p < 4 then rateHz c.rate * c.slots * 32 else 0

/-- CS_PASS 1 needs a capture whose mapped channels come from one AES3 input (R355). -/
def State.csPassOk (p : Nat) (c : AudPortConfig) (s : State) : Bool :=
  c.csPass == 0 ||
    (decide (c.outSource < 4) &&
      let chans := layoutOf (s.capture c.outSource).maskShadow
      let used := ((c.outMap.take (if p < 4 then c.slots else 2)).filter (· != 255)).map fun k => (chans[k]?).map (·.1)
      used.all (· == some 4) || used.all (· == some 5))

/-- The settings that R354 and R355 refuse. -/
def judgeAudPort (p : Nat) (gs : List Got) (c : AudPortConfig) (s : State) : Option (Nat × Nat × Nat) :=
  firstErr [
    refuseAt gs 0x100 stRange (has gs 0x100 && decide (4 ≤ p)),
    refuseFirst gs [0x101, 0x102] stRange (c.clock != 0 || c.rate == 1),
    refuseFirst gs [0x102] stRange ((p != 4 && p != 5) || c.clock == 2),
    refuseFirst gs [0x102] stRange (decide (p < 6) || c.clock != 2),
    refuseFirst gs [0x101, 0x103] stRange (decide (bclk p c ≤ 49152000)),
    refuseFirst gs [0x10B, 0x106, 0x107] stRange (s.csPassOk p c)]

/-- The port's own reader of its PLAYOUT ring, while OUT_SOURCE is 4 (R367, R489). -/
def State.playoutAttach (p : Nat) (s : State) : State :=
  let c := (s.audPort p).cfg
  let want : Handle := if c.outSource = 4 then BitVec.ofNat 32 c.playout else 0
  let s := (s.granary.buffers.filter fun b => b.handle != want && (s.readerOf b.handle (0x0C00 + p)).isSome).foldl
    (fun s b => s.ringLeave b.handle (0x0C00 + p)) s
  if want = 0 || (s.readerOf want (0x0C00 + p)).isSome then s else (s.ringAttach want (0x0C00 + p)).2

def cmdAudPortSet : Cmd where
  op := 0x0C00
  args := audPortArg :: fieldArgs 0x100 audPortFlds (fun s gs => s.portRuns (gotN gs 1)) fun s _ j _ v =>
    if j = 9 then badHandle [13] (fun b => b.ring.isSome) s v else none
  writes gs := writesAbove 0x100 gs
  run _ gs s :=
    let p := gotN gs 1
    let cfg := putPlain 0x100 audPortFlds gs (s.audPort p).cfg
    Ans.orElse (judgeAudPort p gs cfg s) <|
      .items [itemN 0x4001 4 (bclk p cfg)] ((s.onAudPort p fun x => { x with cfg }).playoutAttach p)

def cmdAudPortGet : Cmd where
  op := 0x0C01
  args := [audPortArg]
  run _ gs s :=
    let x := s.audPort (gotN gs 1)
    .items (fieldItems 0x4100 audPortFlds x.cfg ++
      [itemN 0x4001 4 (s.audPortStatus (gotN gs 1)).toNat, itemB 0x4002 x.status]) s

/-! ## Captures -/

def captureArg : Arg State := Arg.nat 1 0 3

def captureRuns (s : State) (gs : List Got) : Option Nat := if (s.capture (gotN gs 1)).running then some stBusy else none

/-- Ports that a lead and masks name. -/
def namedPorts (lead : Nat) (masks : List Nat) : List Nat :=
  (List.range 6).filter fun p => p == lead || masks.getD p 0 != 0

/-- Ports that another capture names (R358). -/
def State.takenPorts (c : Nat) (s : State) : List Nat :=
  (indexed s.audio.captures).flatMap fun kx => if kx.1 = c then [] else
    namedPorts kx.2.lead kx.2.maskShadow ++ (if kx.2.running then namedPorts kx.2.lead kx.2.masks else [])

/-- Why a capture may not hold a lead and masks: RANGE, PORT_TAKEN or RATE_MISMATCH (R358). -/
def State.captureRefusal (c lead : Nat) (masks : List Nat) (s : State) : Option Nat :=
  let named := namedPorts lead masks
  let rate := if lead = 255 then 1 else (s.audPort lead).cfg.rate
  if !(named.all fun p => s.isInput p) || decide (64 < (layoutOf masks).length) then some stRange
  else if named.any fun p => (s.takenPorts c).contains p then some stPortTaken
  else if !(named.all fun p => (s.audPort p).cfg.rate == rate) then some stRateMismatch
  else none

/-- The range of a slot mask: 16 bits of a TDM port, 2 of an AES3 input. -/
def maskMax (p : Nat) : Nat := if p < 4 then 65535 else 3

/-- Bytes of a block record (R364). -/
def recordBytes (channels block : Nat) : Nat := roundUp (48 + 4 * channels * block) 16

def cmdAudCaptureSet : Cmd where
  op := 0x0C02
  args := [captureArg,
    Arg.nat 2 0 255 false fun s gs v => if 5 < v.nat ∧ v.nat ≠ 255 then some stRange else captureRuns s gs,
    Arg.nat 3 0 0xFFFFFFFF false fun s gs v => (captureRuns s gs).or (badHandle [11] (fun _ => true) s v),
    Arg.nat 4 16 4096 false fun s gs _ => captureRuns s gs] ++
    (List.range 6).map fun p => Arg.nat (5 + p) 0 (maskMax p) false
  writes gs := writesAbove 2 gs
  run _ gs s :=
    let c := gotN gs 1
    let x := s.capture c
    let lead := (gotN? gs 2).getD x.lead
    let block := (gotN? gs 4).getD x.block
    let masks := (indexed x.maskShadow).map fun pm => (gotN? gs (5 + pm.1)).getD pm.2
    let bad := if writesAbove 2 gs then s.captureRefusal c lead masks else none
    let chans := (layoutOf masks).length
    Ans.orElse (bad.bind fun st => refuseFirst gs [5, 6, 7, 8, 9, 10, 2] st (!has gs 2 && !hasAny gs fun t => decide (5 ≤ t))) <|
      .items [itemN 0x4001 1 chans, itemN 0x4002 4 (recordBytes chans block)]
        (s.onCapture c fun x => { x with lead, block, maskShadow := masks, ring := if has gs 3 then gotH gs 3 else x.ring })

/-- A start or stop at once names the frame in progress. -/
def startFrame (gs : List Got) (s : State) : Frame := (gotF? gs 2).getD s.raster.frame

def cmdAudCaptureStart : Cmd where
  op := 0x0C03
  args := [Arg.nat 1 0 3 true fun s _ v => if s.hasRole (s.capture v.nat).ring [11] then none else some stBadHandle, atFrameArg 2]
  run _ gs s :=
    let c := gotN gs 1
    .items [itemN 0x4001 4 (startFrame gs s).toNat]
      (if (s.capture c).running then s
       else match gotF? gs 2 with
         | some f => s.onCapture c fun x => { x with startAt := some f }
         | none => s.captureBegin c)

def cmdAudCaptureStop : Cmd where
  op := 0x0C04
  args := [captureArg, atFrameArg 2]
  run _ gs s :=
    let c := gotN gs 1
    match gotF? gs 2 with
    | some f => .done (if (s.capture c).running || (s.capture c).startAt.isSome then
        s.onCapture c fun x => { x with stopAt := some f } else s)
    | none => .done (s.captureStop c)

/-- AUD_MASK_SET (R360): in shadow until the capture's next sample, or its start. -/
def cmdAudMaskSet : Cmd where
  op := 0x0C05
  args := [captureArg, Arg.nat 2 0 5, Arg.nat 3 0 65535 false fun s gs v =>
    let c := gotN gs 1
    let p := gotN gs 2
    if maskMax p < v.nat then some stRange
    else (s.captureRefusal c (s.capture c).lead (setAt (s.capture c).maskShadow p v.nat)).map fun st =>
      if st = stRateMismatch then stRange else st]
  writes gs := has gs 3
  run _ gs s :=
    let c := gotN gs 1
    let s := if has gs 3 then s.onCapture c fun x => { x with maskShadow := setAt x.maskShadow (gotN gs 2) (gotN gs 3) } else s
    .items [itemN 0x4001 1 (layoutOf (s.capture c).maskShadow).length] s

/-- AUD_GAIN_SET (R362, R363): a list of channel or slot (1 byte) and GAIN (2 bytes). DESIGN CHOICE, unsafe (log entry
48): form of AUD_GAIN_SET, direction of a slip. -/
def cmdAudGainSet : Cmd where
  op := 0x0C06
  args := [Arg.nat 1 0 1, Arg.nat 2 0 7 true fun s gs v =>
      if gotN gs 1 = 0 then (if v.nat < 4 then none else some stRange) else if s.isOutput v.nat then none else some stRange,
    Arg.bytes 3 3 3 true 64 fun _ gs v => if (v.bytes.headD 0).toNat < (if gotN gs 1 = 0 then 64 else 16) then none else some stRange]
  writes _ := true
  run _ gs s :=
    let k := gotN gs 2
    .done ((gotAll gs 3).foldl (fun s v =>
      let ch := (v.bytes.headD 0).toNat
      let gain := leNat (v.bytes.drop 1)
      if gotN gs 1 = 0 then
        s.onCapture k fun x => { x with gains := setAt x.gains ch gain, gates := modAt x.gates ch (Gate.setGain gain) }
      else s.onAudPort k fun x => { x with gates := modAt x.gates ch (Gate.setGain gain) }) s)

/-! ## Outputs -/

/-- PORT of an output. -/
def outputArg (judge : State → Nat → Option Nat := fun _ _ => none) : Arg State :=
  Arg.nat 1 0 7 true fun s _ v => if s.isOutput v.nat then judge s v.nat else some stRange

def cmdAudOutputStart : Cmd where
  op := 0x0C07
  args := [outputArg fun s p =>
      let c := (s.audPort p).cfg
      if c.outSource = 4 ∧ !((s.buffer? (BitVec.ofNat 32 c.playout)).any fun b => b.role == 13 && b.ring.isSome) then some stBadHandle
      else none,
    atFrameArg 2]
  run _ gs s :=
    let p := gotN gs 1
    .items [itemN 0x4001 4 (startFrame gs s).toNat]
      (if (s.audPort p).running then s
       else match gotF? gs 2 with
         | some f => s.onAudPort p fun x => { x with startAt := some f }
         | none => s.outputBegin p)

def cmdAudOutputStop : Cmd where
  op := 0x0C08
  args := [outputArg, atFrameArg 2]
  run _ gs s :=
    let p := gotN gs 1
    match gotF? gs 2 with
    | some f => .done (if (s.audPort p).running || (s.audPort p).startAt.isSome then
        s.onAudPort p fun x => { x with stopAt := some f } else s)
    | none => .done (s.outputStop p)

/-! ## Status -/

def cmdAudStatusGet : Cmd where
  op := 0x0C09
  args := []
  run _ _ s := .items [itemN 0x4001 4 s.audStatus.toNat, itemN 0x4002 4 s.audio.cntGate.toNat,
    itemW 0x4003 ((indexed s.audio.ports).flatMap fun px => s.audPortStatus px.1 :: px.2.cnt),
    itemW 0x4004 (s.audio.captures.flatMap fun x => x.status :: x.cnt)] s

/-- AUD_COUNTERS_CLEAR: AUD_CNT_GATE_TIMEOUT clears with any port or capture. -/
def cmdAudCountersClear : Cmd where
  op := 0x0C0A
  args := [Arg.nat 1 0 255, Arg.nat 2 0 15]
  run _ gs s := .done (clearAud (gotN gs 1) (gotN gs 2) (gotN gs 1 != 0 || gotN gs 2 != 0) s)

/-- The audio commands. -/
def audioCommands : List Cmd :=
  [cmdAudPortSet, cmdAudPortGet, cmdAudCaptureSet, cmdAudCaptureStart, cmdAudCaptureStop, cmdAudMaskSet, cmdAudGainSet,
   cmdAudOutputStart, cmdAudOutputStop, cmdAudStatusGet, cmdAudCountersClear]

end Sys2Proof.Machine
end

