-- ==== Sys2Proof/Machine/TreeCommands.lean ====
section
/-!
DEFINITION. The tree commands (17_tabsout_trees.md, R402, R404, R411, R414, R415).
-/

namespace Sys2Proof.Machine

def stNotHead : Nat := 0x1E00
def stRollCallActive : Nat := 0x1E01
def stNoNode : Nat := 0x1E02
def stNodeTimeout : Nat := 0x1E03

/-- The fields of a port are IDLE while its link is up. -/
def treePortUp (s : State) (gs : List Got) : Bool := (s.treePort (gotN gs 1)).up

/-- A lane mask names only the port's lanes. -/
def treeMaskOk (s : State) (gs : List Got) (v : Val) : Option Nat :=
  if v.nat < 2 ^ s.laneCount (2 + gotN gs 1) then none else some stRange

/-- TBL_PORT_SET: PORT, the lane fields of R100, DELAY_ASYM in ps. -/
def cmdTblPortSet : Cmd where
  op := 0x0E00
  args := Arg.nat 1 0 3 :: Arg.ints 2 (-10000) 10000 1 0 false ::
    firstAt 0x101 treeMaskOk (firstAt 0x102 treeMaskOk (fieldArgs 0x100 laneFlds treePortUp))
  writes gs := writesAbove 2 gs
  run _ gs s :=
    let t := gotN gs 1
    let lanes := putPlain 0x100 laneFlds gs (s.lanePort (2 + t)).cfg
    Ans.orElse (judgeLanes gs (s.laneCount (2 + t)) 0x101 lanes) <|
      let s := s.onTreePort t fun p => { p with asym := (gotI? gs 2).getD p.asym }
      let s := s.onLanePort (2 + t) fun q => { q with cfg := lanes }
      .done (if movesLanes gs then s.applyLaneConfig (2 + t) else s)

/-- TBL_TREE_SET: the IDLE fields are refused while any Tabsout link is up; ROLE 2 reverts the target's addresses (R424). -/
def cmdTblTreeSet : Cmd where
  op := 0x0E01
  args := fieldArgs 0x100 treeFlds fun s _ => s.tree.ports.any (·.up)
  writes gs := writesAbove 0x100 gs
  run _ gs s :=
    let was := s.tree.cfg.role
    let s := s.onTree fun r => { r with cfg := putPlain 0x100 treeFlds gs r.cfg }
    .done (if s.tree.cfg.role = 2 ∧ was ≠ 2 then s.targetRevert else s)

/-- NOT_HEAD, then ROLL_CALL_ACTIVE where a command is refused during Roll Call. -/
def headRefusal (rollCall : Bool) (s : State) : Option Nat :=
  if !s.isHead then some stNotHead else if rollCall && s.tree.rollCall then some stRollCallActive else none

/-- TBL_ROLL_CALL: its reply waits until Roll Call settles, unless no port is up. -/
def cmdTblRollCall : Cmd where
  op := 0x0E02
  args := []
  run _ _ s := match headRefusal true s with
    | some st => .err st 0 0
    | none => match s.rollCallStart none with
      | (some items, s') => .items items s'
      | (none, s') => .wait .rollCall s'

/-- One node of TBL_NODE_LIST; the states are bit 0 = quarantined for its version, 1 = for its epoch, 2 = OUT_OF_STEP,
3 = RUN_MAP disagrees. -/
def NodeRec.items (n : NodeRec) : List Item :=
  [itemN 0x4001 4 n.id, itemN 0x4002 8 n.serial, itemN 0x4003 4 n.depth, itemN 0x4004 1 n.upstream] ++
    n.links.map (itemN 0x4005 2) ++
    [itemN 0x4006 2 n.version, itemN 0x4007 4 n.epoch.toNat, itemI 0x4008 8 n.offset,
     itemN 0x4009 1 (bitsOf [n.badVersion, n.badEpoch, n.outOfStep, decide (0 < n.disagree)])]

def cmdTblNodeList : Cmd where
  op := 0x0E03
  args := [Arg.nat 1 0 (2 ^ 18 - 1) true fun s _ _ => headRefusal false s, Arg.nat 2 1 64]
  run _ gs s :=
    .items (((s.tree.nodes.filter fun n => decide (gotN gs 1 ≤ n.id)).take (gotN gs 2)).flatMap NodeRec.items) s

/-- TBL_CONFIG_PUSH (R411): LENGTH bytes of a HOST_SHARED buffer. -/
def cmdTblConfigPush : Cmd where
  op := 0x0E04
  args := [Arg.nat 1 0 0xFFFFFFFF true fun s _ v =>
      (headRefusal true s).or (if s.hasRole (BitVec.ofNat 32 v.nat) [13] then none else some stBadHandle),
    Arg.nat 2 0 0xFFFFFFFF true fun s gs v =>
      if (s.buffer? (gotH gs 1)).any fun b => decide (v.nat ≤ b.size) then none else some stBadHandle,
    Arg.nat 3 0 0xFFFFFFFF]
  run _ gs s :=
    let (n, s') := s.push (gotH gs 1) (gotN gs 2) (BitVec.ofNat 32 (gotN gs 3))
    .items [itemN 0x4001 4 n] s'

/-- NODE: a member that the head has on record. -/
def nodeArg : Arg State := Arg.nat 1 0 (2 ^ 18 - 1) true fun s _ v =>
  (headRefusal false s).or (if (s.node? v.nat).isSome then none else some stNoNode)

/-- TBL_FORWARD: the envelope goes to the member's mailbox, and the reply waits for the member's (R404). -/
def cmdTblForward : Cmd where
  op := 0x0E05
  args := [nodeArg, Arg.bytes 2 0 65535]
  run _ gs s := .wait (.forward (gotN gs 1)) (s.sendMessage .node (gotN gs 1) (gotB gs 2))

def cmdTblStateSet : Cmd where
  op := 0x0E06
  args := [nodeArg, Arg.bytes 2 16 16]
  run _ gs s := .done (s.onNode (gotN gs 1) fun n => { n with record := BitVec.ofNat 128 (leNat (gotB gs 2)) })

def cmdTblStatusGet : Cmd where
  op := 0x0E07
  args := []
  run _ _ s := .items [itemN 0x4001 4 s.tblStatus.toNat, itemN 0x4002 4 s.tblNode.toNat,
    itemW 0x4003 (s.tree.ports.flatMap fun p => p.status :: p.cnt), itemW 0x4004 s.tree.cnt] s

def cmdTblCountersClear : Cmd where
  op := 0x0E08
  args := [maskArg 1, Arg.nat 2 0 15]
  run _ gs s := .done (clearTbl (gotN gs 1) (gotN gs 2) s)

/-- The tree commands. -/
def treeCommands : List Cmd :=
  [cmdTblPortSet, cmdTblTreeSet, cmdTblRollCall, cmdTblNodeList, cmdTblConfigPush, cmdTblForward, cmdTblStateSet, cmdTblStatusGet,
   cmdTblCountersClear]

end Sys2Proof.Machine
end

