-- ==== Sys2Proof/Machine/BusCommands.lean ====
section
/-!
DEFINITION. The board-bus commands (18_board_buses.md, R418 to R429).
-/

namespace Sys2Proof.Machine

def stBusError : Nat := 0x1F00
def stMemberFixed : Nat := 0x1F01

/-! ## I²C controllers -/

def cmdBusI2cSet : Cmd where
  op := 0x0F00
  args := Arg.nat 1 0 3 :: fieldArgs 0x100 i2cFlds fun _ _ => false
  writes gs := writesAbove 0x100 gs
  run _ gs s := .done (s.onTwi (gotN gs 1) fun x => { x with cfg := putPlain 0x100 i2cFlds gs x.cfg })

/-- CONTROLLER, refused with BUSY when eight transfers wait behind the one on the wires (R422). -/
def freeTwiArg : Arg State := Arg.nat 1 0 3 true fun s _ v => if (s.twi v.nat).full then some stBusy else none

/-- A SEGMENT: address, direction, count in 2 bytes, write data (R429). -/
def Segment.ofBytes (bs : List Byte) : Segment :=
  { addr := leNat (bs.take 1), read := leNat ((bs.drop 1).take 1) == 1, count := leNat ((bs.drop 2).take 2), data := bs.drop 4 }

/-- The count of data bytes that the first `n` segments of a command name. -/
def segmentBytes (n : Nat) (gs : List Got) : Nat := (((gotAll gs 2).take n).map fun v => (Segment.ofBytes v.bytes).count).sum

/-- What a SEGMENT is refused with: 7-bit addresses but the general call and START byte, 1 to 256 bytes, at most 4,096 in
all (R418, R419); the data must be as long as the count says. DESIGN CHOICE, unsafe (log entry 42): I2C, UART and lens
refusals, and two reset values. -/
def judgeSegment (gs : List Got) (i : Nat) (bs : List Byte) : Option Nat :=
  let g := Segment.ofBytes bs
  let dir := leNat ((bs.drop 1).take 1)
  if dir ≤ 1 ∧ g.data.length ≠ (if g.read then 0 else g.count) then some stBadItem
  else if dir ≤ 1 ∧ 1 ≤ g.addr ∧ g.addr < 128 ∧ 1 ≤ g.count ∧ g.count ≤ 256 ∧ segmentBytes (i + 1) gs ≤ 4096 then none
  else some stRange

/-- Queues a transfer of controller `c`; its command waits under a ticket. -/
def State.queueTransfer (c : Nat) (segments : List Segment) (s : State) : Ans :=
  let (n, s) := s.draw
  .wait (.i2c n) (s.onTwi c fun x => { x with queue := x.queue ++ [{ segments, for_ := .mailbox n }] })

def cmdBusI2cXfer : Cmd where
  op := 0x0F01
  args := [freeTwiArg,
    { ty := 2, form := .bytes 4 260, count := 16, judge := fun _ gs i v => judgeSegment gs i v.bytes }]
  run _ gs s := s.queueTransfer (gotN gs 1) ((gotAll gs 2).map fun v => Segment.ofBytes v.bytes)

def cmdBusI2cClear : Cmd where
  op := 0x0F02
  args := [freeTwiArg]
  run _ gs s := s.queueTransfer (gotN gs 1) []

/-! ## The I²C target -/

/-- A member's target address is fixed by TWI_ADDR (R423). -/
def memberFixed (s : State) : Option Nat := if s.tree.cfg.role = 2 then some stMemberFixed else none

/-- DESIGN CHOICE, unsafe (log entry 42): I2C, UART and lens refusals, and two reset values. -/
def cmdBusTargetSet : Cmd where
  op := 0x0F03
  args := [Arg.nats 1 0x08 0x77 4 true fun s _ _ => memberFixed s,
    Arg.nat 2 0 127 false fun s gs _ => if (gotAll gs 1).length ≤ 1 then memberFixed s else some stRange]
  writes _ := true
  run _ gs s := .done (s.onBus fun b => { b with target := { b.target with addrs := gotNs gs 1, mask := gotN? gs 2 } })

/-! ## UARTs and the lens service -/

def uartArg (judge : State → Nat → Option Nat := fun _ _ => none) : Arg State := Arg.nat 1 0 1 true fun s _ v => judge s v.nat

/-- BUS_UART_SET: RX_RING 0 is the stop of a UART and is taken while it runs (R80, R426). DESIGN CHOICE, unsafe (log entry
42): I2C, UART and lens refusals, and two reset values. -/
def cmdBusUartSet : Cmd where
  op := 0x0F04
  args := uartArg :: (fieldArgs 0x100 uartFlds (fun s gs => s.uartRuns (gotN gs 1)) fun s _ j _ v =>
      if j = 5 then badHandle [12] (fun b => b.ring.isSome) s v else none).map fun (a : Arg State) =>
    if a.ty = 0x105 then { a with judge := fun s gs i v => if v.nat = 0 then none else a.judge s gs i v } else a
  writes gs := writesAbove 0x100 gs
  run _ gs s :=
    let n := gotN gs 1
    let s := if gotN? gs 0x105 = some 0 then s.uartClose n else s
    .done (s.onUart n fun x => { x with cfg := putPlain 0x100 uartFlds gs x.cfg })

def cmdBusUartSend : Cmd where
  op := 0x0F05
  args := [uartArg fun s n => if s.lensUart n then some stBusy else none, Arg.bytes 2 0 4096]
  run _ gs s := .done (s.send (.uart (gotN gs 1) (gotB gs 2)))

/-- BUS_LENS_SET: a UART that serves a ring is not taken from it. -/
def cmdBusLensSet : Cmd where
  op := 0x0F06
  args := fieldArgs 0x100 lensFlds (fun _ _ => false) fun s _ j _ v =>
    if j = 0 ∧ 4 ≤ v.nat ∧ v.nat ≤ 5 ∧ (s.uart (v.nat - 4)).cfg.rxRing ≠ 0 then some stBusy
    else if j = 4 ∧ s.raster.cfg.force.totalLines ≤ v.nat then some stRange
    else none
  writes gs := writesAbove 0x100 gs
  run _ gs s := .done (s.onLens fun l => { l with cfg := putPlain 0x100 lensFlds gs l.cfg })

/-! ## GPIO -/

def cmdBusGpioSet : Cmd where
  op := 0x0F07
  args := Arg.nats 1 0 31 32 :: fieldArgs 0x100 pinFlds fun _ _ => false
  writes gs := writesAbove 0x100 gs
  run _ gs s :=
    .done ((gotNs gs 1).foldl (fun s k =>
      (s.onBus fun b => { b with pins := modAt b.pins k fun p => putPlain 0x100 pinFlds gs p }).drivePin k) s)

/-! ## Status -/

def cmdBusStatusGet : Cmd where
  op := 0x0F08
  args := []
  run _ _ s := .items [itemN 0x4001 4 s.busStatus.toNat, itemN 0x4002 4 s.bus.gpioIn.toNat, itemW 0x4003 s.busCounters] s

def cmdBusCountersClear : Cmd where
  op := 0x0F09
  args := [maskArg 1]
  run _ gs s := .done (clearBus (gotN gs 1) s)

/-- The board-bus commands. -/
def busCommands : List Cmd :=
  [cmdBusI2cSet, cmdBusI2cXfer, cmdBusI2cClear, cmdBusTargetSet, cmdBusUartSet, cmdBusUartSend, cmdBusLensSet, cmdBusGpioSet,
   cmdBusStatusGet, cmdBusCountersClear]

end Sys2Proof.Machine
end

