-- ==== Sys2Proof/Machine/SecCommands.lean ====
section
/-!
DEFINITION. The security commands (19_trust_and_identity.md, R432 to R444).
-/

namespace Sys2Proof.Machine

def stBadSignature : Nat := 0x2002
def stRollback : Nat := 0x2003
def stSlotRunning : Nat := 0x2005

/-- A command of R443: refused with DENIED from a mailbox that is not the host's. DESIGN CHOICE, unsafe (log entry 52):
what extends CONFIG_DIGEST among the security commands. -/
def Ans.hostOnly (c : Call) (ty : Nat) (a : Ans) : Ans := if Call.fromHost c then a else .err stDenied 0 ty

def cmdSecInfoGet : Cmd where
  op := 0x1000
  args := []
  run _ _ s :=
    .items ([itemN 0x4001 4 s.sec.svn, itemN 0x4002 4 s.sec.nvm.rollback, itemN 0x4003 1 s.sec.booted] ++
      ([0, 1].map fun k => itemB 0x4004 (toLe 4 (imageSvn (s.sec.flash.getD k [])) ++ toLe 1 (bit (s.slotCheck k == 0)))) ++
      [itemN 0x4005 1 (s.sec.scopes % 8 + 128 * bit s.sec.secureOpened), itemB 0x4006 s.sec.fwDigest,
       itemB 0x4007 s.control.configDigest]) s

def cmdSecCertGet : Cmd where
  op := 0x1001
  args := []
  run _ _ s := .items [itemB 0x4001 Config.certificate] s

def cmdSecKeyStatus : Cmd where
  op := 0x1002
  args := []
  run _ _ s := .items [itemN 0x4001 4 s.sec.nvm.index, itemN 0x4002 4 (1048576 - s.sec.nvm.index), itemN 0x4003 1 s.sec.nvm.tokens,
    itemN 0x4004 2 s.tokenSeconds] s

/-- SEC_ATTEST: the report is taken at the apply instant; its signature waits for its turn (R438, R441). -/
def cmdSecAttest : Cmd where
  op := 0x1003
  args := [Arg.bytes 1 0 65535 true 1 fun _ _ v => if 16 ≤ v.bytes.length ∧ v.bytes.length ≤ 64 then none else some stRange]
  run _ gs s :=
    let parts := s.reportParts (gotB gs 1)
    let (n, s) := s.draw
    .wait (.attest n) (s.onSec fun x => { x with attests := x.attests ++ [{ ticket := n, head := parts.1, tail := parts.2 }] })

/-- SEC_IMAGE_INSTALL: the image of a HOST_SHARED buffer is checked before the flash is touched (R436, R443). DESIGN
CHOICE, unsafe (log entry 52): what extends CONFIG_DIGEST among the security commands. -/
def cmdSecImageInstall : Cmd where
  op := 0x1004
  args := [handleArg 1 false [roleHostShared],
    Arg.nat 2 0 1 true fun s _ v => if v.nat = s.sec.booted then some stSlotRunning else none]
  run c gs s := Ans.hostOnly c 1 <|
    let h := gotH gs 1
    let len := leNat (s.bytesOf h 16 4)
    let bs := s.bytesOf h 0 (min (4096 + min len 6291456) (((s.buffer? h).map (·.size)).getD 0))
    let check := imageCheck s.sec.nvm.rollback bs
    if check ≠ 0 then .err (imageStatus check) (gotPos gs 1) 1
    else
      let (n, s) := s.draw
      let first := s.sec.installs.isEmpty
      let s := s.onSec fun x => { x with installs := x.installs ++ [(n, gotN gs 2, bs)] }
      .wait (.flash n) (if first then s.eraseNext else s)

def cmdSecBootSlotSet : Cmd where
  op := 0x1005
  args := [Arg.nat 1 0 1]
  run c gs s := Ans.hostOnly c 1 <|
    if s.slotCheck (gotN gs 1) ≠ 0 then .err stBadSignature (gotPos gs 1) 1
    else .done (s.onNvm fun n => { n with bootSlot := gotN gs 1 })

def cmdSecRollbackAdvance : Cmd where
  op := 0x1006
  args := [Arg.nat 1 0 1023 true fun s _ v =>
    if v.nat ≤ s.sec.nvm.rollback then some stRange else if s.sec.svn < v.nat then some stRollback else none]
  run c gs s := Ans.hostOnly c 1 <|
    let old := s.sec.nvm.rollback
    let s := s.onNvm fun n => { n with rollback := gotN gs 1 }
    .items [itemN 0x4001 1 s.slotsValid] (s.notice 0x1083 [itemN 1 2 old, itemN 2 2 (gotN gs 1)])

def cmdSecDebugChallenge : Cmd where
  op := 0x1007
  args := []
  run c _ s := Ans.hostOnly c 0 <|
    let (ch, s) := s.newChallenge
    .items [itemB 0x4001 ch] s

/-- SEC_DEBUG_UNLOCK: a failure consumes the challenge and is counted. DESIGN CHOICE, unsafe (log entry 52): what extends
CONFIG_DIGEST among the security commands. -/
def cmdSecDebugUnlock : Cmd where
  op := 0x1008
  args := [Arg.bytes 1 2884 2884]
  run c gs s := Ans.hostOnly c 1 <|
    let (st, s) := s.unlock (gotB gs 1)
    if st = 0 then .items [itemN 0x4001 1 s.sec.scopes] s else .kept st (gotPos gs 1) 1 s

def cmdSecCountersClear : Cmd where
  op := 0x1009
  args := [maskArg 1]
  run _ gs s := .done (clearSec (gotN gs 1) s)

/-- The security commands. -/
def secCommands : List Cmd :=
  [cmdSecInfoGet, cmdSecCertGet, cmdSecKeyStatus, cmdSecAttest, cmdSecImageInstall, cmdSecBootSlotSet, cmdSecRollbackAdvance,
   cmdSecDebugChallenge, cmdSecDebugUnlock, cmdSecCountersClear]

end Sys2Proof.Machine
end

