-- ==== Sys2Proof/Machine/PowerCommands.lean ====
section
/-!
DEFINITION. The power and thermal commands (20_power_heat_and_faults.md, R456 to R463).
-/

namespace Sys2Proof.Machine

def cmdPwrStatusGet : Cmd where
  op := 0x1100
  args := []
  run _ _ s :=
    .items ([itemN 0x4001 4 s.pwrStatus.toNat, itemI 0x4002 2 s.junction] ++ s.power.temps.map (itemI 0x4003 2) ++
      [itemI 0x4004 2 (s.power.peak.getD s.junction), itemN 0x4005 4 s.power.avs, itemW 0x4006 s.power.cnt]) s

/-- PWR_THERMAL_SET: the fields are TYPE 1 to 4. -/
def cmdPwrThermalSet : Cmd where
  op := 0x1101
  args := fieldArgs 1 thermalFlds fun _ _ => false
  writes gs := writesAbove 1 gs
  run _ gs s := .done (s.onPower fun p => { p with cfg := putPlain 1 thermalFlds gs p.cfg })

/-- Whether an entry is FIRST or newer; SEQ counts modulo 2^32. -/
def FaultEntry.from_ (e : FaultEntry) (first : Word) : Bool := decide ((e.seq - first).toNat < 2147483648)

/-- DESIGN CHOICE, unsafe (log entry 54): order of a fault entry's consequences. -/
def cmdPwrFaultLogGet : Cmd where
  op := 0x1102
  args := [Arg.nat 1 0 0xFFFFFFFF, Arg.nat 2 1 64]
  run _ gs s :=
    let first := BitVec.ofNat 32 (gotN gs 1)
    .items (((s.power.log.filter fun e => e.from_ first).take (gotN gs 2)).map fun e => itemB 0x4001 e.bytes) s

/-- PWR_POWER_DOWN: the shutdown of R458 begins at a frame start. -/
def cmdPwrPowerDown : Cmd where
  op := 0x1103
  args := [atFrameArg 1]
  run c gs s := Ans.hostOnly c (if has gs 1 then 1 else 0) <|
    let f := s.frameOr gs 1
    .items [itemN 0x4001 4 f.toNat] (s.onPower fun p => { p with downAt := some f })

def cmdPwrCountersClear : Cmd where
  op := 0x1104
  args := [maskArg 1]
  run _ gs s := .done (clearPwr (gotN gs 1) s)

/-- The power and thermal commands. -/
def powerCommands : List Cmd :=
  [cmdPwrStatusGet, cmdPwrThermalSet, cmdPwrFaultLogGet, cmdPwrPowerDown, cmdPwrCountersClear]

end Sys2Proof.Machine
end

