-- ==== Sys2Proof/Machine/SystemOps.lean ====
section
/-!
DEFINITION. The two register paths and the register writes (03_control_model.md, R52 to R62, R81, and the CTRL registers of
every window).
-/

namespace Sys2Proof.Machine

/-! ## Counter clears of the CTRL registers -/

/-- Clears the event counters that the mask names. -/
def clearEvt (mask : Nat) (s : State) : State := s.onEvents fun v => { v with cnt := clearMasked v.cnt mask }

/-- Every bit of a counter mask. -/
def allBits : Nat := 2 ^ 64 - 1

/-- MIL_CTRL.CNT_CLEAR for a context. -/
def milCtrlCntClear (ctx : Nat) (s : State) : State := s.clearMill ctx allBits
/-- LKS_CTRL.CNT_CLEAR. -/
def lksCtrlCntClear (s : State) : State := s.clearLks allBits allBits
/-- SHF_CTRL.CNT_CLEAR. -/
def shfCtrlCntClear (s : State) : State := s.clearShf allBits allBits
/-- DEC_CTRL.CNT_CLEAR. -/
def decCtrlCntClear (s : State) : State := clearDec allBits s
/-- CMP_CTRL.CNT_CLEAR for a session. -/
def cmpCtrlCntClear (session : Nat) (s : State) : State := clearCmp (2 ^ session) false s
/-- CMP_CTRL.CNT_CLEAR_D. -/
def cmpCtrlCntClearD (s : State) : State := clearCmp 0 true s
/-- GRN_CTRL.CNT_CLEAR. -/
def grnCtrlCntClear (s : State) : State := clearGrn allBits allBits s
/-- REC_CTRL.CNT_CLEAR. -/
def recCtrlCntClear (s : State) : State := clearRec allBits allBits s
/-- NET_CTRL.CNT_CLEAR. -/
def netCtrlCntClear (s : State) : State := clearNet allBits allBits allBits s
/-- MON_CTRL.CNT_CLEAR. -/
def monCtrlCntClear (s : State) : State := clearMon allBits s
/-- AUD_CTRL.CNT_CLEAR. -/
def audCtrlCntClear (s : State) : State := clearAud allBits allBits true s
/-- EVT_CTRL.CNT_CLEAR. -/
def evtCtrlCntClear (s : State) : State := clearEvt allBits s
/-- TBL_CTRL.CNT_CLEAR. -/
def tblCtrlCntClear (s : State) : State := clearTbl allBits allBits s
/-- BUS_CTRL.CNT_CLEAR. -/
def busCtrlCntClear (s : State) : State := clearBus allBits s
/-- SEC_CTRL.CNT_CLEAR. -/
def secCtrlCntClear (s : State) : State := clearSec allBits s
/-- PWR_CTRL.CNT_CLEAR. -/
def pwrCtrlCntClear (s : State) : State := clearPwr allBits s

/-- EVT_CTRL.RING: a Bell with cause SOFTWARE. -/
def evtCtrlRing (s : State) : State := s.onEvents fun v => { v with due := v.due ++ [.bell 2] }

/-- EVT_SW_RAISE: bit k raises SWk. -/
def evtSwRaise (mask : Nat) (s : State) : State :=
  (List.range 8).foldl (fun s k => if mask.testBit k then s.raise (0x0B0 + k) else s) s

/-! ## Writes -/

/-- The fields of bits [15:0] that a masked write changes, as set bits (R9). -/
def maskedOnes (v : Word) : Nat := (v &&& (v >>> 16)).toNat % 65536

/-- LANE_CTRL of a lane (R101). -/
def laneCtrl (ln : Nat) (m : Nat) (s : State) : State :=
  let s := if m.testBit 2 then laneCtrlCntClear ln s else s
  if m.testBit 1 then fullRetrain ln s else if m.testBit 0 then fastRetrain ln s else s

/-- A write in the lane registers of port `p`. -/
def writeLaneReg (p o : Nat) (v : Word) (s : State) : State :=
  match blockAt o 0x100 0x40 (s.laneCount p) with
  | some (k, 0x0C) => laneCtrl (macroOf p k) (maskedOnes v) s
  | _ => s

/-- The bits of SYS_IRQ_STATUS that a write clears, and of SYS_IRQ_ENABLE that it sets (R81). -/
def irqClearable : Word := 0x0700FF00
def irqEnables : Word := 0x0700FFFF

/-- A W1C write to SYS_RESET_CAUSE joins the word that the next always-on edge applies (R58). DEDUCED, safe (log entry
27): R58's edge is a command of its own. -/
def State.writeResetCause (v : Word) (s : State) : State :=
  s.onControl fun c => { c with aoPending := some (c.aoPending.getD 0 ||| (v &&& 0x3F)) }

/-- A write in the SYS window (R81). -/
def writeSysReg (p : Path) (o : Nat) (v : Word) (s : State) : State :=
  match blockAt o 0x100 0x10 8 with
  | some (n, 0x4) => s.doorbell p n v
  | some (n, 0x8) =>
    let s := if v.getLsbD 0 then s.outAck p n else s
    if v.getLsbD 1 then s.sessionResetBy p n else s
  | some _ => s
  | none =>
    match o with
    | 0x00C => s.writeResetCause v
    | 0x010 => s.onControl fun c => { c with irq := c.irq &&& ~~~(v &&& irqClearable) }
    | 0x014 => s.onControl fun c => { c with irqEnable := v &&& irqEnables }
    | _ => s

/-- A write of EVT_CTRL (R392): HOLD as the mask selects it. -/
def writeEvtCtrl (v : Word) (s : State) : State :=
  let m := maskedOnes v
  let s := if v.getLsbD 18 then s.onEvents fun e => { e with bell := { e.bell with hold := bit (v.getLsbD 2) } } else s
  let s := if m.testBit 0 then evtCtrlCntClear s else s
  if m.testBit 1 then evtCtrlRing s else s

/-- A write of a window's CTRL register whose actions are the counter clears: bits set under the mask. -/
def writeCtrl (i m : Nat) (s : State) : State :=
  let if0 (f : State → State) : State := if m.testBit 0 then f s else s
  match i with
  | 2 => if0 (inxCntClear 0)
  | 3 => if0 (inxCntClear 1)
  | 4 => (List.range 3).foldl (fun s k => if m.testBit k then milCtrlCntClear k s else s) s
  | 5 => if0 lksCtrlCntClear
  | 6 => if0 shfCtrlCntClear
  | 7 => if0 decCtrlCntClear
  | 8 => clearCmp (m % 16) (m.testBit 4) s
  | 9 => if0 grnCtrlCntClear
  | 10 => if0 recCtrlCntClear
  | 11 => if0 netCtrlCntClear
  | 12 => if0 monCtrlCntClear
  | 13 => if0 audCtrlCntClear
  | 15 => if0 tblCtrlCntClear
  | 16 => if0 busCtrlCntClear
  | 17 => if0 secCtrlCntClear
  | 18 => if0 pwrCtrlCntClear
  | _ => s

/-- A block by the number of its window. -/
def blkOf (i : Nat) : Blk :=
  ([.sys, .ras, .ina, .inb, .mil, .lks, .shf, .dec, .cmp, .grn, .rcd, .net, .mon, .aud, .evt, .tbl, .bus, .sec, .pwr] : List Blk).getD i .sys

/-- A write in window `i` at offset `o` (R57: what no register lists is ignored). -/
def writeWindow (p : Path) (i o : Nat) (v : Word) (s : State) : State :=
  if o = wideOffset i then wideSelWrite (blkOf i) v s
  else if i = 0 then writeSysReg p o v s
  else if (i = 2 ∨ i = 3) ∧ 0x4000 ≤ o then writeLaneReg (i - 2) (o - 0x4000) v s
  else if i = 15 ∧ 0x4000 ≤ o then
    match blockAt o 0x4000 0x400 4 with
    | some (t, b) => writeLaneReg (2 + t) b v s
    | none => s
  else if i = 14 ∧ o = 0x004 then writeEvtCtrl v s
  else if i = 14 ∧ o = 0x008 then evtSwRaise (maskedOnes v) s
  else if i = 16 ∧ o = 0x00C then gpioOutWrite false v s
  else if i = 16 ∧ o = 0x010 then gpioOutWrite true v s
  else if o = 0x004 then writeCtrl i (maskedOnes v) s
  else s

/-- A register or slot word is written over a path (R53, R54, R56, R57, R61): in-slots are RW, out-slots RO; until
mailbox-ready only the SYS window answers; PCIe reaches the device only as an endpoint. -/
def State.writeReg (p : Path) (addr : Nat) (v : Word) (s : State) : State :=
  let a := addr / 4 * 4
  if p == .pcie && !s.control.pcie0Ep then s
  else if !s.ready && decide (0x10000 ≤ a) then s
  else if a / 0x10000 = 1 then
    let o := a % 0x10000
    if o % 0x2000 < 0x1000 then s.onControl fun c => { c with slots := Mem.writeN c.slots o (toLe 4 v.toNat) } else s
  else match windowOf a with
    | none => s
    | some (i, o) => writeWindow p i o v s

/-- REGISTER_WRITE. -/
def registerWrite (p : Path) (addr v : Word) (s : State) : State := s.writeReg p addr.toNat v

/-- AO_WRITE_APPLY: the always-on edge applies the merged word and refreshes the copy (R58). DEDUCED, safe (log entry 27):
R58's edge is a command of its own. -/
def aoWriteApply (s : State) : State :=
  s.onControl fun c =>
    let w := c.resetCause &&& ~~~(c.aoPending.getD 0)
    { c with resetCause := w, resetCauseCopy := w, aoPending := none }

/-! ## Control Port (R52, R53) -/

/-- Address of word `k` of a burst: it wraps within its 64 KiB window. -/
def burstAddr (addr : Word) (k : Nat) : Nat :=
  let a := addr.toNat / 4 * 4
  a / 0x10000 * 0x10000 + (a % 0x10000 + 4 * k) % 0x10000

/-- What a burst of reads returns. -/
def State.burst (addr : Word) (count : Nat) (s : State) : List Byte :=
  (List.range count).flatMap fun k => toLe 4 (s.readReg (burstAddr addr k)).toNat

/-- READ. DEDUCED, unsafe (log entry 59): bursts over a window's end. -/
def cpRead (addr : Word) (count : Nat) (s : State) : State :=
  s.onControl fun c => { c with cpOut := s.burst addr count, cpDiscarded := false }

/-- A discarded transaction is counted and sets CP_ERR. -/
def State.cpError (s : State) : State :=
  (s.onControl fun c => { c with cntCpErr := c.cntCpErr + 1, cpDiscarded := true, cpOut := [] }).setSystemIrq 26

/-- WRITE: whole words take effect; a word that the transaction cuts is discarded. DEDUCED, unsafe (log entry 59): bursts
over a window's end. -/
def cpWrite (addr : Word) (data : List Word) (cut : Bool) (s : State) : State :=
  let s := (indexed data).foldl (fun s kv => s.writeReg .controlPort (burstAddr addr kv.1) kv.2) s
  if cut then s.cpError else s.onControl fun c => { c with cpDiscarded := false, cpOut := [] }

/-- STATUS: mailbox-ready, HOST_IRQ_N asserted, the previous transaction discarded. -/
def cpStatus (s : State) : State :=
  s.onControl fun c =>
    { c with cpOut := toLe 1 (bit s.ready + 2 * bit s.hostIrq + 4 * bit c.cpDiscarded), cpDiscarded := false }

/-- QUAD_ON and QUAD_OFF. -/
def cpQuad (on : Bool) (s : State) : State := s.onControl fun c => { c with quad := on, cpDiscarded := false, cpOut := [] }

/-- TWI_T_READ (R424): words from the target's next address on, as a Control Port burst reads them. DEDUCED, unsafe (log
entry 59): bursts over a window's end. -/
def twiTRead (target words : Nat) (s : State) : State :=
  if !s.bus.target.matches target then s
  else
    let from_ := s.bus.target.next
    let out := s.burst from_ words
    (s.onBus fun b => { b with target := { b.target with
      out, next := BitVec.ofNat 32 (burstAddr from_ words) } }).send (.twiT out)

end Sys2Proof.Machine
end

