-- ==== Sys2Proof/Machine/Messages.lean ====
section
/-!
DEFINITION. The table of the mailbox commands, how a step ends, and the messages that reach a device over the tree
(R64, R385, R404, R408, R411, R414).
-/

namespace Sys2Proof.Machine

/-- Every mailbox command. DESIGN CHOICE, unsafe (log entry 20): which frame a start or stop without AT_FRAME names. -/
def commands : List Cmd :=
  controlCommands ++ rasterCommands ++ eventCommands ++ intakeCommands ++ millCommands ++ looksCommands ++ sheafCommands ++
    decoderCommands ++ compressCommands ++ granaryCommands ++ recordCommands ++ netCommands ++ monitorCommands ++
    audioCommands ++ treeCommands ++ busCommands ++ secCommands ++ powerCommands

/-- The command of an opcode. -/
def commandTable (op : Nat) : Option Cmd := commands.find? fun k => k.op == op

/-! ## How a step ends -/

/-- SEC_ATTEST commands take their turn, until one is being signed (R438). -/
def secPump : Nat → State → State
  | 0, s => s
  | n + 1, s =>
    match s.signNext with
    | (none, s) => s
    | (some (t, st, items), s) => secPump n (complete (.attest t) st items s)

/-- Commands that wait behind others run as their mailboxes come free. -/
def drainTurns : Nat → State → State
  | 0, s => s
  | n + 1, s =>
    let s := drainAll commandTable s
    if s.sec.attests.isEmpty || s.sec.signing.isSome then s
    else drainTurns n (secPump s.sec.attests.length s)

/-- The reply of a bundle's last message, taken out of the mailbox. -/
def takeReply (n : Nat) (s : State) : Option Post × State :=
  match s.control.mailboxes[n]? with
  | none => (none, s)
  | some m =>
    match m.posts.find? fun p => !p.notice with
    | none => (none, s)
    | some p => (some p, s.onMbx n fun m => { m with posts := m.posts.eraseP fun p => !p.notice })

/-- Notes the status of a bundle's last message. -/
def BundleRun.note (p : Post) (r : BundleRun) : BundleRun :=
  { r with awaits := false, index := r.index + 1
           failed := if p.status = stOk ∨ r.failed.isSome = true then r.failed else some (r.index, p.status) }

/-- Replaces the bundle being executed. -/
def State.onBundle (f : BundleRun → BundleRun) (s : State) : State :=
  s.onTree fun t => { t with bundles := match t.bundles with | [] => [] | r :: rest => f r :: rest }

/-- Executes the messages of a bundle in order at the upstream mailbox, each once the one before it has its reply (R411).
DESIGN CHOICE, unsafe (log entry 50): bundles after a failure, SEQ at link up, EXCHANGE FLAGS. -/
def bundlePump : Nat → State → State
  | 0, s => s
  | n + 1, s =>
    match s.tree.bundles, s.tree.upstream with
    | r :: more, some u =>
      if r.awaits then
        match takeReply (12 + u) s with
        | (none, s) => s
        | (some p, s) => bundlePump n (s.onBundle (BundleRun.note p))
      else match r.rest with
        | [] => bundlePump n ((s.bundleDone r.epoch r.failed).onTree fun t => { t with bundles := more })
        | bs :: rest =>
          match s.control.mailboxes[12 + u]? with
          | none => s
          | some m =>
            if m.waiting.isSome || !m.queue.isEmpty then s
            else
              let s := (s.onMbx (12 + u) fun m => { m with posts := [] }).onBundle fun r => { r with rest, awaits := true }
              let s := deliver commandTable (12 + u) bs s
              let (p, s) := takeReply (12 + u) s
              let s := s.onMbx (12 + u) fun x => { x with posts := m.posts ++ x.posts }
              match p with
              | some p => bundlePump n (s.onBundle (BundleRun.note p))
              | none => s
    | _, _ => s

/-- Messages that bundles still hold, with one turn more for each reply and each end. -/
def State.bundleFuel (s : State) : Nat := (s.tree.bundles.map fun r => 2 * r.rest.length + 3).sum

/-- An orderly shutdown that found clips open ends once the last of them is closed (R458). -/
def State.shutdownClips (s : State) : State := if s.power.awaitClips && !s.clipsOpen then s.shutdownEnd else s

/-- What follows from a command within the same instant: events are delivered, waiting commands run, the services that
read rings take what has been published, messages leave, and what these raised is delivered. DESIGN CHOICE, unsafe (log
entry 3): consequences within an instant are all carried out in the step that caused them. DESIGN CHOICE, unsafe (log
entry 60): latencies, bandwidths and the other ends' rules are outside the model. -/
def finish (s : State) : State :=
  let s := settle s
  let s := drainTurns (1 + s.sec.attests.length + (s.control.mailboxes.map fun m => m.queue.length).sum) s
  let s := settle (bundlePump s.bundleFuel s)
  settle s.recWork.rtpWork.treePump.netPump.rasFollowPtp.shutdownClips

/-- A state with its consequences, and the queue `q` of waiting commands. DESIGN CHOICE, safe (log entry 1): the spec has
no queue of outside commands; the model holds one, and a step runs its front. DESIGN CHOICE, unsafe (log entry 3):
consequences within an instant are all carried out in the step that caused them. -/
def ended (q : List Instr) (s : State) : State := { finish s with pending := q }

/-- What a command does, with its consequences; the queue stays as it was. -/
def after (effect : State → State) (s : State) : State := ended s.pending (effect s)

/-- A mailbox command at its apply instant. -/
def command (k : Cmd) (c : Call) (s : State) : Host.Outcome State Fault Refusal := .next (after (runCommand k c) s)

/-- MSIX_MASK_CLEAR (R54): a vector that the mask kept pending is sent; `none` is the function mask. -/
def msixMaskClear (vector : Option Nat) (s : State) : State :=
  let s := s.onControl fun c =>
    { c with msix := match vector with
        | none => { c.msix with functionMask := false }
        | some v => { c.msix with masks := modAt c.msix.masks v fun _ => false } }
  (List.range 9).foldl (fun s v =>
    let x := s.control.msix
    if x.pending.getD v false && !x.functionMask && !x.masks.getD v true then
      (s.onControl fun c => { c with msix := { c.msix with pending := modAt c.msix.pending v fun _ => false } }).send (.msix v)
    else s) s

/-- EVENT_RAISE (R372): a unit's source raises an event of its own. -/
def eventRaise (source : Nat) (s : State) : State := if source < 512 then s.raise source else s

/-- BELL_IN_EDGE (R385): an edge that passes the filter triggers the Bell and raises source 0x0BA. -/
def bellInEdge (s : State) : State := (s.onEvents fun v => { v with due := v.due ++ [.bell 3] }).raise 0x0BA

/-- MAILBOX_READY: the first frame starts as the device becomes ready (R19, R452). DEDUCED, unsafe (log entry 24):
COMMIT_AT of a held raster configuration, and the start of frame 0. -/
def becomeReady (s : State) : State :=
  let t := mailboxReady s
  if !s.ready && t.ready then t.frameStart true else t

/-- One cycle of the 50.000 MHz reference, which is what passes when no command waits (R36, R81, R328): the Device Clock
advances by 20 ns corrected by RATE_ADJ, and source 0x099 is raised when its seconds do. DESIGN CHOICE, safe (log entry
2): the table has no row for a tick; an empty queue passes one cycle of the reference. -/
def tick (s : State) : State :=
  let s := s.onControl fun c => { c with sincePowerGood := c.sincePowerGood + 20 }
  if s.power.inReset then s
  else
    let n : Int := 1310720 * (2 ^ 40 + s.net.ptp.rateAdj) + s.raster.clockRest
    let was := s.raster.clock.sec
    let s := s.onRaster fun r =>
      { r with clock := Clk.ofUnits (Clk.units r.clock + n / 2 ^ 40), clockRest := (n % 2 ^ 40).toNat }
    if s.raster.clock.sec = was then s else settle (s.raise 0x099)

/-! ## Commands that wait for hardware -/

/-- MEMORY_CLEAR_DONE (R280): GRN_ALLOC replies with HANDLE, SIZE and PLACE. -/
def memoryClearDone (h : Handle) (s : State) : State :=
  match s.buffer? h with
  | none => s
  | some b =>
    if !b.clearing then s
    else
      let s := s.onGranary fun g => { g with buffers := g.buffers.map fun x => if x.handle = h then { x with clearing := false } else x }
      complete (.clear h) stOk [itemN 0x4001 4 h.toNat, itemN 0x4002 8 b.size, itemN 0x4003 1 b.place.code] s

/-- LOOK_TABLES_LOADED (R174). -/
def lookTablesLoaded (k : Nat) (s : State) : State :=
  match s.endLoad k with
  | (none, s) => s
  | (some bank, s) => complete (.lookLoad k) stOk (itemN 0x4001 1 bank :: commitItems [s.nextCommit (0x0400 + k)]) s

/-- REG_ACK (R112): 0 = done, 1 = refused. -/
def regAck (p : Nat) (h : SbHead) (code : Nat) (s : State) : State :=
  match s.sbTake p 0x87 h with
  | (none, s) => s
  | (some r, s) =>
    let s := match r.ask with
      | .regWrite id => complete (.sensor id) (if code = 0 then stOk else stSensorNak) [] s
      | _ => s
    s.sbPump p

/-- REG_DATA (R112): status, and the words read. -/
def regData (p : Nat) (h : SbHead) (code : Nat) (data : List Word) (s : State) : State :=
  match s.sbTake p 0x88 h with
  | (none, s) => s
  | (some r, s) =>
    let s := match r.ask with
      | .regRead id =>
        if code = 0 then complete (.sensor id) stOk (data.map fun (w : Word) => itemN 0x4001 4 w.toNat) s
        else complete (.sensor id) stSensorNak [] s
      | _ => s
    s.sbPump p

/-- SIDEBAND_TIMEOUT (R113): a register access that is not answered a second time ends its command. -/
def sidebandGivesUp (p : Nat) (s : State) : State :=
  match sidebandTimeout p s with
  | (some (.regWrite id), s) => complete (.sensor id) stSensorTimeout [] s
  | (some (.regRead id), s) => complete (.sensor id) stSensorTimeout [] s
  | (_, s) => s

/-- The causes that CMP_VERIFY returns, one item per stripe (R273). -/
def verifyDone (r : Option (Nat × List Nat) × State) : State :=
  match r with
  | (some (t, causes), s) => complete (.verify t) stOk (causes.map (itemN 0x4001 1)) s
  | (none, s) => s

/-- The reply of an I²C command whose transfer has ended (R419, R429). -/
def i2cReplied (r : I2cReply × State) : State :=
  match r with
  | (some (t, ok, items), s) => complete (.i2c t) (if ok then stOk else stBusError) items s
  | (none, s) => s

/-- SIGNATURE_COMPLETE (R438): REPORT and SIGNATURE leave in the reply. -/
def signatureLeaves (s : State) : State :=
  match signatureComplete s with
  | (some (t, items), s) => complete (.attest t) stOk items s
  | (none, s) => s

/-- FLASH_WRITE_DONE (R436). -/
def flashReplied (s : State) : State :=
  match flashWriteDone s with
  | (some (t, st), s) => complete (.flash t) st [] s
  | (none, s) => s

/-! ## Tree messages -/

/-- TBL_ROLL_CALL's reply, when Roll Call has settled (R402). -/
def rollCallReplied (r : Option (List Item) × State) : State :=
  match r with
  | (some items, s) => complete .rollCall stOk items s
  | (none, s) => s

/-- CONTROL_MESSAGE_FLIT (R404): the upstream mailbox of a member takes the fill; the mailboxes of other ports refuse every
command. A flit that does not continue its message, and does not begin one, is dropped with what came before it. -/
def controlMessageFlit (t offset : Nat) (bytes : List Byte) (last : Bool) (s : State) : State :=
  let n := 12 + t
  if 4 ≤ t || !(s.treePort t).up then s
  else
    let held := ((s.control.mailboxes[n]?).map fun m => m.partialMsg).getD []
    let s := if offset = held.length % 4096 then s else s.onMbx n fun m => { m with partialMsg := [] }
    if offset ≠ held.length % 4096 ∧ offset ≠ 0 then s
    else if s.isMember && s.tree.upstream == some t then takeFill commandTable n bytes last s
    else
      let whole := (((s.control.mailboxes[n]?).map fun m => m.partialMsg).getD []) ++ bytes
      let s := s.onMbx n fun m => { m with partialMsg := if last then [] else whole }
      if !last then s
      else
        let major := if (whole.headD 0).toNat = 2 then 2 else 3
        let c : Call := { mb := n, major, minor := 0, tag := leNat ((whole.drop 4).take 2), byHandle := false, items := [] }
        s.post n (replyPost (leNat ((whole.drop 2).take 2)) c stDenied (errItems 0 0) s)

/-- BUNDLE_RECEIVED (R411): a member's bundle is whole. -/
def bundleReceived (bytes : List Byte) (epoch : Word) (s : State) : State :=
  if !s.isMember || s.tree.upstream.isNone then s
  else s.onTree fun t => { t with bundles := t.bundles ++ [{ epoch, rest := bundleMessages bytes.length bytes }] }

/-- EPOCH_ACK_RECEIVED (R411, R414): the head's record follows the messages that returned OK. -/
def epochAcked (id : Nat) (epoch : Word) (failed : Option (Nat × Nat)) (s : State) : State :=
  let s := match s.isHead, s.tree.bundle with
    | true, some (h, n) =>
      let ms := bundleMessages n (s.bytesOf h 0 n)
      let good := match failed with | none => ms | some (k, _) => ms.take k
      good.foldl (fun s m => s.recordRun id m) s
    | _, _ => s
  epochAckReceived id epoch failed s

/-- BELL_FLIT_RECEIVED (R389, R408). -/
def bellFlitReceived (t : Nat) (f : BellFlit) (s : State) : State :=
  if !s.isMember || s.tree.upstream != some t || !(s.treePort t).up then s
  else if s.tree.quarantined || s.tree.outOfStep then s.countEvt 8
  else
    let p : Pos := { frame := f.frame, line := f.line, phase := f.phase }
    if p = s.here then s.onEvents fun v => { v with due := v.due ++ [.treeBell f.seq] }
    else if s.posExpired p then
      (s.countEvt 7).notice 0x0D81 [itemN 1 4 f.seq.toNat, itemB 2 (toLe 4 f.frame.toNat ++ toLe 2 f.line ++ toLe 1 f.phase)]
    else s.onEvents fun v => { v with bellsAt := v.bellsAt ++ [{ pos := p, tree := some f.seq }] }

/-- TIME_FLIT_RECEIVED (R405, R406); a crash cut ends the frame. -/
def timeFlitTaken (t : Nat) (x : TimeFlit) (s : State) : State :=
  let (cut, s) := timeFlitReceived t x s
  if cut then s.crashCut else s

/-- The start and stop commands of the unit behind bit `b` of RUN_MAP, and its instance (R414). -/
def unitOfFlag (b : Nat) : Option (Nat × Nat × Nat) :=
  if b < 3 then some (0x0206, 0x0207, b)
  else if b < 7 then some (0x0701, 0x0702, b - 3)
  else if b < 23 then some (0x0905, 0x0906, b - 7)
  else if b < 71 then some (0x0502, 0x0503, b - 23)
  else if b < 119 then some (0x0405, 0x0406, b - 71)
  else if b = 119 then some (0x0B01, 0x0B02, 0)
  else if b < 124 then some (0x0C03, 0x0C04, b - 120)
  else none

/-- Runs a start or stop command without AT_FRAME, as RESYNC does; one that would be refused changes nothing. -/
def State.asCommanded (op k : Nat) (s : State) : State :=
  match commandTable op with
  | none => s
  | some cmd =>
    let c : Call := { mb := 12, major := 3, minor := 0, tag := 0, byHandle := false
                      items := if op / 256 = 0x0B then [] else [itemN 1 1 k] }
    match judgeCall cmd c s with
    | .error _ => s
    | .ok gs => match cmd.run c gs s with
      | .ok _ _ s' => s'
      | .kept _ _ _ s' => s'
      | _ => s

/-- RESYNC_RECEIVED (R414): the units whose run flag differs are started and stopped. -/
def resyncReceived (runMap : BitVec 128) (s : State) : State :=
  if !s.isMember || s.tree.upstream.isNone then s
  else
    let now := s.runMap
    let s := (List.range 124).foldl (fun s b =>
      match unitOfFlag b with
      | none => s
      | some (start, stop, k) =>
        if now.getLsbD b == runMap.getLsbD b then s else s.asCommanded (if runMap.getLsbD b then start else stop) k) s
    (s.onTree fun t => { t with resyncTo := if s.runMap = runMap then none else some runMap }).countTree 1 1

/-- FORWARD_REPLY_RECEIVED (R404): TBL_FORWARD returns the member's reply envelope; an OK reply moves the head's record. -/
def forwardReplyReceived (node : Nat) (message : List Byte) (s : State) : State :=
  let w := s.control.mailboxes.find? fun m => (m.waiting.map (·.why)) == some (.forward node)
  match w.bind (·.waiting) with
  | none => s
  | some w =>
    let asked := ((effItems w.call s).1.find? fun i => i.ty == 2).map (·.val)
    let good := leNat ((message.drop 12).take 2) == stOk
    let s := match good, asked with
      | true, some m => s.recordRun node m
      | _, _ => s
    complete (.forward node) stOk [itemB 0x4001 message] s

/-- NODE_TIMEOUT (R415): no reply within 100 ms. -/
def nodeTimeout (node : Nat) (s : State) : State := complete (.forward node) 0x1E03 [] s

end Sys2Proof.Machine
end

