-- ==== Sys2Proof/Machine/Audio.lean ====
section
/-!
DEFINITION. Meanings of the rows of 15_audio.md, one definition per row: what the row does, then what follows from it in the
same instant.
-/

namespace Sys2Proof.Machine

/-- AUDIO_BLOCK_COMPLETE (R364): A capture block of BLOCK samples completes and is written or lost. -/
def execAudioBlockComplete (capture : Nat) (samples : List (List Int)) (s : State) : Host.Outcome State Fault Refusal :=
  .next (after (audioBlockComplete capture samples) s)

/-- MASK_APPLY (R360): A shadow slot mask applies at the next sample, ending the block and writing a LAYOUT record. -/
def execMaskApply (capture : Nat) (samples : List (List Int)) (s : State) : Host.Outcome State Fault Refusal :=
  .next (after (maskApply capture samples) s)

/-- SLIP_APPLY (R361): A due slip is applied at a zero crossing. -/
def execSlipApply (port index : Nat) (s : State) : Host.Outcome State Fault Refusal := .next (after (slipApply port index) s)

/-- SLIP_FORCED (R361): A slip without a zero crossing is applied at the 1,024th sample. -/
def execSlipForced (port index : Nat) (s : State) : Host.Outcome State Fault Refusal := .next (after (slipForced port index) s)

/-- GATED_CHANGE_APPLY (R363): A start, stop or gain change applies at a zero crossing. -/
def execGatedChangeApply (g : GateTarget) (s : State) : Host.Outcome State Fault Refusal := .next (after (gatedChangeApply g) s)

/-- GATE_TIMEOUT (R363): A gated change without a zero crossing applies at GATE_TIMEOUT. -/
def execGateTimeout (g : GateTarget) (s : State) : Host.Outcome State Fault Refusal := .next (after (gateTimeout g) s)

/-- AUDIO_LOCK_LOSS (R357): An external-clock input loses lock. -/
def execAudioLockLoss (port : Nat) (s : State) : Host.Outcome State Fault Refusal := .next (after (audioLockLoss port) s)

/-- AUDIO_RELOCK (R357): After 64 good frames an input relocks. -/
def execAudioRelock (port : Nat) (s : State) : Host.Outcome State Fault Refusal := .next (after (audioRelock port) s)

/-- CS_BLOCK_RECEIVED (R368): An AES3 channel status block is checked and held or counted. -/
def execCsBlockReceived (port : Nat) (status : List Byte) (parityErrors : Nat) (s : State) : Host.Outcome State Fault Refusal :=
  .next (after (csBlockReceived port status parityErrors) s)

/-- PLAYOUT_BLOCK_PLAY (R367): An output plays a block at its FIRST, or discards it late or underruns. -/
def execPlayoutBlockPlay (port : Nat) (s : State) : Host.Outcome State Fault Refusal := .next (after (playoutBlockPlay port) s)

/-- AUD_PORT_SET (R369): Writes an audio port's fields. -/
def execAudPortSet (c : Call) (s : State) : Host.Outcome State Fault Refusal := command cmdAudPortSet c s

/-- AUD_PORT_GET (R369): Returns an audio port's fields and status. -/
def execAudPortGet (c : Call) (s : State) : Host.Outcome State Fault Refusal := command cmdAudPortGet c s

/-- AUD_CAPTURE_SET (R358): Writes a capture's fields. -/
def execAudCaptureSet (c : Call) (s : State) : Host.Outcome State Fault Refusal := command cmdAudCaptureSet c s

/-- AUD_CAPTURE_START (R369): Starts a capture. -/
def execAudCaptureStart (c : Call) (s : State) : Host.Outcome State Fault Refusal := command cmdAudCaptureStart c s

/-- AUD_CAPTURE_STOP (R369): Stops a capture. -/
def execAudCaptureStop (c : Call) (s : State) : Host.Outcome State Fault Refusal := command cmdAudCaptureStop c s

/-- AUD_MASK_SET (R360): Writes a capture's slot mask for a port. -/
def execAudMaskSet (c : Call) (s : State) : Host.Outcome State Fault Refusal := command cmdAudMaskSet c s

/-- AUD_GAIN_SET (R362): Sets channel or slot gains. -/
def execAudGainSet (c : Call) (s : State) : Host.Outcome State Fault Refusal := command cmdAudGainSet c s

/-- AUD_OUTPUT_START (R369): Starts an output port. -/
def execAudOutputStart (c : Call) (s : State) : Host.Outcome State Fault Refusal := command cmdAudOutputStart c s

/-- AUD_OUTPUT_STOP (R369): Stops an output port. -/
def execAudOutputStop (c : Call) (s : State) : Host.Outcome State Fault Refusal := command cmdAudOutputStop c s

/-- AUD_STATUS_GET (R369): Returns audio status and counters. -/
def execAudStatusGet (c : Call) (s : State) : Host.Outcome State Fault Refusal := command cmdAudStatusGet c s

/-- AUD_COUNTERS_CLEAR (R369): Clears selected audio counters. -/
def execAudCountersClear (c : Call) (s : State) : Host.Outcome State Fault Refusal := command cmdAudCountersClear c s

/-- AUD_CTRL_CNT_CLEAR (R371): AUD_CTRL.CNT_CLEAR clears every audio counter. -/
def execAudCtrlCntClear (s : State) : Host.Outcome State Fault Refusal := .next (after audCtrlCntClear s)

end Sys2Proof.Machine
end

