-- ==== Sys2Proof/Machine/Bus.lean ====
section
/-!
DEFINITION. Meanings of the rows of 18_board_buses.md, one definition per row: what the row does, then what follows from it in the
same instant.
-/

namespace Sys2Proof.Machine

/-- I2C_XFER_START (R422): A controller starts its next queued transfer, after a bus clear if SDA is stuck. -/
def execI2cXferStart (c : Nat) (sdaStuck freedByClear : Bool) (s : State) : Host.Outcome State Fault Refusal :=
  .next (after (fun s => i2cReplied (i2cXferStart c sdaStuck freedByClear s)) s)

/-- I2C_XFER_DONE (R419): An I²C transfer ends with its status. -/
def execI2cXferDone (c : Nat) (r : I2cResult) (s : State) : Host.Outcome State Fault Refusal :=
  .next (after (fun s => i2cReplied (i2cXferDone c r s)) s)

/-- I2C_SCL_TIMEOUT (R418): A stretch longer than SCL_TIMEOUT ends the transfer. -/
def execI2cSclTimeout (c : Nat) (s : State) : Host.Outcome State Fault Refusal :=
  .next (after (fun s => i2cReplied (i2cSclTimeout c s)) s)

/-- I2C_ARB_RETRY (R420): After lost arbitration, a STOP and bus-free time, the transfer is repeated. -/
def execI2cArbRetry (c : Nat) (s : State) : Host.Outcome State Fault Refusal := .next (after (i2cArbRetry c) s)

/-- TWI_T_ADDRESS_WRITE (R424): A target write transaction sets the register address. -/
def execTwiTAddressWrite (target : Nat) (bytes : List Byte) (s : State) : Host.Outcome State Fault Refusal :=
  .next (after (twiTAddressWrite target bytes) s)

/-- TWI_T_READ (R424): A target read transaction returns register words. -/
def execTwiTRead (target words : Nat) (s : State) : Host.Outcome State Fault Refusal := .next (after (twiTRead target words) s)

/-- TWI_T_ABORT (R425): A START in place of an acknowledge aborts the target transaction. -/
def execTwiTAbort (s : State) : Host.Outcome State Fault Refusal := .next (after twiTAbort s)

/-- UART_BYTE_RECEIVED (R426): A received byte joins the open record. -/
def execUartByteReceived (uart : Nat) (b : Byte) (parityErr framingErr brk : Bool) (s : State) : Host.Outcome State Fault Refusal :=
  .next (after (uartByteReceived uart b parityErr framingErr brk) s)

/-- UART_IDLE_GAP (R426): After IDLE_GAP bit times idle the record is closed and written. -/
def execUartIdleGap (uart : Nat) (s : State) : Host.Outcome State Fault Refusal := .next (after (uartIdleGap uart) s)

/-- GPIO_INPUT_EDGE (R428): A debounced pad edge raises the GPIO input source. -/
def execGpioInputEdge (pin : Nat) (level : Bool) (s : State) : Host.Outcome State Fault Refusal :=
  .next (after (gpioInputEdge pin level) s)

/-- GPIO_OUT_WRITE (R428): A write to BUS_GPIO_OUT sets OUT, deferred to the end of a pulse. -/
def execGpioOutWrite (high : Bool) (v : Word) (s : State) : Host.Outcome State Fault Refusal :=
  .next (after (gpioOutWrite high v) s)

/-- BUS_I2C_SET (R429): Writes a controller's fields. -/
def execBusI2cSet (c : Call) (s : State) : Host.Outcome State Fault Refusal := command cmdBusI2cSet c s

/-- BUS_I2C_XFER (R419): Queues an I²C transfer. -/
def execBusI2cXfer (c : Call) (s : State) : Host.Outcome State Fault Refusal := command cmdBusI2cXfer c s

/-- BUS_I2C_CLEAR (R421): Runs a bus clear. -/
def execBusI2cClear (c : Call) (s : State) : Host.Outcome State Fault Refusal := command cmdBusI2cClear c s

/-- BUS_TARGET_SET (R423): Sets the target addresses. -/
def execBusTargetSet (c : Call) (s : State) : Host.Outcome State Fault Refusal := command cmdBusTargetSet c s

/-- BUS_UART_SET (R426): Writes a UART's fields. -/
def execBusUartSet (c : Call) (s : State) : Host.Outcome State Fault Refusal := command cmdBusUartSet c s

/-- BUS_UART_SEND (R426): Sends bytes on a UART. -/
def execBusUartSend (c : Call) (s : State) : Host.Outcome State Fault Refusal := command cmdBusUartSend c s

/-- BUS_LENS_SET (R427): Assigns and configures the lens service. -/
def execBusLensSet (c : Call) (s : State) : Host.Outcome State Fault Refusal := command cmdBusLensSet c s

/-- BUS_GPIO_SET (R428): Writes GPIO pin fields. -/
def execBusGpioSet (c : Call) (s : State) : Host.Outcome State Fault Refusal := command cmdBusGpioSet c s

/-- BUS_STATUS_GET (R429): Returns bus status, GPIO levels and counters. -/
def execBusStatusGet (c : Call) (s : State) : Host.Outcome State Fault Refusal := command cmdBusStatusGet c s

/-- BUS_COUNTERS_CLEAR (R429): Clears selected bus counters. -/
def execBusCountersClear (c : Call) (s : State) : Host.Outcome State Fault Refusal := command cmdBusCountersClear c s

/-- BUS_CTRL_CNT_CLEAR (R431): BUS_CTRL.CNT_CLEAR clears every bus counter. -/
def execBusCtrlCntClear (s : State) : Host.Outcome State Fault Refusal := .next (after busCtrlCntClear s)

end Sys2Proof.Machine
end

