-- ==== Sys2Proof/Machine/Compress.lean ====
section
/-!
DEFINITION. Meanings of the rows of 10_raw_compression.md, one definition per row: what the row does, then what follows from it in the
same instant.
-/

namespace Sys2Proof.Machine

/-- CMP_TAP_FRAME_WHOLE (R258): A tap frame becomes whole and the session reserves the chunk's worst case or skips the frame. -/
def execCmpTapFrameWhole (session : Nat) (s : State) : Host.Outcome State Fault Refusal :=
  .next (after (cmpTapFrameWhole session) s)

/-- CMP_JOB_START (R256): A ready compression job starts on the lowest free engine. -/
def execCmpJobStart (s : State) : Host.Outcome State Fault Refusal := .next (after cmpJobStart s)

/-- CMP_JOB_DONE (R256): A compression job ends, saves history and, with its frame's last job, publishes the chunk. -/
def execCmpJobDone (engine : Nat) (s : State) : Host.Outcome State Fault Refusal := .next (after (cmpJobDone engine) s)

/-- ENGINE_CHECK_FAILURE (R259): An engine check failure restarts the job, or skips or fails it on a second failure. -/
def execEngineCheckFailure (engine : Nat) (s : State) : Host.Outcome State Fault Refusal :=
  .next (after (fun s => verifyDone (engineCheckFailure engine s)) s)

/-- REPLAY_DECOMP_START (R256): With 32 engines free Replay starts the 32 decompression jobs of a frame. -/
def execReplayDecompStart (s : State) : Host.Outcome State Fault Refusal := .next (after replayDecompStart s)

/-- DECOMP_JOB_DONE (R262): A decompression job ends or fails with its first cause. -/
def execDecompJobDone (engine : Nat) (s : State) : Host.Outcome State Fault Refusal :=
  .next (after (fun s => verifyDone (decompJobDone engine s)) s)

/-- CMP_SESSION_SET (R273): Writes a compression session's fields. -/
def execCmpSessionSet (c : Call) (s : State) : Host.Outcome State Fault Refusal := command cmdCmpSessionSet c s

/-- CMP_SESSION_START (R261): Starts a compression session. -/
def execCmpSessionStart (c : Call) (s : State) : Host.Outcome State Fault Refusal := command cmdCmpSessionStart c s

/-- CMP_SESSION_STOP (R261): Stops a compression session after its last frame. -/
def execCmpSessionStop (c : Call) (s : State) : Host.Outcome State Fault Refusal := command cmdCmpSessionStop c s

/-- CMP_KEY_REQUEST (R255): Requests a key frame. -/
def execCmpKeyRequest (c : Call) (s : State) : Host.Outcome State Fault Refusal := command cmdCmpKeyRequest c s

/-- CMP_SESSION_GET (R273): Returns a session's fields and status. -/
def execCmpSessionGet (c : Call) (s : State) : Host.Outcome State Fault Refusal := command cmdCmpSessionGet c s

/-- CMP_VERIFY (R273): Decompresses a frame chunk without delivering it. -/
def execCmpVerify (c : Call) (s : State) : Host.Outcome State Fault Refusal := command cmdCmpVerify c s

/-- CMP_STATUS_GET (R273): Returns compression status and counters. -/
def execCmpStatusGet (c : Call) (s : State) : Host.Outcome State Fault Refusal := command cmdCmpStatusGet c s

/-- CMP_COUNTERS_CLEAR (R273): Clears selected compression counters. -/
def execCmpCountersClear (c : Call) (s : State) : Host.Outcome State Fault Refusal := command cmdCmpCountersClear c s

/-- CMP_CTRL_CNT_CLEAR (R275): CMP_CTRL.CNT_CLEAR clears sessions' counters. -/
def execCmpCtrlCntClear (session : Nat) (s : State) : Host.Outcome State Fault Refusal :=
  .next (after (cmpCtrlCntClear session) s)

/-- CMP_CTRL_CNT_CLEAR_D (R275): CMP_CTRL.CNT_CLEAR_D clears the decompression counters. -/
def execCmpCtrlCntClearD (s : State) : Host.Outcome State Fault Refusal := .next (after cmpCtrlCntClearD s)

end Sys2Proof.Machine
end

