-- ==== Sys2Proof/Machine/Decoder.lean ====
section
/-!
DEFINITION. Meanings of the rows of 09_review_decoding.md, one definition per row: what the row does, then what follows from it in the
same instant.
-/

namespace Sys2Proof.Machine

/-- DEC_PICTURE_START (R229): The free decoder core takes the next decodable picture by priority. -/
def execDecPictureStart (s : State) : Host.Outcome State Fault Refusal := .next (after decPictureStart s)

/-- DEC_PICTURE_DONE (R229): A picture ends, with any concealment, and outputs follow the bumping process. -/
def execDecPictureDone (s : State) : Host.Outcome State Fault Refusal := .next (after decPictureDone s)

/-- DEC_CORE_FAULT (R237): A decoder core check failure loses the rest of the picture. -/
def execDecCoreFault (s : State) : Host.Outcome State Fault Refusal := .next (after decCoreFault s)

/-- DEC_CONTEXT_SET (R242): Writes a decode context's fields. -/
def execDecContextSet (c : Call) (s : State) : Host.Outcome State Fault Refusal := command cmdDecContextSet c s

/-- DEC_CONTEXT_GET (R242): Returns a decode context's fields and buffer states. -/
def execDecContextGet (c : Call) (s : State) : Host.Outcome State Fault Refusal := command cmdDecContextGet c s

/-- DEC_START (R241): Starts a decode context. -/
def execDecStart (c : Call) (s : State) : Host.Outcome State Fault Refusal := command cmdDecStart c s

/-- DEC_STOP (R241): Stops a decode context and discards its queue. -/
def execDecStop (c : Call) (s : State) : Host.Outcome State Fault Refusal := command cmdDecStop c s

/-- DEC_FEED (R234): Queues an input chunk. -/
def execDecFeed (c : Call) (s : State) : Host.Outcome State Fault Refusal := command cmdDecFeed c s

/-- DEC_SLOT_RELEASE (R242): Releases READY output buffers. -/
def execDecSlotRelease (c : Call) (s : State) : Host.Outcome State Fault Refusal := command cmdDecSlotRelease c s

/-- DEC_STATUS_GET (R242): Returns decoder status, load and counters. -/
def execDecStatusGet (c : Call) (s : State) : Host.Outcome State Fault Refusal := command cmdDecStatusGet c s

/-- DEC_COUNTERS_CLEAR (R242): Clears selected decoder counters. -/
def execDecCountersClear (c : Call) (s : State) : Host.Outcome State Fault Refusal := command cmdDecCountersClear c s

/-- DEC_CTRL_CNT_CLEAR (R244): DEC_CTRL.CNT_CLEAR clears every decoder counter. -/
def execDecCtrlCntClear (s : State) : Host.Outcome State Fault Refusal := .next (after decCtrlCntClear s)

end Sys2Proof.Machine
end

