-- ==== Sys2Proof/Machine/EventRouter.lean ====
section
/-!
DEFINITION. Meanings of the rows of 16_events_and_the_bell.md, one definition per row: what the row does, then what follows from it in the
same instant.
-/

namespace Sys2Proof.Machine

/-- EVENT_RAISE (R372): A source raises an event that the router delivers to its consumers. -/
def execEventRaise (source : Nat) (s : State) : Host.Outcome State Fault Refusal := .next (after (eventRaise source) s)

/-- GPIO_PULSE_END (R374): A GPIO output pulse of PIN_PULSE ends and the pin returns to OUT. -/
def execGpioPulseEnd (pin : Nat) (s : State) : Host.Outcome State Fault Refusal := .next (after (gpioPulseEnd pin) s)

/-- BELL_IN_EDGE (R385): A rising edge on BELL_IN that passes its filter triggers the Bell. -/
def execBellInEdge (s : State) : Host.Outcome State Fault Refusal := .next (after bellInEdge s)

/-- BELL_FLIT_RECEIVED (R408): A tree Bell flit arms the Bell at its position, or is ignored or late. -/
def execBellFlitReceived (port : Nat) (f : BellFlit) (s : State) : Host.Outcome State Fault Refusal :=
  .next (after (bellFlitReceived port f) s)

/-- EVT_MODE_SET (R379): Selects routed or channel mode at a frame. -/
def execEvtModeSet (c : Call) (s : State) : Host.Outcome State Fault Refusal := command cmdEvtModeSet c s

/-- EVT_ROUTE_SET (R376): Writes route words. -/
def execEvtRouteSet (c : Call) (s : State) : Host.Outcome State Fault Refusal := command cmdEvtRouteSet c s

/-- EVT_ROUTE_GET (R390): Returns a route word. -/
def execEvtRouteGet (c : Call) (s : State) : Host.Outcome State Fault Refusal := command cmdEvtRouteGet c s

/-- EVT_CHANNEL_SET (R377): Writes a channel's SECURE field. -/
def execEvtChannelSet (c : Call) (s : State) : Host.Outcome State Fault Refusal := command cmdEvtChannelSet c s

/-- EVT_SUBSCRIBE_SET (R377): Writes consumer subscriptions. -/
def execEvtSubscribeSet (c : Call) (s : State) : Host.Outcome State Fault Refusal := command cmdEvtSubscribeSet c s

/-- EVT_GROUP_SET (R378): Writes group states directly. -/
def execEvtGroupSet (c : Call) (s : State) : Host.Outcome State Fault Refusal := command cmdEvtGroupSet c s

/-- EVT_OWNER_SET (R380): Hands a route or channel to another owner. -/
def execEvtOwnerSet (c : Call) (s : State) : Host.Outcome State Fault Refusal := command cmdEvtOwnerSet c s

/-- EVT_RAISE (R390): Raises a software event. -/
def execEvtRaise (c : Call) (s : State) : Host.Outcome State Fault Refusal := command cmdEvtRaise c s

/-- EVT_LOG_SET (R390): Sets LOG_RING and PIN_PULSE. -/
def execEvtLogSet (c : Call) (s : State) : Host.Outcome State Fault Refusal := command cmdEvtLogSet c s

/-- BELL_CONFIG_SET (R390): Writes Bell configuration. -/
def execBellConfigSet (c : Call) (s : State) : Host.Outcome State Fault Refusal := command cmdBellConfigSet c s

/-- BELL_RING (R389): Rings the Bell now or at a position, or sends a tree Bell. -/
def execBellRing (c : Call) (s : State) : Host.Outcome State Fault Refusal := command cmdBellRing c s

/-- EVT_STATUS_GET (R390): Returns event status, Bell state and counters. -/
def execEvtStatusGet (c : Call) (s : State) : Host.Outcome State Fault Refusal := command cmdEvtStatusGet c s

/-- EVT_COUNTERS_CLEAR (R390): Clears selected event counters. -/
def execEvtCountersClear (c : Call) (s : State) : Host.Outcome State Fault Refusal := command cmdEvtCountersClear c s

/-- EVT_CTRL_RING (R392): EVT_CTRL.RING rings the Bell with cause SOFTWARE. -/
def execEvtCtrlRing (s : State) : Host.Outcome State Fault Refusal := .next (after evtCtrlRing s)

/-- EVT_CTRL_CNT_CLEAR (R392): EVT_CTRL.CNT_CLEAR clears every event counter. -/
def execEvtCtrlCntClear (s : State) : Host.Outcome State Fault Refusal := .next (after evtCtrlCntClear s)

/-- EVT_SW_RAISE (R392): EVT_SW_RAISE raises the selected software events. -/
def execEvtSwRaise (mask : Nat) (s : State) : Host.Outcome State Fault Refusal := .next (after (evtSwRaise mask) s)

end Sys2Proof.Machine
end

