-- ==== Sys2Proof/Machine/Granary.lean ====
section
/-!
DEFINITION. Meanings of the rows of 11_granary.md, one definition per row: what the row does, then what follows from it in the
same instant.
-/

namespace Sys2Proof.Machine

/-- MEMORY_CLEAR_DONE (R280): A new buffer's memory is cleared and the GRN_ALLOC reply is sent. -/
def execMemoryClearDone (h : Handle) (s : State) : Host.Outcome State Fault Refusal := .next (after (memoryClearDone h) s)

/-- MIGRATION_COPY_START (R285): A migration's copy starts with writes mirrored. -/
def execMigrationCopyStart (s : State) : Host.Outcome State Fault Refusal := .next (after migrationCopyStart s)

/-- MIGRATION_COPY_DONE (R285): A migration's copy ends and the switch awaits the next frame start. -/
def execMigrationCopyDone (s : State) : Host.Outcome State Fault Refusal := .next (after migrationCopyDone s)

/-- MIGRATION_RELEASE (R285): After the last old access completes, the old place is freed. -/
def execMigrationRelease (s : State) : Host.Outcome State Fault Refusal := .next (after migrationRelease s)

/-- BLOCK_CHECK_FAIL (R299): A block fails its check on read and is re-read or returned poisoned. -/
def execBlockCheckFail (h : Handle) (block : Nat) (rereadPasses : Bool) (s : State) : Host.Outcome State Fault Refusal :=
  .next (after (blockCheckFail h block rereadPasses) s)

/-- MR4_POLL (R296): Every 4 ms the controller reads MR4 and sets each channel's band. -/
def execMr4Poll (bands : List Nat) (s : State) : Host.Outcome State Fault Refusal := .next (after (mr4Poll bands) s)

/-- REFRESH_INTERVAL (R297): Each tREFI lowers a rank's refresh balance and refreshes are issued. -/
def execRefreshInterval (channel rank : Nat) (s : State) : Host.Outcome State Fault Refusal :=
  .next (after (refreshInterval channel rank) s)

/-- TRAINING_DUE (R298): 1 s after its last training a channel's periodic training falls due. -/
def execTrainingDue (channel : Nat) (s : State) : Host.Outcome State Fault Refusal := .next (after (trainingDue channel) s)

/-- FORCED_RETRAIN (R298): A channel untrained 1 s after falling due is trained at once. -/
def execForcedRetrain (channel : Nat) (s : State) : Host.Outcome State Fault Refusal := .next (after (forcedRetrain channel) s)

/-- RANK_POWER_DOWN (R295): A rank idle for PD_TIMER cycles powers down. -/
def execRankPowerDown (channel rank : Nat) (s : State) : Host.Outcome State Fault Refusal :=
  .next (after (rankPowerDown channel rank) s)

/-- APERTURE_ACCESS (R290): A BAR2 access reaches a mapped handle range or is counted as outside. -/
def execApertureAccess (offset : Nat) (write : Option (List Byte)) (length : Nat) (s : State) : Host.Outcome State Fault Refusal :=
  .next (after (apertureAccess offset write length) s)

/-- GRN_ALLOC (R279): Allocates and places a buffer. -/
def execGrnAlloc (c : Call) (s : State) : Host.Outcome State Fault Refusal := command cmdGrnAlloc c s

/-- GRN_FREE (R280): Frees a buffer. -/
def execGrnFree (c : Call) (s : State) : Host.Outcome State Fault Refusal := command cmdGrnFree c s

/-- GRN_INFO (R301): Returns a buffer's properties and referrers. -/
def execGrnInfo (c : Call) (s : State) : Host.Outcome State Fault Refusal := command cmdGrnInfo c s

/-- GRN_PIN (R284): Sets a buffer's PINNED field. -/
def execGrnPin (c : Call) (s : State) : Host.Outcome State Fault Refusal := command cmdGrnPin c s

/-- GRN_READ (R291): Reads a handle's bytes. -/
def execGrnRead (c : Call) (s : State) : Host.Outcome State Fault Refusal := command cmdGrnRead c s

/-- GRN_WRITE (R291): Writes a handle's bytes. -/
def execGrnWrite (c : Call) (s : State) : Host.Outcome State Fault Refusal := command cmdGrnWrite c s

/-- GRN_APERTURE_MAP (R290): Maps a handle range into a BAR2 window. -/
def execGrnApertureMap (c : Call) (s : State) : Host.Outcome State Fault Refusal := command cmdGrnApertureMap c s

/-- GRN_RING_ATTACH (R288): Attaches a host reader to a ring. -/
def execGrnRingAttach (c : Call) (s : State) : Host.Outcome State Fault Refusal := command cmdGrnRingAttach c s

/-- GRN_RING_DETACH (R288): Detaches a ring reader. -/
def execGrnRingDetach (c : Call) (s : State) : Host.Outcome State Fault Refusal := command cmdGrnRingDetach c s

/-- GRN_RING_RELEASE (R288): Moves a ring reader forward. -/
def execGrnRingRelease (c : Call) (s : State) : Host.Outcome State Fault Refusal := command cmdGrnRingRelease c s

/-- GRN_RING_STATUS (R301): Returns a ring's positions and entries. -/
def execGrnRingStatus (c : Call) (s : State) : Host.Outcome State Fault Refusal := command cmdGrnRingStatus c s

/-- GRN_RING_PUBLISH (R288): Publishes a host-written ring entry. -/
def execGrnRingPublish (c : Call) (s : State) : Host.Outcome State Fault Refusal := command cmdGrnRingPublish c s

/-- GRN_DRAM_SET (R301): Writes the Granary-wide DRAM and migration fields. -/
def execGrnDramSet (c : Call) (s : State) : Host.Outcome State Fault Refusal := command cmdGrnDramSet c s

/-- GRN_STATUS_GET (R301): Returns Granary status, free space and counters. -/
def execGrnStatusGet (c : Call) (s : State) : Host.Outcome State Fault Refusal := command cmdGrnStatusGet c s

/-- GRN_COUNTERS_CLEAR (R301): Clears selected Granary counters. -/
def execGrnCountersClear (c : Call) (s : State) : Host.Outcome State Fault Refusal := command cmdGrnCountersClear c s

/-- GRN_CTRL_CNT_CLEAR (R303): GRN_CTRL.CNT_CLEAR clears every Granary counter. -/
def execGrnCtrlCntClear (s : State) : Host.Outcome State Fault Refusal := .next (after grnCtrlCntClear s)

end Sys2Proof.Machine
end

