-- ==== Sys2Proof/Machine/Intake.lean ====
section
/-!
DEFINITION. Meanings of the rows of 05_sensor_intake.md, one definition per row: what the row does, then what follows from it in the
same instant.
-/

namespace Sys2Proof.Machine

/-- SENSOR_FRAME_START (R122): A K28.1 begins a sensor frame numbered by the raster frame in progress. -/
def execSensorFrameStart (port : Nat) (frameLo : Nat) (s : State) : Host.Outcome State Fault Refusal :=
  .next (after (sensorFrameStart port frameLo) s)

/-- LINE_PACKET_RECEIVED (R116): A line packet is checked and stored, discarded, or found damaged. -/
def execLinePacketReceived (port : Nat) (bytes : List Byte) (laneGood framed : Bool) (s : State) : Host.Outcome State Fault Refusal :=
  .next (after (linePacketReceived port bytes laneGood framed) s)

/-- SENSOR_FRAME_END (R123): A K28.6 ends the sensor frame as complete or short. -/
def execSensorFrameEnd (port : Nat) (s : State) : Host.Outcome State Fault Refusal := .next (after (sensorFrameEnd port) s)

/-- FRAME_STALL (R123): No packet accepted for 64 line times or 250 µs ends the frame by stall. -/
def execFrameStall (port : Nat) (s : State) : Host.Outcome State Fault Refusal := .next (after (frameStall port) s)

/-- RESEND_DEADLINE (R117): A damaged row without an undamaged copy 8 line times after detection is concealed. -/
def execResendDeadline (port row exposure : Nat) (s : State) : Host.Outcome State Fault Refusal :=
  .next (after (resendDeadline port row exposure) s)

/-- ROW_CONCEAL (R119): Once its neighbours are settled a concealed row is interpolated, copied or set to black. -/
def execRowConceal (port row exposure : Nat) (s : State) : Host.Outcome State Fault Refusal :=
  .next (after (rowConceal port row exposure) s)

/-- SIDEBAND_POLL (R113): After 100 µs without a request the intake sends POLL. -/
def execSidebandPoll (port : Nat) (s : State) : Host.Outcome State Fault Refusal := .next (after (sidebandPoll port) s)

/-- SIDEBAND_TIMEOUT (R113): A request without a valid reply in 20 µs is resent once, then fails. -/
def execSidebandTimeout (port : Nat) (s : State) : Host.Outcome State Fault Refusal := .next (after (sidebandGivesUp port) s)

/-- CAP_REPLY (R114): The sensor's capabilities are checked and LINK_CONFIG is sent or the exchange fails. -/
def execCapReply (port : Nat) (h : SbHead) (cap : SensorCap) (s : State) : Host.Outcome State Fault Refusal :=
  .next (after (capReply port h cap) s)

/-- CONFIG_ACK (R114): The sensor accepts or refuses the configuration; the port becomes ACTIVE or the exchange fails. -/
def execConfigAck (port : Nat) (h : SbHead) (code : Nat) (s : State) : Host.Outcome State Fault Refusal :=
  .next (after (configAck port h code) s)

/-- TAP_REPORT (R112): The sensor reports applied or rejected taps. -/
def execTapReport (port : Nat) (h : SbHead) (entries : List TapEntry) (s : State) : Host.Outcome State Fault Refusal :=
  .next (after (tapReport port h entries) s)

/-- PRBS_ACK (R93): The sensor confirms or refuses the PRBS31 run. -/
def execPrbsAck (port : Nat) (h : SbHead) (code : Nat) (s : State) : Host.Outcome State Fault Refusal :=
  .next (after (prbsAck port h code) s)

/-- BURST_ACK (R95): The sensor acknowledges the burst request. -/
def execBurstAck (port : Nat) (h : SbHead) (s : State) : Host.Outcome State Fault Refusal := .next (after (sbDone port 0x84 h) s)

/-- MAP_ACK (R96): The sensor acknowledges the map change before sending K28.4. -/
def execMapAck (port : Nat) (h : SbHead) (s : State) : Host.Outcome State Fault Refusal := .next (after (sbDone port 0x85 h) s)

/-- RESEND_ACK (R117): The sensor will re-send the row, or does not hold it and the row is concealed. -/
def execResendAck (port : Nat) (h : SbHead) (code : Nat) (s : State) : Host.Outcome State Fault Refusal :=
  .next (after (resendAck port h code) s)

/-- REG_ACK (R112): The sensor reports a register write done or refused. -/
def execRegAck (port : Nat) (h : SbHead) (code : Nat) (s : State) : Host.Outcome State Fault Refusal :=
  .next (after (regAck port h code) s)

/-- REG_DATA (R112): The sensor returns register data. -/
def execRegData (port : Nat) (h : SbHead) (code : Nat) (data : List Word) (s : State) : Host.Outcome State Fault Refusal :=
  .next (after (regData port h code data) s)

/-- EMPTY (R113): The sensor answers a poll with no alert. -/
def execSbEmpty (port : Nat) (h : SbHead) (s : State) : Host.Outcome State Fault Refusal := .next (after (sbDone port 0x89 h) s)

/-- ALERT (R113): The sensor answers a poll with an alert. -/
def execAlert (port : Nat) (h : SbHead) (code : Nat) (data : Word) (s : State) : Host.Outcome State Fault Refusal :=
  .next (after (alert port h code data) s)

/-- LOOP_ACK (R112): The sensor acknowledges the loop mode. -/
def execLoopAck (port : Nat) (h : SbHead) (s : State) : Host.Outcome State Fault Refusal := .next (after (sbDone port 0x8B h) s)

/-- REPLAY_FRAME_START (R133): At a raster frame start with the previous frame granted and the next ready, Replay starts a frame. -/
def execReplayFrameStart (s : State) : Host.Outcome State Fault Refusal := .next (after replayFrameStart s)

/-- INX_CTRL_CNT_CLEAR (R138): INx_CTRL.CNT_CLEAR clears the source's counters. -/
def execInxCtrlCntClear (port : Nat) (s : State) : Host.Outcome State Fault Refusal := .next (after (inxCntClear port) s)

/-- INTAKE_PORT_SET (R136): Writes a sensor port's mode, geometry, lane fields, priority and re-send. -/
def execIntakePortSet (c : Call) (s : State) : Host.Outcome State Fault Refusal := command cmdIntakePortSet c s

/-- INTAKE_PORT_GET (R136): Returns a port's fields, state, version and sensor capabilities. -/
def execIntakePortGet (c : Call) (s : State) : Host.Outcome State Fault Refusal := command cmdIntakePortGet c s

/-- INTAKE_LINEARISE_SET (R127): Writes a linearisation curve and black code. -/
def execIntakeLineariseSet (c : Call) (s : State) : Host.Outcome State Fault Refusal := command cmdIntakeLineariseSet c s

/-- INTAKE_MERGE_SET (R128): Writes per-exposure merge gains, knees and widths. -/
def execIntakeMergeSet (c : Call) (s : State) : Host.Outcome State Fault Refusal := command cmdIntakeMergeSet c s

/-- INTAKE_DEFECT_SET (R129): Writes the static defect list and dynamic correction settings. -/
def execIntakeDefectSet (c : Call) (s : State) : Host.Outcome State Fault Refusal := command cmdIntakeDefectSet c s

/-- INTAKE_TAP_SET (R131): Sets a raw tap's ring and enable. -/
def execIntakeTapSet (c : Call) (s : State) : Host.Outcome State Fault Refusal := command cmdIntakeTapSet c s

/-- INTAKE_START (R126): Starts a source at the first K28.1 after its frame. -/
def execIntakeStart (c : Call) (s : State) : Host.Outcome State Fault Refusal := command cmdIntakeStart c s

/-- INTAKE_STOP (R126): Stops a source at the end of the frame in progress. -/
def execIntakeStop (c : Call) (s : State) : Host.Outcome State Fault Refusal := command cmdIntakeStop c s

/-- INTAKE_SENSOR_WRITE (R136): Writes sensor registers over the sideband. -/
def execIntakeSensorWrite (c : Call) (s : State) : Host.Outcome State Fault Refusal := command cmdIntakeSensorWrite c s

/-- INTAKE_SENSOR_READ (R136): Reads sensor registers over the sideband. -/
def execIntakeSensorRead (c : Call) (s : State) : Host.Outcome State Fault Refusal := command cmdIntakeSensorRead c s

/-- INTAKE_STATUS_GET (R136): Returns intake status, counters and backlog. -/
def execIntakeStatusGet (c : Call) (s : State) : Host.Outcome State Fault Refusal := command cmdIntakeStatusGet c s

/-- INTAKE_COUNTERS_CLEAR (R136): Clears selected intake counters. -/
def execIntakeCountersClear (c : Call) (s : State) : Host.Outcome State Fault Refusal := command cmdIntakeCountersClear c s

/-- REPLAY_SET (R132): Configures Replay's source, entry tap, geometry and frame range. -/
def execReplaySet (c : Call) (s : State) : Host.Outcome State Fault Refusal := command cmdReplaySet c s

/-- REPLAY_STATUS_GET (R136): Returns Replay's next index, frames delivered and slips. -/
def execReplayStatusGet (c : Call) (s : State) : Host.Outcome State Fault Refusal := command cmdReplayStatusGet c s

end Sys2Proof.Machine
end

