-- ==== Sys2Proof/Machine/Lanes.lean ====
section
/-!
DEFINITION. Meanings of the rows of 04_serial_lanes.md, one definition per row: what the row does, then what follows from it in the
same instant.
-/

namespace Sys2Proof.Machine

/-- LANE_DETECT_RETRY (R85): Every 1 ms in DETECT the transmitter retries sensing the receiver's termination. -/
def execLaneDetectRetry (lane : Nat) (s : State) : Host.Outcome State Fault Refusal := .next (after (laneDetectRetry lane) s)

/-- RECEIVER_DETECTED (R85): The transmitter senses the far termination and the lane enters TRAIN. -/
def execReceiverDetected (lane : Nat) (s : State) : Host.Outcome State Fault Refusal := .next (after (receiverDetected lane) s)

/-- TRAINING_SET_RECEIVED (R88): A training set passing CHECK is taken, and a request on the partner lane is applied or rejected. -/
def execTrainingSetReceived (lane : Nat) (symbols : List Byte) (s : State) : Host.Outcome State Fault Refusal :=
  .next (after (trainingSetReceived lane symbols) s)

/-- TAP_REQUEST_TIMEOUT (R91): A tap request unanswered for 20 µs is resent once, then skipped. -/
def execTapRequestTimeout (lane : Nat) (s : State) : Host.Outcome State Fault Refusal := .next (after (tapRequestTimeout lane) s)

/-- EQ_MEASURE_DONE (R90): An eye measurement ends and the equalisation search takes its next step. -/
def execEqMeasureDone (lane openPoints : Nat) (s : State) : Host.Outcome State Fault Refusal :=
  .next (after (eqMeasureDone lane openPoints) s)

/-- PRBS_RUN_DONE (R93): The PRBS31 run ends and the lane leaves TRAIN for LOCK or fails. -/
def execPrbsRunDone (lane errors : Nat) (s : State) : Host.Outcome State Fault Refusal :=
  .next (after (prbsRunDone lane errors) s)

/-- SYMBOL_LOCK_ACQUIRED (R85): A lane takes bit and symbol lock on commas in LOCK. -/
def execSymbolLockAcquired (lane skew : Nat) (s : State) : Host.Outcome State Fault Refusal :=
  .next (after (symbolLockAcquired lane skew) s)

/-- LANE_STATE_TIMEOUT (R85): A lane state exceeds its time limit and the lane fails or the port returns to DETECT. -/
def execLaneStateTimeout (lane : Nat) (s : State) : Host.Outcome State Fault Refusal := .next (after (laneStateTimeout lane) s)

/-- FAILED_LANE_RETRAIN (R85): 1 ms after FAILED a lane starts a full retrain from DETECT. -/
def execFailedLaneRetrain (lane : Nat) (s : State) : Host.Outcome State Fault Refusal := .next (after (failedLaneRetrain lane) s)

/-- LANE_FAULT (R94): Loss of symbol lock or ERR_LIMIT violations put a lane into RETRAIN. -/
def execLaneFault (lane : Nat) (lockLost : Bool) (violations : Nat) (s : State) : Host.Outcome State Fault Refusal :=
  .next (after (laneFault lane lockLost violations) s)

/-- FAST_RETRAIN_DONE (R95): A fast retrain ends in ACTIVE or fails. -/
def execFastRetrainDone (lane : Nat) (locked : Bool) (openPoints : Nat) (s : State) : Host.Outcome State Fault Refusal :=
  .next (after (fastRetrainDone lane locked openPoints) s)

/-- K28_4_RECEIVED (R96): K28.4 arrives on all lanes and from the next symbol the new lane map is in use. -/
def execK284Received (port : Nat) (s : State) : Host.Outcome State Fault Refusal := .next (after (k284Received port) s)

/-- FULL_RETRAIN (R101): LANE_CTRL.FULL_RETRAIN restarts bring-up from DETECT. -/
def execFullRetrain (lane : Nat) (s : State) : Host.Outcome State Fault Refusal := .next (after (fullRetrain lane) s)

/-- FAST_RETRAIN (R101): LANE_CTRL.FAST_RETRAIN starts a fast retrain of an ACTIVE or STANDBY lane. -/
def execFastRetrain (lane : Nat) (s : State) : Host.Outcome State Fault Refusal := .next (after (fastRetrain lane) s)

/-- LANE_CTRL_CNT_CLEAR (R101): LANE_CTRL.CNT_CLEAR clears the lane's counters. -/
def execLaneCtrlCntClear (lane : Nat) (s : State) : Host.Outcome State Fault Refusal := .next (after (laneCtrlCntClear lane) s)

end Sys2Proof.Machine
end

