-- ==== Sys2Proof/Machine/Looks.lean ====
section
/-!
DEFINITION. Meanings of the rows of 07_looks_and_renditions.md, one definition per row: what the row does, then what follows from it in the
same instant.
-/

namespace Sys2Proof.Machine

/-- REND_SLOT_READY (R186): A rendition's planes are complete and its slot becomes READY. -/
def execRendSlotReady (rend : Nat) (s : State) : Host.Outcome State Fault Refusal := .next (after (rendSlotReady rend) s)

/-- LOOK_TABLES_LOADED (R174): A table bank load completes and the shadow bank is set. -/
def execLookTablesLoaded (look : Nat) (s : State) : Host.Outcome State Fault Refusal := .next (after (lookTablesLoaded look) s)

/-- LOOK_SET (R192): Writes a Look's fields. -/
def execLookSet (c : Call) (s : State) : Host.Outcome State Fault Refusal := command cmdLookSet c s

/-- LOOK_TABLES_LOAD (R174): Starts loading a Look's other table bank. -/
def execLookTablesLoad (c : Call) (s : State) : Host.Outcome State Fault Refusal := command cmdLookTablesLoad c s

/-- LOOK_GET (R192): Returns a Look's fields and load state. -/
def execLookGet (c : Call) (s : State) : Host.Outcome State Fault Refusal := command cmdLookGet c s

/-- REND_SET (R192): Writes a rendition's fields. -/
def execRendSet (c : Call) (s : State) : Host.Outcome State Fault Refusal := command cmdRendSet c s

/-- REND_FILTER_SET (R180): Writes a rendition's host filter tables. -/
def execRendFilterSet (c : Call) (s : State) : Host.Outcome State Fault Refusal := command cmdRendFilterSet c s

/-- REND_START (R188): Starts a rendition from a frame. -/
def execRendStart (c : Call) (s : State) : Host.Outcome State Fault Refusal := command cmdRendStart c s

/-- REND_STOP (R188): Stops a rendition after the frame in progress. -/
def execRendStop (c : Call) (s : State) : Host.Outcome State Fault Refusal := command cmdRendStop c s

/-- REND_GET (R192): Returns a rendition's fields and slot states. -/
def execRendGet (c : Call) (s : State) : Host.Outcome State Fault Refusal := command cmdRendGet c s

/-- REND_SLOT_RELEASE (R186): Returns a HELD slot to FREE. -/
def execRendSlotRelease (c : Call) (s : State) : Host.Outcome State Fault Refusal := command cmdRendSlotRelease c s

/-- REND_CAPTURE (R192): Requests COUNT frames for an on-request rendition. -/
def execRendCapture (c : Call) (s : State) : Host.Outcome State Fault Refusal := command cmdRendCapture c s

/-- LKS_STATUS_GET (R192): Returns Look and rendition status and counters. -/
def execLksStatusGet (c : Call) (s : State) : Host.Outcome State Fault Refusal := command cmdLksStatusGet c s

/-- LKS_COUNTERS_CLEAR (R192): Clears selected Look and rendition counters. -/
def execLksCountersClear (c : Call) (s : State) : Host.Outcome State Fault Refusal := command cmdLksCountersClear c s

/-- LKS_CTRL_CNT_CLEAR (R194): LKS_CTRL.CNT_CLEAR clears every Look and rendition counter. -/
def execLksCtrlCntClear (s : State) : Host.Outcome State Fault Refusal := .next (after lksCtrlCntClear s)

end Sys2Proof.Machine
end

