-- ==== Sys2Proof/Machine/Mill.lean ====
section
/-!
DEFINITION. Meanings of the rows of 06_the_mill.md, one definition per row: what the row does, then what follows from it in the
same instant.
-/

namespace Sys2Proof.Machine

/-- MILL_GRANT (R134): When the Mill is free it grants one ready line pair by priority. -/
def execMillGrant (s : State) : Host.Outcome State Fault Refusal := .next (after grantAndRender s)

/-- STATS_RECORD_COMPLETE (R161): A Mill statistics record is complete in memory. -/
def execStatsRecordComplete (ctx : Nat) (s : State) : Host.Outcome State Fault Refusal :=
  .next (after (statsRecordComplete ctx) s)

/-- MILL_NOISE_SET (R163): Writes per-exposure noise models. -/
def execMillNoiseSet (c : Call) (s : State) : Host.Outcome State Fault Refusal := command cmdMillNoiseSet c s

/-- MILL_SNR_SET (R163): Writes spatial noise reduction fields. -/
def execMillSnrSet (c : Call) (s : State) : Host.Outcome State Fault Refusal := command cmdMillSnrSet c s

/-- MILL_TNR_SET (R163): Writes temporal noise reduction fields and reference. -/
def execMillTnrSet (c : Call) (s : State) : Host.Outcome State Fault Refusal := command cmdMillTnrSet c s

/-- MILL_TNR_RESET (R163): Schedules a temporal-noise pass-through at a frame. -/
def execMillTnrReset (c : Call) (s : State) : Host.Outcome State Fault Refusal := command cmdMillTnrReset c s

/-- MILL_WB_SET (R163): Writes white-balance gains. -/
def execMillWbSet (c : Call) (s : State) : Host.Outcome State Fault Refusal := command cmdMillWbSet c s

/-- MILL_RECON_SET (R163): Writes the reconstruction mode. -/
def execMillReconSet (c : Call) (s : State) : Host.Outcome State Fault Refusal := command cmdMillReconSet c s

/-- MILL_MATRIX_SET (R163): Writes the camera matrix and offsets. -/
def execMillMatrixSet (c : Call) (s : State) : Host.Outcome State Fault Refusal := command cmdMillMatrixSet c s

/-- MILL_STATS_SET (R163): Writes statistics points, clip level, ring and notify. -/
def execMillStatsSet (c : Call) (s : State) : Host.Outcome State Fault Refusal := command cmdMillStatsSet c s

/-- MILL_CONFIG_GET (R163): Returns a context's fields in force and in shadow. -/
def execMillConfigGet (c : Call) (s : State) : Host.Outcome State Fault Refusal := command cmdMillConfigGet c s

/-- MILL_STATUS_GET (R163): Returns a context's status, flags, counters and utilisation. -/
def execMillStatusGet (c : Call) (s : State) : Host.Outcome State Fault Refusal := command cmdMillStatusGet c s

/-- MILL_COUNTERS_CLEAR (R163): Clears selected Mill counters. -/
def execMillCountersClear (c : Call) (s : State) : Host.Outcome State Fault Refusal := command cmdMillCountersClear c s

/-- MIL_CTRL_CNT_CLEAR (R165): MIL_CTRL.CNT_CLEAR clears a context's counters. -/
def execMilCtrlCntClear (ctx : Nat) (s : State) : Host.Outcome State Fault Refusal := .next (after (milCtrlCntClear ctx) s)

end Sys2Proof.Machine
end

