-- ==== Sys2Proof/Machine/Monitor.lean ====
section
/-!
DEFINITION. Meanings of the rows of 14_monitor_output.md, one definition per row: what the row does, then what follows from it in the
same instant.
-/

namespace Sys2Proof.Machine

/-- FLIP (R344): At each output frame start the monitor takes the newest READY slot, or repeats or shows black. -/
def execFlip (s : State) : Host.Outcome State Fault Refusal := .next (after flip s)

/-- MON_OUTPUT_FRAME_END (R348): At the end of an output frame the check rectangle results are published. -/
def execMonOutputFrameEnd (s : State) : Host.Outcome State Fault Refusal := .next (after monOutputFrameEnd s)

/-- MON_SET (R350): Writes the monitor format and timing. -/
def execMonSet (c : Call) (s : State) : Host.Outcome State Fault Refusal := command cmdMonSet c s

/-- MON_START (R350): Starts the monitor output. -/
def execMonStart (c : Call) (s : State) : Host.Outcome State Fault Refusal := command cmdMonStart c s

/-- MON_STOP (R350): Stops the monitor output. -/
def execMonStop (c : Call) (s : State) : Host.Outcome State Fault Refusal := command cmdMonStop c s

/-- MON_OVERLAY_SET (R347): Writes the overlay fields. -/
def execMonOverlaySet (c : Call) (s : State) : Host.Outcome State Fault Refusal := command cmdMonOverlaySet c s

/-- MON_CHECK_SET (R348): Writes a check rectangle. -/
def execMonCheckSet (c : Call) (s : State) : Host.Outcome State Fault Refusal := command cmdMonCheckSet c s

/-- MON_STATUS_GET (R350): Returns monitor status, counters and results. -/
def execMonStatusGet (c : Call) (s : State) : Host.Outcome State Fault Refusal := command cmdMonStatusGet c s

/-- MON_COUNTERS_CLEAR (R350): Clears selected monitor counters. -/
def execMonCountersClear (c : Call) (s : State) : Host.Outcome State Fault Refusal := command cmdMonCountersClear c s

/-- MON_CTRL_CNT_CLEAR (R352): MON_CTRL.CNT_CLEAR clears every monitor counter. -/
def execMonCtrlCntClear (s : State) : Host.Outcome State Fault Refusal := .next (after monCtrlCntClear s)

end Sys2Proof.Machine
end

