-- ==== Sys2Proof/Machine/Net.lean ====
section
/-!
DEFINITION. Meanings of the rows of 13_network_and_time.md, one definition per row: what the row does, then what follows from it in the
same instant.
-/

namespace Sys2Proof.Machine

/-- CONTROL_FILL_DATAGRAM (R325): A UDP control datagram carrying a fill is taken, acknowledged and delivered to its mailbox. -/
def execControlFillDatagram (d : Datagram) (s : State) : Host.Outcome State Fault Refusal :=
  .next (after (controlFillDatagram commandTable d) s)

/-- CONTROL_ACK_DATAGRAM (R325): A UDP acknowledgement releases the device's outstanding fill. -/
def execControlAckDatagram (d : Datagram) (s : State) : Host.Outcome State Fault Refusal :=
  .next (after (controlAckDatagram commandTable d) s)

/-- CONTROL_RESET_DATAGRAM (R325): A datagram with RESET resets the session and binds the sender. -/
def execControlResetDatagram (d : Datagram) (s : State) : Host.Outcome State Fault Refusal :=
  .next (after (controlResetDatagram commandTable d) s)

/-- CONTROL_RESEND_TIMER (R325): An unacknowledged fill is resent every 20 ms, and after five the binding ends. -/
def execControlResendTimer (mailbox : Nat) (s : State) : Host.Outcome State Fault Refusal :=
  .next (after (controlResendTimer mailbox) s)

/-- CONTROL_BIND_TIMEOUT (R325): A binding ends after BIND_TIMEOUT without datagrams. -/
def execControlBindTimeout (mailbox : Nat) (s : State) : Host.Outcome State Fault Refusal :=
  .next (after (controlBindTimeout mailbox) s)

/-- ARP_PACKET (R323): An ARP packet is answered or updates the cache. -/
def execArpPacket (port : Nat) (p : ArpPacket) (s : State) : Host.Outcome State Fault Refusal :=
  .next (after (arpPacket port p) s)

/-- ARP_REFRESH (R323): An ARP cache entry is refreshed after 60 s. -/
def execArpRefresh (port : Nat) (ip : Word) (s : State) : Host.Outcome State Fault Refusal := .next (after (arpRefresh port ip) s)

/-- ICMP_ECHO_REQUEST (R323): An ICMP echo request is answered. -/
def execIcmpEchoRequest (port : Nat) (src : Word) (dst : Word) (data : List Byte) (s : State) : Host.Outcome State Fault Refusal :=
  .next (after (icmpEchoRequest port src dst data) s)

/-- ETH_LINK_CHANGE (R321): An Ethernet port's link goes up or down. -/
def execEthLinkChange (port : Nat) (up : Bool) (s : State) : Host.Outcome State Fault Refusal :=
  .next (after (ethLinkChange port up) s)

/-- SYNC_RECEIVED (R328): A PTP Sync from the master runs the servo, the step or outlier rule. -/
def execSyncReceived (port : Nat) (m : PtpSync) (s : State) : Host.Outcome State Fault Refusal :=
  .next (after (syncReceived port m) s)

/-- FOLLOW_UP_RECEIVED (R327): A two-step Follow_Up completes a Sync's timestamps. -/
def execFollowUpReceived (port : Nat) (m : PtpSync) (s : State) : Host.Outcome State Fault Refusal :=
  .next (after (followUpReceived port m) s)

/-- DELAY_RESP_RECEIVED (R328): A Delay_Resp gives the mean path delay. -/
def execDelayRespReceived (port : Nat) (m : PtpDelayResp) (s : State) : Host.Outcome State Fault Refusal :=
  .next (after (delayRespReceived port m) s)

/-- ANNOUNCE_RECEIVED (R326): An Announce is taken into the BMCA. -/
def execAnnounceReceived (port : Nat) (m : PtpAnnounce) (s : State) : Host.Outcome State Fault Refusal :=
  .next (after (announceReceived port m) s)

/-- ANNOUNCE_RECEIPT_TIMEOUT (R330): announceReceiptTimeout expires and the clock enters HOLDOVER. -/
def execAnnounceReceiptTimeout (s : State) : Host.Outcome State Fault Refusal := .next (after announceReceiptTimeout s)

/-- DELAY_REQ_TIMER (R326): A Delay_Req is sent at LOG_DELAY_REQ intervals. -/
def execDelayReqTimer (s : State) : Host.Outcome State Fault Refusal := .next (after delayReqTimer s)

/-- SYNC_TX_TIMER (R327): As master the device sends a one-step Sync. -/
def execSyncTxTimer (s : State) : Host.Outcome State Fault Refusal := .next (after syncTxTimer s)

/-- ANNOUNCE_TX_TIMER (R326): As master the device sends an Announce. -/
def execAnnounceTxTimer (s : State) : Host.Outcome State Fault Refusal := .next (after announceTxTimer s)

/-- RTP_PACKET_SEND (R335): A stream sends its next paced RTP packet. -/
def execRtpPacketSend (stream : Nat) (s : State) : Host.Outcome State Fault Refusal := .next (after (rtpPacketSend stream) s)

/-- RTP_AU_LATE (R335): An AU unsent two frame periods after publication is dropped. -/
def execRtpAuLate (stream : Nat) (s : State) : Host.Outcome State Fault Refusal := .next (after (rtpAuLate stream) s)

/-- RTCP_SENDER_REPORT (R336): Each second a stream sends an RTCP sender report. -/
def execRtcpSenderReport (stream : Nat) (s : State) : Host.Outcome State Fault Refusal :=
  .next (after (rtcpSenderReport stream) s)

/-- RTCP_RECEIVED (R336): A received RTCP packet is counted. -/
def execRtcpReceived (port : Nat) (s : State) : Host.Outcome State Fault Refusal := .next (after (rtcpReceived port) s)

/-- NET_PORT_SET (R337): Writes an Ethernet port's fields. -/
def execNetPortSet (c : Call) (s : State) : Host.Outcome State Fault Refusal := command cmdNetPortSet c s

/-- NET_PORT_GET (R337): Returns a port's fields, status and ARP cache. -/
def execNetPortGet (c : Call) (s : State) : Host.Outcome State Fault Refusal := command cmdNetPortGet c s

/-- NET_CONTROL_SET (R337): Sets BIND_TIMEOUT. -/
def execNetControlSet (c : Call) (s : State) : Host.Outcome State Fault Refusal := command cmdNetControlSet c s

/-- PTP_CONFIG_SET (R337): Writes PTP fields. -/
def execPtpConfigSet (c : Call) (s : State) : Host.Outcome State Fault Refusal := command cmdPtpConfigSet c s

/-- PTP_STATUS_GET (R337): Returns PTP status and counters. -/
def execPtpStatusGet (c : Call) (s : State) : Host.Outcome State Fault Refusal := command cmdPtpStatusGet c s

/-- PTP_RESTEP (R337): Returns PTP to UNCALIBRATED so that the clock is stepped again. -/
def execPtpRestep (c : Call) (s : State) : Host.Outcome State Fault Refusal := command cmdPtpRestep c s

/-- RTP_STREAM_SET (R332): Writes an RTP stream's fields. -/
def execRtpStreamSet (c : Call) (s : State) : Host.Outcome State Fault Refusal := command cmdRtpStreamSet c s

/-- RTP_START (R337): Starts an RTP stream. -/
def execRtpStart (c : Call) (s : State) : Host.Outcome State Fault Refusal := command cmdRtpStart c s

/-- RTP_STOP (R337): Stops an RTP stream. -/
def execRtpStop (c : Call) (s : State) : Host.Outcome State Fault Refusal := command cmdRtpStop c s

/-- NET_STATUS_GET (R337): Returns network status and counters. -/
def execNetStatusGet (c : Call) (s : State) : Host.Outcome State Fault Refusal := command cmdNetStatusGet c s

/-- NET_COUNTERS_CLEAR (R337): Clears selected network counters. -/
def execNetCountersClear (c : Call) (s : State) : Host.Outcome State Fault Refusal := command cmdNetCountersClear c s

/-- NET_CTRL_CNT_CLEAR (R339): NET_CTRL.CNT_CLEAR clears every network counter. -/
def execNetCtrlCntClear (s : State) : Host.Outcome State Fault Refusal := .next (after netCtrlCntClear s)

/-- DELAY_REQ_RECEIVED (R326): As grandmaster, the BK16C receives a slave's Delay_Req and answers it with a Delay_Resp. -/
def execDelayReqReceived (port : Nat) (src : Nat) (seq : Nat) (s : State) : Host.Outcome State Fault Refusal :=
  .next (after (delayReqReceived port src seq) s)

end Sys2Proof.Machine
end

