-- ==== Sys2Proof/Machine/Power.lean ====
section
/-!
DEFINITION. Meanings of the rows of 20_power_heat_and_faults.md, one definition per row: what the row does, then what follows from it in the
same instant.
-/

namespace Sys2Proof.Machine

/-- COMMAND_RESET (R450): 1 ms after SYS_RESET with SCOPE 1 the device resets with cause COMMAND. -/
def execCommandReset (s : State) : Host.Outcome State Fault Refusal := .next (after commandReset s)

/-- POWER_ON_RESET (R448): Power-on resets the whole device. -/
def execPowerOnReset (s : State) : Host.Outcome State Fault Refusal := .next (after powerOnReset s)

/-- VDD_AO_BROWNOUT (R448): VDD_AO below 0.72 V for more than 2 µs causes a power-on reset. -/
def execVddAoBrownout (s : State) : Host.Outcome State Fault Refusal := .next (after powerOnReset s)

/-- PWR_OK_LOW (R448): PWR_OK going low causes a power-on reset. -/
def execPwrOkLow (s : State) : Host.Outcome State Fault Refusal := .next (after powerOnReset s)

/-- RESET_BALL (R450): RESET_N held low for at least 1 µs resets all but the always-on domain. -/
def execResetBall (s : State) : Host.Outcome State Fault Refusal := .next (after resetBall s)

/-- RESET_END (R451): A reset ends, BOOT_STRAP is sampled and the boot begins. -/
def execResetEnd (straps twiAddr : Nat) (s : State) : Host.Outcome State Fault Refusal :=
  .next (after (resetEnd straps twiAddr) s)

/-- BOOT_ROM_DONE (R452): PLLs lock, straps and NVM are checked and firmware verification begins. -/
def execBootRomDone (refOk nvmOk : Bool) (s : State) : Host.Outcome State Fault Refusal :=
  .next (after (bootRomDone refOk nvmOk) s)

/-- FIRMWARE_VERIFIED (R434): A slot passes its checks and its body starts, or both fail and the boot ends. -/
def execFirmwareVerified (s : State) : Host.Outcome State Fault Refusal := .next (after firmwareVerified s)

/-- DRAM_TRAINING_DONE (R276): Boot training of the DRAM channels completes or fails. -/
def execDramTrainingDone (channels : List ChannelInfo) (s : State) : Host.Outcome State Fault Refusal :=
  .next (after (dramTrainingDone channels) s)

/-- MAILBOX_READY (R452): Oluhenu reaches mailbox-ready and selects routed mode unless recovering. -/
def execMailboxReady (s : State) : Host.Outcome State Fault Refusal := .next (after becomeReady s)

/-- BOOT_STAGE_TIMEOUT (R452): A boot stage overruns its limit by 500 ms and the boot fails. -/
def execBootStageTimeout (s : State) : Host.Outcome State Fault Refusal := .next (after bootStageTimeout s)

/-- AVS_STEP (R449): Every 10 µs the AVS code moves by at most 1 towards its target. -/
def execAvsStep (s : State) : Host.Outcome State Fault Refusal := .next (after avsStep s)

/-- TEMP_SAMPLE (R456): Every 1 ms the sensors are sampled and the thermal states updated. -/
def execTempSample (readings : List Int) (s : State) : Host.Outcome State Fault Refusal := .next (after (tempSample readings) s)

/-- SHUTDOWN_TIMEOUT (R458): 20 ms after PWR_SHUTDOWN the device enters reset. -/
def execShutdownTimeout (s : State) : Host.Outcome State Fault Refusal := .next (after shutdownTimeout s)

/-- HARD_STOP (R459): The analogue comparator at 158 °C stops all clocks and asserts PWR_FAULT_N. -/
def execHardStop (s : State) : Host.Outcome State Fault Refusal := .next (after hardStop s)

/-- LOCKSTEP_MISMATCH (R461): The active control pair fails on a lockstep mismatch. -/
def execLockstepMismatch (s : State) : Host.Outcome State Fault Refusal := .next (after lockstepMismatch s)

/-- CHECKPOINT_MISSED (R461): A pair that takes no checkpoint for 100 µs fails. -/
def execCheckpointMissed (s : State) : Host.Outcome State Fault Refusal := .next (after checkpointMissed s)

/-- CHECKPOINT (R461): The active pair takes a checkpoint at an apply instant or at most every 50 µs. -/
def execCheckpoint (s : State) : Host.Outcome State Fault Refusal := .next (after checkpoint s)

/-- PAIR_TAKEOVER (R461): The standby pair resumes from the last checkpoint. -/
def execPairTakeover (s : State) : Host.Outcome State Fault Refusal := .next (after pairTakeover s)

/-- PWR_STATUS_GET (R463): Returns power and thermal status and counters. -/
def execPwrStatusGet (c : Call) (s : State) : Host.Outcome State Fault Refusal := command cmdPwrStatusGet c s

/-- PWR_THERMAL_SET (R463): Writes thermal dwell, protect and minimum level. -/
def execPwrThermalSet (c : Call) (s : State) : Host.Outcome State Fault Refusal := command cmdPwrThermalSet c s

/-- PWR_FAULT_LOG_GET (R463): Returns fault log entries. -/
def execPwrFaultLogGet (c : Call) (s : State) : Host.Outcome State Fault Refusal := command cmdPwrFaultLogGet c s

/-- PWR_POWER_DOWN (R458): Starts an orderly shutdown at a frame. -/
def execPwrPowerDown (c : Call) (s : State) : Host.Outcome State Fault Refusal := command cmdPwrPowerDown c s

/-- PWR_COUNTERS_CLEAR (R463): Clears selected power counters. -/
def execPwrCountersClear (c : Call) (s : State) : Host.Outcome State Fault Refusal := command cmdPwrCountersClear c s

/-- PWR_CTRL_CNT_CLEAR (R465): PWR_CTRL.CNT_CLEAR clears every power counter. -/
def execPwrCtrlCntClear (s : State) : Host.Outcome State Fault Refusal := .next (after pwrCtrlCntClear s)

end Sys2Proof.Machine
end

