-- ==== Sys2Proof/Machine/Raster.lean ====
section
/-!
DEFINITION. Meanings of the rows of 02_raster_time.md, one definition per row: what the row does, then what follows from it in the
same instant.
-/

namespace Sys2Proof.Machine

/-- RASTER_POSITION_REACHED (R41): The raster reaches a position at which periods, commits or other actions are due, and everything due there takes effect in the fixed order. -/
def execRasterPositionReached (line phase : Nat) (s : State) : Host.Outcome State Fault Refusal :=
  .next (after (rasterPositionReached line phase) s)

/-- SYNC_WINDOW_OPEN (R24): The window of the next expected reference line sync opens and the previous sync is classed in window, outlier or missing. -/
def execSyncWindowOpen (inside elsewhere : Bool) (s : State) : Host.Outcome State Fault Refusal :=
  .next (after (syncWindowOpen inside elsewhere) s)

/-- GENLOCK_CALIBRATE (R23): In each reference vertical blanking interval the shell measures levels, recalibrates the slicer and publishes its measurements. -/
def execGenlockCalibrate (m : GenlockMeasure) (s : State) : Host.Outcome State Fault Refusal :=
  .next (after (genlockCalibrate m) s)

/-- REF_FRAME_SYNC (R37): A reference frame sync arrives and is stamped in Device Clock. -/
def execRefFrameSync (line phase : Nat) (s : State) : Host.Outcome State Fault Refusal :=
  .next (after (refFrameSyncAt line phase) s)

/-- REEVAL_DONE (R25): Re-evaluation ends its measurement and enters LOCKED, relock or holdover. -/
def execReevalDone (m : Reeval) (s : State) : Host.Outcome State Fault Refusal := .next (after (reevalDone m) s)

/-- HOLDOVER_FALLBACK (R29): After HOLD_FRAMES frames of holdover the raster changes to the fallback source. -/
def execHoldoverFallback (s : State) : Host.Outcome State Fault Refusal := .next (after holdoverFallback s)

/-- UPSTREAM_TIME_MISSING (R33): Three expected TIME flits fail to arrive and the raster enters holdover. -/
def execUpstreamTimeMissing (s : State) : Host.Outcome State Fault Refusal := .next (after upstreamTimeMissing s)

/-- LTC_CODEWORD (R45): An LTC codeword is received and used for jam or continuous correction, or rejected and counted. -/
def execLtcCodeword (good : Bool) (tc : Timecode) (user : Word) (s : State) : Host.Outcome State Fault Refusal :=
  .next (after (ltcCodeword good tc user) s)

/-- TC_DAILY_JAM (R45): At TC_DAILY_JAM seconds after local midnight the PTP timecode is re-derived. -/
def execTcDailyJam (s : State) : Host.Outcome State Fault Refusal := .next (after tcDailyJam s)

/-- RAS_CONFIG_SET (R48): Writes or holds the raster rate and line counts for group 0. -/
def execRasConfigSet (c : Call) (s : State) : Host.Outcome State Fault Refusal := command cmdRasConfigSet c s

/-- RAS_CONFIG_GET (R48): Returns the raster configuration in force and in shadow. -/
def execRasConfigGet (c : Call) (s : State) : Host.Outcome State Fault Refusal := command cmdRasConfigGet c s

/-- RAS_SOURCE_SET (R48): Selects primary and fallback raster sources, holdover length, relock mode and GEN_RATIO. -/
def execRasSourceSet (c : Call) (s : State) : Host.Outcome State Fault Refusal := command cmdRasSourceSet c s

/-- RAS_STATUS_GET (R48): Returns raster state, source, phase error, line period and counters. -/
def execRasStatusGet (c : Call) (s : State) : Host.Outcome State Fault Refusal := command cmdRasStatusGet c s

/-- RAS_FRAME_PRESET (R34): Sets the number that a chosen future frame start takes. -/
def execRasFramePreset (c : Call) (s : State) : Host.Outcome State Fault Refusal := command cmdRasFramePreset c s

/-- RAS_CLOCK_SET (R36): Sets the Device Clock at the next frame start when PTP has not set it. -/
def execRasClockSet (c : Call) (s : State) : Host.Outcome State Fault Refusal := command cmdRasClockSet c s

/-- RAS_COUNTERS_CLEAR (R48): Clears the selected RAS counters. -/
def execRasCountersClear (c : Call) (s : State) : Host.Outcome State Fault Refusal := command cmdRasCountersClear c s

/-- TT_PERIOD_SET (R38): Writes a Timetable period's shadow. -/
def execTtPeriodSet (c : Call) (s : State) : Host.Outcome State Fault Refusal := command cmdTtPeriodSet c s

/-- TT_PERIOD_GET (R48): Returns a period's fields in force and the frame it last fired. -/
def execTtPeriodGet (c : Call) (s : State) : Host.Outcome State Fault Refusal := command cmdTtPeriodGet c s

/-- TT_PERIOD_CLEAR (R48): Resets the shadows of the listed periods. -/
def execTtPeriodClear (c : Call) (s : State) : Host.Outcome State Fault Refusal := command cmdTtPeriodClear c s

/-- TC_CONFIG_SET (R44): Writes the timecode and LTC configuration for group 0. -/
def execTcConfigSet (c : Call) (s : State) : Host.Outcome State Fault Refusal := command cmdTcConfigSet c s

/-- TC_PRESET (R45): Presets the free-running timecode at a named frame. -/
def execTcPreset (c : Call) (s : State) : Host.Outcome State Fault Refusal := command cmdTcPreset c s

/-- TC_GET (R48): Returns the current timecode, sub-frame index and user bits. -/
def execTcGet (c : Call) (s : State) : Host.Outcome State Fault Refusal := command cmdTcGet c s

/-- SOURCE_RETURN (R29): The genlock reference's syncs return while the raster is in holdover, and re-evaluation starts. -/
def execSourceReturn (s : State) : Host.Outcome State Fault Refusal := .next (after sourceReturn s)

end Sys2Proof.Machine
end

