-- ==== Sys2Proof/Machine/Record.lean ====
section
/-!
DEFINITION. Meanings of the rows of 12_recording_and_storage.md, one definition per row: what the row does, then what follows from it in the
same instant.
-/

namespace Sys2Proof.Machine

/-- NVME_COMPLETION (R311): An NVMe completion arrives and the write is done, retried or the drive fails. -/
def execNvmeCompletion (drive cid status : Nat) (s : State) : Host.Outcome State Fault Refusal :=
  .next (after (nvmeCompletion drive cid status) s)

/-- NVME_COMMAND_TIMEOUT (R311): A command without completion after CMD_TIMEOUT is aborted and resubmitted. -/
def execNvmeCommandTimeout (drive cid : Nat) (s : State) : Host.Outcome State Fault Refusal :=
  .next (after (nvmeCommandTimeout drive cid) s)

/-- PCIE_LINK_DOWN (R304): A root port link goes down and its drive fails. -/
def execPcieLinkDown (drive : Nat) (s : State) : Host.Outcome State Fault Refusal := .next (after (pcieLinkDown drive) s)

/-- JOURNAL_INTERVAL (R310): JOURNAL_INTERVAL after its last record a partly written extent is journalled. -/
def execJournalInterval (clip ordinal : Nat) (s : State) : Host.Outcome State Fault Refusal :=
  .next (after (journalInterval clip ordinal) s)

/-- REC_VOLUME_FORMAT (R318): Formats a Breka Clip Volume. -/
def execRecVolumeFormat (c : Call) (s : State) : Host.Outcome State Fault Refusal := command cmdRecVolumeFormat c s

/-- REC_VOLUME_MOUNT (R310): Mounts a volume and recovers open clips. -/
def execRecVolumeMount (c : Call) (s : State) : Host.Outcome State Fault Refusal := command cmdRecVolumeMount c s

/-- REC_VOLUME_UNMOUNT (R318): Unmounts the volume. -/
def execRecVolumeUnmount (c : Call) (s : State) : Host.Outcome State Fault Refusal := command cmdRecVolumeUnmount c s

/-- REC_VOLUME_INFO (R318): Returns volume information. -/
def execRecVolumeInfo (c : Call) (s : State) : Host.Outcome State Fault Refusal := command cmdRecVolumeInfo c s

/-- REC_SESSION_SET (R313): Writes a recording session's fields. -/
def execRecSessionSet (c : Call) (s : State) : Host.Outcome State Fault Refusal := command cmdRecSessionSet c s

/-- REC_START (R315): Starts a recording session at frame F. -/
def execRecStart (c : Call) (s : State) : Host.Outcome State Fault Refusal := command cmdRecStart c s

/-- REC_STOP (R315): Stops a recording session at frame S. -/
def execRecStop (c : Call) (s : State) : Host.Outcome State Fault Refusal := command cmdRecStop c s

/-- REC_METADATA_ADD (R318): Queues host metadata items. -/
def execRecMetadataAdd (c : Call) (s : State) : Host.Outcome State Fault Refusal := command cmdRecMetadataAdd c s

/-- REC_CLIP_LIST (R318): Lists clips. -/
def execRecClipList (c : Call) (s : State) : Host.Outcome State Fault Refusal := command cmdRecClipList c s

/-- REC_CLIP_READ (R318): Copies clip bytes into a buffer. -/
def execRecClipRead (c : Call) (s : State) : Host.Outcome State Fault Refusal := command cmdRecClipRead c s

/-- REC_DRIVE_INFO (R318): Returns a drive's identity, SMART log and status. -/
def execRecDriveInfo (c : Call) (s : State) : Host.Outcome State Fault Refusal := command cmdRecDriveInfo c s

/-- REC_STATUS_GET (R318): Returns recording status and counters. -/
def execRecStatusGet (c : Call) (s : State) : Host.Outcome State Fault Refusal := command cmdRecStatusGet c s

/-- REC_COUNTERS_CLEAR (R318): Clears selected recording counters. -/
def execRecCountersClear (c : Call) (s : State) : Host.Outcome State Fault Refusal := command cmdRecCountersClear c s

/-- REC_CTRL_CNT_CLEAR (R320): REC_CTRL.CNT_CLEAR clears every recording counter. -/
def execRecCtrlCntClear (s : State) : Host.Outcome State Fault Refusal := .next (after recCtrlCntClear s)

/-- PCIE_LINK_UP (R304): A root port link trains and its NVMe drive is set up under R305 and becomes ready. -/
def execPcieLinkUp (drive : Nat) (info : DriveInfo) (s : State) : Host.Outcome State Fault Refusal :=
  .next (after (pcieLinkUp drive info) s)

end Sys2Proof.Machine
end

