-- ==== Sys2Proof/Machine/Sec.lean ====
section
/-!
DEFINITION. Meanings of the rows of 19_trust_and_identity.md, one definition per row: what the row does, then what follows from it in the
same instant.
-/

namespace Sys2Proof.Machine

/-- NVM_RECORD_DURABLE (R438): The index record is durable and signing with index i begins. -/
def execNvmRecordDurable (s : State) : Host.Outcome State Fault Refusal := .next (after nvmRecordDurable s)

/-- SIGNATURE_COMPLETE (R438): An identity signature completes and leaves in the reply. -/
def execSignatureComplete (s : State) : Host.Outcome State Fault Refusal := .next (after signatureLeaves s)

/-- SIGNING_TOKEN_RETURN (R437): Each 675 s powered up one signing token returns. -/
def execSigningTokenReturn (s : State) : Host.Outcome State Fault Refusal := .next (after signingTokenReturn s)

/-- FLASH_WRITE_DONE (R436): An image slot is written, read back and checked. -/
def execFlashWriteDone (s : State) : Host.Outcome State Fault Refusal := .next (after flashReplied s)

/-- SEC_INFO_GET (R444): Returns security state and digests. -/
def execSecInfoGet (c : Call) (s : State) : Host.Outcome State Fault Refusal := command cmdSecInfoGet c s

/-- SEC_CERT_GET (R439): Returns the device certificate. -/
def execSecCertGet (c : Call) (s : State) : Host.Outcome State Fault Refusal := command cmdSecCertGet c s

/-- SEC_KEY_STATUS (R444): Returns identity key index and budget. -/
def execSecKeyStatus (c : Call) (s : State) : Host.Outcome State Fault Refusal := command cmdSecKeyStatus c s

/-- SEC_ATTEST (R441): Produces a signed attestation report. -/
def execSecAttest (c : Call) (s : State) : Host.Outcome State Fault Refusal := command cmdSecAttest c s

/-- SEC_IMAGE_INSTALL (R436): Installs a firmware image into a slot. -/
def execSecImageInstall (c : Call) (s : State) : Host.Outcome State Fault Refusal := command cmdSecImageInstall c s

/-- SEC_BOOT_SLOT_SET (R436): Names the slot to boot first. -/
def execSecBootSlotSet (c : Call) (s : State) : Host.Outcome State Fault Refusal := command cmdSecBootSlotSet c s

/-- SEC_ROLLBACK_ADVANCE (R435): Raises the rollback counter. -/
def execSecRollbackAdvance (c : Call) (s : State) : Host.Outcome State Fault Refusal := command cmdSecRollbackAdvance c s

/-- SEC_DEBUG_CHALLENGE (R442): Returns a fresh debug challenge. -/
def execSecDebugChallenge (c : Call) (s : State) : Host.Outcome State Fault Refusal := command cmdSecDebugChallenge c s

/-- SEC_DEBUG_UNLOCK (R442): Opens debug scopes with a signed token. -/
def execSecDebugUnlock (c : Call) (s : State) : Host.Outcome State Fault Refusal := command cmdSecDebugUnlock c s

/-- SEC_COUNTERS_CLEAR (R444): Clears selected security counters. -/
def execSecCountersClear (c : Call) (s : State) : Host.Outcome State Fault Refusal := command cmdSecCountersClear c s

/-- SEC_CTRL_CNT_CLEAR (R446): SEC_CTRL.CNT_CLEAR clears every security counter. -/
def execSecCtrlCntClear (s : State) : Host.Outcome State Fault Refusal := .next (after secCtrlCntClear s)

end Sys2Proof.Machine
end

