-- ==== Sys2Proof/Machine/Sheaf.lean ====
section
/-!
DEFINITION. Meanings of the rows of 08_sheaf_encoding.md, one definition per row: what the row does, then what follows from it in the
same instant.
-/

namespace Sys2Proof.Machine

/-- CORE_PICTURE_START (R216): A core starts its next planned picture whose slot is READY, or sheds it as LATE. -/
def execCorePictureStart (core : Nat) (late : Bool) (s : State) : Host.Outcome State Fault Refusal :=
  .next (after (corePictureStart core late) s)

/-- CORE_PICTURE_DONE (R195): A core completes a picture or tile and the AU is published. -/
def execCorePictureDone (core : Nat) (s : State) : Host.Outcome State Fault Refusal := .next (after (corePictureDone core) s)

/-- CORE_FAULT (R217): A core check failure abandons the picture as a FAULT repeat. -/
def execCoreFault (core : Nat) (s : State) : Host.Outcome State Fault Refusal := .next (after (coreFault core) s)

/-- MOTION_FIELD_COMPLETE (R212): The motion field of a developed frame is complete. -/
def execMotionFieldComplete (ctx : Nat) (s : State) : Host.Outcome State Fault Refusal :=
  .next (after (motionFieldComplete ctx) s)

/-- SHF_CONTEXT_SET (R225): Writes a context's fields. -/
def execShfContextSet (c : Call) (s : State) : Host.Outcome State Fault Refusal := command cmdShfContextSet c s

/-- SHF_CONTEXT_GET (R225): Returns a context's fields, format and planned core. -/
def execShfContextGet (c : Call) (s : State) : Host.Outcome State Fault Refusal := command cmdShfContextGet c s

/-- SHF_CONTEXT_START (R201): Starts a context. -/
def execShfContextStart (c : Call) (s : State) : Host.Outcome State Fault Refusal := command cmdShfContextStart c s

/-- SHF_CONTEXT_STOP (R201): Stops a context after the frame in progress. -/
def execShfContextStop (c : Call) (s : State) : Host.Outcome State Fault Refusal := command cmdShfContextStop c s

/-- SHF_POOL_SET (R209): Defines the reference pool size classes. -/
def execShfPoolSet (c : Call) (s : State) : Host.Outcome State Fault Refusal := command cmdShfPoolSet c s

/-- SHF_MOTION_SET (R225): Sets a Mill context's motion field buffer. -/
def execShfMotionSet (c : Call) (s : State) : Host.Outcome State Fault Refusal := command cmdShfMotionSet c s

/-- SHF_LADDER_SET (R207): Writes the ladder period and anchor. -/
def execShfLadderSet (c : Call) (s : State) : Host.Outcome State Fault Refusal := command cmdShfLadderSet c s

/-- SHF_IRAP_REQUEST (R206): Forces an IRAP at a named frame. -/
def execShfIrapRequest (c : Call) (s : State) : Host.Outcome State Fault Refusal := command cmdShfIrapRequest c s

/-- SHF_STATUS_GET (R225): Returns Sheaf status, load, counters and pool counts. -/
def execShfStatusGet (c : Call) (s : State) : Host.Outcome State Fault Refusal := command cmdShfStatusGet c s

/-- SHF_COUNTERS_CLEAR (R225): Clears selected Sheaf counters. -/
def execShfCountersClear (c : Call) (s : State) : Host.Outcome State Fault Refusal := command cmdShfCountersClear c s

/-- SHF_CTRL_CNT_CLEAR (R227): SHF_CTRL.CNT_CLEAR clears every Sheaf counter. -/
def execShfCtrlCntClear (s : State) : Host.Outcome State Fault Refusal := .next (after shfCtrlCntClear s)

end Sys2Proof.Machine
end

