-- ==== Sys2Proof/Machine/System.lean ====
section
/-!
DEFINITION. Meanings of the rows of 03_control_model.md, one definition per row: what the row does, then what follows from it in the
same instant.
-/

namespace Sys2Proof.Machine

/-- WIDE_SEL_WRITE (R59): A write to a block's wide window selector clears VALID and starts capture of the selected value. -/
def execWideSelWrite (b : Blk) (v : Word) (s : State) : Host.Outcome State Fault Refusal := .next (after (wideSelWrite b v) s)

/-- WIDE_VALUE_VALID (R59): The selected wide value is in the data words and VALID sets. -/
def execWideValueValid (b : Blk) (s : State) : Host.Outcome State Fault Refusal := .next (after (wideValueValid b) s)

/-- CP_READ (R53): Control Port READ instruction reads words from the address onward. -/
def execCpRead (addr : Word) (count : Nat) (s : State) : Host.Outcome State Fault Refusal := .next (after (cpRead addr count) s)

/-- CP_WRITE (R53): Control Port WRITE instruction writes words from the address onward, discarding a partial final word. -/
def execCpWrite (addr : Word) (data : List Word) (cut : Bool) (s : State) : Host.Outcome State Fault Refusal :=
  .next (after (cpWrite addr data cut) s)

/-- CP_STATUS (R53): Control Port STATUS instruction returns the status byte. -/
def execCpStatus (s : State) : Host.Outcome State Fault Refusal := .next (after cpStatus s)

/-- QUAD_ON (R53): Switches later Control Port transactions to four lines. -/
def execQuadOn (s : State) : Host.Outcome State Fault Refusal := .next (after (cpQuad true) s)

/-- QUAD_OFF (R53): Switches later Control Port transactions to one line. -/
def execQuadOff (s : State) : Host.Outcome State Fault Refusal := .next (after (cpQuad false) s)

/-- CP_UNKNOWN_INSTRUCTION (R53): An unknown instruction makes the port ignore the transaction and count CP_ERR. -/
def execCpUnknownInstruction (s : State) : Host.Outcome State Fault Refusal := .next (after State.cpError s)

/-- REGISTER_WRITE (R56): A write to a register with no behaviour of its own updates its writable fields. -/
def execRegisterWrite (p : Path) (addr : Word) (v : Word) (s : State) : Host.Outcome State Fault Refusal :=
  .next (after (registerWrite p addr v) s)

/-- AO_WRITE_APPLY (R58): At the next always-on clock edge the merged pending word of an AO register is applied. -/
def execAoWriteApply (s : State) : Host.Outcome State Fault Refusal := .next (after aoWriteApply s)

/-- MBX_IN_DOORBELL (R62): A doorbell write hands a fill of the in-slot to Oluhenu, binding the mailbox, or is ignored under R63. -/
def execMbxInDoorbell (p : Path) (n : Nat) (v : Word) (s : State) : Host.Outcome State Fault Refusal :=
  .next (after (State.doorbell p n v) s)

/-- FILL_TAKEN (R62): Oluhenu has taken an in-slot fill, IN_EMPTY sets and a complete message is executed. -/
def execFillTaken (n : Nat) (s : State) : Host.Outcome State Fault Refusal := .next (after (State.fillTaken commandTable n) s)

/-- MBX_OUT_ACK (R62): The host releases the out-slot fill and OUT_FULL clears. -/
def execMbxOutAck (p : Path) (n : Nat) (s : State) : Host.Outcome State Fault Refusal := .next (after (State.outAck p n) s)

/-- SESSION_RESET (R62): Unbinds the mailbox, discards partial messages and notices, clears the subscription and returns the session to unnegotiated. -/
def execSessionReset (p : Path) (n : Nat) (s : State) : Host.Outcome State Fault Refusal :=
  .next (after (State.sessionResetBy p n) s)

/-- OUT_FILL_PLACED (R71): Oluhenu places the next reply or notice fill in the out-slot and OUT_FULL sets. -/
def execOutFillPlaced (n : Nat) (s : State) : Host.Outcome State Fault Refusal := .next (after (State.placeFill n) s)

/-- HELLO (R72): Negotiates the mailbox session version. -/
def execHello (c : Call) (s : State) : Host.Outcome State Fault Refusal := command cmdHello c s

/-- SYS_INFO_GET (R74): Returns identity, firmware version, serial and supported versions. -/
def execSysInfoGet (c : Call) (s : State) : Host.Outcome State Fault Refusal := command cmdSysInfoGet c s

/-- SYS_NOTICE_SUBSCRIBE (R74): Sets the mailbox's notice subscription mask. -/
def execSysNoticeSubscribe (c : Call) (s : State) : Host.Outcome State Fault Refusal := command cmdSysNoticeSubscribe c s

/-- SYS_GROUP_BIND (R74): Binds a unit's FRAME fields to a commit group. -/
def execSysGroupBind (c : Call) (s : State) : Host.Outcome State Fault Refusal := command cmdSysGroupBind c s

/-- SYS_GROUP_STATUS (R74): Returns a group's COMMIT_SEQ, last commit frame, pending state and units. -/
def execSysGroupStatus (c : Call) (s : State) : Host.Outcome State Fault Refusal := command cmdSysGroupStatus c s

/-- SYS_COMMIT (R78): Schedules a commit of a group at a frame start and returns its commit number. -/
def execSysCommit (c : Call) (s : State) : Host.Outcome State Fault Refusal := command cmdSysCommit c s

/-- SYS_RESET (R74): Resets the mailbox session after its reply is acknowledged, or the whole device 1 ms later. -/
def execSysReset (c : Call) (s : State) : Host.Outcome State Fault Refusal := command cmdSysReset c s

/-- SYS_ECHO (R74): Returns its data unchanged. -/
def execSysEcho (c : Call) (s : State) : Host.Outcome State Fault Refusal := command cmdSysEcho c s

/-- MSIX_MASK_CLEAR (R54): The host clears an MSI-X function or vector mask and a pending vector is sent. -/
def execMsixMaskClear (vector : Option Nat) (s : State) : Host.Outcome State Fault Refusal :=
  .next (after (msixMaskClear vector) s)

end Sys2Proof.Machine
end

