-- ==== Sys2Proof/Machine/Tree.lean ====
section
/-!
DEFINITION. Meanings of the rows of 17_tabsout_trees.md, one definition per row: what the row does, then what follows from it in the
same instant.
-/

namespace Sys2Proof.Machine

/-- SEQUENCED_FLIT_RECEIVED (R397): A sequenced flit is accepted in order and routed, or discarded with a NAK. -/
def execSequencedFlitReceived (port : Nat) (flit : List Byte) (s : State) : Host.Outcome State Fault Refusal :=
  .next (after (sequencedFlitReceived port flit) s)

/-- NAK_RECEIVED (R397): A NAK makes the transmitter replay unacknowledged flits. -/
def execNakReceived (port ack : Nat) (s : State) : Host.Outcome State Fault Refusal := .next (after (nakReceived port ack) s)

/-- REPLAY_TIMEOUT (R397): After 4 µs without ACK progress unacknowledged flits are replayed. -/
def execReplayTimeout (port : Nat) (s : State) : Host.Outcome State Fault Refusal := .next (after (replayTimeout port) s)

/-- ACK_FLIT_TIMER (R397): A LINK flit carries the ACK within 1 µs of an acceptance. -/
def execAckFlitTimer (port : Nat) (s : State) : Host.Outcome State Fault Refusal := .next (after (ackFlitTimer port) s)

/-- IDLE_FLIT_TIMER (R398): After 8 µs without a flit an IDLE flit is sent. -/
def execIdleFlitTimer (port : Nat) (s : State) : Host.Outcome State Fault Refusal := .next (after (idleFlitTimer port) s)

/-- LINK_DOWN_TIMEOUT (R399): 70 µs without an accepted flit, or 8 fruitless replays, take the link down. -/
def execLinkDownTimeout (port : Nat) (s : State) : Host.Outcome State Fault Refusal := .next (after (linkDownTimeout port) s)

/-- EXCHANGE_FLIT_TIMER (R394): Every 10 µs in EXCHANGE a LINK EXCHANGE flit is sent. -/
def execExchangeFlitTimer (port : Nat) (s : State) : Host.Outcome State Fault Refusal := .next (after (exchangeFlitTimer port) s)

/-- EXCHANGE_FLIT_RECEIVED (R394): The partner's EXCHANGE flit settles the link version or fails the exchange. -/
def execExchangeFlitReceived (port : Nat) (x : ExchangeInfo) (s : State) : Host.Outcome State Fault Refusal :=
  .next (after (exchangeFlitReceived port x) s)

/-- TIME_FLIT_RECEIVED (R406): A member steers its raster to the upstream position and answers with an ECHO. -/
def execTimeFlitReceived (port : Nat) (t : TimeFlit) (s : State) : Host.Outcome State Fault Refusal :=
  .next (after (timeFlitTaken port t) s)

/-- ECHO_RECEIVED (R405): An ECHO gives the upstream device the link delay D. -/
def execEchoReceived (port : Nat) (t1 t2 t3 t4 : Int) (s : State) : Host.Outcome State Fault Refusal :=
  .next (after (echoReceived port t1 t2 t3 t4) s)

/-- EVENT_FLIT_RECEIVED (R409): A tree event flit is re-raised and forwarded. -/
def execEventFlitReceived (port : Nat) (e : TreeEvent) (s : State) : Host.Outcome State Fault Refusal :=
  .next (after (eventFlitReceived port e) s)

/-- CALL_RECEIVED (R402): A CALL sets the upstream port and is passed on, or blocks the port or closes the ring. -/
def execCallReceived (port : Nat) (s : State) : Host.Outcome State Fault Refusal := .next (after (callReceived port) s)

/-- COUNT_RECEIVED (R402): A child's COUNT is taken into the subtree size. -/
def execCountReceived (port count : Nat) (s : State) : Host.Outcome State Fault Refusal :=
  .next (after (fun s => rollCallReplied (countReceived port count s)) s)

/-- COUNT_TIMEOUT (R402): 10 ms after its CALL a device sends COUNT without missing children. -/
def execCountTimeout (s : State) : Host.Outcome State Fault Refusal := .next (after (fun s => rollCallReplied (countTimeout s)) s)

/-- ASSIGN_RECEIVED (R402): ASSIGN gives the identifier, ranges and tree fields and selects the upstream raster. -/
def execAssignReceived (port : Nat) (a : AssignInfo) (s : State) : Host.Outcome State Fault Refusal :=
  .next (after (assignReceived port a) s)

/-- REPORT_RECEIVED (R402): The head checks a member's REPORT and settles Roll Call. -/
def execReportReceived (r : NodeReport) (s : State) : Host.Outcome State Fault Refusal :=
  .next (after (fun s => rollCallReplied (reportReceived r s)) s)

/-- TBL_ANNOUNCE_RECEIVED (R403): The head receives an ANNOUNCE and runs Roll Call towards it. -/
def execTblAnnounceReceived (port : Nat) (serial : Nat) (s : State) : Host.Outcome State Fault Refusal :=
  .next (after (fun s => rollCallReplied (tblAnnounceReceived port serial s)) s)

/-- TBL_ANNOUNCE_TIMER (R403): A late-joining or quarantined member sends ANNOUNCE every second. -/
def execTblAnnounceTimer (s : State) : Host.Outcome State Fault Refusal := .next (after tblAnnounceTimer s)

/-- STATE_REPORT_RECEIVED (R414): The head checks a STATE report for epoch, offset and RUN_MAP disagreement. -/
def execStateReportReceived (node : Nat) (epoch : Word) (offset : Int) (runMap : BitVec 128) (s : State) : Host.Outcome State Fault Refusal :=
  .next (after (stateReportReceived node epoch offset runMap) s)

/-- RESYNC_RECEIVED (R414): A member starts and stops units to match the head's record. -/
def execResyncReceived (runMap : BitVec 128) (s : State) : Host.Outcome State Fault Refusal :=
  .next (after (resyncReceived runMap) s)

/-- BUNDLE_RECEIVED (R411): A member executes a configuration bundle and acknowledges or reports failure. -/
def execBundleReceived (bytes : List Byte) (epoch : Word) (s : State) : Host.Outcome State Fault Refusal :=
  .next (after (bundleReceived bytes epoch) s)

/-- EPOCH_ACK_RECEIVED (R411): The head records a member's epoch acknowledgement. -/
def execEpochAckReceived (node : Nat) (epoch : Word) (failed : Option (Nat × Nat)) (s : State) : Host.Outcome State Fault Refusal :=
  .next (after (epochAcked node epoch failed) s)

/-- PUSH_TIMEOUT (R411): A member that has not acknowledged within PUSH_TIMEOUT is treated as disagreeing. -/
def execPushTimeout (s : State) : Host.Outcome State Fault Refusal := .next (after pushTimeout s)

/-- EPOCH_REPUSH_TIMER (R412): Each second the head re-pushes its bundle to an epoch-quarantined member. -/
def execEpochRepushTimer (node : Nat) (s : State) : Host.Outcome State Fault Refusal := .next (after (epochRepushTimer node) s)

/-- HEAL_RECEIVED (R410): A HEAL flit reverses a member's ports or completes the ring heal at the head. -/
def execHealReceived (port origin : Nat) (s : State) : Host.Outcome State Fault Refusal :=
  .next (after (healReceived port origin) s)

/-- CONTROL_MESSAGE_FLIT (R404): CONTROL flits carry a mailbox fill to a member's upstream mailbox. -/
def execControlMessageFlit (port offset : Nat) (bytes : List Byte) (last : Bool) (s : State) : Host.Outcome State Fault Refusal :=
  .next (after (controlMessageFlit port offset bytes last) s)

/-- TBL_PORT_SET (R415): Writes a Tabsout port's lane fields and delay asymmetry. -/
def execTblPortSet (c : Call) (s : State) : Host.Outcome State Fault Refusal := command cmdTblPortSet c s

/-- TBL_TREE_SET (R415): Writes the tree fields. -/
def execTblTreeSet (c : Call) (s : State) : Host.Outcome State Fault Refusal := command cmdTblTreeSet c s

/-- TBL_ROLL_CALL (R402): Runs Roll Call from the head. -/
def execTblRollCall (c : Call) (s : State) : Host.Outcome State Fault Refusal := command cmdTblRollCall c s

/-- TBL_NODE_LIST (R415): Returns the node list. -/
def execTblNodeList (c : Call) (s : State) : Host.Outcome State Fault Refusal := command cmdTblNodeList c s

/-- TBL_CONFIG_PUSH (R411): Pushes a configuration bundle with an epoch. -/
def execTblConfigPush (c : Call) (s : State) : Host.Outcome State Fault Refusal := command cmdTblConfigPush c s

/-- TBL_FORWARD (R415): Forwards a message to a member's mailbox. -/
def execTblForward (c : Call) (s : State) : Host.Outcome State Fault Refusal := command cmdTblForward c s

/-- TBL_STATE_SET (R414): Sets the head's RUN_MAP record for a member. -/
def execTblStateSet (c : Call) (s : State) : Host.Outcome State Fault Refusal := command cmdTblStateSet c s

/-- TBL_STATUS_GET (R415): Returns tree status and counters. -/
def execTblStatusGet (c : Call) (s : State) : Host.Outcome State Fault Refusal := command cmdTblStatusGet c s

/-- TBL_COUNTERS_CLEAR (R415): Clears selected tree counters. -/
def execTblCountersClear (c : Call) (s : State) : Host.Outcome State Fault Refusal := command cmdTblCountersClear c s

/-- TBL_CTRL_CNT_CLEAR (R417): TBL_CTRL.CNT_CLEAR clears every tree counter. -/
def execTblCtrlCntClear (s : State) : Host.Outcome State Fault Refusal := .next (after tblCtrlCntClear s)

/-- LINK_ACK_RECEIVED (R397): A LINK or TIME flit carrying ACK_WORD is received and frees acknowledged flits from the transmitter's replay window. -/
def execLinkAckReceived (port ack : Nat) (s : State) : Host.Outcome State Fault Refusal :=
  .next (after (linkAckReceived port ack) s)

/-- FORWARD_REPLY_RECEIVED (R404): The head receives a member's reply envelope in CONTROL flits and returns it as the result of TBL_FORWARD. -/
def execForwardReplyReceived (node : Nat) (message : List Byte) (s : State) : Host.Outcome State Fault Refusal :=
  .next (after (forwardReplyReceived node message) s)

/-- NODE_TIMEOUT (R415): A TBL_FORWARD without a member reply for 100 ms is answered with NODE_TIMEOUT. -/
def execNodeTimeout (node : Nat) (s : State) : Host.Outcome State Fault Refusal := .next (after (nodeTimeout node) s)

end Sys2Proof.Machine
end

