-- ==== Sys2Proof/Machine/Dispatch.lean ====
section
/-!
DEFINITION. Which meaning each command has: one arm per constructor of Instr, in the table's order.
-/

namespace Sys2Proof.Machine

/-- DESIGN CHOICE, unsafe (log entry 60): latencies, bandwidths and the other ends' rules are outside the model. -/
def exec (i : Instr) (s : State) : Host.Outcome State Fault Refusal :=
  match i with
  | .rasterPositionReached line phase => Sys2Proof.Machine.execRasterPositionReached line phase s
  | .syncWindowOpen inside elsewhere => Sys2Proof.Machine.execSyncWindowOpen inside elsewhere s
  | .genlockCalibrate m => Sys2Proof.Machine.execGenlockCalibrate m s
  | .refFrameSync line phase => Sys2Proof.Machine.execRefFrameSync line phase s
  | .reevalDone m => Sys2Proof.Machine.execReevalDone m s
  | .holdoverFallback => Sys2Proof.Machine.execHoldoverFallback s
  | .upstreamTimeMissing => Sys2Proof.Machine.execUpstreamTimeMissing s
  | .ltcCodeword good tc user => Sys2Proof.Machine.execLtcCodeword good tc user s
  | .tcDailyJam => Sys2Proof.Machine.execTcDailyJam s
  | .rasConfigSet c => Sys2Proof.Machine.execRasConfigSet c s
  | .rasConfigGet c => Sys2Proof.Machine.execRasConfigGet c s
  | .rasSourceSet c => Sys2Proof.Machine.execRasSourceSet c s
  | .rasStatusGet c => Sys2Proof.Machine.execRasStatusGet c s
  | .rasFramePreset c => Sys2Proof.Machine.execRasFramePreset c s
  | .rasClockSet c => Sys2Proof.Machine.execRasClockSet c s
  | .rasCountersClear c => Sys2Proof.Machine.execRasCountersClear c s
  | .ttPeriodSet c => Sys2Proof.Machine.execTtPeriodSet c s
  | .ttPeriodGet c => Sys2Proof.Machine.execTtPeriodGet c s
  | .ttPeriodClear c => Sys2Proof.Machine.execTtPeriodClear c s
  | .tcConfigSet c => Sys2Proof.Machine.execTcConfigSet c s
  | .tcPreset c => Sys2Proof.Machine.execTcPreset c s
  | .tcGet c => Sys2Proof.Machine.execTcGet c s
  | .wideSelWrite b v => Sys2Proof.Machine.execWideSelWrite b v s
  | .wideValueValid b => Sys2Proof.Machine.execWideValueValid b s
  | .cpRead addr count => Sys2Proof.Machine.execCpRead addr count s
  | .cpWrite addr data cut => Sys2Proof.Machine.execCpWrite addr data cut s
  | .cpStatus => Sys2Proof.Machine.execCpStatus s
  | .quadOn => Sys2Proof.Machine.execQuadOn s
  | .quadOff => Sys2Proof.Machine.execQuadOff s
  | .cpUnknownInstruction => Sys2Proof.Machine.execCpUnknownInstruction s
  | .registerWrite p addr v => Sys2Proof.Machine.execRegisterWrite p addr v s
  | .aoWriteApply => Sys2Proof.Machine.execAoWriteApply s
  | .mbxInDoorbell p n v => Sys2Proof.Machine.execMbxInDoorbell p n v s
  | .fillTaken n => Sys2Proof.Machine.execFillTaken n s
  | .mbxOutAck p n => Sys2Proof.Machine.execMbxOutAck p n s
  | .sessionReset p n => Sys2Proof.Machine.execSessionReset p n s
  | .outFillPlaced n => Sys2Proof.Machine.execOutFillPlaced n s
  | .hello c => Sys2Proof.Machine.execHello c s
  | .sysInfoGet c => Sys2Proof.Machine.execSysInfoGet c s
  | .sysNoticeSubscribe c => Sys2Proof.Machine.execSysNoticeSubscribe c s
  | .sysGroupBind c => Sys2Proof.Machine.execSysGroupBind c s
  | .sysGroupStatus c => Sys2Proof.Machine.execSysGroupStatus c s
  | .sysCommit c => Sys2Proof.Machine.execSysCommit c s
  | .sysReset c => Sys2Proof.Machine.execSysReset c s
  | .sysEcho c => Sys2Proof.Machine.execSysEcho c s
  | .commandReset => Sys2Proof.Machine.execCommandReset s
  | .laneDetectRetry lane => Sys2Proof.Machine.execLaneDetectRetry lane s
  | .receiverDetected lane => Sys2Proof.Machine.execReceiverDetected lane s
  | .trainingSetReceived lane symbols => Sys2Proof.Machine.execTrainingSetReceived lane symbols s
  | .tapRequestTimeout lane => Sys2Proof.Machine.execTapRequestTimeout lane s
  | .eqMeasureDone lane openPoints => Sys2Proof.Machine.execEqMeasureDone lane openPoints s
  | .prbsRunDone lane errors => Sys2Proof.Machine.execPrbsRunDone lane errors s
  | .symbolLockAcquired lane skew => Sys2Proof.Machine.execSymbolLockAcquired lane skew s
  | .laneStateTimeout lane => Sys2Proof.Machine.execLaneStateTimeout lane s
  | .failedLaneRetrain lane => Sys2Proof.Machine.execFailedLaneRetrain lane s
  | .laneFault lane lockLost violations => Sys2Proof.Machine.execLaneFault lane lockLost violations s
  | .fastRetrainDone lane locked openPoints => Sys2Proof.Machine.execFastRetrainDone lane locked openPoints s
  | .k284Received port => Sys2Proof.Machine.execK284Received port s
  | .fullRetrain lane => Sys2Proof.Machine.execFullRetrain lane s
  | .fastRetrain lane => Sys2Proof.Machine.execFastRetrain lane s
  | .laneCtrlCntClear lane => Sys2Proof.Machine.execLaneCtrlCntClear lane s
  | .sensorFrameStart port frameLo => Sys2Proof.Machine.execSensorFrameStart port frameLo s
  | .linePacketReceived port bytes laneGood framed => Sys2Proof.Machine.execLinePacketReceived port bytes laneGood framed s
  | .sensorFrameEnd port => Sys2Proof.Machine.execSensorFrameEnd port s
  | .frameStall port => Sys2Proof.Machine.execFrameStall port s
  | .resendDeadline port row exposure => Sys2Proof.Machine.execResendDeadline port row exposure s
  | .rowConceal port row exposure => Sys2Proof.Machine.execRowConceal port row exposure s
  | .sidebandPoll port => Sys2Proof.Machine.execSidebandPoll port s
  | .sidebandTimeout port => Sys2Proof.Machine.execSidebandTimeout port s
  | .capReply port h cap => Sys2Proof.Machine.execCapReply port h cap s
  | .configAck port h code => Sys2Proof.Machine.execConfigAck port h code s
  | .tapReport port h entries => Sys2Proof.Machine.execTapReport port h entries s
  | .prbsAck port h code => Sys2Proof.Machine.execPrbsAck port h code s
  | .burstAck port h => Sys2Proof.Machine.execBurstAck port h s
  | .mapAck port h => Sys2Proof.Machine.execMapAck port h s
  | .resendAck port h code => Sys2Proof.Machine.execResendAck port h code s
  | .regAck port h code => Sys2Proof.Machine.execRegAck port h code s
  | .regData port h code data => Sys2Proof.Machine.execRegData port h code data s
  | .sbEmpty port h => Sys2Proof.Machine.execSbEmpty port h s
  | .alert port h code data => Sys2Proof.Machine.execAlert port h code data s
  | .loopAck port h => Sys2Proof.Machine.execLoopAck port h s
  | .replayFrameStart => Sys2Proof.Machine.execReplayFrameStart s
  | .millGrant => Sys2Proof.Machine.execMillGrant s
  | .inxCtrlCntClear port => Sys2Proof.Machine.execInxCtrlCntClear port s
  | .intakePortSet c => Sys2Proof.Machine.execIntakePortSet c s
  | .intakePortGet c => Sys2Proof.Machine.execIntakePortGet c s
  | .intakeLineariseSet c => Sys2Proof.Machine.execIntakeLineariseSet c s
  | .intakeMergeSet c => Sys2Proof.Machine.execIntakeMergeSet c s
  | .intakeDefectSet c => Sys2Proof.Machine.execIntakeDefectSet c s
  | .intakeTapSet c => Sys2Proof.Machine.execIntakeTapSet c s
  | .intakeStart c => Sys2Proof.Machine.execIntakeStart c s
  | .intakeStop c => Sys2Proof.Machine.execIntakeStop c s
  | .intakeSensorWrite c => Sys2Proof.Machine.execIntakeSensorWrite c s
  | .intakeSensorRead c => Sys2Proof.Machine.execIntakeSensorRead c s
  | .intakeStatusGet c => Sys2Proof.Machine.execIntakeStatusGet c s
  | .intakeCountersClear c => Sys2Proof.Machine.execIntakeCountersClear c s
  | .replaySet c => Sys2Proof.Machine.execReplaySet c s
  | .replayStatusGet c => Sys2Proof.Machine.execReplayStatusGet c s
  | .statsRecordComplete ctx => Sys2Proof.Machine.execStatsRecordComplete ctx s
  | .millNoiseSet c => Sys2Proof.Machine.execMillNoiseSet c s
  | .millSnrSet c => Sys2Proof.Machine.execMillSnrSet c s
  | .millTnrSet c => Sys2Proof.Machine.execMillTnrSet c s
  | .millTnrReset c => Sys2Proof.Machine.execMillTnrReset c s
  | .millWbSet c => Sys2Proof.Machine.execMillWbSet c s
  | .millReconSet c => Sys2Proof.Machine.execMillReconSet c s
  | .millMatrixSet c => Sys2Proof.Machine.execMillMatrixSet c s
  | .millStatsSet c => Sys2Proof.Machine.execMillStatsSet c s
  | .millConfigGet c => Sys2Proof.Machine.execMillConfigGet c s
  | .millStatusGet c => Sys2Proof.Machine.execMillStatusGet c s
  | .millCountersClear c => Sys2Proof.Machine.execMillCountersClear c s
  | .milCtrlCntClear ctx => Sys2Proof.Machine.execMilCtrlCntClear ctx s
  | .rendSlotReady rend => Sys2Proof.Machine.execRendSlotReady rend s
  | .lookTablesLoaded look => Sys2Proof.Machine.execLookTablesLoaded look s
  | .lookSet c => Sys2Proof.Machine.execLookSet c s
  | .lookTablesLoad c => Sys2Proof.Machine.execLookTablesLoad c s
  | .lookGet c => Sys2Proof.Machine.execLookGet c s
  | .rendSet c => Sys2Proof.Machine.execRendSet c s
  | .rendFilterSet c => Sys2Proof.Machine.execRendFilterSet c s
  | .rendStart c => Sys2Proof.Machine.execRendStart c s
  | .rendStop c => Sys2Proof.Machine.execRendStop c s
  | .rendGet c => Sys2Proof.Machine.execRendGet c s
  | .rendSlotRelease c => Sys2Proof.Machine.execRendSlotRelease c s
  | .rendCapture c => Sys2Proof.Machine.execRendCapture c s
  | .lksStatusGet c => Sys2Proof.Machine.execLksStatusGet c s
  | .lksCountersClear c => Sys2Proof.Machine.execLksCountersClear c s
  | .lksCtrlCntClear => Sys2Proof.Machine.execLksCtrlCntClear s
  | .corePictureStart core late => Sys2Proof.Machine.execCorePictureStart core late s
  | .corePictureDone core => Sys2Proof.Machine.execCorePictureDone core s
  | .coreFault core => Sys2Proof.Machine.execCoreFault core s
  | .motionFieldComplete ctx => Sys2Proof.Machine.execMotionFieldComplete ctx s
  | .shfContextSet c => Sys2Proof.Machine.execShfContextSet c s
  | .shfContextGet c => Sys2Proof.Machine.execShfContextGet c s
  | .shfContextStart c => Sys2Proof.Machine.execShfContextStart c s
  | .shfContextStop c => Sys2Proof.Machine.execShfContextStop c s
  | .shfPoolSet c => Sys2Proof.Machine.execShfPoolSet c s
  | .shfMotionSet c => Sys2Proof.Machine.execShfMotionSet c s
  | .shfLadderSet c => Sys2Proof.Machine.execShfLadderSet c s
  | .shfIrapRequest c => Sys2Proof.Machine.execShfIrapRequest c s
  | .shfStatusGet c => Sys2Proof.Machine.execShfStatusGet c s
  | .shfCountersClear c => Sys2Proof.Machine.execShfCountersClear c s
  | .shfCtrlCntClear => Sys2Proof.Machine.execShfCtrlCntClear s
  | .decPictureStart => Sys2Proof.Machine.execDecPictureStart s
  | .decPictureDone => Sys2Proof.Machine.execDecPictureDone s
  | .decCoreFault => Sys2Proof.Machine.execDecCoreFault s
  | .decContextSet c => Sys2Proof.Machine.execDecContextSet c s
  | .decContextGet c => Sys2Proof.Machine.execDecContextGet c s
  | .decStart c => Sys2Proof.Machine.execDecStart c s
  | .decStop c => Sys2Proof.Machine.execDecStop c s
  | .decFeed c => Sys2Proof.Machine.execDecFeed c s
  | .decSlotRelease c => Sys2Proof.Machine.execDecSlotRelease c s
  | .decStatusGet c => Sys2Proof.Machine.execDecStatusGet c s
  | .decCountersClear c => Sys2Proof.Machine.execDecCountersClear c s
  | .decCtrlCntClear => Sys2Proof.Machine.execDecCtrlCntClear s
  | .cmpTapFrameWhole session => Sys2Proof.Machine.execCmpTapFrameWhole session s
  | .cmpJobStart => Sys2Proof.Machine.execCmpJobStart s
  | .cmpJobDone engine => Sys2Proof.Machine.execCmpJobDone engine s
  | .engineCheckFailure engine => Sys2Proof.Machine.execEngineCheckFailure engine s
  | .replayDecompStart => Sys2Proof.Machine.execReplayDecompStart s
  | .decompJobDone engine => Sys2Proof.Machine.execDecompJobDone engine s
  | .cmpSessionSet c => Sys2Proof.Machine.execCmpSessionSet c s
  | .cmpSessionStart c => Sys2Proof.Machine.execCmpSessionStart c s
  | .cmpSessionStop c => Sys2Proof.Machine.execCmpSessionStop c s
  | .cmpKeyRequest c => Sys2Proof.Machine.execCmpKeyRequest c s
  | .cmpSessionGet c => Sys2Proof.Machine.execCmpSessionGet c s
  | .cmpVerify c => Sys2Proof.Machine.execCmpVerify c s
  | .cmpStatusGet c => Sys2Proof.Machine.execCmpStatusGet c s
  | .cmpCountersClear c => Sys2Proof.Machine.execCmpCountersClear c s
  | .cmpCtrlCntClear session => Sys2Proof.Machine.execCmpCtrlCntClear session s
  | .cmpCtrlCntClearD => Sys2Proof.Machine.execCmpCtrlCntClearD s
  | .memoryClearDone h => Sys2Proof.Machine.execMemoryClearDone h s
  | .migrationCopyStart => Sys2Proof.Machine.execMigrationCopyStart s
  | .migrationCopyDone => Sys2Proof.Machine.execMigrationCopyDone s
  | .migrationRelease => Sys2Proof.Machine.execMigrationRelease s
  | .blockCheckFail h block rereadPasses => Sys2Proof.Machine.execBlockCheckFail h block rereadPasses s
  | .mr4Poll bands => Sys2Proof.Machine.execMr4Poll bands s
  | .refreshInterval channel rank => Sys2Proof.Machine.execRefreshInterval channel rank s
  | .trainingDue channel => Sys2Proof.Machine.execTrainingDue channel s
  | .forcedRetrain channel => Sys2Proof.Machine.execForcedRetrain channel s
  | .rankPowerDown channel rank => Sys2Proof.Machine.execRankPowerDown channel rank s
  | .apertureAccess offset write length => Sys2Proof.Machine.execApertureAccess offset write length s
  | .grnAlloc c => Sys2Proof.Machine.execGrnAlloc c s
  | .grnFree c => Sys2Proof.Machine.execGrnFree c s
  | .grnInfo c => Sys2Proof.Machine.execGrnInfo c s
  | .grnPin c => Sys2Proof.Machine.execGrnPin c s
  | .grnRead c => Sys2Proof.Machine.execGrnRead c s
  | .grnWrite c => Sys2Proof.Machine.execGrnWrite c s
  | .grnApertureMap c => Sys2Proof.Machine.execGrnApertureMap c s
  | .grnRingAttach c => Sys2Proof.Machine.execGrnRingAttach c s
  | .grnRingDetach c => Sys2Proof.Machine.execGrnRingDetach c s
  | .grnRingRelease c => Sys2Proof.Machine.execGrnRingRelease c s
  | .grnRingStatus c => Sys2Proof.Machine.execGrnRingStatus c s
  | .grnRingPublish c => Sys2Proof.Machine.execGrnRingPublish c s
  | .grnDramSet c => Sys2Proof.Machine.execGrnDramSet c s
  | .grnStatusGet c => Sys2Proof.Machine.execGrnStatusGet c s
  | .grnCountersClear c => Sys2Proof.Machine.execGrnCountersClear c s
  | .grnCtrlCntClear => Sys2Proof.Machine.execGrnCtrlCntClear s
  | .nvmeCompletion drive cid status => Sys2Proof.Machine.execNvmeCompletion drive cid status s
  | .nvmeCommandTimeout drive cid => Sys2Proof.Machine.execNvmeCommandTimeout drive cid s
  | .pcieLinkDown drive => Sys2Proof.Machine.execPcieLinkDown drive s
  | .journalInterval clip ordinal => Sys2Proof.Machine.execJournalInterval clip ordinal s
  | .recVolumeFormat c => Sys2Proof.Machine.execRecVolumeFormat c s
  | .recVolumeMount c => Sys2Proof.Machine.execRecVolumeMount c s
  | .recVolumeUnmount c => Sys2Proof.Machine.execRecVolumeUnmount c s
  | .recVolumeInfo c => Sys2Proof.Machine.execRecVolumeInfo c s
  | .recSessionSet c => Sys2Proof.Machine.execRecSessionSet c s
  | .recStart c => Sys2Proof.Machine.execRecStart c s
  | .recStop c => Sys2Proof.Machine.execRecStop c s
  | .recMetadataAdd c => Sys2Proof.Machine.execRecMetadataAdd c s
  | .recClipList c => Sys2Proof.Machine.execRecClipList c s
  | .recClipRead c => Sys2Proof.Machine.execRecClipRead c s
  | .recDriveInfo c => Sys2Proof.Machine.execRecDriveInfo c s
  | .recStatusGet c => Sys2Proof.Machine.execRecStatusGet c s
  | .recCountersClear c => Sys2Proof.Machine.execRecCountersClear c s
  | .recCtrlCntClear => Sys2Proof.Machine.execRecCtrlCntClear s
  | .controlFillDatagram d => Sys2Proof.Machine.execControlFillDatagram d s
  | .controlAckDatagram d => Sys2Proof.Machine.execControlAckDatagram d s
  | .controlResetDatagram d => Sys2Proof.Machine.execControlResetDatagram d s
  | .controlResendTimer mailbox => Sys2Proof.Machine.execControlResendTimer mailbox s
  | .controlBindTimeout mailbox => Sys2Proof.Machine.execControlBindTimeout mailbox s
  | .arpPacket port p => Sys2Proof.Machine.execArpPacket port p s
  | .arpRefresh port ip => Sys2Proof.Machine.execArpRefresh port ip s
  | .icmpEchoRequest port src dst data => Sys2Proof.Machine.execIcmpEchoRequest port src dst data s
  | .ethLinkChange port up => Sys2Proof.Machine.execEthLinkChange port up s
  | .syncReceived port m => Sys2Proof.Machine.execSyncReceived port m s
  | .followUpReceived port m => Sys2Proof.Machine.execFollowUpReceived port m s
  | .delayRespReceived port m => Sys2Proof.Machine.execDelayRespReceived port m s
  | .announceReceived port m => Sys2Proof.Machine.execAnnounceReceived port m s
  | .announceReceiptTimeout => Sys2Proof.Machine.execAnnounceReceiptTimeout s
  | .delayReqTimer => Sys2Proof.Machine.execDelayReqTimer s
  | .syncTxTimer => Sys2Proof.Machine.execSyncTxTimer s
  | .announceTxTimer => Sys2Proof.Machine.execAnnounceTxTimer s
  | .rtpPacketSend stream => Sys2Proof.Machine.execRtpPacketSend stream s
  | .rtpAuLate stream => Sys2Proof.Machine.execRtpAuLate stream s
  | .rtcpSenderReport stream => Sys2Proof.Machine.execRtcpSenderReport stream s
  | .rtcpReceived port => Sys2Proof.Machine.execRtcpReceived port s
  | .netPortSet c => Sys2Proof.Machine.execNetPortSet c s
  | .netPortGet c => Sys2Proof.Machine.execNetPortGet c s
  | .netControlSet c => Sys2Proof.Machine.execNetControlSet c s
  | .ptpConfigSet c => Sys2Proof.Machine.execPtpConfigSet c s
  | .ptpStatusGet c => Sys2Proof.Machine.execPtpStatusGet c s
  | .ptpRestep c => Sys2Proof.Machine.execPtpRestep c s
  | .rtpStreamSet c => Sys2Proof.Machine.execRtpStreamSet c s
  | .rtpStart c => Sys2Proof.Machine.execRtpStart c s
  | .rtpStop c => Sys2Proof.Machine.execRtpStop c s
  | .netStatusGet c => Sys2Proof.Machine.execNetStatusGet c s
  | .netCountersClear c => Sys2Proof.Machine.execNetCountersClear c s
  | .netCtrlCntClear => Sys2Proof.Machine.execNetCtrlCntClear s
  | .flip => Sys2Proof.Machine.execFlip s
  | .monOutputFrameEnd => Sys2Proof.Machine.execMonOutputFrameEnd s
  | .monSet c => Sys2Proof.Machine.execMonSet c s
  | .monStart c => Sys2Proof.Machine.execMonStart c s
  | .monStop c => Sys2Proof.Machine.execMonStop c s
  | .monOverlaySet c => Sys2Proof.Machine.execMonOverlaySet c s
  | .monCheckSet c => Sys2Proof.Machine.execMonCheckSet c s
  | .monStatusGet c => Sys2Proof.Machine.execMonStatusGet c s
  | .monCountersClear c => Sys2Proof.Machine.execMonCountersClear c s
  | .monCtrlCntClear => Sys2Proof.Machine.execMonCtrlCntClear s
  | .audioBlockComplete capture samples => Sys2Proof.Machine.execAudioBlockComplete capture samples s
  | .maskApply capture samples => Sys2Proof.Machine.execMaskApply capture samples s
  | .slipApply port index => Sys2Proof.Machine.execSlipApply port index s
  | .slipForced port index => Sys2Proof.Machine.execSlipForced port index s
  | .gatedChangeApply g => Sys2Proof.Machine.execGatedChangeApply g s
  | .gateTimeout g => Sys2Proof.Machine.execGateTimeout g s
  | .audioLockLoss port => Sys2Proof.Machine.execAudioLockLoss port s
  | .audioRelock port => Sys2Proof.Machine.execAudioRelock port s
  | .csBlockReceived port status parityErrors => Sys2Proof.Machine.execCsBlockReceived port status parityErrors s
  | .playoutBlockPlay port => Sys2Proof.Machine.execPlayoutBlockPlay port s
  | .audPortSet c => Sys2Proof.Machine.execAudPortSet c s
  | .audPortGet c => Sys2Proof.Machine.execAudPortGet c s
  | .audCaptureSet c => Sys2Proof.Machine.execAudCaptureSet c s
  | .audCaptureStart c => Sys2Proof.Machine.execAudCaptureStart c s
  | .audCaptureStop c => Sys2Proof.Machine.execAudCaptureStop c s
  | .audMaskSet c => Sys2Proof.Machine.execAudMaskSet c s
  | .audGainSet c => Sys2Proof.Machine.execAudGainSet c s
  | .audOutputStart c => Sys2Proof.Machine.execAudOutputStart c s
  | .audOutputStop c => Sys2Proof.Machine.execAudOutputStop c s
  | .audStatusGet c => Sys2Proof.Machine.execAudStatusGet c s
  | .audCountersClear c => Sys2Proof.Machine.execAudCountersClear c s
  | .audCtrlCntClear => Sys2Proof.Machine.execAudCtrlCntClear s
  | .eventRaise source => Sys2Proof.Machine.execEventRaise source s
  | .gpioPulseEnd pin => Sys2Proof.Machine.execGpioPulseEnd pin s
  | .bellInEdge => Sys2Proof.Machine.execBellInEdge s
  | .bellFlitReceived port f => Sys2Proof.Machine.execBellFlitReceived port f s
  | .evtModeSet c => Sys2Proof.Machine.execEvtModeSet c s
  | .evtRouteSet c => Sys2Proof.Machine.execEvtRouteSet c s
  | .evtRouteGet c => Sys2Proof.Machine.execEvtRouteGet c s
  | .evtChannelSet c => Sys2Proof.Machine.execEvtChannelSet c s
  | .evtSubscribeSet c => Sys2Proof.Machine.execEvtSubscribeSet c s
  | .evtGroupSet c => Sys2Proof.Machine.execEvtGroupSet c s
  | .evtOwnerSet c => Sys2Proof.Machine.execEvtOwnerSet c s
  | .evtRaise c => Sys2Proof.Machine.execEvtRaise c s
  | .evtLogSet c => Sys2Proof.Machine.execEvtLogSet c s
  | .bellConfigSet c => Sys2Proof.Machine.execBellConfigSet c s
  | .bellRing c => Sys2Proof.Machine.execBellRing c s
  | .evtStatusGet c => Sys2Proof.Machine.execEvtStatusGet c s
  | .evtCountersClear c => Sys2Proof.Machine.execEvtCountersClear c s
  | .evtCtrlRing => Sys2Proof.Machine.execEvtCtrlRing s
  | .evtCtrlCntClear => Sys2Proof.Machine.execEvtCtrlCntClear s
  | .evtSwRaise mask => Sys2Proof.Machine.execEvtSwRaise mask s
  | .sequencedFlitReceived port flit => Sys2Proof.Machine.execSequencedFlitReceived port flit s
  | .nakReceived port ack => Sys2Proof.Machine.execNakReceived port ack s
  | .replayTimeout port => Sys2Proof.Machine.execReplayTimeout port s
  | .ackFlitTimer port => Sys2Proof.Machine.execAckFlitTimer port s
  | .idleFlitTimer port => Sys2Proof.Machine.execIdleFlitTimer port s
  | .linkDownTimeout port => Sys2Proof.Machine.execLinkDownTimeout port s
  | .exchangeFlitTimer port => Sys2Proof.Machine.execExchangeFlitTimer port s
  | .exchangeFlitReceived port x => Sys2Proof.Machine.execExchangeFlitReceived port x s
  | .timeFlitReceived port t => Sys2Proof.Machine.execTimeFlitReceived port t s
  | .echoReceived port t1 t2 t3 t4 => Sys2Proof.Machine.execEchoReceived port t1 t2 t3 t4 s
  | .eventFlitReceived port e => Sys2Proof.Machine.execEventFlitReceived port e s
  | .callReceived port => Sys2Proof.Machine.execCallReceived port s
  | .countReceived port count => Sys2Proof.Machine.execCountReceived port count s
  | .countTimeout => Sys2Proof.Machine.execCountTimeout s
  | .assignReceived port a => Sys2Proof.Machine.execAssignReceived port a s
  | .reportReceived r => Sys2Proof.Machine.execReportReceived r s
  | .tblAnnounceReceived port serial => Sys2Proof.Machine.execTblAnnounceReceived port serial s
  | .tblAnnounceTimer => Sys2Proof.Machine.execTblAnnounceTimer s
  | .stateReportReceived node epoch offset runMap => Sys2Proof.Machine.execStateReportReceived node epoch offset runMap s
  | .resyncReceived runMap => Sys2Proof.Machine.execResyncReceived runMap s
  | .bundleReceived bytes epoch => Sys2Proof.Machine.execBundleReceived bytes epoch s
  | .epochAckReceived node epoch failed => Sys2Proof.Machine.execEpochAckReceived node epoch failed s
  | .pushTimeout => Sys2Proof.Machine.execPushTimeout s
  | .epochRepushTimer node => Sys2Proof.Machine.execEpochRepushTimer node s
  | .healReceived port origin => Sys2Proof.Machine.execHealReceived port origin s
  | .controlMessageFlit port offset bytes last => Sys2Proof.Machine.execControlMessageFlit port offset bytes last s
  | .tblPortSet c => Sys2Proof.Machine.execTblPortSet c s
  | .tblTreeSet c => Sys2Proof.Machine.execTblTreeSet c s
  | .tblRollCall c => Sys2Proof.Machine.execTblRollCall c s
  | .tblNodeList c => Sys2Proof.Machine.execTblNodeList c s
  | .tblConfigPush c => Sys2Proof.Machine.execTblConfigPush c s
  | .tblForward c => Sys2Proof.Machine.execTblForward c s
  | .tblStateSet c => Sys2Proof.Machine.execTblStateSet c s
  | .tblStatusGet c => Sys2Proof.Machine.execTblStatusGet c s
  | .tblCountersClear c => Sys2Proof.Machine.execTblCountersClear c s
  | .tblCtrlCntClear => Sys2Proof.Machine.execTblCtrlCntClear s
  | .i2cXferStart c sdaStuck freedByClear => Sys2Proof.Machine.execI2cXferStart c sdaStuck freedByClear s
  | .i2cXferDone c r => Sys2Proof.Machine.execI2cXferDone c r s
  | .i2cSclTimeout c => Sys2Proof.Machine.execI2cSclTimeout c s
  | .i2cArbRetry c => Sys2Proof.Machine.execI2cArbRetry c s
  | .twiTAddressWrite target bytes => Sys2Proof.Machine.execTwiTAddressWrite target bytes s
  | .twiTRead target words => Sys2Proof.Machine.execTwiTRead target words s
  | .twiTAbort => Sys2Proof.Machine.execTwiTAbort s
  | .uartByteReceived uart b parityErr framingErr brk => Sys2Proof.Machine.execUartByteReceived uart b parityErr framingErr brk s
  | .uartIdleGap uart => Sys2Proof.Machine.execUartIdleGap uart s
  | .gpioInputEdge pin level => Sys2Proof.Machine.execGpioInputEdge pin level s
  | .gpioOutWrite high v => Sys2Proof.Machine.execGpioOutWrite high v s
  | .busI2cSet c => Sys2Proof.Machine.execBusI2cSet c s
  | .busI2cXfer c => Sys2Proof.Machine.execBusI2cXfer c s
  | .busI2cClear c => Sys2Proof.Machine.execBusI2cClear c s
  | .busTargetSet c => Sys2Proof.Machine.execBusTargetSet c s
  | .busUartSet c => Sys2Proof.Machine.execBusUartSet c s
  | .busUartSend c => Sys2Proof.Machine.execBusUartSend c s
  | .busLensSet c => Sys2Proof.Machine.execBusLensSet c s
  | .busGpioSet c => Sys2Proof.Machine.execBusGpioSet c s
  | .busStatusGet c => Sys2Proof.Machine.execBusStatusGet c s
  | .busCountersClear c => Sys2Proof.Machine.execBusCountersClear c s
  | .busCtrlCntClear => Sys2Proof.Machine.execBusCtrlCntClear s
  | .nvmRecordDurable => Sys2Proof.Machine.execNvmRecordDurable s
  | .signatureComplete => Sys2Proof.Machine.execSignatureComplete s
  | .signingTokenReturn => Sys2Proof.Machine.execSigningTokenReturn s
  | .flashWriteDone => Sys2Proof.Machine.execFlashWriteDone s
  | .secInfoGet c => Sys2Proof.Machine.execSecInfoGet c s
  | .secCertGet c => Sys2Proof.Machine.execSecCertGet c s
  | .secKeyStatus c => Sys2Proof.Machine.execSecKeyStatus c s
  | .secAttest c => Sys2Proof.Machine.execSecAttest c s
  | .secImageInstall c => Sys2Proof.Machine.execSecImageInstall c s
  | .secBootSlotSet c => Sys2Proof.Machine.execSecBootSlotSet c s
  | .secRollbackAdvance c => Sys2Proof.Machine.execSecRollbackAdvance c s
  | .secDebugChallenge c => Sys2Proof.Machine.execSecDebugChallenge c s
  | .secDebugUnlock c => Sys2Proof.Machine.execSecDebugUnlock c s
  | .secCountersClear c => Sys2Proof.Machine.execSecCountersClear c s
  | .secCtrlCntClear => Sys2Proof.Machine.execSecCtrlCntClear s
  | .powerOnReset => Sys2Proof.Machine.execPowerOnReset s
  | .vddAoBrownout => Sys2Proof.Machine.execVddAoBrownout s
  | .pwrOkLow => Sys2Proof.Machine.execPwrOkLow s
  | .resetBall => Sys2Proof.Machine.execResetBall s
  | .resetEnd straps twiAddr => Sys2Proof.Machine.execResetEnd straps twiAddr s
  | .bootRomDone refOk nvmOk => Sys2Proof.Machine.execBootRomDone refOk nvmOk s
  | .firmwareVerified => Sys2Proof.Machine.execFirmwareVerified s
  | .dramTrainingDone channels => Sys2Proof.Machine.execDramTrainingDone channels s
  | .mailboxReady => Sys2Proof.Machine.execMailboxReady s
  | .bootStageTimeout => Sys2Proof.Machine.execBootStageTimeout s
  | .avsStep => Sys2Proof.Machine.execAvsStep s
  | .tempSample readings => Sys2Proof.Machine.execTempSample readings s
  | .shutdownTimeout => Sys2Proof.Machine.execShutdownTimeout s
  | .hardStop => Sys2Proof.Machine.execHardStop s
  | .lockstepMismatch => Sys2Proof.Machine.execLockstepMismatch s
  | .checkpointMissed => Sys2Proof.Machine.execCheckpointMissed s
  | .checkpoint => Sys2Proof.Machine.execCheckpoint s
  | .pairTakeover => Sys2Proof.Machine.execPairTakeover s
  | .pwrStatusGet c => Sys2Proof.Machine.execPwrStatusGet c s
  | .pwrThermalSet c => Sys2Proof.Machine.execPwrThermalSet c s
  | .pwrFaultLogGet c => Sys2Proof.Machine.execPwrFaultLogGet c s
  | .pwrPowerDown c => Sys2Proof.Machine.execPwrPowerDown c s
  | .pwrCountersClear c => Sys2Proof.Machine.execPwrCountersClear c s
  | .pwrCtrlCntClear => Sys2Proof.Machine.execPwrCtrlCntClear s
  | .sourceReturn => Sys2Proof.Machine.execSourceReturn s
  | .delayReqReceived port src seq => Sys2Proof.Machine.execDelayReqReceived port src seq s
  | .pcieLinkUp drive info => Sys2Proof.Machine.execPcieLinkUp drive info s
  | .linkAckReceived port ack => Sys2Proof.Machine.execLinkAckReceived port ack s
  | .forwardReplyReceived node message => Sys2Proof.Machine.execForwardReplyReceived node message s
  | .nodeTimeout node => Sys2Proof.Machine.execNodeTimeout node s
  | .msixMaskClear vector => Sys2Proof.Machine.execMsixMaskClear vector s

end Sys2Proof.Machine
end

