-- ==== Sys2Proof/Safety.lean ====
section
/-!
DEFINITION. What counts as a safe run of the block, and the terms in which claims about its commands are made: what runs, what
is accepted, what a reply says, and which states are at rest.
-/

namespace Sys2Proof.Machine

/-! ## Safe runs -/

/-- One step answers a next state. -/
def State.steps (s : State) : Prop := ∃ t, step s = .next t

/-- A state from which `n` steps all answer next states. -/
def State.safeFor (n : Nat) (s : State) : Prop := ∃ t, Host.Core.run Sys2Proof.core n s = .next t

/-- Nothing is due: every event has been delivered, and no Bell of the present instant can still be joined (R374, R386). -/
def State.settled (s : State) : Bool := s.events.due.isEmpty && !s.events.bellNow

/-! ## What a command does -/

/-- Command `i` in `s` answers, with its consequences in the same instant, a state that satisfies `P`. -/
def Runs (i : Instr) (s : State) (P : State → Prop) : Prop := ∃ u, exec i s = .next (ended s.pending u) ∧ P u

/-- The mailbox command that a row names, and its call; `none` for the rows that name events. -/
def commandOf : Instr → Option (Cmd × Call)
  | .rasConfigSet c => some (cmdRasConfigSet, c)
  | .rasConfigGet c => some (cmdRasConfigGet, c)
  | .rasSourceSet c => some (cmdRasSourceSet, c)
  | .rasStatusGet c => some (cmdRasStatusGet, c)
  | .rasFramePreset c => some (cmdRasFramePreset, c)
  | .rasClockSet c => some (cmdRasClockSet, c)
  | .rasCountersClear c => some (cmdRasCountersClear, c)
  | .ttPeriodSet c => some (cmdTtPeriodSet, c)
  | .ttPeriodGet c => some (cmdTtPeriodGet, c)
  | .ttPeriodClear c => some (cmdTtPeriodClear, c)
  | .tcConfigSet c => some (cmdTcConfigSet, c)
  | .tcPreset c => some (cmdTcPreset, c)
  | .tcGet c => some (cmdTcGet, c)
  | .hello c => some (cmdHello, c)
  | .sysInfoGet c => some (cmdSysInfoGet, c)
  | .sysNoticeSubscribe c => some (cmdSysNoticeSubscribe, c)
  | .sysGroupBind c => some (cmdSysGroupBind, c)
  | .sysGroupStatus c => some (cmdSysGroupStatus, c)
  | .sysCommit c => some (cmdSysCommit, c)
  | .sysReset c => some (cmdSysReset, c)
  | .sysEcho c => some (cmdSysEcho, c)
  | .intakePortSet c => some (cmdIntakePortSet, c)
  | .intakePortGet c => some (cmdIntakePortGet, c)
  | .intakeLineariseSet c => some (cmdIntakeLineariseSet, c)
  | .intakeMergeSet c => some (cmdIntakeMergeSet, c)
  | .intakeDefectSet c => some (cmdIntakeDefectSet, c)
  | .intakeTapSet c => some (cmdIntakeTapSet, c)
  | .intakeStart c => some (cmdIntakeStart, c)
  | .intakeStop c => some (cmdIntakeStop, c)
  | .intakeSensorWrite c => some (cmdIntakeSensorWrite, c)
  | .intakeSensorRead c => some (cmdIntakeSensorRead, c)
  | .intakeStatusGet c => some (cmdIntakeStatusGet, c)
  | .intakeCountersClear c => some (cmdIntakeCountersClear, c)
  | .replaySet c => some (cmdReplaySet, c)
  | .replayStatusGet c => some (cmdReplayStatusGet, c)
  | .millNoiseSet c => some (cmdMillNoiseSet, c)
  | .millSnrSet c => some (cmdMillSnrSet, c)
  | .millTnrSet c => some (cmdMillTnrSet, c)
  | .millTnrReset c => some (cmdMillTnrReset, c)
  | .millWbSet c => some (cmdMillWbSet, c)
  | .millReconSet c => some (cmdMillReconSet, c)
  | .millMatrixSet c => some (cmdMillMatrixSet, c)
  | .millStatsSet c => some (cmdMillStatsSet, c)
  | .millConfigGet c => some (cmdMillConfigGet, c)
  | .millStatusGet c => some (cmdMillStatusGet, c)
  | .millCountersClear c => some (cmdMillCountersClear, c)
  | .lookSet c => some (cmdLookSet, c)
  | .lookTablesLoad c => some (cmdLookTablesLoad, c)
  | .lookGet c => some (cmdLookGet, c)
  | .rendSet c => some (cmdRendSet, c)
  | .rendFilterSet c => some (cmdRendFilterSet, c)
  | .rendStart c => some (cmdRendStart, c)
  | .rendStop c => some (cmdRendStop, c)
  | .rendGet c => some (cmdRendGet, c)
  | .rendSlotRelease c => some (cmdRendSlotRelease, c)
  | .rendCapture c => some (cmdRendCapture, c)
  | .lksStatusGet c => some (cmdLksStatusGet, c)
  | .lksCountersClear c => some (cmdLksCountersClear, c)
  | .shfContextSet c => some (cmdShfContextSet, c)
  | .shfContextGet c => some (cmdShfContextGet, c)
  | .shfContextStart c => some (cmdShfContextStart, c)
  | .shfContextStop c => some (cmdShfContextStop, c)
  | .shfPoolSet c => some (cmdShfPoolSet, c)
  | .shfMotionSet c => some (cmdShfMotionSet, c)
  | .shfLadderSet c => some (cmdShfLadderSet, c)
  | .shfIrapRequest c => some (cmdShfIrapRequest, c)
  | .shfStatusGet c => some (cmdShfStatusGet, c)
  | .shfCountersClear c => some (cmdShfCountersClear, c)
  | .decContextSet c => some (cmdDecContextSet, c)
  | .decContextGet c => some (cmdDecContextGet, c)
  | .decStart c => some (cmdDecStart, c)
  | .decStop c => some (cmdDecStop, c)
  | .decFeed c => some (cmdDecFeed, c)
  | .decSlotRelease c => some (cmdDecSlotRelease, c)
  | .decStatusGet c => some (cmdDecStatusGet, c)
  | .decCountersClear c => some (cmdDecCountersClear, c)
  | .cmpSessionSet c => some (cmdCmpSessionSet, c)
  | .cmpSessionStart c => some (cmdCmpSessionStart, c)
  | .cmpSessionStop c => some (cmdCmpSessionStop, c)
  | .cmpKeyRequest c => some (cmdCmpKeyRequest, c)
  | .cmpSessionGet c => some (cmdCmpSessionGet, c)
  | .cmpVerify c => some (cmdCmpVerify, c)
  | .cmpStatusGet c => some (cmdCmpStatusGet, c)
  | .cmpCountersClear c => some (cmdCmpCountersClear, c)
  | .grnAlloc c => some (cmdGrnAlloc, c)
  | .grnFree c => some (cmdGrnFree, c)
  | .grnInfo c => some (cmdGrnInfo, c)
  | .grnPin c => some (cmdGrnPin, c)
  | .grnRead c => some (cmdGrnRead, c)
  | .grnWrite c => some (cmdGrnWrite, c)
  | .grnApertureMap c => some (cmdGrnApertureMap, c)
  | .grnRingAttach c => some (cmdGrnRingAttach, c)
  | .grnRingDetach c => some (cmdGrnRingDetach, c)
  | .grnRingRelease c => some (cmdGrnRingRelease, c)
  | .grnRingStatus c => some (cmdGrnRingStatus, c)
  | .grnRingPublish c => some (cmdGrnRingPublish, c)
  | .grnDramSet c => some (cmdGrnDramSet, c)
  | .grnStatusGet c => some (cmdGrnStatusGet, c)
  | .grnCountersClear c => some (cmdGrnCountersClear, c)
  | .recVolumeFormat c => some (cmdRecVolumeFormat, c)
  | .recVolumeMount c => some (cmdRecVolumeMount, c)
  | .recVolumeUnmount c => some (cmdRecVolumeUnmount, c)
  | .recVolumeInfo c => some (cmdRecVolumeInfo, c)
  | .recSessionSet c => some (cmdRecSessionSet, c)
  | .recStart c => some (cmdRecStart, c)
  | .recStop c => some (cmdRecStop, c)
  | .recMetadataAdd c => some (cmdRecMetadataAdd, c)
  | .recClipList c => some (cmdRecClipList, c)
  | .recClipRead c => some (cmdRecClipRead, c)
  | .recDriveInfo c => some (cmdRecDriveInfo, c)
  | .recStatusGet c => some (cmdRecStatusGet, c)
  | .recCountersClear c => some (cmdRecCountersClear, c)
  | .netPortSet c => some (cmdNetPortSet, c)
  | .netPortGet c => some (cmdNetPortGet, c)
  | .netControlSet c => some (cmdNetControlSet, c)
  | .ptpConfigSet c => some (cmdPtpConfigSet, c)
  | .ptpStatusGet c => some (cmdPtpStatusGet, c)
  | .ptpRestep c => some (cmdPtpRestep, c)
  | .rtpStreamSet c => some (cmdRtpStreamSet, c)
  | .rtpStart c => some (cmdRtpStart, c)
  | .rtpStop c => some (cmdRtpStop, c)
  | .netStatusGet c => some (cmdNetStatusGet, c)
  | .netCountersClear c => some (cmdNetCountersClear, c)
  | .monSet c => some (cmdMonSet, c)
  | .monStart c => some (cmdMonStart, c)
  | .monStop c => some (cmdMonStop, c)
  | .monOverlaySet c => some (cmdMonOverlaySet, c)
  | .monCheckSet c => some (cmdMonCheckSet, c)
  | .monStatusGet c => some (cmdMonStatusGet, c)
  | .monCountersClear c => some (cmdMonCountersClear, c)
  | .audPortSet c => some (cmdAudPortSet, c)
  | .audPortGet c => some (cmdAudPortGet, c)
  | .audCaptureSet c => some (cmdAudCaptureSet, c)
  | .audCaptureStart c => some (cmdAudCaptureStart, c)
  | .audCaptureStop c => some (cmdAudCaptureStop, c)
  | .audMaskSet c => some (cmdAudMaskSet, c)
  | .audGainSet c => some (cmdAudGainSet, c)
  | .audOutputStart c => some (cmdAudOutputStart, c)
  | .audOutputStop c => some (cmdAudOutputStop, c)
  | .audStatusGet c => some (cmdAudStatusGet, c)
  | .audCountersClear c => some (cmdAudCountersClear, c)
  | .evtModeSet c => some (cmdEvtModeSet, c)
  | .evtRouteSet c => some (cmdEvtRouteSet, c)
  | .evtRouteGet c => some (cmdEvtRouteGet, c)
  | .evtChannelSet c => some (cmdEvtChannelSet, c)
  | .evtSubscribeSet c => some (cmdEvtSubscribeSet, c)
  | .evtGroupSet c => some (cmdEvtGroupSet, c)
  | .evtOwnerSet c => some (cmdEvtOwnerSet, c)
  | .evtRaise c => some (cmdEvtRaise, c)
  | .evtLogSet c => some (cmdEvtLogSet, c)
  | .bellConfigSet c => some (cmdBellConfigSet, c)
  | .bellRing c => some (cmdBellRing, c)
  | .evtStatusGet c => some (cmdEvtStatusGet, c)
  | .evtCountersClear c => some (cmdEvtCountersClear, c)
  | .tblPortSet c => some (cmdTblPortSet, c)
  | .tblTreeSet c => some (cmdTblTreeSet, c)
  | .tblRollCall c => some (cmdTblRollCall, c)
  | .tblNodeList c => some (cmdTblNodeList, c)
  | .tblConfigPush c => some (cmdTblConfigPush, c)
  | .tblForward c => some (cmdTblForward, c)
  | .tblStateSet c => some (cmdTblStateSet, c)
  | .tblStatusGet c => some (cmdTblStatusGet, c)
  | .tblCountersClear c => some (cmdTblCountersClear, c)
  | .busI2cSet c => some (cmdBusI2cSet, c)
  | .busI2cXfer c => some (cmdBusI2cXfer, c)
  | .busI2cClear c => some (cmdBusI2cClear, c)
  | .busTargetSet c => some (cmdBusTargetSet, c)
  | .busUartSet c => some (cmdBusUartSet, c)
  | .busUartSend c => some (cmdBusUartSend, c)
  | .busLensSet c => some (cmdBusLensSet, c)
  | .busGpioSet c => some (cmdBusGpioSet, c)
  | .busStatusGet c => some (cmdBusStatusGet, c)
  | .busCountersClear c => some (cmdBusCountersClear, c)
  | .secInfoGet c => some (cmdSecInfoGet, c)
  | .secCertGet c => some (cmdSecCertGet, c)
  | .secKeyStatus c => some (cmdSecKeyStatus, c)
  | .secAttest c => some (cmdSecAttest, c)
  | .secImageInstall c => some (cmdSecImageInstall, c)
  | .secBootSlotSet c => some (cmdSecBootSlotSet, c)
  | .secRollbackAdvance c => some (cmdSecRollbackAdvance, c)
  | .secDebugChallenge c => some (cmdSecDebugChallenge, c)
  | .secDebugUnlock c => some (cmdSecDebugUnlock, c)
  | .secCountersClear c => some (cmdSecCountersClear, c)
  | .pwrStatusGet c => some (cmdPwrStatusGet, c)
  | .pwrThermalSet c => some (cmdPwrThermalSet, c)
  | .pwrFaultLogGet c => some (cmdPwrFaultLogGet, c)
  | .pwrPowerDown c => some (cmdPwrPowerDown, c)
  | .pwrCountersClear c => some (cmdPwrCountersClear, c)
  | _ => none

/-- Mailbox `c.mb` runs, waits for nothing, and its session takes the opcode (R62, R64, R72, R73). -/
def State.takesCall (op : Nat) (c : Call) (s : State) : Bool :=
  s.ready && match s.control.mailboxes[c.mb]? with
    | none => false
    | some m => m.waiting.isNone && m.queue.isEmpty && (sessionRefusal op c m).isNone

/-- The call is executed at once and its items are judged well (R68): they read as `gs`. -/
def Accepts (k : Cmd) (c : Call) (gs : List Got) (s : State) : Prop :=
  s.takesCall k.op c = true ∧ judgeCall k c s = .ok gs

/-- The call is executed at once and its items are refused with `st` at position `p`, TYPE `ty` (R68). -/
def Refuses (k : Cmd) (c : Call) (st p ty : Nat) (s : State) : Prop :=
  s.takesCall k.op c = true ∧ judgeCall k c s = .error (st, p, ty)

/-- `s` after an accepted call that wrote a field, or none: CONFIG_DIGEST moves with it (R440). -/
def State.digested (k : Cmd) (c : Call) (gs : List Got) (s : State) : State :=
  if k.writes gs then s.extendDigest k.op c else s

/-- `s` with the reply OK and its result items queued (R68). -/
def State.accepted (k : Cmd) (c : Call) (gs : List Got) (items : List Item) (s : State) : State :=
  (s.digested k c gs).answer k.op c items

/-- `s` with the call executing and its reply still to come (R64). -/
def State.awaits (k : Cmd) (c : Call) (gs : List Got) (why : Await) (s : State) : State :=
  (s.digested k c gs).onMbx c.mb fun m => { m with waiting := some { op := k.op, call := c, why } }

/-- Whenever the call is accepted, command `i c` does `effect` and replies OK with `items`, and that is all it does. -/
def Does (i : Call → Instr) (k : Cmd) (items : List Got → State → List Item) (effect : List Got → State → State) : Prop :=
  ∀ c gs s, Accepts k c gs s → Runs (i c) s (· = (effect gs s).accepted k c gs (items gs s))

/-- Whenever the call is accepted, command `i c` replies with `items` and changes nothing else. -/
def Reads (i : Call → Instr) (k : Cmd) (items : List Got → State → List Item) : Prop := Does i k items fun _ s => s

/-- The newest post of mailbox `n` is the reply to the call, with this status and these items. -/
def State.replied (u : State) (op : Nat) (c : Call) (st : Nat) (items : List Item) : Prop :=
  ∃ m ps p, u.control.mailboxes[c.mb]? = some m ∧ m.posts = ps ++ [p] ∧
    p.notice = false ∧ p.op = op ∧ p.tag = c.tag ∧ p.status = st ∧ p.items = items

/-! ## States at rest -/

/-- A mailbox with no command that could start now. -/
def Mailbox.idle (m : Mailbox) : Bool := m.waiting.isSome || m.queue.isEmpty

/-- Nothing is left to do within the instant: nothing is due, no command waits for a free mailbox, no attestation and no bundle
waits for its turn, no memory holds a ring, no clip, recording or stream is open, no message waits for the tree or an Ethernet
client, the raster does not follow PTP, and no shutdown waits for clips. -/
def State.quiet (s : State) : Bool :=
  s.settled && s.control.mailboxes.all Mailbox.idle && (s.sec.attests.isEmpty || s.sec.signing.isSome) &&
    s.tree.bundles.isEmpty && s.granary.buffers.all (fun b => b.ring.isNone) &&
    s.record.volume.isNone && s.record.sessions.all (fun x => !x.running && x.stop.isNone) &&
    s.net.streams.all (fun x => !x.set) && s.net.transports.all (fun t => t.client.isNone) &&
    (List.range 4).all (fun t => (s.control.mailboxes[12 + t]?).all fun m => m.posts.isEmpty) &&
    s.raster.inUse != 4 && !s.power.awaitClips

end Sys2Proof.Machine
end

