-- ==== Sys2Proof/WellFormed.lean ====
section
/-!
DEFINITION. Which commands are well formed: the numbers they carry name parts that the block has (R55, R60, R66 and each
chapter's own counts), and a message's fields fit their width (R65, R66, R73).
-/

namespace Sys2Proof

/-- An item whose TYPE and LEN fit their two bytes (R66). -/
def Item.wf (i : Item) : Bool := decide (i.ty < 65536) && decide (i.val.length < 65536)

/-- A call through one of the 16 mailboxes whose header fields fit (R60, R65, R73). -/
def Call.wf (c : Call) : Bool :=
  decide (c.mb < 16) && decide (c.major < 256) && decide (c.minor < 256) && decide (c.tag < 65536) &&
    c.items.all Item.wf && c.cut.all fun t => decide (t < 65536)

/-- A capture channel or an output slot that the block has (R358, R362). -/
def GateTarget.wf : GateTarget → Bool
  | .captureChannel c ch => decide (c < 4) && decide (ch < 64)
  | .outputSlot p s => decide (p < 8) && decide (s < 16)

/-- A command that can reach the block. -/
def Instr.wf : Instr → Bool
  | .rasterPositionReached line phase => decide (line < 65536) && decide (phase < 256)
  | .syncWindowOpen _ _ => true
  | .genlockCalibrate _ => true
  | .refFrameSync line phase => decide (line < 65536) && decide (phase < 256)
  | .reevalDone _ => true
  | .holdoverFallback => true
  | .upstreamTimeMissing => true
  | .ltcCodeword _ tc _ => decide (tc.hours < 24) && decide (tc.minutes < 60) && decide (tc.seconds < 60)
  | .tcDailyJam => true
  | .rasConfigSet c => c.wf
  | .rasConfigGet c => c.wf
  | .rasSourceSet c => c.wf
  | .rasStatusGet c => c.wf
  | .rasFramePreset c => c.wf
  | .rasClockSet c => c.wf
  | .rasCountersClear c => c.wf
  | .ttPeriodSet c => c.wf
  | .ttPeriodGet c => c.wf
  | .ttPeriodClear c => c.wf
  | .tcConfigSet c => c.wf
  | .tcPreset c => c.wf
  | .tcGet c => c.wf
  | .wideSelWrite _ _ => true
  | .wideValueValid _ => true
  | .cpRead _ _ => true
  | .cpWrite _ _ _ => true
  | .cpStatus => true
  | .quadOn => true
  | .quadOff => true
  | .cpUnknownInstruction => true
  | .registerWrite _ _ _ => true
  | .aoWriteApply => true
  | .mbxInDoorbell _ n _ => decide (n < 8)
  | .fillTaken n => decide (n < 8)
  | .mbxOutAck _ n => decide (n < 8)
  | .sessionReset _ n => decide (n < 8)
  | .outFillPlaced n => decide (n < 8)
  | .hello c => c.wf
  | .sysInfoGet c => c.wf
  | .sysNoticeSubscribe c => c.wf
  | .sysGroupBind c => c.wf
  | .sysGroupStatus c => c.wf
  | .sysCommit c => c.wf
  | .sysReset c => c.wf
  | .sysEcho c => c.wf
  | .commandReset => true
  | .laneDetectRetry lane => decide (lane < 80)
  | .receiverDetected lane => decide (lane < 80)
  | .trainingSetReceived lane _ => decide (lane < 80)
  | .tapRequestTimeout lane => decide (lane < 80)
  | .eqMeasureDone lane _ => decide (lane < 80)
  | .prbsRunDone lane _ => decide (lane < 80)
  | .symbolLockAcquired lane _ => decide (lane < 80)
  | .laneStateTimeout lane => decide (lane < 80)
  | .failedLaneRetrain lane => decide (lane < 80)
  | .laneFault lane _ _ => decide (lane < 80)
  | .fastRetrainDone lane _ _ => decide (lane < 80)
  | .k284Received port => decide (port < 6)
  | .fullRetrain lane => decide (lane < 80)
  | .fastRetrain lane => decide (lane < 80)
  | .laneCtrlCntClear lane => decide (lane < 80)
  | .sensorFrameStart port frameLo => decide (port < 2) && decide (frameLo < 65536)
  | .linePacketReceived port _ _ _ => decide (port < 2)
  | .sensorFrameEnd port => decide (port < 2)
  | .frameStall port => decide (port < 2)
  | .resendDeadline port row exposure => decide (port < 2) && decide (row < 65536) && decide (exposure < 4)
  | .rowConceal port row exposure => decide (port < 2) && decide (row < 65536) && decide (exposure < 4)
  | .sidebandPoll port => decide (port < 2)
  | .sidebandTimeout port => decide (port < 2)
  | .capReply port h _ => decide (port < 2) && decide (h.seq < 256)
  | .configAck port h code => decide (port < 2) && decide (h.seq < 256) && decide (code < 256)
  | .tapReport port h entries => decide (port < 2) && decide (h.seq < 256) && decide (entries.length ≤ 40)
  | .prbsAck port h code => decide (port < 2) && decide (h.seq < 256) && decide (code < 256)
  | .burstAck port h => decide (port < 2) && decide (h.seq < 256)
  | .mapAck port h => decide (port < 2) && decide (h.seq < 256)
  | .resendAck port h code => decide (port < 2) && decide (h.seq < 256) && decide (code < 256)
  | .regAck port h code => decide (port < 2) && decide (h.seq < 256) && decide (code < 256)
  | .regData port h code _ => decide (port < 2) && decide (h.seq < 256) && decide (code < 256)
  | .sbEmpty port h => decide (port < 2) && decide (h.seq < 256)
  | .alert port h code _ => decide (port < 2) && decide (h.seq < 256) && decide (code < 256)
  | .loopAck port h => decide (port < 2) && decide (h.seq < 256)
  | .replayFrameStart => true
  | .millGrant => true
  | .inxCtrlCntClear port => decide (port < 3)
  | .intakePortSet c => c.wf
  | .intakePortGet c => c.wf
  | .intakeLineariseSet c => c.wf
  | .intakeMergeSet c => c.wf
  | .intakeDefectSet c => c.wf
  | .intakeTapSet c => c.wf
  | .intakeStart c => c.wf
  | .intakeStop c => c.wf
  | .intakeSensorWrite c => c.wf
  | .intakeSensorRead c => c.wf
  | .intakeStatusGet c => c.wf
  | .intakeCountersClear c => c.wf
  | .replaySet c => c.wf
  | .replayStatusGet c => c.wf
  | .statsRecordComplete ctx => decide (ctx < 3)
  | .millNoiseSet c => c.wf
  | .millSnrSet c => c.wf
  | .millTnrSet c => c.wf
  | .millTnrReset c => c.wf
  | .millWbSet c => c.wf
  | .millReconSet c => c.wf
  | .millMatrixSet c => c.wf
  | .millStatsSet c => c.wf
  | .millConfigGet c => c.wf
  | .millStatusGet c => c.wf
  | .millCountersClear c => c.wf
  | .milCtrlCntClear ctx => decide (ctx < 3)
  | .rendSlotReady rend => decide (rend < 48)
  | .lookTablesLoaded look => decide (look < 8)
  | .lookSet c => c.wf
  | .lookTablesLoad c => c.wf
  | .lookGet c => c.wf
  | .rendSet c => c.wf
  | .rendFilterSet c => c.wf
  | .rendStart c => c.wf
  | .rendStop c => c.wf
  | .rendGet c => c.wf
  | .rendSlotRelease c => c.wf
  | .rendCapture c => c.wf
  | .lksStatusGet c => c.wf
  | .lksCountersClear c => c.wf
  | .lksCtrlCntClear => true
  | .corePictureStart core _ => decide (core < 4)
  | .corePictureDone core => decide (core < 4)
  | .coreFault core => decide (core < 4)
  | .motionFieldComplete ctx => decide (ctx < 3)
  | .shfContextSet c => c.wf
  | .shfContextGet c => c.wf
  | .shfContextStart c => c.wf
  | .shfContextStop c => c.wf
  | .shfPoolSet c => c.wf
  | .shfMotionSet c => c.wf
  | .shfLadderSet c => c.wf
  | .shfIrapRequest c => c.wf
  | .shfStatusGet c => c.wf
  | .shfCountersClear c => c.wf
  | .shfCtrlCntClear => true
  | .decPictureStart => true
  | .decPictureDone => true
  | .decCoreFault => true
  | .decContextSet c => c.wf
  | .decContextGet c => c.wf
  | .decStart c => c.wf
  | .decStop c => c.wf
  | .decFeed c => c.wf
  | .decSlotRelease c => c.wf
  | .decStatusGet c => c.wf
  | .decCountersClear c => c.wf
  | .decCtrlCntClear => true
  | .cmpTapFrameWhole session => decide (session < 4)
  | .cmpJobStart => true
  | .cmpJobDone engine => decide (engine < 32)
  | .engineCheckFailure engine => decide (engine < 32)
  | .replayDecompStart => true
  | .decompJobDone engine => decide (engine < 32)
  | .cmpSessionSet c => c.wf
  | .cmpSessionStart c => c.wf
  | .cmpSessionStop c => c.wf
  | .cmpKeyRequest c => c.wf
  | .cmpSessionGet c => c.wf
  | .cmpVerify c => c.wf
  | .cmpStatusGet c => c.wf
  | .cmpCountersClear c => c.wf
  | .cmpCtrlCntClear session => decide (session < 4)
  | .cmpCtrlCntClearD => true
  | .memoryClearDone _ => true
  | .migrationCopyStart => true
  | .migrationCopyDone => true
  | .migrationRelease => true
  | .blockCheckFail _ _ _ => true
  | .mr4Poll bands => decide (bands.length ≤ 24)
  | .refreshInterval channel rank => decide (channel < 24) && decide (rank < 2)
  | .trainingDue channel => decide (channel < 24)
  | .forcedRetrain channel => decide (channel < 24)
  | .rankPowerDown channel rank => decide (channel < 24) && decide (rank < 2)
  | .apertureAccess offset _ _ => decide (offset < 2 ^ 38)
  | .grnAlloc c => c.wf
  | .grnFree c => c.wf
  | .grnInfo c => c.wf
  | .grnPin c => c.wf
  | .grnRead c => c.wf
  | .grnWrite c => c.wf
  | .grnApertureMap c => c.wf
  | .grnRingAttach c => c.wf
  | .grnRingDetach c => c.wf
  | .grnRingRelease c => c.wf
  | .grnRingStatus c => c.wf
  | .grnRingPublish c => c.wf
  | .grnDramSet c => c.wf
  | .grnStatusGet c => c.wf
  | .grnCountersClear c => c.wf
  | .grnCtrlCntClear => true
  | .nvmeCompletion drive cid status => decide (drive < 4) && decide (cid < 65536) && decide (status < 32768)
  | .nvmeCommandTimeout drive cid => decide (drive < 4) && decide (cid < 65536)
  | .pcieLinkDown drive => decide (drive < 4)
  | .journalInterval _ _ => true
  | .recVolumeFormat c => c.wf
  | .recVolumeMount c => c.wf
  | .recVolumeUnmount c => c.wf
  | .recVolumeInfo c => c.wf
  | .recSessionSet c => c.wf
  | .recStart c => c.wf
  | .recStop c => c.wf
  | .recMetadataAdd c => c.wf
  | .recClipList c => c.wf
  | .recClipRead c => c.wf
  | .recDriveInfo c => c.wf
  | .recStatusGet c => c.wf
  | .recCountersClear c => c.wf
  | .recCtrlCntClear => true
  | .controlFillDatagram d => decide (d.port < 2)
  | .controlAckDatagram d => decide (d.port < 2)
  | .controlResetDatagram d => decide (d.port < 2)
  | .controlResendTimer mailbox => decide (8 ≤ mailbox) && decide (mailbox < 12)
  | .controlBindTimeout mailbox => decide (8 ≤ mailbox) && decide (mailbox < 12)
  | .arpPacket port _ => decide (port < 2)
  | .arpRefresh port _ => decide (port < 2)
  | .icmpEchoRequest port _ _ _ => decide (port < 2)
  | .ethLinkChange port _ => decide (port < 2)
  | .syncReceived port _ => decide (port < 2)
  | .followUpReceived port _ => decide (port < 2)
  | .delayRespReceived port _ => decide (port < 2)
  | .announceReceived port _ => decide (port < 2)
  | .announceReceiptTimeout => true
  | .delayReqTimer => true
  | .syncTxTimer => true
  | .announceTxTimer => true
  | .rtpPacketSend stream => decide (stream < 16)
  | .rtpAuLate stream => decide (stream < 16)
  | .rtcpSenderReport stream => decide (stream < 16)
  | .rtcpReceived port => decide (port < 2)
  | .netPortSet c => c.wf
  | .netPortGet c => c.wf
  | .netControlSet c => c.wf
  | .ptpConfigSet c => c.wf
  | .ptpStatusGet c => c.wf
  | .ptpRestep c => c.wf
  | .rtpStreamSet c => c.wf
  | .rtpStart c => c.wf
  | .rtpStop c => c.wf
  | .netStatusGet c => c.wf
  | .netCountersClear c => c.wf
  | .netCtrlCntClear => true
  | .flip => true
  | .monOutputFrameEnd => true
  | .monSet c => c.wf
  | .monStart c => c.wf
  | .monStop c => c.wf
  | .monOverlaySet c => c.wf
  | .monCheckSet c => c.wf
  | .monStatusGet c => c.wf
  | .monCountersClear c => c.wf
  | .monCtrlCntClear => true
  | .audioBlockComplete capture _ => decide (capture < 4)
  | .maskApply capture _ => decide (capture < 4)
  | .slipApply port _ => decide (port < 8)
  | .slipForced port _ => decide (port < 8)
  | .gatedChangeApply g => g.wf
  | .gateTimeout g => g.wf
  | .audioLockLoss port => decide (port < 8)
  | .audioRelock port => decide (port < 8)
  | .csBlockReceived port status _ => decide (port < 8) && status.length == 24
  | .playoutBlockPlay port => decide (port < 8)
  | .audPortSet c => c.wf
  | .audPortGet c => c.wf
  | .audCaptureSet c => c.wf
  | .audCaptureStart c => c.wf
  | .audCaptureStop c => c.wf
  | .audMaskSet c => c.wf
  | .audGainSet c => c.wf
  | .audOutputStart c => c.wf
  | .audOutputStop c => c.wf
  | .audStatusGet c => c.wf
  | .audCountersClear c => c.wf
  | .audCtrlCntClear => true
  | .eventRaise source => decide (source < 512)
  | .gpioPulseEnd pin => decide (pin < 32)
  | .bellInEdge => true
  | .bellFlitReceived port _ => decide (port < 4)
  | .evtModeSet c => c.wf
  | .evtRouteSet c => c.wf
  | .evtRouteGet c => c.wf
  | .evtChannelSet c => c.wf
  | .evtSubscribeSet c => c.wf
  | .evtGroupSet c => c.wf
  | .evtOwnerSet c => c.wf
  | .evtRaise c => c.wf
  | .evtLogSet c => c.wf
  | .bellConfigSet c => c.wf
  | .bellRing c => c.wf
  | .evtStatusGet c => c.wf
  | .evtCountersClear c => c.wf
  | .evtCtrlRing => true
  | .evtCtrlCntClear => true
  | .evtSwRaise mask => decide (mask < 256)
  | .sequencedFlitReceived port _ => decide (port < 4)
  | .nakReceived port ack => decide (port < 4) && decide (ack < 65536)
  | .replayTimeout port => decide (port < 4)
  | .ackFlitTimer port => decide (port < 4)
  | .idleFlitTimer port => decide (port < 4)
  | .linkDownTimeout port => decide (port < 4)
  | .exchangeFlitTimer port => decide (port < 4)
  | .exchangeFlitReceived port _ => decide (port < 4)
  | .timeFlitReceived port _ => decide (port < 4)
  | .echoReceived port _ _ _ _ => decide (port < 4)
  | .eventFlitReceived port _ => decide (port < 4)
  | .callReceived port => decide (port < 4)
  | .countReceived port _ => decide (port < 4)
  | .countTimeout => true
  | .assignReceived port _ => decide (port < 4)
  | .reportReceived _ => true
  | .tblAnnounceReceived port serial => decide (port < 4) && decide (serial < 2 ^ 64)
  | .tblAnnounceTimer => true
  | .stateReportReceived node _ _ _ => decide (node < 2 ^ 18)
  | .resyncReceived _ => true
  | .bundleReceived _ _ => true
  | .epochAckReceived node _ _ => decide (node < 2 ^ 18)
  | .pushTimeout => true
  | .epochRepushTimer node => decide (node < 2 ^ 18)
  | .healReceived port origin => decide (port < 4) && decide (origin < 2 ^ 18)
  | .controlMessageFlit port offset _ _ => decide (port < 4) && decide (offset < 4096)
  | .tblPortSet c => c.wf
  | .tblTreeSet c => c.wf
  | .tblRollCall c => c.wf
  | .tblNodeList c => c.wf
  | .tblConfigPush c => c.wf
  | .tblForward c => c.wf
  | .tblStateSet c => c.wf
  | .tblStatusGet c => c.wf
  | .tblCountersClear c => c.wf
  | .tblCtrlCntClear => true
  | .i2cXferStart c _ _ => decide (c < 4)
  | .i2cXferDone c _ => decide (c < 4)
  | .i2cSclTimeout c => decide (c < 4)
  | .i2cArbRetry c => decide (c < 4)
  | .twiTAddressWrite target _ => decide (target < 128)
  | .twiTRead target _ => decide (target < 128)
  | .twiTAbort => true
  | .uartByteReceived uart _ _ _ _ => decide (uart < 2)
  | .uartIdleGap uart => decide (uart < 2)
  | .gpioInputEdge pin _ => decide (pin < 32)
  | .gpioOutWrite _ _ => true
  | .busI2cSet c => c.wf
  | .busI2cXfer c => c.wf
  | .busI2cClear c => c.wf
  | .busTargetSet c => c.wf
  | .busUartSet c => c.wf
  | .busUartSend c => c.wf
  | .busLensSet c => c.wf
  | .busGpioSet c => c.wf
  | .busStatusGet c => c.wf
  | .busCountersClear c => c.wf
  | .busCtrlCntClear => true
  | .nvmRecordDurable => true
  | .signatureComplete => true
  | .signingTokenReturn => true
  | .flashWriteDone => true
  | .secInfoGet c => c.wf
  | .secCertGet c => c.wf
  | .secKeyStatus c => c.wf
  | .secAttest c => c.wf
  | .secImageInstall c => c.wf
  | .secBootSlotSet c => c.wf
  | .secRollbackAdvance c => c.wf
  | .secDebugChallenge c => c.wf
  | .secDebugUnlock c => c.wf
  | .secCountersClear c => c.wf
  | .secCtrlCntClear => true
  | .powerOnReset => true
  | .vddAoBrownout => true
  | .pwrOkLow => true
  | .resetBall => true
  | .resetEnd straps twiAddr => decide (straps < 32) && decide (twiAddr < 8)
  | .bootRomDone _ _ => true
  | .firmwareVerified => true
  | .dramTrainingDone channels => decide (channels.length ≤ 24)
  | .mailboxReady => true
  | .bootStageTimeout => true
  | .avsStep => true
  | .tempSample readings => readings.length == 16
  | .shutdownTimeout => true
  | .hardStop => true
  | .lockstepMismatch => true
  | .checkpointMissed => true
  | .checkpoint => true
  | .pairTakeover => true
  | .pwrStatusGet c => c.wf
  | .pwrThermalSet c => c.wf
  | .pwrFaultLogGet c => c.wf
  | .pwrPowerDown c => c.wf
  | .pwrCountersClear c => c.wf
  | .pwrCtrlCntClear => true
  | .sourceReturn => true
  | .delayReqReceived port _ seq => decide (port < 2) && decide (seq < 65536)
  | .pcieLinkUp drive _ => decide (drive < 4)
  | .linkAckReceived port ack => decide (port < 4) && decide (ack < 65536)
  | .forwardReplyReceived node _ => decide (node < 2 ^ 18)
  | .nodeTimeout node => decide (node < 2 ^ 18)
  | .msixMaskClear vector => vector.all fun v => decide (v < 9)

end Sys2Proof
end

