-- ==== Sys2Proof/Certificates/Slice0/Obligations.lean ====
section
/-!
DEFINITION. The statements for the provers. `Runs`, `Does`, `Reads`, `Accepts` and the other terms are those of Safety.lean: a
command answers the consequences, within the same instant, of a state that the statement describes.
-/

open Sys2Proof Sys2Proof.Machine

/-- a step runs the command at the front of the queue: with a command c at the front of the waiting commands, the step is exec of
c on the state with the rest of the queue. The queue is the model's own (log entry 1). (R64) -/
def Obligations.StepRunsTheFrontCommand : Prop :=
  ∀ (s : State) (c : Instr) (rest : List Instr), s.pending = c :: rest → step s = exec c { s with pending := rest }

/-- with no command waiting, one 50 MHz cycle passes: on an empty queue the step answers the state one cycle of the 50.000 MHz
reference later (the model's choice, log entry 2): SYS wide value 1 (nanoseconds since power-good) gains 20; a device in
reset changes nothing else; outside reset, with RATE_ADJ 0 and no rest and when the seconds do not advance, the Device Clock
gains 20 ns, which are 1,310,720 units of 2^-16 ns, and nothing else changes. (R36, R81) -/
def Obligations.IdleStepIsOneReferenceCycle : Prop :=
  ∀ s : State, s.pending = [] →
    step s = .next (tick s) ∧
    (s.power.inReset = true →
      tick s = s.onControl fun c => { c with sincePowerGood := c.sincePowerGood + 20 }) ∧
    (s.power.inReset = false → s.net.ptp.rateAdj = 0 → s.raster.clockRest = 0 →
      (Clk.ofUnits (Clk.units s.raster.clock + 1310720)).sec = s.raster.clock.sec →
      tick s = (s.onControl fun c => { c with sincePowerGood := c.sincePowerGood + 20 }).onRaster fun r =>
        { r with clock := Clk.ofUnits (Clk.units r.clock + 1310720) })

/-- every command answers a next state and leaves the waiting commands as they were: whatever the command and whatever the state,
exec answers a next state, never a fault or a refusal, and the commands that wait behind it are unchanged: only the step
takes one off the queue (the model's convention, log entry 1). A row that names mailbox command k with call c answers the
consequences of running k on c. (R60, R64) -/
def Obligations.EveryCommandAnswersAndKeepsTheQueue : Prop :=
  (∀ (i : Instr) (s : State), ∃ t, exec i s = .next t ∧ t.pending = s.pending) ∧
  (∀ (i : Instr) (k : Cmd) (c : Call) (s : State), commandOf i = some (k, c) →
    exec i s = .next (ended s.pending (runCommand k c s)))

/-- what a power-on reset leaves: after a power-on reset STAGE is 0, SYS_RESET_CAUSE holds POWER_ON alone, SYS_FW_VERSION is 0,
CONFIG_DIGEST is 32 zero bytes, every mailbox is unnegotiated, unbound and subscribed to nothing with IN_EMPTY 1, every
commit group counts 0 and every unit but the raster's is bound to group 2, no interrupt is enabled or pending, no buffer
exists, and no event is due. (R62, R71, R72, R77, R78, R81, R440, R450) -/
def Obligations.ResetValues : Prop :=
  State.reset.control.stage = 0 ∧ State.reset.control.resetCause = 1 ∧ State.reset.control.fwVersion = 0 ∧
  State.reset.control.configDigest = List.replicate 32 0 ∧ State.reset.control.mailboxes.length = 16 ∧
  (∀ m ∈ State.reset.control.mailboxes,
    m.session = .unnegotiated ∧ m.path = none ∧ m.subs = 0 ∧ m.inEmpty = true ∧ m.outFull = false ∧ m.posts = []) ∧
  State.reset.control.groups.length = 64 ∧ (∀ g ∈ State.reset.control.groups, g.seq = 0) ∧
  (∀ u, u ≠ 0x0100 → u ≠ 0x0101 → State.reset.groupOf u = 2) ∧
  State.reset.control.irq = 0 ∧ State.reset.control.irqEnable = 0 ∧ State.reset.granary.buffers = [] ∧
  State.reset.events.due = [] ∧ State.reset.pending = []

/-- at reset nothing is due: the invariant of the statement SettledIsKept holds in the state after reset, which is moreover at
rest. (R374, R386) -/
def Obligations.SettledAtReset : Prop :=
  State.reset.settled = true ∧ State.reset.quiet = true

/-- every step leaves nothing due: all events of an instant are delivered within it: in every state where no event, notice or
Bell is due and no Bell of the present instant can still be joined, a step answers a next state of which the same holds.
Waves of re-raises therefore end within the step, by the generation limit of R382. (R374, R382, R386) -/
def Obligations.SettledIsKept : Prop :=
  ∀ s t : State, s.settled = true → step s = .next t → t.settled = true

/-- a refused command changes nothing but its own reply: for every mailbox command: when the judgement of its items refuses one,
or the command's own part refuses a relation between them, the state is as before but for one reply in the mailbox that the
call came through; the reply copies the opcode and TAG, and carries the status and ERROR_ITEM alone, with the position and
TYPE refused. (R68) -/
def Obligations.RefusedCommandChangesNothing : Prop :=
  ∀ (i : Instr) (k : Cmd) (c : Call) (s : State) (st p ty : Nat), commandOf i = some (k, c) →
    (Refuses k c st p ty s ∨ ∃ gs, Accepts k c gs s ∧ k.run c gs s = .err st p ty) →
    Runs i s fun u =>
      u = s.onMbx c.mb (fun m => { m with posts := m.posts ++ [replyPost k.op c st (errItems p ty) s] }) ∧
      u.replied k.op c st [{ ty := 0xC002, val := toLe 2 p ++ toLe 2 ty }]

/-- what an accepted command adds to its effect: a reply, and the configuration digest: when the result items fit a message of
the call's form, an accepted command's reply is OK with exactly those items, and it is the newest post of its mailbox. Beside
its own effect s' the command changes only that mailbox's posts and CONFIG_DIGEST; CONFIG_DIGEST moves only when the command
wrote a field, to SHAKE256(CONFIG_DIGEST ‖ SHAKE256(E)), with E the command's envelope. (R65, R68, R73, R440) -/
def Obligations.AcceptedCommandReplies : Prop :=
  ∀ (k : Cmd) (c : Call) (gs : List Got) (items : List Item) (s : State), c.mb < s.control.mailboxes.length →
    (payloadBytes items).length ≤ payloadLimit c.major →
    (s.accepted k c gs items).replied k.op c stOk items ∧
    (s.accepted k c gs items).control.configDigest =
      (if k.writes gs then shake256 (s.control.configDigest ++ shake256 (envelopeBytes k.op c)) else s.control.configDigest) ∧
    (s.accepted k c gs items).onControl (fun x =>
      { x with mailboxes := s.control.mailboxes, configDigest := s.control.configDigest }) = s ∧
    (∀ n, n ≠ c.mb → (s.accepted k c gs items).control.mailboxes[n]? = s.control.mailboxes[n]?)

/-- a result that does not fit goes through REPLY_HANDLE, or is refused with TOO_LARGE: when the result items of an accepted
command do not fit a message of the call's form: with REPLY_HANDLE and the 3.0 form they are written from offset 0 of the
buffer that it names and the reply OK carries no items; in every other case the reply is TOO_LARGE without items and no
buffer changes. The effects stand either way. (R65, R66, R68, R73) -/
def Obligations.ReplyTooLargeForItsMessage : Prop :=
  ∀ (op : Nat) (c : Call) (items : List Item) (s : State), c.mb < s.control.mailboxes.length →
    payloadLimit c.major < (payloadBytes items).length →
    (∀ it, (effItems c s).1.find? (fun x => x.ty == 0xC004) = some it → c.major = 3 →
      (s.answer op c items).replied op c stOk [] ∧
      (s.answer op c items).granary = (s.putBytes (BitVec.ofNat 32 (leNat it.val)) 0 (payloadBytes items)).granary) ∧
    ((effItems c s).1.find? (fun x => x.ty == 0xC004) = none ∨ c.major ≠ 3 →
      (s.answer op c items).replied op c stTooLarge [] ∧ (s.answer op c items).granary = s.granary)

/-- before mailbox-ready nothing executes, an unnegotiated mailbox takes only HELLO, and commands wait their turn: for every
mailbox command but HELLO, at a free mailbox: unnegotiated, the command is refused with VERSION and nothing else changes;
negotiated at 3.0, a command in the 2.x form is refused with VERSION, in the form that it came in. Before mailbox-ready a
command does nothing. At a mailbox whose earlier command has no reply yet, any command joins the mailbox's queue and nothing
else changes; a HELLO so found is marked to be answered BUSY. (R62, R64, R72, R73) -/
def Obligations.SessionGatesCommands : Prop :=
  ∀ (i : Instr) (k : Cmd) (c : Call) (s : State) (m : Mailbox), commandOf i = some (k, c) →
    s.control.mailboxes[c.mb]? = some m →
    (s.ready = false → Runs i s (· = s)) ∧
    (s.ready = true → m.waiting = none → m.queue = [] → k.op ≠ 0 →
      (m.session = .unnegotiated ∨ (m.session = .v3 ∧ c.major = 2)) → (c.major = 2 ∨ c.major = 3) →
      Runs i s (· = s.onMbx c.mb fun x => { x with posts := x.posts ++ [replyPost k.op c stVersion [] s] })) ∧
    (s.ready = true → m.waiting.isSome = true →
      Runs i s (· = s.onMbx c.mb fun x => { x with queue := x.queue ++ [{ op := k.op, call := c, busy := k.op == 0 }] }))

/-- the opcode of every mailbox command: the commands of the eighteen services have the opcodes of their tables, service by
service in ascending order, each opcode is found again by the table lookup, and no two commands share one. (R70, R74, R48,
R136, R163, R192, R239, R273, R301, R369, R390, R415) -/
def Obligations.Opcodes : Prop :=
  (List.range 0x12).map (fun s => (commands.filter fun k => k.op / 256 == s).map fun k => k.op % 256) =
    [[0x00, 0x01, 0x02, 0x03, 0x04, 0x05, 0x06, 0x07],
     [0x00, 0x01, 0x02, 0x03, 0x04, 0x05, 0x06, 0x10, 0x11, 0x12, 0x20, 0x21, 0x22],
     [0x00, 0x01, 0x02, 0x03, 0x04, 0x05, 0x06, 0x07, 0x08, 0x09, 0x0A, 0x0B, 0x10, 0x11],
     [0x00, 0x01, 0x02, 0x03, 0x04, 0x05, 0x06, 0x07, 0x08, 0x09, 0x0A],
     [0x00, 0x01, 0x02, 0x03, 0x04, 0x05, 0x06, 0x07, 0x08, 0x09, 0x0A, 0x0B],
     [0x00, 0x01, 0x02, 0x03, 0x04, 0x05, 0x06, 0x07, 0x08, 0x09], [0x00, 0x01, 0x02, 0x03, 0x04, 0x05, 0x06, 0x07],
     [0x00, 0x01, 0x02, 0x03, 0x04, 0x05, 0x06, 0x07],
     [0x00, 0x01, 0x02, 0x03, 0x04, 0x05, 0x06, 0x07, 0x08, 0x09, 0x0A, 0x0B, 0x0C, 0x0D, 0x0E],
     [0x00, 0x01, 0x02, 0x03, 0x04, 0x05, 0x06, 0x07, 0x08, 0x09, 0x0A, 0x0B, 0x0C],
     [0x00, 0x01, 0x02, 0x10, 0x11, 0x12, 0x20, 0x21, 0x22, 0x23, 0x24], [0x00, 0x01, 0x02, 0x03, 0x04, 0x05, 0x06],
     [0x00, 0x01, 0x02, 0x03, 0x04, 0x05, 0x06, 0x07, 0x08, 0x09, 0x0A],
     [0x00, 0x01, 0x02, 0x03, 0x04, 0x05, 0x06, 0x07, 0x08, 0x10, 0x11, 0x12, 0x13],
     [0x00, 0x01, 0x02, 0x03, 0x04, 0x05, 0x06, 0x07, 0x08],
     [0x00, 0x01, 0x02, 0x03, 0x04, 0x05, 0x06, 0x07, 0x08, 0x09],
     [0x00, 0x01, 0x02, 0x03, 0x04, 0x05, 0x06, 0x07, 0x08, 0x09], [0x00, 0x01, 0x02, 0x03, 0x04]] ∧
  (commands.map (·.op)).Nodup ∧ (∀ k ∈ commands, (commandTable k.op).map (·.op) = some k.op)

/-- every memory of the block reads back what was written, and a write leaves every other byte alone: for a memory in canonical
form (addresses strictly rising, no byte 0 listed), after writing the bytes bs from address a upwards, each address in that
range reads the byte written there, every other address reads what it read before, and the memory is in canonical form.
Reading n bytes from an address gives n bytes. What an unlisted byte reads as is 0 (log entry 5). (R61, R299) -/
def Obligations.SparseMemoryReadsBackWhatWasWritten : Prop :=
  ∀ (m : Mem) (a b : Nat) (bs : List Byte), m.wf = true →
    (m.writeN a bs).wf = true ∧
    Mem.read (m.writeN a bs) b = (if a ≤ b ∧ b < a + bs.length then bs.getD (b - a) 0 else m.read b) ∧
    m.readN a bs.length = (List.range bs.length).map (fun j => m.read (a + j))

/-- a state at rest is its own consequence: in a state at rest (nothing due, no command, attestation or bundle waiting its turn,
no ring, clip, recording or stream open, no message for the tree or an Ethernet client, the raster not on PTP, no shutdown
waiting for clips) nothing follows within the instant: `ended` gives back the state itself with its queue. A statement of the
form Runs i s P therefore speaks of the next state itself whenever the state that it describes is at rest. (R64, R374) -/
def Obligations.QuietStateHasNoConsequences : Prop :=
  ∀ (q : List Instr) (s : State), s.quiet = true → ended q s = { s with pending := q }

/-- what the reference, a reached position, LTC and the daily jam do to the raster's state: an expected line sync inside its
window clears the counts of misses and outliers; a second outlier in a row starts re-evaluation, which counts and marks the
frame RELOCK; a third expected sync in a row without any counts a miss and starts holdover. The genlock shell's measurements
are published as they stand, and an amplitude below 100 mV starts holdover when genlock is in use. A frame sync is stamped
with the Device Clock. Re-evaluation without a frame sync starts holdover; with a rate in range and no phase error the raster
is LOCKED, and with one it relocks by crash or slew as RELOCK_MODE says. After HOLD_FRAMES of holdover the fallback source is
in use. Losing upstream time starts holdover when upstream is in use, and the return of a genlock or sensor source in
holdover starts re-evaluation. The running raster that reaches a later position of its frame, with nothing due up to and at
it, stands there, in the same frame; a stopped raster does not move. A rejected LTC codeword is counted and breaks the run of
codewords. In continuous mode (LTC_MODE other than 0) with LTC as source, a good codeword locks: its user bits are kept, and
unless it names the count in progress the next timecode frame takes the one after it. The daily jam of a 1000/1001 base rate
with PTP as source takes the next timecode frame from the Device Clock. (R21, R23, R24, R25, R29, R32, R33, R37, R41, R44,
R45) -/
def Obligations.RasterSourceEvents : Prop :=
  (∀ (s : State) (e : Bool), s.syncsExpected = true → Runs (.syncWindowOpen true e) s fun u =>
    u.raster.noWindow = 0 ∧ u.raster.lastOutlier = false ∧ u.raster.mode = s.raster.mode) ∧
  (∀ s : State, s.syncsExpected = true → s.raster.lastOutlier = true → Runs (.syncWindowOpen false true) s fun u =>
    u.raster.mode = .acquire ∧ u.raster.mark.getLsbD 0 = true ∧ u.raster.cnt[1]? = (s.raster.cnt[1]?).map (· + 1)) ∧
  (∀ s : State, s.syncsExpected = true → s.raster.noWindow = 2 → Runs (.syncWindowOpen false false) s fun u =>
    u.raster.mode = .holdover ∧ u.raster.cnt[2]? = (s.raster.cnt[2]?).map (· + 1)) ∧
  (∀ (s : State) (m : GenlockMeasure), Runs (.genlockCalibrate m) s fun u =>
    u.raster.gen = m ∧ (s.raster.inUse = 1 → m.ampl < 100 → u.raster.mode = .holdover) ∧
    (s.raster.inUse ≠ 1 → u.raster.mode = s.raster.mode)) ∧
  (∀ s : State, s.raster.inUse = 0 → Runs (.refFrameSync s.raster.line s.raster.phase) s fun u =>
    u.raster.refStamp = s.raster.clock ∧ u.raster.frame = s.raster.frame ∧ u.raster.phaseErr = s.raster.phaseErr) ∧
  (∀ (s : State) (m : Reeval), s.raster.mode = .acquire → s.raster.inUse = 1 → m.syncsFound = false →
    Runs (.reevalDone m) s fun u => u.raster.mode = .holdover ∧ u.raster.refPresent = false) ∧
  (∀ (s : State) (m : Reeval), s.raster.mode = .acquire → s.raster.inUse = 1 → m.syncsFound = true → m.rateInRange = true →
    Runs (.reevalDone m) s fun u => u.raster.linePeriod = m.linePeriod ∧ u.raster.phaseErr = wrapPhase s.refSpan m.phaseErr ∧
      u.raster.mode = (if wrapPhase s.refSpan m.phaseErr = 0 then RasMode.locked
        else if s.raster.src.relockMode = 1 then .crashPending else .slew)) ∧
  (∀ s : State, s.raster.mode = .holdover → s.raster.src.holdFrames ≠ 0 → s.raster.src.holdFrames ≤ s.raster.holdRun →
    s.raster.src.fallback ≠ 255 → s.raster.src.fallback ≠ s.raster.inUse → Runs .holdoverFallback s fun u =>
      u.raster.inUse = s.raster.src.fallback ∧ (s.raster.src.fallback = 0 → u.raster.mode = .free)) ∧
  (∀ s : State, s.raster.inUse = 5 → Runs .upstreamTimeMissing s fun u =>
    u.raster.mode = .holdover ∧ u.raster.refPresent = false) ∧
  (∀ s : State, s.raster.mode = .holdover → s.raster.inUse = 1 → Runs .sourceReturn s fun u =>
    u.raster.mode = .acquire ∧ u.raster.refPresent = true ∧ u.raster.mark.getLsbD 0 = true) ∧
  (∀ (s : State) (line phase : Nat), s.raster.running = true → line < s.raster.cfg.force.totalLines → phase < 256 →
    posBefore (s.raster.line, s.raster.phase) (line, phase) = true → ¬(line = 0 ∧ phase = 0) →
    s.nextPos (line, phase) = none → Runs (.rasterPositionReached line phase) s fun u =>
      u.raster.line = line ∧ u.raster.phase = phase ∧ u.raster.frame = s.raster.frame ∧ u.control = s.control) ∧
  (∀ (s : State) (line phase : Nat), s.raster.running = false → Runs (.rasterPositionReached line phase) s (· = s)) ∧
  (∀ (s : State) (tc : Timecode) (user : Word), Runs (.ltcCodeword false tc user) s fun u =>
    u.raster.cnt[7]? = (s.raster.cnt[7]?).map (· + 1) ∧ u.raster.ltcPrev = none ∧ u.raster.tcNext = s.raster.tcNext) ∧
  (∀ (s : State) (tc : Timecode) (user : Word), s.raster.tc.force.source = 0 → s.raster.tc.force.ltcMode ≠ 0 →
    Runs (.ltcCodeword true tc user) s fun u => u.raster.ltcUser = user ∧ u.raster.ltcLocked = true ∧
      u.raster.tcNext = (if s.raster.tcNow = tcSucc s.raster.tc.force.base tc then none
        else some (tcSucc s.raster.tc.force.base (tcSucc s.raster.tc.force.base tc)))) ∧
  (∀ (s : State) (m : Nat), s.raster.tc.force.source = 1 → s.raster.tc.force.tc1001 = 1 →
    tcRatio s.raster.tc.force s.raster.cfg.force = some m → Runs .tcDailyJam s
      (· = s.onRaster fun r => { r with tcNext := some (tcSucc r.tc.force.base (s.tcOfClock m).1) }))

/-- what the start of a frame does to the raster's number, marks and configuration: at a frame start under a source of the
device's own (free run, genlock or a sensor) the position is line 0, phase 0; the frame number is one more, modulo 2^32, or
what RAS_FRAME_PRESET gives that frame, which uses the preset up and marks the frame JUMP; the marks gathered for the next
frame start afresh; the first frame is number 0. The raster and timecode configurations in shadow are in force, unless one
held for a later AT_FRAME, which stays held. (R19, R30, R34, R38, R76, R78, R486) -/
def Obligations.NewFrameTakesItsNumberAndCommits : Prop :=
  ∀ s : State, s.raster.inUse < 4 →
    ((s.rasNewFrame false).2.2.2.raster.line = 0 ∧ (s.rasNewFrame false).2.2.2.raster.phase = 0 ∧
      (s.rasNewFrame false).2.2.2.raster.nextMark = 0 ∧ (s.rasNewFrame true).2.2.2.raster.frame = 0) ∧
    ((∀ p, s.raster.preset = some p → p.1 ≠ s.raster.frame + 1) →
      (s.rasNewFrame false).2.2.2.raster.frame = s.raster.frame + 1 ∧
      (s.rasNewFrame false).2.2.2.raster.preset = s.raster.preset ∧ (s.rasNewFrame false).1 = none) ∧
    (∀ n, s.raster.preset = some (s.raster.frame + 1, n) →
      (s.rasNewFrame false).2.2.2.raster.frame = n ∧ (s.rasNewFrame false).2.2.2.raster.preset = none ∧
      (s.rasNewFrame false).1 = some s.raster.frame ∧ (s.rasNewFrame false).2.2.2.raster.mark.getLsbD 5 = true) ∧
    (s.raster.held = none →
      (s.rasNewFrame false).2.2.2.raster.cfg = Shadowed.of s.raster.cfg.shadow ∧
      (s.rasNewFrame false).2.2.2.raster.tc = Shadowed.of s.raster.tc.shadow)

/-- the commands of the raster, the Timetable and timecode: RAS_CONFIG_SET within R18 writes the raster's shadow, which group 0's
next commit puts into force, or holds it for AT_FRAME; the configuration in force does not change. RAS_CONFIG_GET returns the
fields in force and in shadow. RAS_SOURCE_SET of the free-running source to a device that uses another makes it FREE.
RAS_STATUS_GET returns state, source, phase error, line period and counters. RAS_FRAME_PRESET keeps the frame and its new
number. RAS_CLOCK_SET keeps the value for the next frame start and its reply waits for that. RAS_COUNTERS_CLEAR clears the
counters named. TT_PERIOD_SET within R39 and R40 writes the period's shadow and marks it written; the period in force does
not change, and COMMIT_AT names group 1's next commit. TT_PERIOD_GET returns the fields in force, whether it expired, and the
frame that it last fired in. TT_PERIOD_CLEAR resets the shadows of the periods listed. TC_CONFIG_SET writes the timecode
fields. TC_PRESET keeps frame and timecode. TC_GET returns timecode, sub-frame index and user bits. None of them changes
anything else. (R18, R21, R34, R36, R38, R39, R40, R44, R45, R48, R76, R79) -/
def Obligations.RasterCommands : Prop :=
  (∀ c gs s, Accepts cmdRasConfigSet c gs s → gs.any (fun g => decide (g.ty ≤ 4)) = true →
    s.judgeRas gs (putFields 1 rasConfigFlds gs s.raster.cfg).shadow = none → has gs 5 = false →
    Runs (.rasConfigSet c) s (· = (s.onRaster fun r =>
        { r with held := none, cfg := { r.cfg with shadow := (putFields 1 rasConfigFlds gs r.cfg).shadow } }).accepted
      cmdRasConfigSet c gs
      (itemN 0x4001 4 (s.frameOr gs 5).toNat :: commitItems [(0, s.commitSeq 0 + 1)]))) ∧
  (∀ c gs s, Accepts cmdRasConfigSet c gs s → gs.any (fun g => decide (g.ty ≤ 4)) = true →
    s.judgeRas gs (putFields 1 rasConfigFlds gs s.raster.cfg).shadow = none → has gs 5 = true →
    Runs (.rasConfigSet c) s (· = (s.onRaster fun r =>
        { r with held := some (s.frameOr gs 5, (putFields 1 rasConfigFlds gs r.cfg).shadow) }).accepted
      cmdRasConfigSet c gs
      (itemN 0x4001 4 (s.frameOr gs 5).toNat :: commitItems [(0, s.commitSeq 0 + (s.frameOr gs 5 - s.raster.frame))]))) ∧
  Reads .rasConfigGet cmdRasConfigGet (fun _ s =>
    itemN 0x4001 4 ((s.raster.held.map (·.1)).getD (s.raster.frame + 1)).toNat ::
      (fieldItems 0x4100 rasConfigFlds s.raster.cfg.force ++ fieldItems 0x4200 rasConfigFlds s.rasShadow)) ∧
  (∀ c gs s, Accepts cmdRasSourceSet c gs s → gotN? gs 1 = some 0 → s.raster.inUse ≠ 0 →
    Runs (.rasSourceSet c) s fun u => u.raster.inUse = 0 ∧ u.raster.mode = .free ∧ u.raster.frame = s.raster.frame ∧
      u.replied 0x0102 c stOk []) ∧
  Reads .rasStatusGet cmdRasStatusGet (fun _ s => [itemN 0x4001 1 s.raster.mode.code, itemN 0x4002 1 s.raster.inUse,
    itemI 0x4003 4 s.raster.phaseErr, itemN 0x4004 8 s.linePeriodNow, itemW 0x4005 s.raster.cnt]) ∧
  Does .rasFramePreset cmdRasFramePreset (fun _ _ => []) (fun gs s =>
    s.onRaster fun r => { r with preset := some (gotF gs 1, gotF gs 2) }) ∧
  (∀ c gs s, Accepts cmdRasClockSet c gs s → Runs (.rasClockSet c) s
    (· = (s.onRaster fun r => { r with clockSet := some (clkOf (gotB gs 1)) }).awaits cmdRasClockSet c gs .clockSet)) ∧
  Does .rasCountersClear cmdRasCountersClear (fun _ _ => []) (fun gs s =>
    s.onRaster fun r => { r with cnt := clearMasked r.cnt (gotN gs 1) }) ∧
  (∀ c gs s p, Accepts cmdTtPeriodSet c gs s → writesAbove 2 gs = true →
    p = (putFields 2 periodFlds gs (s.raster.periods.getD (gotN gs 1) {}).cfg).shadow →
    (p.selector ≠ 1 ∨ p.frameValue < p.n) → argFits p.action p.arg = true →
    Runs (.ttPeriodSet c) s (· = (s.onPeriod (gotN gs 1) fun e =>
        { e with cfg := putFields 2 periodFlds gs (s.raster.periods.getD (gotN gs 1) {}).cfg, written := true,
                 fromHead := s.fromUpstream c }).accepted cmdTtPeriodSet c gs (commitItems [(1, s.commitSeq 1 + 1)]))) ∧
  Reads .ttPeriodGet cmdTtPeriodGet (fun gs s =>
    fieldItems 0x4100 periodFlds (s.raster.periods.getD (gotN gs 1) {}).cfg.force ++
      [itemN 0x4001 1 (bit (s.raster.periods.getD (gotN gs 1) {}).expired)] ++
      ((s.raster.periods.getD (gotN gs 1) {}).fired.toList.map fun f => itemN 0x4002 4 f.toNat)) ∧
  (∀ c gs s i, Accepts cmdTtPeriodClear c gs s → gotNs gs 1 = [i] → Runs (.ttPeriodClear c) s
    (· = (s.onPeriod i fun e =>
        { e with cfg := { e.cfg with shadow := {} }, written := true, fromHead := s.fromUpstream c }).accepted
      cmdTtPeriodClear c gs (commitItems [(1, s.commitSeq 1 + 1)]))) ∧
  (∀ c gs s n, Accepts cmdTcConfigSet c gs s → n = (putFields 1 tcConfigFlds gs s.raster.tc).shadow →
    (n.drop = 0 ∨ (n.base = 30 ∧ n.tc1001 = 1)) → (tcRatio n s.raster.cfg.shadow).isSome = true →
    Runs (.tcConfigSet c) s (· = (s.onRaster fun r => { r with tc := putFields 1 tcConfigFlds gs r.tc }).accepted cmdTcConfigSet
      c gs (commitItems (s.commitAt 0x0100 (writesAbove 1 gs))))) ∧
  (∀ c gs s t, Accepts cmdTcPreset c gs s → tcRead (gotB gs 2) = some t → Runs (.tcPreset c) s
    (· = (s.onRaster fun r => { r with tcPreset := some (gotF gs 1, { t with drop := r.tc.force.drop == 1 }) }).accepted
      cmdTcPreset c gs [])) ∧
  Reads .tcGet cmdTcGet (fun _ s => [itemB 0x4001 (tcBytes s.raster.tcNow), itemN 0x4002 1 s.raster.tcSub,
    itemN 0x4003 4 s.raster.tcUser.toNat])

/-- the Control Port's instructions, register writes, the always-on copy and the wide windows: READ returns the words from the
address on; STATUS returns mailbox-ready, HOST_IRQ_N and whether the previous transaction was discarded, then forgets that;
QUAD_ON and QUAD_OFF choose the lines; an unknown instruction, or a WRITE that cuts a word, is counted in SYS_CNT_CP_ERR and
sets CP_ERR, and the whole words of a cut WRITE stand. A write of SYS_IRQ_ENABLE takes its writable bits; a write to a window
address that no register lists changes nothing once ready; before mailbox-ready a write outside the SYS window does nothing.
The always-on edge clears the bits that pending writes name in SYS_RESET_CAUSE and refreshes the copy. A selector write
clears VALID of its block's window and no other; VALID then sets with the value selected. (R53, R56, R57, R58, R59, R61, R81) -/
def Obligations.RegisterPathsAndControlPort : Prop :=
  (∀ (s : State) (a : Word) (n : Nat), Runs (.cpRead a n) s
    (· = s.onControl fun c => { c with cpOut := s.burst a n, cpDiscarded := false })) ∧
  (∀ (s : State) (a v : Word), Runs (.cpWrite a [v] false) s fun u =>
    u = (s.writeReg .controlPort (burstAddr a 0) v).onControl fun c => { c with cpDiscarded := false, cpOut := [] }) ∧
  (∀ (s : State) (a v : Word), Runs (.cpWrite a [v] true) s (· = (s.writeReg .controlPort (burstAddr a 0) v).cpError)) ∧
  (∀ s : State, Runs .cpStatus s (· = s.onControl fun c =>
    { c with cpOut := toLe 1 (bit s.ready + 2 * bit s.hostIrq + 4 * bit c.cpDiscarded), cpDiscarded := false })) ∧
  (∀ s : State, Runs .quadOn s (· = s.onControl fun c =>
    { c with quad := true, cpDiscarded := false, cpOut := [] })) ∧
  (∀ s : State, Runs .quadOff s (· = s.onControl fun c =>
    { c with quad := false, cpDiscarded := false, cpOut := [] })) ∧
  (∀ s : State, Runs .cpUnknownInstruction s fun u => u.control.cntCpErr = s.control.cntCpErr + 1 ∧
    u.control.cpDiscarded = true ∧ u.control.irq.getLsbD 26 = true ∧ u.control.mailboxes = s.control.mailboxes) ∧
  (∀ (s : State) (v : Word), Runs (.registerWrite .controlPort 0x14 v) s
    (· = s.onControl fun c => { c with irqEnable := v &&& 0x0700FFFF })) ∧
  (∀ (s : State) (v : Word), Runs (.registerWrite .controlPort 0x00130000 v) s (· = s)) ∧
  (∀ (s : State) (p : Path) (a v : Word), s.ready = false → 0x10000 ≤ a.toNat → Runs (.registerWrite p a v) s (· = s)) ∧
  (∀ s : State, Runs .aoWriteApply s fun u =>
    u.control.resetCause = (s.control.resetCause &&& ~~~(s.control.aoPending.getD 0)) ∧
    u.control.resetCauseCopy = u.control.resetCause ∧ u.control.aoPending = none) ∧
  (∀ (s : State) (b : Blk) (v : Word), blkIndex b < s.control.wides.length → Runs (.wideSelWrite b v) s fun u =>
    (∃ w, u.control.wides[blkIndex b]? = some w ∧ w.valid = false ∧ w.sel = v.toNat % 4) ∧
    ∀ k, k ≠ blkIndex b → u.control.wides[k]? = s.control.wides[k]?) ∧
  (∀ (s : State) (b : Blk) (w : Wide), s.control.wides[blkIndex b]? = some w → w.valid = false →
    Runs (.wideValueValid b) s fun u =>
      u.control.wides[blkIndex b]? = some { w with valid := true, data := s.wideValue (blkIndex b) w.sel })

/-- doorbells, fills, acknowledges, session resets and MSI-X masks: after mailbox-ready, an accepted doorbell binds the mailbox
to its path, clears IN_EMPTY and keeps COUNT and LAST; one that R63 or the binding ignores is counted in MBXn_CNT_ERR and
changes nothing else. Taking a fill that is not final keeps its bytes and sets IN_EMPTY. An acknowledge clears OUT_FULL.
SESSION_RESET unbinds the mailbox, discards partial messages and notices, clears the subscription, returns the session to
unnegotiated and sets IN_EMPTY. When the out-slot is free, the next reply or notice fill is placed in it and OUT_FULL sets.
Clearing a vector's mask sends a vector that it kept pending. (R54, R62, R63, R71, R74) -/
def Obligations.MailboxFillsAndSessions : Prop :=
  (∀ (s : State) (p : Path) (n : Nat) (v : Word) (m : Mailbox), n < 8 → s.ready = true → s.control.mailboxes[n]? = some m →
    m.foreign p = false → m.inEmpty = true → 0 < v.toNat % 8192 → v.toNat % 8192 ≤ 4096 →
    (v.getLsbD 13 = true ∨ v.toNat % 8192 = 4096) → Runs (.mbxInDoorbell p n v) s (· = s.onMbx n fun m =>
      { m with path := some p, inEmpty := false, bellCount := v.toNat % 8192, bellLast := v.getLsbD 13 })) ∧
  (∀ (s : State) (p : Path) (n : Nat) (v : Word) (m : Mailbox), n < 8 → s.control.mailboxes[n]? = some m →
    (s.ready = false ∨ m.foreign p = true ∨ m.inEmpty = false ∨ v.toNat % 8192 = 0 ∨ 4096 < v.toNat % 8192 ∨
      (v.getLsbD 13 = false ∧ v.toNat % 8192 ≠ 4096)) →
    Runs (.mbxInDoorbell p n v) s (· = s.onMbx n fun m => { m with cntErr := m.cntErr + 1 })) ∧
  (∀ (s : State) (n : Nat) (m : Mailbox), n < 8 → s.ready = true → s.control.mailboxes[n]? = some m → m.inEmpty = false →
    m.bellLast = false → Runs (.fillTaken n) s fun u => ∃ m', u.control.mailboxes[n]? = some m' ∧ m'.inEmpty = true ∧
      m'.partialMsg = m.partialMsg ++ Mem.readN s.control.slots (n * 0x2000) m.bellCount) ∧
  (∀ (s : State) (p : Path) (n : Nat) (m : Mailbox), n < 8 → s.ready = true → s.control.mailboxes[n]? = some m →
    m.foreign p = false → m.resetOnAck = false → Runs (.mbxOutAck p n) s
      (· = s.onMbx n fun m => { m with outFull := false, outCount := 0, outLast := false })) ∧
  (∀ (s : State) (p : Path) (n : Nat) (m : Mailbox), n < 8 → s.ready = true → s.control.mailboxes[n]? = some m →
    m.foreign p = false → Runs (.sessionReset p n) s fun u => ∃ m', u.control.mailboxes[n]? = some m' ∧
      m'.path = none ∧ m'.session = .unnegotiated ∧ m'.subs = 0 ∧ m'.inEmpty = true ∧ m'.partialMsg = [] ∧
      (∀ q ∈ m'.posts, q.notice = false) ∧ m'.cntErr = m.cntErr) ∧
  (∀ (s : State) (n : Nat) (m : Mailbox) (q : Post) (rest : List Post), n < 8 → s.ready = true →
    s.control.mailboxes[n]? = some m → m.outFull = false → m.sending = [] → m.posts = q :: rest → q.bytes.length ≤ 4096 →
    m.lost = 0 → Runs (.outFillPlaced n) s fun u => (∃ m', u.control.mailboxes[n]? = some m' ∧ m'.outFull = true ∧
      m'.outCount = q.bytes.length ∧ m'.outLast = true ∧ m'.posts = rest) ∧
      u.control.slots = Mem.writeN s.control.slots (n * 0x2000 + 0x1000) q.bytes) ∧
  (∀ (s : State) (v : Nat), v < 9 → s.control.msix.functionMask = false → s.control.msix.masks.length = 9 →
    s.control.msix.pending = (List.range 9).map (· == v) → Runs (.msixMaskClear (some v)) s fun u =>
      u.outbox = s.outbox ++ [.msix v] ∧ u.control.msix.masks[v]? = some false ∧
      u.control.msix.pending = List.replicate 9 false)

/-- the system commands: HELLO with a common version sets the session to the version chosen and replies with it, FW_VERSION,
MAX_MESSAGE and the mailbox number; without one it is refused with VERSION. SYS_INFO_GET returns identity and versions.
SYS_NOTICE_SUBSCRIBE sets the mailbox's mask and returns the previous one. SYS_GROUP_BIND binds the unit to the group and
returns the previous group. SYS_GROUP_STATUS of a group that has committed returns its COMMIT_SEQ, last frame, PENDING and
units. SYS_COMMIT schedules a commit of the group at the frame named, or the next, and returns the commit's number and frame.
SYS_RESET with SCOPE 0 queues its reply, whose acknowledgement ends the session; with SCOPE 1 the device is to reset, and
COMMAND_RESET then resets it with cause COMMAND. SYS_ECHO returns its data. (R69, R72, R74, R77, R78, R79, R440, R450) -/
def Obligations.SystemCommands : Prop :=
  (∀ c gs s v, Accepts cmdHello c gs s → chosenVersion (gotNs gs 1) = some v → Runs (.hello c) s
    (· = (s.onMbx c.mb fun m => { m with session := sessionOf v }).accepted cmdHello c gs [itemN 0x4001 2 v,
      itemN 0x4002 4 s.control.fwVersion.toNat, itemN 0x4003 4 (if v / 256 = 3 then 65536 else 4096), itemN 0x4004 1 c.mb])) ∧
  (∀ c gs s, Accepts cmdHello c gs s → chosenVersion (gotNs gs 1) = none →
    Runs (.hello c) s (· = s.refuse 0 c stVersion (gotPos gs 1) 1)) ∧
  Reads .sysInfoGet cmdSysInfoGet (fun _ s => [itemN 0x4001 4 0x0B16C0A2, itemN 0x4002 4 s.control.fwVersion.toNat,
    itemN 0x4003 8 Config.serial.toNat, itemN 0x4004 1 (bit s.control.pcie0Ep), itemN 0x4005 2 0x0300, itemN 0x4005 2 0x0200,
    itemN 0x4005 2 0x0201, itemN 0x4005 2 0x0202, itemN 0x4005 2 0x0203, itemN 0x4005 2 0x0204]) ∧
  (∀ c gs s m v, Accepts cmdSysNoticeSubscribe c gs s → s.control.mailboxes[c.mb]? = some m → gotN? gs 1 = some v →
    Runs (.sysNoticeSubscribe c) s (· = (s.onMbx c.mb fun m => { m with subs := BitVec.ofNat 18 v }).accepted
      cmdSysNoticeSubscribe c gs [itemN 0x4001 4 m.subs.toNat])) ∧
  Does .sysGroupBind cmdSysGroupBind (fun gs s => [itemN 0x4001 1 (s.groupOf (gotN gs 1))]) (fun gs s => s.onControl fun c =>
    { c with bound := (gotN gs 1, gotN gs 2) :: c.bound.filter fun b => b.1 != gotN gs 1 }) ∧
  (∀ c gs s f, Accepts cmdSysGroupStatus c gs s → (s.control.groups.getD (gotN gs 1) {}).lastFrame = some f →
    Runs (.sysGroupStatus c) s (· = s.accepted cmdSysGroupStatus c gs
      ([itemN 0x4001 4 (s.control.groups.getD (gotN gs 1) {}).seq.toNat, itemN 0x4002 4 f.toNat,
        itemN 0x4003 1 (bit ((s.unitsOf (gotN gs 1)).any fun u => s.unitPending u))] ++
        (s.unitsOf (gotN gs 1)).map (itemN 0x4004 2)))) ∧
  Does .sysCommit cmdSysCommit (fun gs s =>
    [itemN 0x4001 4 (s.commitSeq (gotN gs 1) + BitVec.ofNat 32 (s.commitsAhead (gotN gs 1) (s.frameOr gs 2)) + 1).toNat,
      itemN 0x4002 4 (s.frameOr gs 2).toNat]) (fun gs s => s.onControl fun c =>
    { c with commits := c.commits ++ [{ group := gotN gs 1, frame := s.frameOr gs 2 }] }) ∧
  (∀ c gs s, Accepts cmdSysReset c gs s → gotN gs 1 = 0 → Runs (.sysReset c) s (· = (s.post c.mb
    { replyPost 0x0006 c stOk [] s with thenReset := true }).awaits cmdSysReset c gs .sessionEnd)) ∧
  (∀ c gs s, Accepts cmdSysReset c gs s → gotN gs 1 = 1 → Runs (.sysReset c) s
    (· = (s.onControl fun x => { x with resetAsked := true }).accepted cmdSysReset c gs [])) ∧
  (∀ s : State, s.control.resetAsked = true → Runs .commandReset s fun u =>
    u.control.resetCause = s.control.resetCause ||| 0x04 ∧ u.power.inReset = true ∧ u.granary.buffers = [] ∧
    u.control.mailboxes = List.replicate 16 {} ∧ u.control.sincePowerGood = s.control.sincePowerGood) ∧
  Reads .sysEcho cmdSysEcho (fun gs _ => [itemB 0x4001 (gotB gs 1)])

/-- bring-up of a lane from DETECT to LOCK: detection, tap requests, measurements and the PRBS31 run: in DETECT a transmitting
lane tries again. A lane that senses the termination enters TRAIN: a transmitting lane waits there, another asks for its
first setting, the fixed one with TAP_MODE 1 and otherwise the preset P0. A training set that fails its CHECK is ignored; on
a sensor lane, one that reports the setting asked for starts its measurement. A request not answered is sent once more. A
measured final setting has its FOM kept and its PRBS31 run asked for. A run without errors at FOM_MIN or above enters LOCK
and stores setting and FOM; in LOOP the run's errors are counted. (R85, R88, R89, R90, R91, R92, R93) -/
def Obligations.LaneTrainingEvents : Prop :=
  (∀ (s : State) (ln : Nat), (s.lane ln).phase = .detect → transmits ln = true → Runs (.laneDetectRetry ln) s
    (· = s.send (.detectPulse ln))) ∧
  (∀ (s : State) (ln : Nat), (s.lane ln).phase = .detect → 64 ≤ ln → transmits ln = true → Runs (.receiverDetected ln) s
    (· = s.onLane ln fun l => { l with phase := .train, locked := false, failCause := .none, search := none })) ∧
  (∀ (s : State) (ln : Nat) (t : Taps), (s.lane ln).phase = .detect → ln < 64 → (s.unit (s.portOf ln)).portState ≠ 4 →
    t = (let g := (s.lanePort (s.portOf ln)).cfg; if g.tapMode = 1 then ⟨g.fixedPre, g.fixedMain, g.fixedPost⟩ else ⟨0, 63, 0⟩) →
    Runs (.receiverDetected ln) s fun u => ∃ v : State, u = v.askTaps ln t ∧ v.intake = s.intake ∧
      (∀ k, k ≠ ln → v.lane k = s.lane k) ∧ (ln < s.lanes.lanes.length → (v.lane ln).phase = .train ∧
        ((v.lane ln).search.map (·.cur)) = some t)) ∧
  (∀ (s : State) (ln : Nat) (sy : List Byte), sy.length = 16 →
    (crc16 ((sy.drop 1).take 13)).toNat ≠ (sy.getD 14 0).toNat * 256 + (sy.getD 15 0).toNat →
    Runs (.trainingSetReceived ln sy) s (· = s)) ∧
  (∀ (s : State) (ln : Nat) (sy : List Byte) (r : Search) (b : Bool), ln < 64 → sy.length = 16 → (sy.getD 0 0).toNat = 0xBC →
    (crc16 ((sy.drop 1).take 13)).toNat = (sy.getD 14 0).toNat * 256 + (sy.getD 15 0).toNat →
    (sy.getD 3 0).toNat.testBit 1 = false →
    r.cur = ⟨(sy.getD 7 0).toNat % 64, (sy.getD 8 0).toNat % 64, (sy.getD 9 0).toNat % 64⟩ →
    ln < s.lanes.lanes.length → (s.lane ln).phase = .train → (s.lane ln).search = some r → r.step = .asked b →
    Runs (.trainingSetReceived ln sy) s (· = s.onLane ln fun l =>
      { l with farTaps := r.cur, search := some { r with step := .measuring } })) ∧
  (∀ (s : State) (ln : Nat) (r : Search), (s.lane ln).phase = .train → (s.lane ln).search = some r → r.step = .asked false →
    Runs (.tapRequestTimeout ln) s (· = (s.onLane ln fun l =>
      { l with search := some { r with step := .asked true } }).askTaps ln r.cur)) ∧
  (∀ (s : State) (ln n : Nat) (r : Search), (s.lane ln).phase = .train → (s.lane ln).search = some r →
    r.step = .finalMeasuring → Runs (.eqMeasureDone ln n) s (· = (s.onLane ln fun l =>
      { l with fom := min 255 (n / 16), search := some { r with step := .prbs } }).askPrbs ln)) ∧
  (∀ (s : State) (ln : Nat) (r : Search), (s.lane ln).phase = .train → (s.lane ln).search = some r → r.step = .prbs →
    (s.lanePort (s.portOf ln)).cfg.fomMin ≤ (s.lane ln).fom → ln < s.lanes.lanes.length → Runs (.prbsRunDone ln 0) s fun u =>
      (u.lane ln).phase = .lock ∧ (u.lane ln).stored = (s.lane ln).taps ∧ (u.lane ln).storedFom = (s.lane ln).fom ∧
      (∀ k, k ≠ ln → u.lane k = s.lane k) ∧ u.lanes.ports = s.lanes.ports) ∧
  (∀ (s : State) (ln n : Nat), (s.lane ln).phase = .loop → (s.lanePort (s.portOf ln)).cfg.loopMode = 1 →
    Runs (.prbsRunDone ln n) s (· = s.countLane ln 5 n))

/-- locking, failing, retraining and counting of lanes and ports: a lane with a skew above 64 UI fails; a spare that locks is in
STANDBY with its skew stored. The end of TRAIN's or LOCK's time fails a lane that carries no logical lane, with FAIL_CAUSE
TRAIN or LOCK, and counts it. A FAILED lane with fewer than three failed bring-ups in a row starts a full retrain. Code
violations and losses of symbol lock are counted; with a loss, or with ERR_LIMIT violations, an ACTIVE or STANDBY lane starts
a fast retrain, and otherwise stays as it is. A fast retrain with lock and FOM_MIN returns the lane to the state it left.
K28.4 with no takeover waiting changes nothing; with one waiting, the spare is ACTIVE in the logical lane's place, and the
port counts it. FULL_RETRAIN restarts DETECT, FAST_RETRAIN acts only in ACTIVE and STANDBY, CNT_CLEAR clears the lane's
counters. (R85, R86, R94, R95, R96, R97, R101) -/
def Obligations.LaneStateEvents : Prop :=
  (∀ (s : State) (ln k : Nat), ln < s.lanes.lanes.length → (s.lane ln).phase = .lock → (s.lane ln).role ≠ 1 → k ≤ 64 →
    Runs (.symbolLockAcquired ln k) s fun u => (u.lane ln).phase = .standby ∧ (u.lane ln).storedSkew = k ∧
      (u.lane ln).role = 2 ∧ (∀ m, m ≠ ln → u.lane m = s.lane m) ∧ u.lanes.ports = s.lanes.ports) ∧
  (∀ (s : State) (ln k : Nat), ln < s.lanes.lanes.length → (s.lane ln).phase = .lock → (s.lane ln).role ≠ 1 → 64 < k →
    Runs (.symbolLockAcquired ln k) s fun u => (u.lane ln).phase = .failed ∧ (u.lane ln).failCause = .skew ∧
      (u.lane ln).fails = (s.lane ln).fails + 1 ∧ ∀ m, m ≠ ln → u.lane m = s.lane m) ∧
  (∀ (s : State) (ln : Nat), ln < s.lanes.lanes.length → (s.lane ln).phase = .train → (s.lane ln).role ≠ 1 →
    Runs (.laneStateTimeout ln) s fun u => (u.lane ln).phase = .failed ∧ (u.lane ln).failCause = .train ∧
      (u.lane ln).cnt[4]? = ((s.lane ln).cnt[4]?).map (· + 1) ∧ ∀ m, m ≠ ln → u.lane m = s.lane m) ∧
  (∀ (s : State) (ln : Nat), ln < s.lanes.lanes.length → (s.lane ln).phase = .lock → (s.lane ln).role ≠ 1 →
    Runs (.laneStateTimeout ln) s fun u => (u.lane ln).phase = .failed ∧ (u.lane ln).failCause = .lock ∧
      ∀ m, m ≠ ln → u.lane m = s.lane m) ∧
  (∀ (s : State) (ln : Nat), (s.lane ln).phase = .failed → (s.lane ln).fails < 3 → Runs (.failedLaneRetrain ln) s
    (· = s.onLane ln fun l => { l with phase := .detect, locked := false, search := none, cnt := addAt l.cnt 3 1 })) ∧
  (∀ (s : State) (ln n : Nat), n < (s.lanePort (s.portOf ln)).cfg.errLimit → Runs (.laneFault ln false n) s
    (· = s.countLane ln 0 n)) ∧
  (∀ (s : State) (ln n : Nat), (s.lane ln).phase = .active → Runs (.laneFault ln true n) s
    (· = ((s.countLane ln 0 n).countLane ln 1 1).startFast ln)) ∧
  (∀ (s : State) (ln n : Nat), ln < s.lanes.lanes.length → (s.lane ln).phase = .retrain →
    (s.lanePort (s.portOf ln)).cfg.fomMin ≤ min 255 (n / 16) → Runs (.fastRetrainDone ln true n) s fun u =>
      (u.lane ln).phase = (s.lane ln).back ∧ (u.lane ln).fom = min 255 (n / 16) ∧ (u.lane ln).taps = (s.lane ln).stored ∧
      (∀ m, m ≠ ln → u.lane m = s.lane m)) ∧
  (∀ (s : State) (p : Nat), (s.lanePort p).takeovers = [] → Runs (.k284Received p) s fun u => u.lanes.lanes = s.lanes.lanes ∧
    u.lanePort p = s.lanePort p) ∧
  (∀ (s : State) (p a b : Nat), a ≠ b → a < s.lanes.lanes.length → b < s.lanes.lanes.length → p < s.lanes.ports.length →
    (s.lanePort p).takeovers = [(a, b)] → Runs (.k284Received p) s fun u => (u.lane b).phase = .active ∧
      (u.lane b).role = 1 ∧ (u.lane b).logical = (s.lane a).logical ∧ (u.lane a).role = 3 ∧
      (u.lanePort p).takeovers = [] ∧ (u.lanePort p).cntTakeover = (s.lanePort p).cntTakeover + 1) ∧
  (∀ (s : State) (ln : Nat), 64 ≤ ln → (s.lane ln).phase ≠ .disabled → (s.lane ln).phase ≠ .loop → Runs (.fullRetrain ln) s
    fun u => (ln < s.lanes.lanes.length → (u.lane ln).phase = .detect ∧ (u.lane ln).fails = 0 ∧
      (u.lane ln).cnt[3]? = ((s.lane ln).cnt[3]?).map (· + 1)) ∧ ∀ m, m ≠ ln → u.lane m = s.lane m) ∧
  (∀ (s : State) (ln : Nat), (s.lane ln).phase = .standby → Runs (.fastRetrain ln) s (· = s.startFast ln)) ∧
  (∀ (s : State) (ln : Nat), (s.lane ln).phase ≠ .active → (s.lane ln).phase ≠ .standby →
    Runs (.fastRetrain ln) s (· = s) ∧ ((s.lane ln).phase ≠ .failed → Runs (.failedLaneRetrain ln) s (· = s))) ∧
  (∀ (s : State) (ln : Nat), Runs (.laneCtrlCntClear ln) s (· = s.onLane ln fun l => { l with cnt := clearAll l.cnt }))

/-- frames and line packets at a sensor port, damaged rows, and the start of a Replay frame: K28.1 at a port that is absent or
not active changes nothing; at a running source, the first in a raster frame begins a frame with the raster's number and mark
and the port's geometry, and a second is a rate drop, counted. A packet at a source that does not run changes nothing; an
undamaged one of the row that the frame awaits next is taken, and one beyond the frame's rows is counted and flags the frame
LONG. K28.6 and a stall end the frame in progress; without one they change nothing. A damaged row whose deadline passes waits
to be concealed, its frame flagged CONCEALED; concealing it gives it codes and is counted. A Replay that is not ready starts
no frame; one that runs and is ready starts the next frame. CNT_CLEAR clears the counters. (R102, R116, R117, R119, R120,
R122, R123, R125, R126, R133, R138) -/
def Obligations.IntakeFrameEvents : Prop :=
  (∀ (s : State) (p lo : Nat), (s.hasPort p = false ∨ (s.unit p).portState ≠ 3) → Runs (.sensorFrameStart p lo) s (· = s)) ∧
  (∀ (s : State) (p lo : Nat), p < 2 → p < s.intake.units.length → s.hasPort p = true → (s.unit p).portState = 3 →
    (s.unit p).running = true → (s.unit p).stopping = false → (s.unit p).inFrame = false → (s.unit p).gotFrame = false →
    Runs (.sensorFrameStart p lo) s fun u => (u.unit p).inFrame = true ∧ (u.unit p).gotFrame = true ∧
      (u.unit p).cfg = (s.unit p).cfg ∧ ∃ f, (u.unit p).flight = (s.unit p).flight ++ [f] ∧ f.frame = s.raster.frame ∧
        f.frameLo = lo % 65536 ∧ f.mark = s.raster.mark ∧ f.lines = (s.unit p).cfg.lines ∧ f.width = (s.unit p).cfg.width ∧
        f.ended = false ∧ f.rateDrop = false) ∧
  (∀ (s : State) (p lo : Nat), p < 2 → p < s.intake.units.length → s.hasPort p = true → (s.unit p).portState = 3 →
    (s.unit p).running = true → (s.unit p).stopping = false → (s.unit p).inFrame = false → (s.unit p).gotFrame = true →
    Runs (.sensorFrameStart p lo) s fun u => (u.unit p).inFrame = true ∧
      (u.unit p).cnt[11]? = ((s.unit p).cnt[11]?).map (· + 1) ∧
      ∃ f, (u.unit p).flight = (s.unit p).flight ++ [f] ∧ f.rateDrop = true ∧ f.rows = []) ∧
  (∀ (s : State) (p : Nat) (bs : List Byte) (a b : Bool), (s.unit p).running = false →
    Runs (.linePacketReceived p bs a b) s (· = s)) ∧
  (∀ (s : State) (p : Nat) (bs : List Byte) (f : FrameIn) (x : Row), s.hasPort p = true → (s.unit p).running = true →
    (s.unit p).portState = 3 → (s.unit p).flight.find? (fun f => !f.ended) = some f → f.rateDrop = false → f.closed = false →
    (readPacket bs).crcGood = true → (readPacket bs).resend = false → (readPacket bs).sensorBad = false →
    (readPacket bs).length = packetLength f.width f.bits → (readPacket bs).frameLo = f.frameLo →
    (readPacket bs).line < f.lines → (readPacket bs).exp < f.exposures → f.ended = false →
    f.row (readPacket bs).line (readPacket bs).exp = some x → x.status = .missing →
    (((f.lastRow.getD (readPacket bs).exp none).map (· + 1)).getD 0) = (readPacket bs).line →
    Runs (.linePacketReceived p bs true true) s (· = ((s.onFlight p f.frame fun f =>
        { f with lastRow := f.lastRow.set (readPacket bs).exp (some (readPacket bs).line) }).onFlight p f.frame
          (FrameIn.onRow (readPacket bs).line (readPacket bs).exp fun x =>
            { x with status := .received, codes := unpack (readPacket bs).payload f.bits f.width })).progress
        p f.frame f.lines)) ∧
  (∀ (s : State) (p : Nat) (bs : List Byte) (f : FrameIn), s.hasPort p = true → (s.unit p).running = true →
    (s.unit p).portState = 3 → (s.unit p).flight.find? (fun f => !f.ended) = some f → f.rateDrop = false →
    (readPacket bs).crcGood = true → (readPacket bs).resend = false → (readPacket bs).sensorBad = false →
    (readPacket bs).length = packetLength f.width f.bits → (readPacket bs).frameLo = f.frameLo →
    f.lines ≤ (readPacket bs).line → Runs (.linePacketReceived p bs true true) s
      (· = (s.countUnit p 7 1).onFlight p f.frame fun x => { x with flags := x.flags ||| 0x02 })) ∧
  (∀ (s : State) (p : Nat), s.hasPort p = true → (s.unit p).inFrame = true → (s.unit p).portState = 3 →
    Runs (.sensorFrameEnd p) s (· = s.endFrame p true false false) ∧ Runs (.frameStall p) s (· = s.endFrame p false true true)) ∧
  (∀ (s : State) (p : Nat), (s.unit p).inFrame = false →
    Runs (.sensorFrameEnd p) s (· = s) ∧ Runs (.frameStall p) s (· = s)) ∧
  (∀ (s : State) (p r e : Nat), s.damagedIn p r e .damaged = none → Runs (.resendDeadline p r e) s (· = s)) ∧
  (∀ (s : State) (p r e : Nat) (f : FrameIn), s.damagedIn p r e .damaged = some f → Runs (.resendDeadline p r e) s
    (· = s.onFlight p f.frame fun f => if ((f.row r e).map fun x => x.status == .damaged).getD false then
      { f.onRow r e fun x => { x with status := .toConceal } with flags := f.flags ||| 0x04 } else f)) ∧
  (∀ (s : State) (p r e : Nat) (f : FrameIn) (look : Nat → Option Row), s.damagedIn p r e .toConceal = some f →
    look = (fun r => if r < f.height then f.row r e else none) →
    searchRow look (fun r => if phaseStep f.cfa ≤ r then some (r - phaseStep f.cfa) else none) 8 r ≠ .notYet →
    searchRow look (fun r => some (r + phaseStep f.cfa)) 8 r ≠ .notYet → Runs (.rowConceal p r e) s fun u =>
      ∃ codes, u = ((s.onFlight p f.frame (FrameIn.onRow r e fun x => { x with status := .concealed, codes })).countUnit p 4
        1).progress p f.frame f.lines) ∧
  (∀ s : State, s.intake.replay.ready = none → (s.unit 2).stopping = false → (s.unit 2).armed = false →
    Runs .replayFrameStart s (· = s)) ∧
  (∀ (s : State) (x : ReplayFrame), s.intake.replay.ready = some x → (s.unit 2).running = true → (s.unit 2).stopping = false →
    s.intake.replay.inFrame = false → Runs .replayFrameStart s fun u => u.intake.replay.ready = none ∧
      u.intake.replay.next = s.intake.replay.next + 1 ∧ u.intake.replay.lastFrame = s.raster.frame ∧
      u.intake.replay.delivered = s.intake.replay.delivered) ∧
  (∀ (s : State) (p : Nat), Runs (.inxCtrlCntClear p) s
    (· = s.onUnit p fun u => { u with cnt := clearAll u.cnt, peakRows := u.rowsHeld }))

/-- the sensor's answers on the sideband, its silence, and the poll: with nothing outstanding or waiting, a port is polled. A
request not answered is sent once more with its SEQ; after a second silence it fails, is counted and the pair is free. A
reply that fails its CHECK is counted and leaves the request outstanding. One with the request's SEQ and a type that answers
it frees the pair: BURST_ACK, MAP_ACK, LOOP_ACK and EMPTY do nothing more; a TAP_REPORT gives the lane its answer; a refused
PRBS run fails its lanes; a RESEND_ACK that will not send gives the row up; REG_ACK and REG_DATA end the register access that
waits; CAP_REPLY within version 2 and the port's needs asks for LINK_CONFIG, and outside them fails the exchange; CONFIG_ACK
makes the port active; ALERT is sent to the host. Then the next waiting request goes out. (R88, R93, R95, R96, R112, R113,
R114, R117, R136, R137) -/
def Obligations.SidebandEvents : Prop :=
  (∀ (s : State) (p : Nat), s.hasPort p = true → (s.unit p).sbOut = none → (s.unit p).sbQueue = [] →
    Runs (.sidebandPoll p) s (· = s.sbAsk p 0x09 .poll [])) ∧
  (∀ (s : State) (p : Nat) (r : SbRequest), (s.unit p).sbOut = some r → r.resent = false → Runs (.sidebandTimeout p) s
    (· = (s.onUnit p fun u => { u with sbOut := some { r with resent := true } }).send (.sideband p r.ty r.seq r.payload))) ∧
  (∀ (s : State) (p : Nat) (r : SbRequest), (s.unit p).sbOut = some r → r.resent = true → r.ask = .poll →
    (s.unit p).sbQueue = [] → Runs (.sidebandTimeout p) s (· = s.onUnit p fun u =>
      { u with sbOut := none, answering := false, cnt := addAt u.cnt 15 1 })) ∧
  (∀ (s : State) (p : Nat) (h : SbHead) (r : SbRequest) (i : Instr), h.ok = false → (s.unit p).sbOut = some r →
    i ∈ [Instr.burstAck p h, .mapAck p h, .loopAck p h, .sbEmpty p h, .configAck p h 0, .regAck p h 0, .tapReport p h [],
      .prbsAck p h 0, .resendAck p h 0, .regData p h 0 [], .alert p h 0 0] →
    ∃ u, exec i s = .next (ended s.pending u) ∧ (u.unit p).sbOut = some r ∧
      (u.unit p).cnt[15]? = ((s.unit p).cnt[15]?).map (· + 1)) ∧
  (∀ (s : State) (p : Nat) (h : SbHead) (r : SbRequest), h.ok = true → (s.unit p).sbOut = some r → r.seq = h.seq →
    (s.unit p).sbQueue = [] → ∀ t, t = (s.onUnit p fun u => { u with sbOut := none, answering := true }) →
      (r.ty = 0x04 → Runs (.burstAck p h) s (· = t)) ∧ (r.ty = 0x05 → Runs (.mapAck p h) s (· = t)) ∧
      (r.ty = 0x0A → Runs (.loopAck p h) s (· = t)) ∧ (r.ty = 0x09 → Runs (.sbEmpty p h) s (· = t)) ∧
      (r.ty = 0x06 → Runs (.resendAck p h 0) s (· = t)) ∧ (r.ty = 0x0B → Runs (.prbsAck p h 0) s (· = t))) ∧
  (∀ (s : State) (p : Nat) (h : SbHead) (r : SbRequest), h.ok = true → (s.unit p).sbOut = some r → r.seq = h.seq →
    ∀ t, t = (s.onUnit p fun u => { u with sbOut := none, answering := true }) →
      (∀ e : TapEntry, r.ty = 0x03 → r.ask = .taps [e.lane] → Runs (.tapReport p h [e]) s
        (· = (t.tapsAnswered (macroOf p e.lane) { pre := e.pre, main := e.main, post := e.post } e.reject).sbPump p)) ∧
      (∀ k, r.ty = 0x0B → r.ask = .prbs [k] → Runs (.prbsAck p h 1) s (· = (t.failBringUp (macroOf p k) .prbs).sbPump p)) ∧
      (∀ fr row e, r.ty = 0x06 → r.ask = .resend fr row e → Runs (.resendAck p h 1) s (· = (t.giveUp p fr row e).sbPump p)) ∧
      (∀ id, r.ty = 0x07 → r.ask = .regWrite id → Runs (.regAck p h 0) s (· = (complete (.sensor id) stOk [] t).sbPump p)) ∧
      (∀ id, r.ty = 0x07 → r.ask = .regWrite id → Runs (.regAck p h 1) s
        (· = (complete (.sensor id) stSensorNak [] t).sbPump p)) ∧
      (∀ id ws, r.ty = 0x08 → r.ask = .regRead id → Runs (.regData p h 0 ws) s
        (· = (complete (.sensor id) stOk (ws.map fun (w : Word) => itemN 0x4001 4 w.toNat) t).sbPump p)) ∧
      (∀ cap v, r.ty = 0x01 → cap.version / 256 = 2 → v = ((t.onUnit p fun u =>
          { u with cap := some cap, version := cap.version }).onLanePort p fun l =>
            { l with spareCapable := cap.flags.testBit 0, loopCapable := cap.flags.testBit 1 }) →
        Runs (.capReply p h cap) s (· = (if v.capable p cap then v.sbAsk p 0x02 .linkConfig (v.linkConfigBytes p)
          else (v.exchangeFailed p 2).sbPump p))) ∧
      (r.ty = 0x02 → Runs (.configAck p h 0) s
        (· = (((t.portToActive p).onUnit p fun u => { u with portState := 3, exchangeFails := 0 }).portUpNotice p).sbPump p)) ∧
      (∀ code data, r.ty = 0x09 → Runs (.alert p h code data) s
        (· = (t.noticeOn 0x0285 [itemN 1 1 p, itemN 2 2 code, itemN 3 4 data.toNat] (p == 1)).sbPump p)))

/-- the commands that configure an intake source: INTAKE_PORT_SET that moves no lanes and keeps MODE writes the port's fields and
lane fields, ends the hold of a port after failed exchanges, and changes nothing else; lane fields that do not fit refuse it.
INTAKE_PORT_GET returns them with PORT_STATE, version and the sensor's capabilities. INTAKE_LINEARISE_SET writes the knots
from the first on and the black code of one curve. INTAKE_MERGE_SET writes gains, knees and weights per exposure.
INTAKE_DEFECT_SET with a list that is not empty writes list, DYNAMIC and threshold. INTAKE_TAP_SET writes one tap, and Cinema
Compress follows the taps. (R48, R100, R102, R103, R127, R128, R129, R131, R136) -/
def Obligations.IntakeConfigurationCommands : Prop :=
  (∀ c gs s p, Accepts cmdIntakePortSet c gs s → p = gotN gs 1 → writesAbove 2 gs = true → movesLanes gs = false →
    (putPlain 2 portFlds gs (s.unit p).cfg).mode = (s.unit p).cfg.mode →
    judgeLanes gs (s.lanesWith gs) 2 (putPlain 0x100 laneFlds gs (s.lanePort p).cfg) = none → Runs (.intakePortSet c) s
      (· = ((s.onUnit p fun u =>
          { u with cfg := putPlain 2 portFlds gs (s.unit p).cfg, exchangeFails := 0,
                   portState := if u.portState = 4 then 1 else u.portState }).onLanePort p fun q =>
            { q with cfg := putPlain 0x100 laneFlds gs (s.lanePort p).cfg }).accepted cmdIntakePortSet c gs [])) ∧
  (∀ c gs s e, Accepts cmdIntakePortSet c gs s →
    judgeLanes gs (s.lanesWith gs) 2 (putPlain 0x100 laneFlds gs (s.lanePort (gotN gs 1)).cfg) = some e →
    Runs (.intakePortSet c) s (· = s.refuse 0x0200 c e.1 e.2.1 e.2.2)) ∧
  Reads .intakePortGet cmdIntakePortGet (fun gs s =>
    fieldItems 0x4001 portFlds (s.unit (gotN gs 1)).cfg ++ fieldItems 0x4100 laneFlds (s.lanePort (gotN gs 1)).cfg ++
      [itemN 0x4009 1 (s.unit (gotN gs 1)).portState, itemN 0x400A 2 (s.unit (gotN gs 1)).version] ++
      ((s.unit (gotN gs 1)).cap.map SensorCap.items).getD []) ∧
  Does .intakeLineariseSet cmdIntakeLineariseSet (fun _ _ => []) (fun gs s => s.onUnit (gotN gs 1) fun u =>
    { u with curves := modAt u.curves (gotN gs 2) fun cs => modAt cs (gotN gs 3) fun c =>
      { knots := (gotAll gs 4).map Val.int ++ c.knots.drop ((gotAll gs 4).map Val.int).length,
        black := (gotN? gs 5).getD c.black } }) ∧
  Does .intakeMergeSet cmdIntakeMergeSet (fun _ _ => []) (fun gs s => s.onUnit (gotN gs 1) fun u =>
    { u with merge := { gain := putFront (gotNs gs 2) u.merge.gain, knee := putFront ((gotAll gs 3).map Val.int) u.merge.knee,
                        ws := putFront (gotNs gs 4) u.merge.ws } }) ∧
  (∀ c gs s, Accepts cmdIntakeDefectSet c gs s → emptyList c 2 s = false → Runs (.intakeDefectSet c) s
    (· = (s.onUnit (gotN gs 1) fun u => { u with defect :=
      { static := if has gs 2 then gotNs gs 2 else u.defect.static, dynamic := (gotN? gs 3).getD u.defect.dynamic,
        thresh := (gotI? gs 4).getD u.defect.thresh } }).accepted cmdIntakeDefectSet c gs [])) ∧
  Does .intakeTapSet cmdIntakeTapSet (fun _ _ => []) (fun gs s => (s.onUnit (gotN gs 1) fun u =>
    { u with taps := modAt u.taps (gotN gs 2) fun t =>
      { t with ring := if has gs 3 then gotH gs 3 else t.ring,
               enable := ((gotN? gs 4).map (· == 1)).getD t.enable } }).cmpFollow)

/-- starts, stops, sensor registers, status and the Replay commands: INTAKE_START and INTAKE_STOP with AT_FRAME are kept for that
frame, which the reply names; without, a start arms a source that does not run, and a stop ends a source that has no frame in
progress. INTAKE_SENSOR_WRITE and INTAKE_SENSOR_READ ask the sensor and their replies wait for it. INTAKE_STATUS_GET returns
status, counters and backlog. INTAKE_COUNTERS_CLEAR clears the counters of sources A and B that the mask names. REPLAY_SET
that keeps SOURCE and whose source fits writes the fields; REPLAY_STATUS_GET returns next frame, frames delivered and slips.
(R112, R113, R126, R132, R133, R136, R138) -/
def Obligations.IntakeRunAndStatusCommands : Prop :=
  (∀ c gs s f, Accepts cmdIntakeStart c gs s → gotF? gs 2 = some f → Runs (.intakeStart c) s
    (· = (s.onUnit (gotN gs 1) fun u => { u with turns := u.turns ++ [(f, true)] }).accepted cmdIntakeStart c gs
      [itemN 0x4001 4 f.toNat])) ∧
  (∀ c gs s, Accepts cmdIntakeStart c gs s → gotF? gs 2 = none → gotN gs 1 = 0 → (s.unit 0).running = false →
    Runs (.intakeStart c) s (· = (s.onUnit 0 fun u => { u with armed := true }).accepted cmdIntakeStart c gs
      [itemN 0x4001 4 s.raster.frame.toNat])) ∧
  (∀ c gs s f, Accepts cmdIntakeStop c gs s → gotF? gs 2 = some f → Runs (.intakeStop c) s
    (· = (s.onUnit (gotN gs 1) fun u => { u with turns := u.turns ++ [(f, false)] }).accepted cmdIntakeStop c gs
      [itemN 0x4001 4 f.toNat])) ∧
  (∀ c gs s, Accepts cmdIntakeStop c gs s → gotF? gs 2 = none → gotN gs 1 = 0 → (s.unit 0).inFrame = false →
    Runs (.intakeStop c) s (· = (s.onUnit 0 fun u => { u with armed := false, running := false, stopping := false }).accepted
      cmdIntakeStop c gs [itemN 0x4001 4 s.raster.frame.toNat])) ∧
  (∀ c gs s, Accepts cmdIntakeSensorWrite c gs s → Runs (.intakeSensorWrite c) s
    (· = (s.draw.2.sbAsk (gotN gs 1) 0x07 (.regWrite s.draw.1) (toLe 4 (gotN gs 2) ++ toLe 1 (gotNs gs 3).length ++
      (gotNs gs 3).flatMap (toLe 4))).awaits cmdIntakeSensorWrite c gs (.sensor s.draw.1))) ∧
  (∀ c gs s, Accepts cmdIntakeSensorRead c gs s → Runs (.intakeSensorRead c) s
    (· = (s.draw.2.sbAsk (gotN gs 1) 0x08 (.regRead s.draw.1) (toLe 4 (gotN gs 2) ++ toLe 1 (gotN gs 3))).awaits
      cmdIntakeSensorRead c gs (.sensor s.draw.1))) ∧
  Reads .intakeStatusGet cmdIntakeStatusGet (fun gs s => [itemN 0x4001 4 (s.intakeStatus (gotN gs 1)).toNat,
    itemW 0x4002 (s.unit (gotN gs 1)).cnt, itemN 0x4003 4 (s.unit (gotN gs 1)).backlog.toNat]) ∧
  (∀ c gs s, Accepts cmdIntakeCountersClear c gs s → gotN gs 1 < 2 → Runs (.intakeCountersClear c) s
    (· = (s.onUnit (gotN gs 1) fun u =>
      { u with cnt := clearMasked u.cnt (gotN gs 2),
               peakRows := if gotN gs 2 = 0 then u.peakRows else u.rowsHeld }).accepted cmdIntakeCountersClear c gs [])) ∧
  (∀ c gs s n, Accepts cmdReplaySet c gs s → n = putPlain 1 replayFlds gs s.intake.replay.cfg →
    n.source = s.intake.replay.cfg.source → s.replayFits n = true → Runs (.replaySet c) s
      (· = (s.onIntake fun i => { i with replay := { i.replay with cfg := n } }).accepted cmdReplaySet c gs [])) ∧
  Reads .replayStatusGet cmdReplayStatusGet (fun _ s => [itemN 0x4001 4 s.intake.replay.next,
    itemN 0x4002 4 s.intake.replay.delivered, itemN 0x4003 4 s.intake.replay.cntSlip.toNat])

/-- grants of the Mill, statistics records, and the Mill's resets, status and counters: with no line pair ready the Mill stays
free. Port A alone having a pair, that pair enters the Mill: it leaves the port's buffer and joins its context's frame, and
the Mill is held for the pair's clocks, where the pair neither opens nor closes its frame. A statistics record that completes
is placed in its ring, with a notice where its context asks for one. MILL_TNR_RESET adds the frame named to the context's
resets and returns it. MILL_CONFIG_GET returns the fields in force and in shadow, MILL_STATUS_GET status, last frame and
word, counters and utilisation. MILL_COUNTERS_CLEAR and CNT_CLEAR clear the context's counters; those of context 0 restart
PEAK. (R134, R140, R147, R161, R163, R165) -/
def Obligations.MillEventsAndStatus : Prop :=
  (∀ s : State, s.grantPort = none → Runs .millGrant s (· = s.onMill fun m => { m with granted := 3 })) ∧
  (∀ (s : State) (x : Pair) (rest : List Pair) (m : MillFrame), (s.unit 0).buffer = x :: rest → (s.unit 1).buffer = [] →
    x.index ≠ 0 → x.last = false → (s.ctx 0).taking = some m → s.mill.out = none → Runs .millGrant s
      (· = (((s.onUnit 0 fun u => { u with buffer := rest }).onIntake fun i => { i with lastGrant := 0 }).onMill fun y =>
        { y with granted := 0, clocks := y.clocks + pairClocks x.top.length,
                 heldTo := Clk.ofUnits (Clk.units s.raster.clock + (40960 * pairClocks x.top.length : Nat)) }).onCtx 0 fun c =>
        { c with taking := some { m with mark := x.mark, intakeFlags := x.flags, completed := m.completed || x.filler,
                                         rows := m.rows ++ [x.top, x.bottom], tags := m.tags ++ [x.topTags, x.bottomTags] } })) ∧
  (∀ (s : State) (k : Nat), (s.ctx k).records = [] → Runs (.statsRecordComplete k) s (· = s)) ∧
  (∀ (s : State) (k : Nat) (r : StatsRecord) (rest : List StatsRecord) (p : Nat × State), (s.ctx k).records = r :: rest →
    p = (s.onCtx k fun c => { c with records := rest }).ringPlace r.ring r.id (0x0300 + k) r.bytes →
    Runs (.statsRecordComplete k) s (· = (if r.notify then p.2.notice 0x0380 [itemN 1 1 k, itemN 2 4 r.frame.toNat,
      itemN 3 8 p.1, itemN 4 4 r.bytes.length] else p.2))) ∧
  Does .millTnrReset cmdMillTnrReset (fun gs s => [itemN 0x4001 4 (s.frameOr gs 2).toNat]) (fun gs s =>
    s.onCtx (gotN gs 1) fun x => { x with resets := x.resets ++ [s.frameOr gs 2] }) ∧
  Reads .millConfigGet cmdMillConfigGet (fun gs s => shadowedItems millFlds (s.ctx (gotN gs 1)).cfg) ∧
  Reads .millStatusGet cmdMillStatusGet (fun gs s => [itemN 0x4001 4 (s.millStatus (gotN gs 1)).toNat,
    itemN 0x4002 4 (s.ctx (gotN gs 1)).lastFrame.toNat, itemN 0x4003 4 (s.ctx (gotN gs 1)).lastWord.toNat,
    itemW 0x4004 (s.ctx (gotN gs 1)).cnt, itemN 0x4005 4 (halves s.mill.peak s.mill.util).toNat]) ∧
  (∀ c gs s, Accepts cmdMillCountersClear c gs s → gotN gs 1 ≠ 0 → Runs (.millCountersClear c) s
    (· = (s.onCtx (gotN gs 1) fun x => { x with cnt := clearMasked x.cnt (gotN gs 2) }).accepted cmdMillCountersClear c gs [])) ∧
  (∀ c gs s, Accepts cmdMillCountersClear c gs s → gotN gs 1 = 0 → gotN gs 2 ≠ 0 → Runs (.millCountersClear c) s
    (· = ((s.onCtx 0 fun x => { x with cnt := clearMasked x.cnt (gotN gs 2) }).onMill fun m =>
      { m with peak := m.util }).accepted cmdMillCountersClear c gs [])) ∧
  (∀ s : State, Runs (.milCtrlCntClear 0) s
    (· = (s.onCtx 0 fun x => { x with cnt := clearMasked x.cnt allBits }).onMill fun m => { m with peak := m.util })) ∧
  (∀ (s : State) (k : Nat), k ≠ 0 → Runs (.milCtrlCntClear k) s
    (· = s.onCtx k fun x => { x with cnt := clearMasked x.cnt allBits }))

/-- the commands that write a Mill context's fields: each writes its run of the fields of R162 in the context named and nothing
else: FRAME fields go to the shadow, and the reply then carries COMMIT_AT with the number of the next commit of the context's
group. MILL_NOISE_SET writes SHOT and READ per exposure from the first on; MILL_STATS_SET also returns the record lengths
under the fields in force and in shadow. (R48, R76, R79, R146, R148, R162, R163) -/
def Obligations.MillFieldCommands : Prop :=
  Does .millNoiseSet cmdMillNoiseSet (fun gs s => commitItems (s.commitAt (0x0300 + gotN gs 1) (writesAbove 2 gs)))
    (fun gs s => s.onCtx (gotN gs 1) fun x => { x with cfg := putFields 2 (millPart 0 8) (noiseItems gs) x.cfg }) ∧
  Does .millSnrSet cmdMillSnrSet
    (fun gs s => commitItems (s.commitAt (0x0300 + gotN gs 1) (writesFrame 2 (millPart 8 7) gs)))
    (fun gs s => s.onCtx (gotN gs 1) fun x => { x with cfg := putFields 2 (millPart 8 7) gs x.cfg }) ∧
  Does .millTnrSet cmdMillTnrSet
    (fun gs s => commitItems (s.commitAt (0x0300 + gotN gs 1) (writesFrame 2 (millPart 15 4) gs)))
    (fun gs s => s.onCtx (gotN gs 1) fun x => { x with cfg := putFields 2 (millPart 15 4) gs x.cfg }) ∧
  Does .millWbSet cmdMillWbSet
    (fun gs s => commitItems (s.commitAt (0x0300 + gotN gs 1) (writesFrame 2 (millPart 19 4) gs)))
    (fun gs s => s.onCtx (gotN gs 1) fun x => { x with cfg := putFields 2 (millPart 19 4) gs x.cfg }) ∧
  Does .millReconSet cmdMillReconSet
    (fun gs s => commitItems (s.commitAt (0x0300 + gotN gs 1) (writesFrame 2 (millPart 23 1) gs)))
    (fun gs s => s.onCtx (gotN gs 1) fun x => { x with cfg := putFields 2 (millPart 23 1) gs x.cfg }) ∧
  Does .millMatrixSet cmdMillMatrixSet
    (fun gs s => commitItems (s.commitAt (0x0300 + gotN gs 1) (writesFrame 2 (millPart 24 12) gs)))
    (fun gs s => s.onCtx (gotN gs 1) fun x => { x with cfg := putFields 2 (millPart 24 12) gs x.cfg }) ∧
  (∀ c gs s n, Accepts cmdMillStatsSet c gs s → n = (millPut 36 7 gs s).ctx (gotN gs 1) → Runs (.millStatsSet c) s
    (· = (s.onCtx (gotN gs 1) fun x => { x with cfg := putFields 2 (millPart 36 7) gs x.cfg }).accepted cmdMillStatsSet c gs
      ([itemN 0x4001 4 n.cfg.force.recordLength, itemN 0x4002 4 n.cfg.shadow.recordLength] ++
        commitItems (s.commitAt (0x0300 + gotN gs 1) (writesFrame 2 (millPart 36 7) gs))))) ∧
  (∀ (lo n : Nat) (gs : List Got) (x : Shadowed MillConfig), (∀ f ∈ millPart lo n, f.cls = .frame) →
    (putFields 2 (millPart lo n) gs x).force = x.force)

/-- the commands of the Looks, their table loads, and the status and counters of the block: LOOK_SET whose LO lies below HI
writes the Look's fields, TABLE_BANK apart. LOOK_TABLES_LOAD of tables that keep their rules starts the load and its reply
waits for the end; tables that break them are refused with BAD_TABLE. When the load ends, the bank not in force holds the
tables and the shadow names it, the load is counted and the reply gives the bank. LOOK_GET returns fields and whether a load
runs. LKS_STATUS_GET returns the running renditions, the pool, and every Look's and rendition's status and counters.
LKS_COUNTERS_CLEAR and CNT_CLEAR clear counters. A table load that is not running does not end. (R66, R76, R174, R175, R176,
R186, R192, R194) -/
def Obligations.LookAndSlotCommands : Prop :=
  (∀ c gs s n, Accepts cmdLookSet c gs s → n = putFields 0x100 lookFlds gs (s.look (gotN gs 1)).cfg → n.shadow.lo < n.shadow.hi →
    Runs (.lookSet c) s (· = (s.onLook (gotN gs 1) fun l => { l with cfg := n }).accepted cmdLookSet c gs
      (commitItems (s.commitAt (0x0400 + gotN gs 1) (writesAbove 0x100 gs))))) ∧
  (∀ c gs s, Accepts cmdLookTablesLoad c gs s → s.tablesOk (gotH gs 2) (gotN gs 3) = true → Runs (.lookTablesLoad c) s
    (· = (s.startLoad (gotN gs 1) (gotH gs 2) (gotN gs 3)).awaits cmdLookTablesLoad c gs (.lookLoad (gotN gs 1)))) ∧
  (∀ c gs s, Accepts cmdLookTablesLoad c gs s → s.tablesOk (gotH gs 2) (gotN gs 3) = false →
    Runs (.lookTablesLoad c) s (· = s.refuse 0x0401 c stBadTable (gotPos gs 2) 2)) ∧
  (∀ (s : State) (k : Nat), (s.look k).loading = none → Runs (.lookTablesLoaded k) s (· = s)) ∧
  (∀ (s : State) (k : Nat) (t : TableLoad) (v : State), (s.look k).loading = some t → v = (s.onLook k fun l =>
      { l with loading := none, cntLoads := l.cntLoads + 1, banks := setAt l.banks t.bank t.content,
               cfg := { l.cfg with shadow := { l.cfg.shadow with tableBank := t.bank } } }) →
    Runs (.lookTablesLoaded k) s (· = complete (.lookLoad k) stOk
      (itemN 0x4001 1 t.bank :: commitItems [v.nextCommit (0x0400 + k)]) v)) ∧
  Reads .lookGet cmdLookGet (fun gs s => shadowedItems lookFlds (s.look (gotN gs 1)).cfg ++
    [itemN 0x4001 1 (bit (s.look (gotN gs 1)).loading.isSome)]) ∧
  Reads .lksStatusGet cmdLksStatusGet (fun _ s => [itemN 0x4001 4 s.looksRunning,
    itemN 0x4002 4 (halves s.looks.peak s.looks.used).toNat,
    itemW 0x4003 ((indexed s.looks.looks).flatMap fun kl => [s.lookStatus kl.1, kl.2.cntFrames, kl.2.cntLoads]),
    itemW 0x4004 (s.looks.rends.flatMap fun x => x.status :: x.cnt)]) ∧
  Does .lksCountersClear cmdLksCountersClear (fun _ _ => []) (fun gs s => s.clearLks (gotN gs 1) (gotN gs 2)) ∧
  (∀ s : State, Runs .lksCtrlCntClear s fun u => u = s.clearLks allBits allBits ∧ u.looks.peak = s.looks.used ∧
    (s.looks.rends.length ≤ 48 → ∀ x ∈ u.looks.rends, ∀ w ∈ x.cnt, w = 0))

/-- the commands of the renditions and the completion of a slot: REND_SET whose fields agree, whose Sheaf context no other
rendition names and whose planes fit writes the fields, returns the slot's size and commits with the rendition.
REND_FILTER_SET whose phases all sum to 16,384 writes the tables' shadows. REND_START and REND_STOP with AT_FRAME wait for
it; without, a start runs the rendition now and a stop of one with no frame in progress ends it. REND_GET returns fields and
slot states, REND_SLOT_RELEASE frees a HELD slot, REND_CAPTURE adds a request. When the planes of a memory rendition's frame
are complete its slot is HELD, the frame is counted and REND_SLOT_READY is sent. (R76, R177, R180, R184, R186, R187, R188,
R192) -/
def Obligations.RenditionCommands : Prop :=
  (∀ c gs s n, Accepts cmdRendSet c gs s → n = putFields 0x100 rendFlds gs (s.rend (gotN gs 1)).cfg →
    judgeRend gs n.shadow = none →
    (n.shadow.dest = 0 → ∀ ky ∈ indexed s.looks.rends, ky.1 ≠ gotN gs 1 → ky.2.cfg.force.dest = 0 →
      ky.2.cfg.force.target ≠ n.shadow.target) →
    (n.shadow.planes = 0 ∨ ∃ b, s.buffer? (BitVec.ofNat 32 n.shadow.planes) = some b ∧
      if n.shadow.dest = 3 then b.role = 12 else b.role = 6 ∧ n.shadow.nslots * s.slotBytes n.shadow ≤ b.size) →
    Runs (.rendSet c) s (· = (s.onRend (gotN gs 1) fun x =>
        { x with cfg := n, slots := if n.shadow.planes != (s.rend (gotN gs 1)).cfg.force.planes ||
            n.shadow.nslots != (s.rend (gotN gs 1)).cfg.force.nslots then List.replicate 8 {} else x.slots }).accepted
      cmdRendSet c gs
      ([itemN 0x4001 4 (s.slotBytes n.shadow)] ++
        commitItems (s.commitAt (0x0410 + gotN gs 1) (writesFrame 0x100 rendFlds gs))))) ∧
  (∀ c gs s h, Accepts cmdRendFilterSet c gs s → has gs 2 = true → has gs 3 = false →
    h = putFront ((gotAll gs 2).map Val.int) ((s.rend (gotN gs 1)).filters.shadow.h.getD (List.replicate 512 0)) →
    phasesOk 8 h = true → Runs (.rendFilterSet c) s (· = (s.onRend (gotN gs 1) fun x =>
      { x with filters := { x.filters with shadow := { h := some h, v := (s.rend (gotN gs 1)).filters.shadow.v } } }).accepted
        cmdRendFilterSet c gs (commitItems (s.commitAt (0x0410 + gotN gs 1) (writesAbove 2 gs))))) ∧
  (∀ c gs s v, Accepts cmdRendFilterSet c gs s → has gs 2 = false → has gs 3 = true →
    v = putFront ((gotAll gs 3).map Val.int) ((s.rend (gotN gs 1)).filters.shadow.v.getD (List.replicate 384 0)) →
    phasesOk 6 v = true → Runs (.rendFilterSet c) s (· = (s.onRend (gotN gs 1) fun x =>
      { x with filters := { x.filters with shadow := { h := (s.rend (gotN gs 1)).filters.shadow.h, v := some v } } }).accepted
        cmdRendFilterSet c gs (commitItems (s.commitAt (0x0410 + gotN gs 1) (writesAbove 2 gs))))) ∧
  (∀ c gs s f, Accepts cmdRendStart c gs s → gotF? gs 2 = some f → Runs (.rendStart c) s
    (· = (s.onRend (gotN gs 1) fun x => { x with turns := x.turns ++ [(f, true)] }).accepted cmdRendStart c gs
      [itemN 0x4001 4 f.toNat])) ∧
  (∀ c gs s, Accepts cmdRendStart c gs s → gotF? gs 2 = none → Runs (.rendStart c) s
    (· = (s.onRend (gotN gs 1) fun x => { x with running := true, stopping := false }).accepted cmdRendStart c gs
      [itemN 0x4001 4 s.raster.frame.toNat])) ∧
  (∀ c gs s f, Accepts cmdRendStop c gs s → gotF? gs 2 = some f → Runs (.rendStop c) s
    (· = (s.onRend (gotN gs 1) fun x => { x with turns := x.turns ++ [(f, false)] }).accepted cmdRendStop c gs
      [itemN 0x4001 4 (f - 1).toNat])) ∧
  (∀ c gs s, Accepts cmdRendStop c gs s → gotF? gs 2 = none → (s.rend (gotN gs 1)).jobs = [] →
    gotN gs 1 < s.looks.rends.length → Runs (.rendStop c) s (· = (s.onRend (gotN gs 1) fun x =>
      { x with running := false, stopping := false }).accepted cmdRendStop c gs [itemN 0x4001 4 s.raster.frame.toNat])) ∧
  Reads .rendGet cmdRendGet (fun gs s => shadowedItems rendFlds (s.rend (gotN gs 1)).cfg ++
    ((s.rend (gotN gs 1)).slots.take (s.rend (gotN gs 1)).cfg.force.nslots).map fun k => itemN 0x4001 1 k.st.code) ∧
  Does .rendSlotRelease cmdRendSlotRelease (fun _ _ => []) (fun gs s => s.onRend (gotN gs 1) fun x =>
    { x with slots := modAt x.slots (gotN gs 2) fun q => { q with st := .free } }) ∧
  Does .rendCapture cmdRendCapture (fun gs s => [itemN 0x4001 4 (s.frameOr gs 2).toNat]) (fun gs s =>
    s.onRend (gotN gs 1) fun x => { x with captures := x.captures ++ [{ first := s.frameOr gs 2, count := gotN gs 3 }] }) ∧
  (∀ (s : State) (r : Nat), (s.rend r).jobs.find? (fun j => j.done.isSome) = none → Runs (.rendSlotReady r) s (· = s.shfSweep)) ∧
  (∀ (s : State) (r : Nat) (j : RendJob), (s.rend r).jobs.find? (fun j => j.done.isSome) = some j → j.cfg.dest = 2 →
    r < s.looks.rends.length → j.slot < (s.rend r).slots.length → Runs (.rendSlotReady r) s fun u => ∃ v : State,
      u = v.shfSweep ∧ ((v.rend r).slots[j.slot]?).map (·.st) = some .held ∧ (v.rend r).lastFrame = j.frame ∧
      (v.rend r).cnt[0]? = ((s.rend r).cnt[0]?).map (· + 1) ∧ ∀ k, k ≠ r → v.rend k = s.rend k)

/-- the cores' pictures, their faults, and the motion field: without a plan, or while it codes, a core starts nothing. A core of
the plan none of whose pictures is ready, and of which none is lost, waits, or is idle where its list is empty; past the
period its first picture that is ready is shed as LATE and counted. A core that codes nothing ends nothing. A picture of one
tile that is done leaves the plan and its AU is written; the first of two tiles leaves one. A fault abandons the core's
picture as a FAULT repeat, counts it, puts the core in recovery and enters the fault log. A motion field that completes is in
its slot and the slots alternate; with none pending nothing changes. CNT_CLEAR clears the block's and the contexts' counters.
(R211, R212, R214, R215, R216, R217, R227) -/
def Obligations.SheafCoreEvents : Prop :=
  (∀ (s : State) (k : Nat) (b : Bool), (s.sheaf.plan = none ∨ (s.core k).cur.isSome = true) →
    Runs (.corePictureStart k b) s (· = s)) ∧
  (∀ (s : State) (k : Nat) (b : Bool) (i : FrameInfo), s.sheaf.plan = some i → (s.core k).cur = none →
    (∀ it ∈ (s.core k).list, s.sheaf.pics.any (fun p => p.ctx == it.ctx) = false ∧ s.shfSlot it.ctx i.frame = (none, false)) →
    Runs (.corePictureStart k b) s (· = s.onCore k fun k => { k with st := if k.list.isEmpty then .idle else .waiting })) ∧
  (∀ (s : State) (k : Nat) (i : FrameInfo) (it : ShfItem) (rest : List ShfItem), s.sheaf.plan = some i → (s.core k).cur = none →
    (s.core k).list = it :: rest → ((s.shfSlot it.ctx i.frame).1).isSome = true → Runs (.corePictureStart k true) s
      (· = ((s.countShf 3).shfKill it.ctx 2).onCore k fun k => { k with st := .idle })) ∧
  (∀ (s : State) (k : Nat), (s.core k).cur = none → Runs (.corePictureDone k) s (· = s) ∧ Runs (.coreFault k) s (· = s)) ∧
  (∀ (s : State) (k : Nat) (it : ShfItem) (p : ShfPic) (v : State), (s.core k).cur = some it →
    s.sheaf.pics.find? (fun p => p.ctx == it.ctx) = some p →
    v = (s.onCore k fun k => { k with cur := none, st := .idle, pictures := (k.pictures + 1) % 256 }) →
    Runs (.corePictureDone k) s (· = (if 1 < p.tilesLeft then v.onSheaf fun x => { x with pics := x.pics.map fun y =>
        if y.ctx == it.ctx then { y with tilesLeft := y.tilesLeft - 1 } else y }
      else (v.onSheaf fun x => { x with pics := x.pics.filter fun y => y.ctx != it.ctx }).shfCoded p))) ∧
  (∀ (s : State) (k : Nat) (it : ShfItem), (s.core k).cur = some it → Runs (.coreFault k) s
    (· = (((s.countShf 5).shfKill it.ctx 6).onCore k fun k => { k with st := .recovering }).faultLog 0x09 (0x0500 + k)
      (k * 256 + it.ctx))) ∧
  (∀ (s : State) (m : Nat) (u : MotionUnit), s.sheaf.motion[m]? = some u → u.pending = none →
    Runs (.motionFieldComplete m) s (· = s)) ∧
  (∀ (s : State) (m : Nat) (u : MotionUnit) (f : Frame) (ok : Bool) (bs : List Byte) (b : Buffer), s.sheaf.motion[m]? = some u →
    u.pending = some (f, ok, bs) → s.buffer? u.field = some b → 2 * bs.length ≤ b.size → Runs (.motionFieldComplete m) s
      (· = (s.putBytes u.field (u.slot * roundUp bs.length 4096) bs).onSheaf fun x => { x with motion := modAt x.motion m fun u =>
        { u with pending := none, complete := some (f, ok), slot := 1 - u.slot } })) ∧
  (∀ s : State, Runs .shfCtrlCntClear s (· = s.clearShf allBits allBits))

/-- the commands of the Sheaf: SHF_CONTEXT_SET whose fields agree writes them and returns the size of a reference.
SHF_CONTEXT_GET returns fields, format captured and core. SHF_CONTEXT_START that nothing refuses starts the context from the
frame returned. SHF_CONTEXT_STOP of a running context keeps AT_FRAME and names the frame before it; of one that does not run
it names the last frame. SHF_POOL_SET takes the classes. SHF_MOTION_SET gives the context its field and returns a slot's
size. SHF_LADDER_SET writes period and anchor. SHF_IRAP_REQUEST adds the frame to the contexts named, or with LADDER_ALL
makes it the anchor in shadow. SHF_STATUS_GET returns status, load, cores, counters, pool and contexts. SHF_COUNTERS_CLEAR
clears counters. (R76, R199, R200, R201, R206, R207, R209, R212, R225) -/
def Obligations.SheafCommands : Prop :=
  (∀ c gs s n, Accepts cmdShfContextSet c gs s → n = putFields 0x100 shfFlds gs (s.shf (gotN gs 1)).cfg →
    judgeShf gs n.shadow = none → Runs (.shfContextSet c) s
      (· = (s.onShf (gotN gs 1) fun x => { x with cfg := n }).accepted cmdShfContextSet c gs
        ([itemN 0x4001 8 (((s.shfFormat (gotN gs 1)).map refSize).getD 0)] ++
          commitItems (s.commitAt (0x0500 + gotN gs 1) (writesFrame 0x100 shfFlds gs))))) ∧
  Reads .shfContextGet cmdShfContextGet (fun gs s => shadowedItems shfFlds (s.shf (gotN gs 1)).cfg ++
    (((s.shf (gotN gs 1)).fmt.map ShfFormat.list).getD []).map (itemN 0x4001 2) ++ [itemN 0x4002 1 (s.shf (gotN gs 1)).core]) ∧
  (∀ c gs s f v, Accepts cmdShfContextStart c gs s → s.shfStart (gotN gs 1) (s.frameOr gs 2) = .inr (f, v) →
    gotN gs 1 < s.sheaf.ctxs.length → Runs (.shfContextStart c) s fun u =>
      u = v.accepted cmdShfContextStart c gs [itemN 0x4001 4 f.toNat] ∧ (v.shf (gotN gs 1)).running = true ∧
      (v.shf (gotN gs 1)).startAt = f ∧ ∀ k, k ≠ gotN gs 1 → v.shf k = s.shf k) ∧
  (∀ c gs s f, Accepts cmdShfContextStop c gs s → gotF? gs 2 = some f → (s.shf (gotN gs 1)).running = true →
    (s.shf (gotN gs 1)).stopFrame = none → (s.shf (gotN gs 1)).stopAt = none → Runs (.shfContextStop c) s
      (· = (s.onShf (gotN gs 1) fun x => { x with stopAt := some f }).accepted cmdShfContextStop c gs
        [itemN 0x4001 4 (f - 1).toNat])) ∧
  (∀ c gs s, Accepts cmdShfContextStop c gs s → (s.shf (gotN gs 1)).running = false → Runs (.shfContextStop c) s
    (· = s.accepted cmdShfContextStop c gs [itemN 0x4001 4 (s.shf (gotN gs 1)).lastFrame.toNat])) ∧
  (∀ c gs s ks, Accepts cmdShfPoolSet c gs s → ks = (gotAll gs 1).map poolClassOf →
    s.sheaf.ctxs.any (·.running) = false → Runs (.shfPoolSet c) s
      (· = (s.onSheaf fun x => { x with pool := ks }).accepted cmdShfPoolSet c gs
        [itemN 0x4001 2 (ks.map (·.count)).sum])) ∧
  Does .shfMotionSet cmdShfMotionSet (fun gs s => [itemN 0x4001 8 (motionSize (s.sourceShape (gotN gs 1)).1
      (s.sourceShape (gotN gs 1)).2)]) (fun gs s =>
    s.onSheaf fun x => { x with motion := modAt x.motion (gotN gs 1) fun _ => { field := gotH gs 2 } }) ∧
  Does .shfLadderSet cmdShfLadderSet (fun gs s => commitItems (s.commitAt 0x0530 (writesAbove 1 gs))) (fun gs s =>
    s.onSheaf fun x => { x with ladder := putFields 1 ladderFlds gs x.ladder }) ∧
  (∀ c gs s, Accepts cmdShfIrapRequest c gs s → gotN gs 2 = 1 → Runs (.shfIrapRequest c) s
    (· = (s.onSheaf fun x => { x with ladderAt := some (s.frameOr gs 3), ladder := { x.ladder with shadow :=
        { x.ladder.shadow with anchor := (s.frameOr gs 3).toNat } } }).accepted cmdShfIrapRequest c gs
      ([itemN 0x4001 4 (s.frameOr gs 3).toNat] ++ commitItems [s.nextCommit 0x0530]))) ∧
  (∀ c gs s, Accepts cmdShfIrapRequest c gs s → gotN gs 2 = 0 → has gs 1 = true → Runs (.shfIrapRequest c) s
    (· = (s.onSheaf fun x => { x with ctxs := (indexed x.ctxs).map fun kx => if (gotN gs 1).testBit kx.1 then
        { kx.2 with forced := kx.2.forced ++ [s.frameOr gs 3] } else kx.2 }).accepted cmdShfIrapRequest c gs
      [itemN 0x4001 4 (s.frameOr gs 3).toNat])) ∧
  Reads .shfStatusGet cmdShfStatusGet (fun _ s => [itemN 0x4001 4 s.shfStatus.toNat,
    itemN 0x4002 4 (halves s.sheaf.peak s.sheaf.load).toNat, itemW 0x4003 (s.sheaf.cores.map ShfCore.status),
    itemW 0x4004 s.sheaf.cnt, itemB 0x4005 (s.poolCounts.flatMap (toLe 4)),
    itemW 0x4006 (s.sheaf.ctxs.flatMap fun x => x.status :: x.cnt)]) ∧
  Does .shfCountersClear cmdShfCountersClear (fun _ _ => []) (fun gs s => s.clearShf (gotN gs 1) (gotN gs 2))

/-- the decoding core: what it takes, how a picture ends, and a core fault: a core that decodes takes no other picture, and with
no context running and no input queued it stays free. After each context has read on, the core takes the picture of the one
context that runs, if it has one and a buffer for it, and takes nothing otherwise. Without a picture in the core its end and
its fault change nothing. A picture that ends leaves the core free, its buffer a REFERENCE with its POC, and its errors
counted; then outputs, input and reading follow. A core fault ends the picture with every CTU from a free place on lost,
leaves the core in recovery and enters the fault log. CNT_CLEAR clears every context's counters. (R229, R232, R236, R237,
R240, R244, R462) -/
def Obligations.DecoderEvents : Prop :=
  (∀ s : State, s.decoder.job.isSome = true → Runs .decPictureStart s (· = s)) ∧
  (∀ s : State, s.decoder.job = none → (∀ c, c < 8 → (s.dec c).running = false ∧ (s.dec c).chunks = []) →
    Runs .decPictureStart s (· = s)) ∧
  (∀ (s v : State) (c : Nat), s.decoder.job = none → v = (List.range 8).foldl (fun s c => s.decRead c) s → c < 8 →
    (∀ d, d < 8 → d ≠ c → (v.dec d).running = false) → Runs .decPictureStart s fun u => match v.decodable c with
      | none => u = v
      | some (p, n, bs, f, a, k) => u = v.decBegin c p n bs f a k ∧
          ∃ j, u.decoder.job = some j ∧ j.ctx = c ∧ j.slot = k ∧ j.pic = p) ∧
  (∀ s : State, s.decoder.job = none → Runs .decPictureDone s (· = s) ∧ Runs .decCoreFault s (· = s)) ∧
  (∀ (s : State) (j : DecJob), s.decoder.job = some j → j.ctx < s.decoder.ctxs.length →
    j.slot < (s.dec j.ctx).slots.length → Runs .decPictureDone s fun u => ∃ v : State,
      u = ((v.bump j.ctx (fun x => x.crowded j.pic) 32).consume j.ctx j.used).decRead j.ctx ∧ v.decoder.job = none ∧
      (((v.dec j.ctx).slots[j.slot]?).map fun k => (k.st, k.poc, k.isRef)) = some (.reference, j.pic.poc, true) ∧
      (v.dec j.ctx).cnt[1]? = ((s.dec j.ctx).cnt[1]?).map (· + BitVec.ofNat 32 j.pic.errors.length)) ∧
  (∀ (s : State) (j : DecJob) (n : Nat), s.decoder.job = some j →
    n = ceilDiv j.pic.width j.pic.ctb * ceilDiv j.pic.height j.pic.ctb → Runs .decCoreFault s
      (· = ((s.draw.2.decEnd [(7, (List.range n).filter fun a => decide (Config.freeNat s.draw.1 % n ≤ a))]).onDecoder fun x =>
        { x with recovering := true }).faultLog 0x0B (0x0600 + j.ctx) j.ctx)) ∧
  (∀ s : State, Runs .decCtrlCntClear s (· = clearDec allBits s))

/-- the commands of the review decoder: DEC_CONTEXT_SET whose pool fits writes the fields and returns the buffer size.
DEC_CONTEXT_GET returns fields, buffer states and queued chunks. DEC_START starts a context that does not run. DEC_STOP of
one that does not run returns nothing; of one whose picture is not in the core it discards and returns the queued chunks and
keeps only READY buffers. DEC_FEED queues the chunk and returns how many are queued. DEC_SLOT_RELEASE releases the buffers
named. DEC_STATUS_GET returns status, load and counters; DEC_COUNTERS_CLEAR clears counters. (R230, R231, R232, R234, R241,
R242) -/
def Obligations.DecoderCommands : Prop :=
  (∀ c gs s n, Accepts cmdDecContextSet c gs s → n = putPlain 0x100 decFlds gs (s.dec (gotN gs 1)).cfg →
    s.decPoolFits n = true → Runs (.decContextSet c) s (· = (s.onDec (gotN gs 1) fun x =>
      { x with cfg := n }).accepted cmdDecContextSet c gs [itemN 0x4001 8 n.slotSize])) ∧
  Reads .decContextGet cmdDecContextGet (fun gs s => fieldItems 0x4100 decFlds (s.dec (gotN gs 1)).cfg ++
    (s.dec (gotN gs 1)).own.map (fun k => itemN 0x4001 1 k.2.st.code) ++ [itemN 0x4002 1 (s.dec (gotN gs 1)).chunks.length]) ∧
  (∀ c gs s, Accepts cmdDecStart c gs s → (s.dec (gotN gs 1)).running = false → Runs (.decStart c) s
    (· = (s.onDec (gotN gs 1) fun x => { x.begin_ with running := true, unsupported := false, sets := [], outputs := 0,
                                                       chunks := [], pos := 0 }).accepted cmdDecStart c gs [])) ∧
  (∀ c gs s, Accepts cmdDecStart c gs s → (s.dec (gotN gs 1)).running = true → Runs (.decStart c) s
    (· = s.accepted cmdDecStart c gs [])) ∧
  (∀ c gs s, Accepts cmdDecStop c gs s → (s.dec (gotN gs 1)).running = false → Runs (.decStop c) s
    (· = s.accepted cmdDecStop c gs [])) ∧
  (∀ c gs s, Accepts cmdDecStop c gs s → (s.dec (gotN gs 1)).running = true →
    s.decoder.job.any (fun j => j.ctx == gotN gs 1) = false → Runs (.decStop c) s (· = (s.onDec (gotN gs 1) fun x =>
      { x with running := false, skipping := false, chunks := [], pos := 0, annexB := false,
               slots := x.slots.map fun k => if k.st == .ready then { k with isRef := false } else {} }).accepted cmdDecStop c gs
        ((s.dec (gotN gs 1)).chunks.map Chunk.item))) ∧
  Does .decFeed cmdDecFeed (fun gs s => [itemN 0x4001 1 ((s.dec (gotN gs 1)).chunks.length + 1)]) (fun gs s =>
    (s.onDec (gotN gs 1) fun x => { x with chunks := x.chunks ++ [{ handle := gotH gs 2, offset := gotN gs 3,
                                                                    length := gotN gs 4, final := gotN gs 5 == 1 }] }).decRead
      (gotN gs 1)) ∧
  Does .decSlotRelease cmdDecSlotRelease (fun _ _ => []) (fun gs s => (gotNs gs 2).foldl (fun s k => s.onDecSlot (gotN gs 1) k
    fun z => if z.st == .ready then { z with st := if z.isRef then .heldRef else .free } else z) s) ∧
  Reads .decStatusGet cmdDecStatusGet (fun _ s => [itemN 0x4001 4 s.decStatus.toNat,
    itemN 0x4002 4 (halves s.decoder.peak s.decoder.load).toNat,
    itemW 0x4003 (s.decoder.ctxs.flatMap fun x => x.status :: x.cnt)]) ∧
  Does .decCountersClear cmdDecCountersClear (fun _ _ => []) (fun gs s => clearDec (gotN gs 1) s)

/-- the engines' jobs: taking a frame, compressing, restoring for Replay, and failures: a session without an unread frame takes
none; one that runs takes the frame named, claims room, and makes it a key frame at a start, a gap, an interval or a request.
With every engine busy no job starts; the first ready job starts on the lowest free engine. An idle engine ends and fails
nothing. A compression job whose frame was skipped leaves its engine idle; otherwise its stream and history are saved. A
first failure restarts the job, is logged and counted; a second skips the frame. When Replay wants no frame none is begun;
otherwise its 32 jobs occupy the 32 engines. A Replay stripe that fails is reported and stops Replay. CNT_CLEAR and
CNT_CLEAR_D clear the counters. (R245, R254, R255, R256, R257, R259, R261, R262, R263, R275) -/
def Obligations.CompressionEvents : Prop :=
  (∀ (s : State) (k : Nat), (∀ e ∈ s.unread ((s.cmp k).reads.getD 0) (0x0700 + k),
      (s.cmp k).taken.any (fun t => t.1 == e.id) = true) →
    Runs (.cmpTapFrameWhole k) s (· = s)) ∧
  (∀ (s v : State) (k : Nat) (e : Entry) (i : TapFrame) (bs : List Byte) (id : Nat × Nat), k < v.compress.sessions.length →
    (s.unread ((s.cmp k).reads.getD 0) (0x0700 + k)).find? (fun e => !((s.cmp k).taken.any fun t => t.1 == e.id)) = some e →
    (s.unit (s.cmp k).cfg.source).tapped.find? (fun t => t.id == e.id && t.tap == (s.cmp k).cfg.tap) = some i →
    e.unit = 0x0200 + (s.cmp k).cfg.source → s.recordOf (s.cmp k).cfg.source i.frame = some bs →
    (s.cmp k).running = true → Frame.passed i.frame (s.cmp k).startAt = false → (s.cmp k).stopAt = none →
    s.ringClaim (BitVec.ofNat 32 (s.cmp k).cfg.outRing) (chunkMax (frameHead (s.cmp k).cfg i bs) bs.length) (0x0700 + k) =
      (some id, v) →
    Runs (.cmpTapFrameWhole k) s fun u => (u.cmp k).first = false ∧ ∃ f, (u.cmp k).frames = (v.cmp k).frames ++ [f] ∧
      f.entry = e.id ∧ f.outId = id.1 ∧ f.key = ((s.cmp k).first || !((s.cmp k).begun.any fun b => b.1 + 1 == i.frame) ||
        i.frame.toNat % (s.cmp k).cfg.keyInterval == 0 || (s.cmp k).keyReq.any fun g => !(Frame.passed i.frame g))) ∧
  (∀ s : State, s.freeEngines = [] → Runs .cmpJobStart s (· = s)) ∧
  (∀ (s : State) (e k st : Nat) (rest : List Nat) (f : CmpFrame), s.freeEngines = e :: rest → s.firstJob = some (k, f, st) →
    Runs .cmpJobStart s (· = s.beginJob e (.comp k f.entry st (!f.key))
      (compClocks (s.cmp k).cfg (rawLen (frameHead (s.cmp k).cfg f.info f.record) st) (!f.key)))) ∧
  (∀ (s : State) (e : Nat), (s.compress.engines[e]?).bind (·.job) = none →
    Runs (.cmpJobDone e) s (· = s) ∧ Runs (.engineCheckFailure e) s (· = s) ∧ Runs (.decompJobDone e) s (· = s)) ∧
  (∀ (s : State) (e k id st : Nat) (b : Bool), (s.compress.engines[e]?).bind (·.job) = some (.comp k id st b) →
    (s.cmp k).frames.find? (fun f => f.entry == id) = none → Runs (.cmpJobDone e) s (· = s.onEngine e fun _ => {})) ∧
  (∀ (s : State) (e k id st : Nat) (b : Bool) (f : CmpFrame), (s.compress.engines[e]?).bind (·.job) = some (.comp k id st b) →
    (s.cmp k).frames.find? (fun f => f.entry == id) = some f → f.key ≠ b → Runs (.cmpJobDone e) s fun u =>
      ∃ (x : CmpStream) (p : Bool) (h : List Byte), u = (((s.onEngine e fun _ => {}).onCompress fun c =>
        { c with history := setAt c.history (32 * k + st) h }).onCmp k fun y => { y with frames := y.frames.map fun g =>
          if g.entry == id then { f with streams := setAt f.streams st (some x), poison := p } else g }).cmpFinish k
            { f with streams := setAt f.streams st (some x), poison := p }) ∧
  (∀ (s : State) (e k id st : Nat) (b : Bool), s.compress.engines[e]? = some { job := some (.comp k id st b), retried := false } →
    Runs (.engineCheckFailure e) s (· = ((((s.faultLog 0x0A (0x0700 + e) (e * 256 + st)).onEngine e fun g =>
      { g with retried := true }).countCmp k 3).onCmp k fun x => { x with frames := x.frames.map fun f =>
        if f.entry == id then { f with retry := true } else f }))) ∧
  (∀ (s v : State) (e k id st : Nat) (b : Bool) (f : CmpFrame), v = s.faultLog 0x0A (0x0700 + e) (e * 256 + st) →
    s.compress.engines[e]? = some { job := some (.comp k id st b), retried := true } →
    (v.cmp k).frames.find? (fun f => f.entry == id) = some f →
    Runs (.engineCheckFailure e) s (· = (v.onEngine e fun _ => {}).cmpEngineSkip k f)) ∧
  (∀ s : State, s.replayWants = false → Runs .replayDecompStart s (· = s)) ∧
  (∀ (s : State) (b : Buffer) (i off : Nat) (y : Bool), s.freeEngines.length = 32 → s.compress.engines.length = 32 →
    s.firstJob = none → s.replayWants = true → s.buffer? (BitVec.ofNat 32 s.intake.replay.cfg.source) = some b →
    s.replayNext = some (i, off, y) → Runs .replayDecompStart s fun u => u.compress.replay = some (decompChunk b off i) ∧
      ∀ k, k < 32 → (u.compress.engines[k]?).bind (·.job) = some (.replay k)) ∧
  (∀ (s v : State) (e st cause : Nat) (c : DecompChunk) (out : List Byte),
    (s.compress.engines[e]?).bind (·.job) = some (.replay st) → v = s.onEngine e (fun _ => {}) → s.compress.replay = some c →
    decompress c st (s.intake.replay.cfg.accepts (chunkHead c.bytes)) (if (chunkHead c.bytes).flags / 2 % 2 = 1 then
      some (s.compress.history.getD (128 + st) []) else some []) = (cause, out) → cause ≠ 0 →
    Runs (.decompJobDone e) s (· = (v.streamFault 0 (chunkHead c.bytes).frame st cause).replayFail)) ∧
  (∀ (s : State) (k : Nat), Runs (.cmpCtrlCntClear k) s (· = clearCmp (2 ^ k) false s)) ∧
  (∀ s : State, Runs .cmpCtrlCntClearD s (· = clearCmp 0 true s))

/-- the commands of Cinema Compress: CMP_SESSION_SET writes the fields, follows the tap and returns the largest chunk.
CMP_SESSION_START starts a session that does not run from the frame returned. CMP_SESSION_STOP of one that does not run
returns its last frame; with AT_FRAME a running one keeps that frame, settles, and the reply names the frame before.
CMP_KEY_REQUEST adds the frame for a running session. CMP_SESSION_GET returns fields and status. CMP_VERIFY of a chunk waits
for its 32 jobs. CMP_STATUS_GET returns status, utilisation and counters, CMP_COUNTERS_CLEAR clears counters. (R245, R255,
R258, R261, R273) -/
def Obligations.CompressionCommands : Prop :=
  Does .cmpSessionSet cmdCmpSessionSet
    (fun gs s => [itemN 0x4001 8 (s.cmpWorst (putPlain 0x100 cmpFlds gs (s.cmp (gotN gs 1)).cfg))])
    (fun gs s => (s.onCmp (gotN gs 1) fun x =>
      { x with cfg := putPlain 0x100 cmpFlds gs (s.cmp (gotN gs 1)).cfg }).cmpFollow) ∧
  (∀ c gs s, Accepts cmdCmpSessionStart c gs s → (s.cmp (gotN gs 1)).running = false → Runs (.cmpSessionStart c) s
    (· = (s.onCmp (gotN gs 1) fun x => { x with running := true, startAt := s.frameOr gs 2, stopAt := none, first := true,
                                                begun := none, keyReq := [] }).accepted cmdCmpSessionStart c gs
      [itemN 0x4001 4 (s.frameOr gs 2).toNat])) ∧
  (∀ c gs s, Accepts cmdCmpSessionStop c gs s → (s.cmp (gotN gs 1)).running = false → Runs (.cmpSessionStop c) s
    (· = s.accepted cmdCmpSessionStop c gs [itemN 0x4001 4 (s.cmp (gotN gs 1)).lastFrame.toNat])) ∧
  (∀ c gs s f, Accepts cmdCmpSessionStop c gs s → (s.cmp (gotN gs 1)).running = true → gotF? gs 2 = some f →
    Runs (.cmpSessionStop c) s (· = ((s.onCmp (gotN gs 1) fun x => { x with stopAt := some f }).cmpSettle (gotN gs 1)).accepted
      cmdCmpSessionStop c gs [itemN 0x4001 4 (f - 1).toNat])) ∧
  Does .cmpKeyRequest cmdCmpKeyRequest (fun gs s => [itemN 0x4001 4 (s.frameOr gs 2).toNat]) (fun gs s =>
    s.onCmp (gotN gs 1) fun x => if x.running then { x with keyReq := x.keyReq ++ [s.frameOr gs 2] } else x) ∧
  Reads .cmpSessionGet cmdCmpSessionGet (fun gs s => fieldItems 0x4100 cmpFlds (s.cmp (gotN gs 1)).cfg ++
    [itemN 0x4001 4 (s.cmp (gotN gs 1)).status.toNat]) ∧
  (∀ c gs s b, Accepts cmdCmpVerify c gs s → s.buffer? (gotH gs 1) = some b → Runs (.cmpVerify c) s
    (· = (s.draw.2.onCompress fun x => { x with verifies := x.verifies ++
      [{ mb := s.draw.1, handle := gotH gs 1, offset := gotN gs 2, work := decompChunk b (gotN gs 2) 0 }] }).awaits
        cmdCmpVerify c gs (.verify s.draw.1))) ∧
  Reads .cmpStatusGet cmdCmpStatusGet (fun _ s => [itemN 0x4001 4 s.cmpStatus.toNat,
    itemN 0x4002 4 (halves s.compress.peak s.compress.util).toNat,
    itemW 0x4003 (s.compress.sessions.flatMap fun x => x.status :: x.cnt), itemW 0x4004 s.compress.cnt]) ∧
  Does .cmpCountersClear cmdCmpCountersClear (fun _ _ => []) (fun gs s => clearCmp (gotN gs 1) (gotN gs 2 == 1) s)

/-- with Q = 1 the residual restores every code exactly: for codes x and predictions p from 0 to 65,535: the residual is (x − p)
mod 2^16 read as a signed 16-bit value t; z is 2t for t ≥ 0 and −2t − 1 for t < 0, and fits 16 bits; the reconstructed code
is x, and decoding z against the same prediction gives x. (R249) -/
def Obligations.LosslessResidualIsExact : Prop :=
  ∀ top x p : Nat, x < 65536 → p < 65536 →
    (∃ t : Int, -32768 ≤ t ∧ t < 32768 ∧ ((x : Int) - p - t) % 65536 = 0 ∧
      ((residual 1 top x p).1 : Int) = if 0 ≤ t then 2 * t else -2 * t - 1) ∧
    (residual 1 top x p).1 < 65536 ∧ (residual 1 top x p).2 = x ∧ restore 1 top (residual 1 top x p).1 p = x

/-- a stripe decodes to its source: exactly with Q = 1, within ⌊Q / 2⌋ of every code otherwise: for a stripe of any number of
exposures, rows and columns with codes from 0 to the top of the code range, in colour or monochrome: the transformed bytes
are two for each sample, and taking them back to z values and these to codes gives the same exposures, rows and columns. With
Q = 1 the codes are the source codes; with Q from 2 to 255 every one differs from its source by at most ⌊Q / 2⌋, and it is
the code that the encoder predicted from. (R248, R249, R250, R251) -/
def Obligations.StripesRestore : Prop :=
  ∀ (q top sv st width rows : Nat) (planes : List (List (List Nat))), 1 ≤ q → q ≤ 255 → top < 65536 → sv ≤ top →
    (st = 1 ∨ st = 2) → (∀ p ∈ planes, p.length = rows ∧ ∀ row ∈ p, row.length = width ∧ ∀ x ∈ row, x ≤ top) →
    (transformed (forwardStripe q top sv st planes)).length = 2 * (planes.length * rows * width) ∧
    (∀ (e : Nat) (p : List (List Nat)), planes[e]? = some p →
      ∃ o : List (List Nat), (backwardStripe q top sv st width rows planes.length
          (untransformed (transformed (forwardStripe q top sv st planes))))[e]? = some o ∧
        o.length = rows ∧ (q = 1 → o = p) ∧
        ∀ (r : Nat) (row : List Nat), p[r]? = some row → ∃ b : List Nat, o[r]? = some b ∧ b.length = width ∧
          ∀ c x : Nat, row[c]? = some x → ∃ y : Nat, b[c]? = some y ∧ y ≤ x + q / 2 ∧ x ≤ y + q / 2)

/-- the arithmetic of linearisation, white balance, the Look's matrix, tone curves and audio gain: every quotient is rounded to
the nearest value, a tie to the even one. A code c of BITS bits becomes y(c) − y(BLACK_CODE), with y interpolated between the
knots n = c >> s and n + 1, s = BITS − 10, both terms saturated to L40; at reset K[n] = n × 2^13 and BLACK_CODE is 0 on every
curve. White balance multiplies by the gain of the array position over 65,536, the top left one in monochrome. The Look's
matrix sums coefficients in units of 2^-20 and offset exactly, then rounds and saturates once. The tone curve interpolates
between T[k] and T[k + 1] with k = t >> 4 and ends with T[4095]. An audio sample becomes x × GAIN / 16,384 saturated to 32
bits; GAIN is 16,384 at reset. (R127, R153, R168, R171, R362) -/
def Obligations.SampleArithmetic : Prop :=
  (∀ (n : Int) (d : Nat), 0 < d → 2 * (n - d * roundDiv n d).natAbs ≤ d ∧
    (2 * (n - d * roundDiv n d).natAbs = d → roundDiv n d % 2 = 0)) ∧
  (∀ (k : Curve) (bits c : Nat), 10 ≤ bits →
    k.linear bits c = satL40 (k.at bits c - k.at bits k.black) ∧
    k.at bits c = satL40 (roundDiv (k.knot (c >>> (bits - 10)) * 2 ^ (bits - 10) +
      (k.knot (c >>> (bits - 10) + 1) - k.knot (c >>> (bits - 10))) * ((c % 2 ^ (bits - 10) : Nat) : Int)) (2 ^ (bits - 10)))) ∧
  (∀ u ∈ State.reset.intake.units, ∀ cs ∈ u.curves, ∀ k ∈ cs, k.black = 0 ∧ ∀ n, k.knot n = n * 2 ^ 13) ∧
  (∀ (c : MillConfig) (cfa i j : Nat) (v : Int), (wbPixel c cfa i j v).1 = satL40 (roundDiv (v *
    (if cfa = 4 then c.gainTl else if i % 2 = 0 then (if j % 2 = 0 then c.gainTl else c.gainTr)
      else if j % 2 = 0 then c.gainBl else c.gainBr : Nat)) 65536)) ∧
  (∀ (c : LookConfig) (b : Bank) (x y z u v w : Int),
    u = satL40 (roundDiv (c.m00 * x + c.m01 * y + c.m02 * z + c.o0 * 2 ^ 20) (2 ^ 20)) →
    v = satL40 (roundDiv (c.m10 * x + c.m11 * y + c.m12 * z + c.o1 * 2 ^ 20) (2 ^ 20)) →
    w = satL40 (roundDiv (c.m20 * x + c.m21 * y + c.m22 * z + c.o2 * 2 ^ 20) (2 ^ 20)) →
    (c.mode = 1 → lookPixel c b x y z = (u, v, w)) ∧
    lookPixel c b x y z = lookPixel { c with
      m00 := 2 ^ 20, m01 := 0, m02 := 0, o0 := 0, m10 := 0, m11 := 2 ^ 20, m12 := 0, o1 := 0,
      m20 := 0, m21 := 0, m22 := 2 ^ 20, o2 := 0 } b u v w) ∧
  (∀ (e : Nat → Int) (t : Nat), t < 65536 → curveOut e 4 t = if t >>> 4 ≤ 4094
    then roundDiv (e (t >>> 4) * 16 + (e (t >>> 4 + 1) - e (t >>> 4)) * ((t % 16 : Nat) : Int)) 16 else e 4095) ∧
  (∀ (x : Int) (g : Nat), gained x g = (let v := roundDiv (x * g) 16384
    if v < -2147483648 then -2147483648 else if 2147483647 < v then 2147483647 else v)) ∧
  (∀ p ∈ State.reset.audio.captures, ∀ g ∈ p.gains, g = 16384) ∧
  (∀ p ∈ State.reset.audio.ports, ∀ g ∈ p.gates, g.gain = 16384)

/-- clears, migrations, integrity, refresh, training, power-down and the aperture of the Granary: a clear that ends makes the
buffer usable and answers its GRN_ALLOC. No migration starts while one runs or MIGRATE_ENABLE is 0; one that starts takes its
new place. A copy that ends awaits the frame start. A switched retirement releases its granule, retired, with a notice. A
block read again is counted; one lost is poisoned, counted and logged, and its granule's retirement waits. MR4 without a
change changes nothing; a new band makes training due and is reported. A refresh interval outside a window lowers a rank's
balance by at most 1, not below -8. Training falls due on a channel that is up; a forced one is counted and reported. A rank
powers down outside a window on a channel that may. An access in a mapped range reads or writes the buffer, any other reads 0
or is ignored, and is counted; without an endpoint there is none. (R280, R284, R285, R290, R295, R296, R297, R298, R299,
R303, R462) -/
def Obligations.GranaryEvents : Prop :=
  (∀ (s : State) (h : Handle), s.buffer? h = none → Runs (.memoryClearDone h) s (· = s)) ∧
  (∀ (s : State) (h : Handle) (b : Buffer), s.buffer? h = some b → b.clearing = true → Runs (.memoryClearDone h) s
    (· = complete (.clear h) stOk [itemN 0x4001 4 h.toNat, itemN 0x4002 8 b.size, itemN 0x4003 1 b.place.code]
      (s.onGranary fun g =>
        { g with buffers := g.buffers.map fun x => if x.handle = h then { x with clearing := false } else x }))) ∧
  (∀ s : State, (s.migrating = true ∨ s.granary.cfg.migrateEnable = 0 ∨ s.nextMigration = none) →
    Runs .migrationCopyStart s (· = s)) ∧
  (∀ (s : State) (m : Migration) (rs : List Run), s.migrating = false → s.granary.cfg.migrateEnable ≠ 0 →
    s.nextMigration = some (m, rs) → Runs .migrationCopyStart s fun u => ∃ rest, u.granary.migrations =
      { m with stage := .copying, newRuns := rs } :: rest ∧ u.granary.buffers = s.granary.buffers) ∧
  (∀ s : State, Runs .migrationCopyDone s (· = s.onGranary fun g => { g with migrations := g.migrations.map fun m =>
    if m.stage == .copying then { m with stage := .copied } else m })) ∧
  (∀ s : State, s.granary.migrations.find? (fun m => m.stage == .switched) = none → Runs .migrationRelease s (· = s)) ∧
  (∀ (s : State) (m : Migration), s.granary.migrations.find? (fun m => m.stage == .switched) = some m → m.kind = .retirement →
    Runs .migrationRelease s fun u => (∃ v : State, u = v.notice 0x0880 [itemN 1 4 m.handle.toNat, itemN 2 1 2,
      itemN 3 1 m.oldPlace.code, itemN 4 1 m.newPlace.code, itemN 5 4 m.frame.toNat]) ∧
      u.granary.migrations = s.granary.migrations.filter (fun x => x.stage != .switched) ∧
      u.granary.cnt[2]? = (s.granary.cnt[2]?).map (· + 1)) ∧
  (∀ (s : State) (h : Handle) (k : Nat) (b : Buffer), s.buffer? h = some b → b.poison.contains k = false → k * 64 < b.size →
    b.place ≠ .sram → Runs (.blockCheckFail h k true) s (· = (s.onChannel (b.channelOf k) fun c =>
      { c with cntReread := c.cntReread + 1 }).countGrn 0)) ∧
  (∀ (s : State) (h : Handle) (k : Nat) (b : Buffer), s.buffer? h = some b → b.poison.contains k = false → k * 64 < b.size →
    Runs (.blockCheckFail h k false) s fun u => (u.buffer? h).map (·.poison) = some (b.poison ++ [k]) ∧
      u.granary.cnt[1]? = (s.granary.cnt[1]?).map (· + 1) ∧ (b.place = .sram → u.granary.channels = s.granary.channels) ∧
      (b.place ≠ .sram → ∃ m ∈ u.granary.migrations, m.handle = h ∧
        m.granule = k * 64 / (if b.pattern = 1 then 1024 else 4096))) ∧
  (∀ (s : State) (bs : List Nat), (∀ kb ∈ indexed bs, (s.channel kb.1).band = kb.2 % 4) → Runs (.mr4Poll bs) s (· = s)) ∧
  (∀ (s : State) (b : Nat), (s.channel 0).up = true → (s.channel 0).band ≠ b % 4 → Runs (.mr4Poll [b]) s
    (· = (s.onChannel 0 fun c => { c with band := b % 4, retrainDue := true }).notice 0x0882
      [itemN 1 1 0, itemN 2 1 (s.channel 0).band, itemN 3 1 (b % 4)])) ∧
  (∀ (s : State) (c k : Nat) (r : Rank), c < s.granary.channels.length → (s.channel c).up = true → (s.channel c).window = 0 →
    (s.channel c).ranks[k]? = some r → -8 ≤ r.balance → Runs (.refreshInterval c k) s fun u =>
      ∃ q, (u.channel c).ranks[k]? = some q ∧ -8 ≤ q.balance ∧ r.balance - 1 ≤ q.balance ∧ q.balance ≤ r.balance ∧
        q.down = false) ∧
  (∀ (s : State) (c : Nat), (s.channel c).up = true → Runs (.trainingDue c) s
    (· = s.onChannel c fun x => { x with retrainDue := true })) ∧
  (∀ (s : State) (c : Nat), (s.channel c).retrainDue = true → Runs (.forcedRetrain c) s
    (· = ((s.onChannel c fun x => { x with retrainDue := false }).countGrn 7).notice 0x0883
      [itemN 1 1 c, itemN 2 4 s.raster.frame.toNat])) ∧
  (∀ (s : State) (c : Nat), (s.channel c).retrainDue = false → Runs (.forcedRetrain c) s (· = s)) ∧
  (∀ (s : State) (c k : Nat), (s.channel c).up = true → (s.channel c).window = 0 →
    (s.granary.cfg.privChannels ≤ c ∨ s.granary.cfg.pdPriv ≠ 0) → Runs (.rankPowerDown c k) s
      (· = s.onChannel c fun x => { x with ranks := modAt x.ranks k fun r => { r with down := true } })) ∧
  (∀ (s : State) (o n : Nat) (a : Aperture) (b : Buffer), s.control.pcie0Ep = true →
    s.granary.apertures.getD (o / 2 ^ 34) {} = a → a.handle ≠ 0 → s.buffer? a.handle = some b →
    (∀ bs : List Byte, o % 2 ^ 34 + bs.length ≤ a.length → Runs (.apertureAccess o (some bs) n) s
      (· = s.putBytes a.handle (a.offset + o % 2 ^ 34) bs)) ∧
    (o % 2 ^ 34 + n ≤ a.length → Runs (.apertureAccess o none n) s (· = s.onGranary fun g =>
      { g with apertureOut := Mem.readN b.data (a.offset + o % 2 ^ 34) n,
               aperturePoison := b.poisoned (a.offset + o % 2 ^ 34) n }))) ∧
  (∀ (s : State) (o n : Nat), s.control.pcie0Ep = true → (s.granary.apertures.getD (o / 2 ^ 34) {}).handle = 0 →
    Runs (.apertureAccess o none n) s (· = (s.countGrn 8).onGranary fun g =>
      { g with apertureOut := List.replicate n 0, aperturePoison := false }) ∧
    ∀ bs, Runs (.apertureAccess o (some bs) n) s (· = s.countGrn 8)) ∧
  (∀ (s : State) (o n : Nat) (w : Option (List Byte)), s.control.pcie0Ep = false → Runs (.apertureAccess o w n) s (· = s)) ∧
  (∀ s : State, Runs .grnCtrlCntClear s (· = clearGrn allBits allBits s))

/-- the commands over the Granary's buffers, windows, fields and counters: GRN_ALLOC with room adds the buffer, cleared, and its
reply waits for the clear; without room it is counted and refused with NO_RESOURCE. GRN_FREE of a buffer that nothing refers
to removes it. GRN_INFO returns role, size, pattern, real time, place, pin, migration, referrers and windows. GRN_PIN sets
PINNED. GRN_READ returns the bytes and the poisoned blocks, GRN_WRITE stores the bytes. GRN_APERTURE_MAP maps or unmaps the
window and returns its offset. GRN_DRAM_SET writes the fields. GRN_STATUS_GET returns status, free space, counters and
channels; GRN_COUNTERS_CLEAR clears. (R278, R279, R280, R281, R283, R284, R290, R291, R301, R302) -/
def Obligations.GranaryBufferCommands : Prop :=
  (∀ c gs s b v, Accepts cmdGrnAlloc c gs s →
    s.alloc (gotN gs 1) (roundUp (gotN gs 2) 4096) (gotN gs 3) (gotN gs 4 == 1) = (some b, v) → Runs (.grnAlloc c) s fun u =>
      u = v.awaits cmdGrnAlloc c gs (.clear b.handle) ∧ v.granary.buffers = s.granary.buffers ++ [b] ∧ b.role = gotN gs 1 ∧
      b.size = roundUp (gotN gs 2) 4096 ∧ b.data = [] ∧ b.clearing = true) ∧
  (∀ c gs s, Accepts cmdGrnAlloc c gs s →
    (s.alloc (gotN gs 1) (roundUp (gotN gs 2) 4096) (gotN gs 3) (gotN gs 4 == 1)).1 = none → Runs (.grnAlloc c) s
      (· = (s.countGrn 4).refuse 0x0800 c stNoResource (gotPos gs 2) 2)) ∧
  (∀ c gs s, Accepts cmdGrnFree c gs s → Runs (.grnFree c) s
    fun u => u = (s.free (gotH gs 1)).accepted cmdGrnFree c gs [] ∧ u.buffer? (gotH gs 1) = none) ∧
  (∀ c gs s b, Accepts cmdGrnInfo c gs s → s.buffer? (gotH gs 1) = some b → Runs (.grnInfo c) s
    (· = s.accepted cmdGrnInfo c gs ([itemN 0x4001 1 b.role, itemN 0x4002 8 b.size, itemN 0x4003 1 b.pattern,
      itemN 0x4004 1 (bit b.rt), itemN 0x4005 1 b.place.code, itemN 0x4006 1 (bit b.pinned),
      itemN 0x4007 1 (bit (s.granary.migrations.any fun m => m.handle == gotH gs 1))] ++
      (s.referrers (gotH gs 1)).map (itemN 0x4008 2) ++
      [itemN 0x4009 2 (bitsOf (s.granary.apertures.map fun a => a.handle == gotH gs 1 && decide (0 < a.length)))]))) ∧
  Does .grnPin cmdGrnPin (fun _ _ => []) (fun gs s => s.onBuffer (gotH gs 1) fun b =>
    { b with pinned := ((gotN? gs 2).map (· == 1)).getD b.pinned }) ∧
  (∀ c gs s b, Accepts cmdGrnRead c gs s → s.buffer? (gotH gs 1) = some b → Runs (.grnRead c) s
    (· = s.accepted cmdGrnRead c gs (itemB 0x4001 (s.bytesOf (gotH gs 1) (gotN gs 2) (gotN gs 3)) ::
      ((blocksOf (gotN gs 2) (gotN gs 3)).filter fun k => b.poison.contains k).map fun k => itemN 0x4002 8 (64 * k)))) ∧
  Does .grnWrite cmdGrnWrite (fun _ _ => []) (fun gs s => s.putBytes (gotH gs 1) (gotN gs 2) (gotB gs 3)) ∧
  Does .grnApertureMap cmdGrnApertureMap (fun gs _ => [itemN 0x4001 8 (gotN gs 1 * 2 ^ 34)]) (fun gs s => s.onGranary fun g =>
    { g with apertures := setAt g.apertures (gotN gs 1) (if gotN gs 2 = 0 then {} else
        { handle := gotH gs 2, offset := gotN gs 3, length := gotN gs 4 }) }) ∧
  Does .grnDramSet cmdGrnDramSet (fun _ _ => []) (fun gs s => s.onGranary fun g =>
    { g with cfg := putPlain 1 dramFlds gs g.cfg }) ∧
  Reads .grnStatusGet cmdGrnStatusGet (fun _ s => [itemN 0x4001 4 s.grnStatus.toNat, itemN 0x4002 4 s.sramFree,
    itemN 0x4003 4 (s.classFree false / 256), itemN 0x4004 4 (s.classFree true / 256), itemW 0x4005 s.granary.cnt,
    itemW 0x4006 ((List.range 24).flatMap fun n => [s.chStatus n, (s.channel n).cntReread, (s.channel n).cntPoison,
      halves (s.channel n).peak (s.channel n).util])]) ∧
  Does .grnCountersClear cmdGrnCountersClear (fun _ _ => []) (fun gs s => clearGrn (gotN gs 1) (gotN gs 2) s)

/-- the commands over rings, and room in a ring: GRN_RING_ATTACH gives the host the lowest free reader place, at the ring's start
position. GRN_RING_DETACH frees the place. GRN_RING_RELEASE moves the reader on over the bytes released and returns its
position. GRN_RING_STATUS returns size, head, used and reserved bytes, the readers and at most 256 entries. GRN_RING_PUBLISH
with room publishes the entry at the head and returns its position; without room it is counted and refused. A reservation is
granted exactly when the bytes asked for, those used and those reserved fit the buffer, and a refused one is counted. (R286,
R287, R288, R289, R301) -/
def Obligations.RingCommands : Prop :=
  (∀ c gs s b r k, Accepts cmdGrnRingAttach c gs s → s.ring? (gotH gs 1) = some (b, r) →
    r.readers.findIdx? (·.isNone) = some k → Runs (.grnRingAttach c) s
      (· = (s.onRing (gotH gs 1) fun r => { r with readers := r.readers.set k (some
        { unit := 0x08F0 + k, pos := r.startPos }) }).accepted cmdGrnRingAttach c gs
        [itemN 0x4001 1 k, itemN 0x4002 8 (b.posOf r.startPos)])) ∧
  Does .grnRingDetach cmdGrnRingDetach (fun _ _ => []) (fun gs s => s.onRing (gotH gs 1) fun r =>
    ({ r with readers := r.readers.set (gotN gs 2) none } : Ring).prune) ∧
  (∀ c gs s b r p, Accepts cmdGrnRingRelease c gs s → s.ring? (gotH gs 1) = some (b, r) →
    (r.readers.getD (gotN gs 2) none).map (·.pos) = some p → Runs (.grnRingRelease c) s
      (· = (s.ringRelease (gotH gs 1) (gotN gs 2) (gotN gs 3)).accepted cmdGrnRingRelease c gs
        [itemN 0x4001 8 (b.posOf (r.advance p (gotN gs 3)))])) ∧
  (∀ c gs s b r, Accepts cmdGrnRingStatus c gs s → s.ring? (gotH gs 1) = some (b, r) → Runs (.grnRingStatus c) s
    (· = s.accepted cmdGrnRingStatus c gs ([itemN 0x4001 8 b.size, itemN 0x4002 8 (b.posOf r.head), itemN 0x4003 8 r.used,
      itemN 0x4004 8 r.reserved] ++ r.readers.map (fun x => itemN 0x4005 8 (match x with
        | some y => b.posOf y.pos
        | none => 2 ^ 64 - 1)) ++
      ((r.visible.filter fun e => decide (r.floor < e.start + e.len)).take 256).map fun e => b.entryItem e))) ∧
  (∀ c gs s v id p, Accepts cmdGrnRingPublish c gs s → s.ringClaim (gotH gs 1) (gotN gs 2) 0x0800 = (some (id, p), v) →
    Runs (.grnRingPublish c) s (· = (v.ringPublish (gotH gs 1) id (gotN gs 2)).accepted cmdGrnRingPublish c gs
      [itemN 0x4001 8 p])) ∧
  (∀ c gs s b r, Accepts cmdGrnRingPublish c gs s → s.ring? (gotH gs 1) = some (b, r) →
    b.size < gotN gs 2 + r.used + r.reserved → Runs (.grnRingPublish c) s
      (· = (s.countGrn 5).refuse 0x080B c stNoResource (gotPos gs 2) 2)) ∧
  (∀ (s : State) (h : Handle) (n m : Nat) (b : Buffer) (r : Ring), s.ring? h = some (b, r) →
    ((s.ringClaim h n m).1.isSome = true ↔ n + r.used + r.reserved ≤ b.size) ∧
    ((s.ringOpen h n).1.isSome = true ↔ n + r.used + r.reserved ≤ b.size) ∧
    (b.size < n + r.used + r.reserved → (s.ringClaim h n m).2 = s.countGrn 5 ∧ (s.ringOpen h n).2 = s.countGrn 5))

/-- completions, timeouts and links of the NVMe drives, and the journal's interval: a completion or a timeout of a command that
is not outstanding changes nothing. A successful first try is counted, leaves the queue, its bytes are on the drive, and the
next waiting command goes out. A failure that may be tried again is counted and resubmitted until RETRY_LIMIT; an Invalid
Field status fails the drive. A timeout is counted, aborts the command, and retries it with a status left free. A link that
goes down fails its drive, which is then gone; one that comes up at a root port gives the drive, and at none nothing. The
journal's interval acts on an open clip's extent only, and records each copy written further than its last record. CNT_CLEAR
clears every recording counter. (R304, R305, R309, R310, R311, R320, R462) -/
def Obligations.DriveEvents : Prop :=
  (∀ (s : State) (d i st : Nat), (s.drive d).out.find? (fun o => o.1 == i) = none →
    Runs (.nvmeCompletion d i st) s (· = s) ∧ Runs (.nvmeCommandTimeout d i) s (· = s)) ∧
  (∀ (s : State) (d i j : Nat) (c : NvmeCmd), (s.drive d).out.find? (fun o => o.1 == i) = some (j, c) → c.tries = 0 →
    Runs (.nvmeCompletion d i 0) s (· = ((s.onDrive d fun x =>
      { x with cnt := bumpAt x.cnt 0, out := x.out.filter fun o => o.1 != i }).wroteClip d c).submit d 1)) ∧
  (∀ (s : State) (d i j st : Nat) (c : NvmeCmd), (s.drive d).out.find? (fun o => o.1 == i) = some (j, c) → st ≠ 0 → st ≠ 2 →
    c.tries < s.record.retryLimit → Runs (.nvmeCompletion d i st) s (· = (s.onDrive d fun x =>
      { x with out := x.out.map fun o => if o.1 == i then (i, { c with tries := c.tries + 1, status := st }) else o,
               cnt := bumpAt (bumpAt x.cnt 0) 1 }).send (.nvme d i c.op c.lba c.data c.fua))) ∧
  (∀ (s : State) (d i j : Nat) (c : NvmeCmd), (s.drive d).out.find? (fun o => o.1 == i) = some (j, c) →
    Runs (.nvmeCompletion d i 2) s (· = (s.onDrive d fun x => { x with cnt := bumpAt x.cnt 0 }).driveFail d 2 c.lba)) ∧
  (∀ (s v : State) (d i : Nat), (s.drive d).out.any (fun o => o.1 == i) = true →
    v = (s.onDrive d fun x => { x with cnt := bumpAt x.cnt 2 }).send (.nvmeAbort d i) → Runs (.nvmeCommandTimeout d i) s
      (· = v.draw.2.retry d i (Config.freeNat v.draw.1 % 65536) true)) ∧
  (∀ (s : State) (d : Nat), Runs (.pcieLinkDown d) s fun u => ∃ v : State,
    u = v.onDrive d (fun x => { x with info := none, out := [], queue := [] }) ∧
    ((s.drive d).failed = true ∨ (s.drive d).info = none → v = s.draw.2)) ∧
  (∀ (s : State) (d : Nat) (i : DriveInfo), s.rootPort d = true → Runs (.pcieLinkUp d i) s
    (· = s.onDrive d fun x => { x with info := some i, failed := x.failed && x.member, out := [], queue := [] })) ∧
  (∀ (s : State) (d : Nat) (i : DriveInfo), s.rootPort d = false → Runs (.pcieLinkUp d i) s (· = s)) ∧
  (∀ (s : State) (k n : Nat), (s.record.volume = none ∨ s.clip? k = none ∨ (s.clip? k).map (·.isOpen) = some false) →
    Runs (.journalInterval k n) s (· = s)) ∧
  (∀ (s : State) (v : Volume) (c : Clip) (e : Extent) (y : Copy) (k n : Nat), s.record.volume = some v → s.clip? k = some c →
    c.isOpen = true → c.extents.find? (fun x => x.ordinal == n) = some e → e.copies = [y] → y.lost = false →
    y.recorded < s.doneBytes k n y → Runs (.journalInterval k n) s
      (· = s.journalExtent c (2 ^ v.shift) e y (s.doneBytes k n y) 0)) ∧
  (∀ s : State, Runs .recCtrlCntClear s (· = clearRec allBits allBits s))

/-- the commands over volumes, clips and drives: REC_VOLUME_FORMAT writes a new volume's superblocks to the drives named and
returns its id and the extents of each; the drives hold no mounted volume then. REC_VOLUME_MOUNT of a volume found mounts it,
recovers its open clips and returns id, layout, clips, clips recovered and members missing. REC_VOLUME_UNMOUNT takes the
volume away; without one, or while a session runs, it is refused. REC_VOLUME_INFO and REC_CLIP_LIST return what the volume
holds. REC_CLIP_READ stores the clip's bytes of the range in the buffer and returns how many. REC_DRIVE_INFO returns
identity, SMART log and status. (R305, R306, R307, R308, R310, R318) -/
def Obligations.VolumeCommands : Prop :=
  (∀ c gs s r, Accepts cmdRecVolumeFormat c gs s →
    r = s.volumeFormat (gotN gs 1) (gotN gs 2) (gotN gs 3) (gotN gs 4) → Runs (.recVolumeFormat c) s fun u =>
      u = r.2.2.accepted cmdRecVolumeFormat c gs (itemB 0x4001 r.1 :: r.2.1.map (itemN 0x4002 8)) ∧
      r.2.2.record.volume = none ∧ r.2.1.length = (membersOf (gotN gs 1)).length) ∧
  (∀ c gs s v n t, Accepts cmdRecVolumeMount c gs s → s.volumeMount (gotN gs 1) = (some (v, n), t) → Runs (.recVolumeMount c) s
    (· = t.accepted cmdRecVolumeMount c gs [itemB 0x4001 v.id, itemN 0x4002 1 v.layout, itemN 0x4003 4 v.clips.length,
      itemN 0x4004 4 n, itemN 0x4005 1 (maskOf (fun d => (t.drive d).member && (t.drive d).failed) 4)])) ∧
  (∀ c gs s v, Accepts cmdRecVolumeUnmount c gs s → s.recRuns = false → s.record.volume = some v → Runs (.recVolumeUnmount c) s
    (· = (s.onRecord fun r => { r with volume := none, drives := r.drives.map fun x =>
      { x with member := false } }).accepted cmdRecVolumeUnmount c gs [])) ∧
  (∀ c gs s, Accepts cmdRecVolumeUnmount c gs s → s.recRuns = true → Runs (.recVolumeUnmount c) s
    (· = s.refuse 0x0902 c stBusy 0 0)) ∧
  (∀ c gs s, Accepts cmdRecVolumeUnmount c gs s → s.recRuns = false → s.record.volume = none → Runs (.recVolumeUnmount c) s
    (· = s.refuse 0x0902 c stNoVolume 0 0)) ∧
  (∀ c gs s v d, Accepts cmdRecVolumeInfo c gs s → s.record.volume = some v → d = (membersOf v.members).headD 0 →
    Runs (.recVolumeInfo c) s (· = s.accepted cmdRecVolumeInfo c gs ([itemB 0x4001 ((superBytes v d (s.drive d).extents
        ((List.range 4).map fun k => if v.members.testBit k then ((s.drive k).info.map (·.serial)).getD [] else [])).take 128)] ++
      (membersOf v.members).map (fun k => itemN 0x4002 8 ((s.drive k).extents - (s.drive k).next)) ++
      [itemN 0x4003 4 v.freeRecords] ++ s.record.drives.map fun x => itemN 0x4004 1 x.state))) ∧
  (∀ c gs s v, Accepts cmdRecClipList c gs s → s.record.volume = some v → Runs (.recClipList c) s
    (· = s.accepted cmdRecClipList c gs (((v.clips.filter fun x => decide (gotN gs 1 ≤ x.no)).take (gotN gs 2)).flatMap
      fun x => v.clipItems x))) ∧
  (∀ c gs s x n, Accepts cmdRecClipRead c gs s → s.clip? (gotN gs 1) = some x → n = min (gotN gs 3) (s.clipSize x - gotN gs 2) →
    Runs (.recClipRead c) s (· = (s.putBytes (gotH gs 4) (gotN gs 5) (s.clipRead x (gotN gs 2) n)).accepted cmdRecClipRead c gs
      [itemN 0x4001 4 n])) ∧
  Reads .recDriveInfo cmdRecDriveInfo (fun gs s =>
    [itemB 0x4001 (((s.drive (gotN gs 1)).info.map (·.model)).getD []),
     itemB 0x4002 (((s.drive (gotN gs 1)).info.map (·.serial)).getD []),
     itemB 0x4003 (((s.drive (gotN gs 1)).info.map (·.firmware)).getD []),
     itemB 0x4004 (((s.drive (gotN gs 1)).info.map (·.smart)).getD []), itemN 0x4005 4 (s.drive (gotN gs 1)).status.toNat])

/-- the commands of the recording sessions: REC_SESSION_SET whose sources no other session names writes the fields; its rings
follow. REC_START reserves the clips' numbers and returns them with the frame: with AT_FRAME it waits for that frame, without
it the session starts at the frame in progress. REC_STOP with AT_FRAME is kept by a session that runs or waits; without it a
running session stops at the frame in progress. REC_METADATA_ADD whose items fit queues them. REC_STATUS_GET returns status
and counters of drives and sessions, REC_COUNTERS_CLEAR clears counters. (R312, R313, R314, R315, R316, R318, R320) -/
def Obligations.RecordingSessionCommands : Prop :=
  (∀ c gs s n v, Accepts cmdRecSessionSet c gs s → n = putPlain 0x100 recFlds gs (s.recSession (gotN gs 1)).cfg →
    s.namedOnce (gotN gs 1) n = true → v = (s.onRec (gotN gs 1) fun x => { x with cfg := n }) →
    (s.recSession (gotN gs 1)).startAt = none → Runs (.recSessionSet c) s
      (· = v.recAttach.accepted cmdRecSessionSet c gs [])) ∧
  (∀ c gs s r f, Accepts cmdRecStart c gs s → (s.recSession (gotN gs 1)).startAt = none → r = s.reserveClips (gotN gs 1) →
    gotF? gs 2 = some f → has gs 2 = true → Runs (.recStart c) s
      (· = (r.2.onRec (gotN gs 1) fun x => { x with startAt := some f }).accepted cmdRecStart c gs
        (itemN 0x4001 4 f.toNat :: r.1.map (itemN 0x4002 4)))) ∧
  (∀ c gs s r v, Accepts cmdRecStart c gs s → (s.recSession (gotN gs 1)).startAt = none → r = s.reserveClips (gotN gs 1) →
    gotF? gs 2 = none → has gs 2 = false → gotN gs 1 < s.record.sessions.length →
    (s.recSession (gotN gs 1)).running = false → s.record.volume = some v → v.full = false →
    Runs (.recStart c) s fun u => u = (r.2.recStart (gotN gs 1) r.2.raster.frame true).accepted cmdRecStart c gs
        (itemN 0x4001 4 s.raster.frame.toNat :: r.1.map (itemN 0x4002 4)) ∧
      ((r.2.recStart (gotN gs 1) r.2.raster.frame true).recSession (gotN gs 1)).running = true ∧
      ((r.2.recStart (gotN gs 1) r.2.raster.frame true).recSession (gotN gs 1)).first = s.raster.frame) ∧
  (∀ c gs s f, Accepts cmdRecStop c gs s → gotF? gs 2 = some f → (s.recSession (gotN gs 1)).running = true →
    Runs (.recStop c) s (· = (s.onRec (gotN gs 1) fun x => { x with stopAt := some f }).accepted cmdRecStop c gs
      [itemN 0x4001 4 f.toNat])) ∧
  (∀ c gs s, Accepts cmdRecStop c gs s → gotF? gs 2 = none → (s.recSession (gotN gs 1)).running = true →
    (s.recSession (gotN gs 1)).stop = none → Runs (.recStop c) s (· = (s.onRec (gotN gs 1) fun x =>
      { x with stop := some (s.raster.frame, 0), close := 0, stopAt := none }).accepted cmdRecStop c gs
      [itemN 0x4001 4 s.raster.frame.toNat])) ∧
  (∀ c gs s, Accepts cmdRecMetadataAdd c gs s → (payloadBytes (hostItems c s)).length ≤ 4096 →
    (payloadBytes ((s.recSession (gotN gs 1)).host ++ hostItems c s)).length ≤ 4096 → Runs (.recMetadataAdd c) s
      (· = (s.onRec (gotN gs 1) fun x => { x with host := x.host ++ hostItems c s }).accepted cmdRecMetadataAdd c gs [])) ∧
  Reads .recStatusGet cmdRecStatusGet (fun _ s => [itemN 0x4001 4 s.recWord.toNat,
    itemW 0x4002 (s.record.drives.flatMap fun x => x.status :: x.cnt),
    itemW 0x4003 ((indexed s.record.sessions).flatMap fun nx => s.recStatus nx.1 :: nx.2.cnt)]) ∧
  Does .recCountersClear cmdRecCountersClear (fun _ _ => []) (fun gs s => clearRec (gotN gs 1) (gotN gs 2) s)

/-- control over UDP, ARP, ICMP and the Ethernet links: a datagram at a port without IP changes nothing; an unsound one is
counted and dropped. A whole message in one fill from a sender that binds the mailbox is acknowledged and taken; an
acknowledgement of the outstanding fill frees it; RESET without a fill ends the binding and binds its sender. An unanswered
fill goes out again up to five times, then the binding ends with a notice, as it does at BIND_TIMEOUT. An ARP request for the
port's address enters its sender in the cache and is answered; an entry of the cache is refreshed; an echo request to the
port's address is answered, another only counted. A change of link is noted and reported. (R321, R322, R323, R324, R325) -/
def Obligations.ControlDatagramsAndIp : Prop :=
  (∀ (s : State) (d : Datagram), s.portIp d.port = false → Runs (.controlFillDatagram d) s (· = s) ∧
    Runs (.controlAckDatagram d) s (· = s) ∧ Runs (.controlResetDatagram d) s (· = s)) ∧
  (∀ (s : State) (d : Datagram), s.portIp d.port = true → datagramSound d = false →
    Runs (.controlFillDatagram d) s (· = (s.countPort d.port 0).countNet 4)) ∧
  (∀ (s : State) (d : Datagram) (x : NetPort) (k : Nat), s.portIp d.port = true → datagramSound d = true → s.ready = true →
    k = d.mailbox - 8 → s.netPort? d.port = some x → (s.transport k).client = none → (s.transport k).rx = none →
    d.flags = 1 → 1 ≤ d.fill.length → d.fill.length ≤ x.cfg.fill → d.fillNo = 0 → Runs (.controlFillDatagram d) s
      (· = takeFill commandTable (8 + k) d.fill true ((((s.countPort d.port 0).onTransport k fun t =>
        { t with client := some (d.port, d.srcIp, d.srcPort) }).onTransport k fun t =>
        { t with rx := some (d.msgSeq, d.fillNo, false) }).ipSend d.port
          (.control d.srcIp d.srcPort (8 + k) 2 d.msgSeq d.fillNo [])))) ∧
  (∀ (s : State) (d : Datagram) (k : Nat) (f : OutFill), s.portIp d.port = true → datagramSound d = true → s.ready = true →
    k = d.mailbox - 8 → (s.transport k).client = some (d.port, d.srcIp, d.srcPort) → (s.transport k).out = some f →
    d.flags = 2 → d.fill = [] → f.msgSeq = d.msgSeq → f.fillNo = d.fillNo →
    (s.control.mailboxes[8 + k]?).any (fun m => m.resetOnAck) = false → Runs (.controlAckDatagram d) s
      (· = ((s.countPort d.port 0).onTransport k fun t =>
        { t with client := some (d.port, d.srcIp, d.srcPort) }).onTransport k fun t => { t with out := none })) ∧
  (∀ (s : State) (d : Datagram) (k : Nat), s.portIp d.port = true → datagramSound d = true → s.ready = true →
    k = d.mailbox - 8 → d.flags = 4 → d.fill = [] → Runs (.controlResetDatagram d) s
      (· = ((s.countPort d.port 0).unbind k).onTransport k fun t => { t with client := some (d.port, d.srcIp, d.srcPort) })) ∧
  (∀ (s : State) (k : Nat) (f : OutFill), k < 4 → (s.transport k).out = some f → f.resends < 5 →
    Runs (.controlResendTimer (8 + k)) s (· = (s.onTransport k fun t =>
      { t with out := some { f with resends := f.resends + 1 } }).sendFill k)) ∧
  (∀ (s : State) (k : Nat) (f : OutFill), k < 4 → (s.transport k).out = some f → 5 ≤ f.resends →
    Runs (.controlResendTimer (8 + k)) s (· = ((s.unbind k).countNet 5).notice 0x0A86 [itemN 1 1 (8 + k), itemN 2 1 0])) ∧
  (∀ (s : State) (k : Nat), k < 4 → (s.transport k).client.isSome = true → Runs (.controlBindTimeout (8 + k)) s
    (· = (s.unbind k).notice 0x0A86 [itemN 1 1 (8 + k), itemN 2 1 1])) ∧
  (∀ (s : State) (k : Nat), k < 4 → (s.transport k).client = none → Runs (.controlBindTimeout (8 + k)) s (· = s)) ∧
  (∀ (s : State) (p : Nat) (a : ArpPacket) (x : NetPort), s.portOpen p = true → s.netPort? p = some x → x.cfg.ipAddr ≠ 0 →
    a.targetIp.toNat = x.cfg.ipAddr → a.request = true → Runs (.arpPacket p a) s
      (· = ((s.countPort p 0).onNetPort p fun x => { x with arp := arpPut a.senderIp.toNat a.senderMac x.arp }).ipSend p
        (.arpReply a.senderIp.toNat a.senderMac))) ∧
  (∀ (s : State) (p : Nat) (a : ArpPacket), s.portOpen p = false → Runs (.arpPacket p a) s (· = s)) ∧
  (∀ (s : State) (p : Nat) (i : Word) (x : NetPort), s.netPort? p = some x → Runs (.arpRefresh p i) s
    (· = (if x.arp.any fun e => e.1 == i.toNat then s.ipSend p (.arpRequest i.toNat) else s))) ∧
  (∀ (s : State) (p : Nat) (a b : Word) (bs : List Byte) (x : NetPort), s.portOpen p = true → s.netPort? p = some x →
    Runs (.icmpEchoRequest p a b bs) s (· = (if x.cfg.ipAddr != 0 && x.cfg.ipAddr == b.toNat then
      (s.countPort p 0).ipSend p (.icmpReply a bs) else s.countPort p 0))) ∧
  (∀ (s : State) (p : Nat) (b : Bool) (x : NetPort), s.netPort? p = some x → x.linkUp ≠ b → (b = false ∨ x.cfg.portEnable ≠ 0) →
    Runs (.ethLinkChange p b) s (· = (s.onNetPort p fun x => { x with linkUp := b }).notice 0x0A80
      [itemN 1 1 p, itemN 2 1 (bit b), itemN 3 1 x.cfg.speed, itemN 4 1 x.cfg.fec])) ∧
  (∀ (s : State) (p : Nat) (x : NetPort), s.netPort? p = some x → Runs (.ethLinkChange p x.linkUp) s (· = s))

/-- PTP messages, timers and commands: a PTP message on the other port is counted and dropped. A Sync of another than the master
is only counted; one of the master that is two-step waits for its Follow_Up, and one complete before a path delay is known
keeps its forward time, as a Follow_Up completes its Sync. A Delay_Resp of the request outstanding gives the mean path delay.
An Announce of another clock is noted and the best master chosen; after the receipt timeout the master is forgotten, counted,
and one chosen anew. The timers send Delay_Req, and as master Sync and Announce, each with its next number; a master answers
Delay_Req. PTP_CONFIG_SET writes the fields and starts or ends PTP, PTP_STATUS_GET returns the state, PTP_RESTEP of a clock
that tracks makes a step due, else NOT_LOCKED. (R326, R327, R328, R329, R330, R331, R337, R339) -/
def Obligations.PtpEventsAndCommands : Prop :=
  (∀ (s : State) (p : Nat) (m : PtpSync), s.portIp p = true → s.net.ptp.cfg.enable ≠ 0 → p ≠ s.net.ptp.cfg.port →
    Runs (.syncReceived p m) s (· = (s.countPort p 0).countPort p 3)) ∧
  (∀ (s : State) (p : Nat) (m : PtpSync), s.portIp p = true → s.net.ptp.cfg.enable ≠ 0 → p = s.net.ptp.cfg.port →
    s.net.ptp.master.map (·.source) ≠ some m.source → Runs (.syncReceived p m) s (· = s.countPort p 0)) ∧
  (∀ (s : State) (p : Nat) (m : PtpSync), s.portIp p = true → s.net.ptp.cfg.enable ≠ 0 → p = s.net.ptp.cfg.port →
    s.net.ptp.master.map (·.source) = some m.source → s.net.ptp.pathDelay = none → Runs (.syncReceived p m) s
      (· = (if m.twoStep then (s.countPort p 0).onPtp fun x => { x with pendingSync := some m }
        else (s.countPort p 0).onPtp fun x => { x with lastForward := some (m.received - m.origin - m.correction) }))) ∧
  (∀ (s : State) (p : Nat) (m y : PtpSync), s.portIp p = true → s.net.ptp.cfg.enable ≠ 0 → p = s.net.ptp.cfg.port →
    s.net.ptp.pendingSync = some y → y.source = m.source → y.seq = m.seq → Runs (.followUpReceived p m) s
      (· = ((s.countPort p 0).onPtp fun x => { x with pendingSync := none }).syncComplete
        (y.received - m.origin - y.correction - m.correction))) ∧
  (∀ (s : State) (p : Nat) (m : PtpDelayResp) (t f : Int), s.portIp p = true → s.net.ptp.cfg.enable ≠ 0 →
    p = s.net.ptp.cfg.port → s.net.ptp.delayReq = some (m.seq, t) → s.net.ptp.lastForward = some f →
    s.net.ptp.master.map (·.source) = some m.source → Runs (.delayRespReceived p m) s
      (· = (s.countPort p 0).onPtp fun x =>
        { x with delayReq := none, pathDelay := some ((f + (m.received - t - m.correction)) / 2) })) ∧
  (∀ (s w : State) (p : Nat) (a : PtpAnnounce), s.portIp p = true → s.net.ptp.cfg.enable ≠ 0 → p = s.net.ptp.cfg.port →
    a.source ≠ clockIdentity → a.grandmaster ≠ clockIdentity →
    w = ((s.countPort p 0).onPtp fun x => { x with foreign := (x.foreign.filter fun f => f.1.source != a.source) ++
      [(a, min 2 (((x.foreign.find? fun f => f.1.source == a.source).map (·.2)).getD 0 + 1))] }).bmca false →
    Runs (.announceReceived p a) s (· = (if w.net.ptp.master.map (·.source) = some a.source then w.onPtp fun x =>
      { x with utcOffset := if a.utcValid then a.utcOffset else x.utcOffset, tlv := a.syncTlv } else w))) ∧
  (∀ (s : State) (a : PtpAnnounce), s.net.ptp.cfg.enable ≠ 0 → s.net.ptp.master = some a → Runs .announceReceiptTimeout s
    (· = ((s.countNet 2).onPtp fun y =>
      { y with foreign := y.foreign.filter fun f => some a.source != some f.1.source, master := none }).bmca true)) ∧
  (∀ s : State, s.net.ptp.cfg.enable = 0 → Runs .announceReceiptTimeout s (· = s) ∧ Runs .delayReqTimer s (· = s)) ∧
  (∀ s : State, s.net.ptp.cfg.enable ≠ 0 → s.net.ptp.master.isSome = true → s.portIp s.net.ptp.cfg.port = true →
    Runs .delayReqTimer s (· = (s.onPtp fun y => { y with delayReq := some (y.reqSeq, Clk.units s.raster.clock),
                                                          reqSeq := (y.reqSeq + 1) % 65536 }).ipSend s.net.ptp.cfg.port
      (.ptpDelayReq (s.net.ptp.cfg.delayUnicast == 1) s.net.ptp.reqSeq))) ∧
  (∀ s : State, s.net.ptp.mode = .master → Runs .syncTxTimer s (· = (s.onPtp fun y =>
      { y with syncSeq := (y.syncSeq + 1) % 65536 }).ipSend s.net.ptp.cfg.port (.ptpSync s.net.ptp.syncSeq s.raster.clock)) ∧
    Runs .announceTxTimer s (· = (s.onPtp fun y => { y with announceSeq := (y.announceSeq + 1) % 65536 }).ipSend
      s.net.ptp.cfg.port (.ptpAnnounce s.net.ptp.announceSeq s.net.ptp.own))) ∧
  (∀ s : State, s.net.ptp.mode ≠ .master → Runs .syncTxTimer s (· = s) ∧ Runs .announceTxTimer s (· = s)) ∧
  (∀ (s : State) (p a q : Nat), s.portIp p = true → s.net.ptp.cfg.enable ≠ 0 → p = s.net.ptp.cfg.port →
    s.net.ptp.mode = .master → Runs (.delayReqReceived p a q) s
      (· = (s.countPort p 0).ipSend p (.ptpDelayResp a q s.raster.clock))) ∧
  Does .ptpConfigSet cmdPtpConfigSet (fun _ _ => []) (fun gs s =>
    (s.onPtp fun x => { x with cfg := putPlain 0x100 ptpFlds gs x.cfg }).ptpEnabled s.net.ptp.cfg.enable) ∧
  Reads .ptpStatusGet cmdPtpStatusGet (fun _ s => [itemN 0x4001 4 s.net.ptp.status.toNat, itemI 0x4002 4 s.net.ptp.offsetNs,
    itemI 0x4003 4 (roundDiv (s.net.ptp.pathDelay.getD 0) 65536), itemI 0x4004 4 s.net.ptp.rateAdj,
    itemB 0x4005 (datasetBytes (s.net.ptp.master.getD s.net.ptp.own)), itemI 0x4006 2 s.net.ptp.utcOffset,
    itemB 0x4007 s.net.ptp.tlv, itemW 0x4008 s.net.cnt]) ∧
  (∀ c gs s, Accepts cmdPtpRestep c gs s → (s.net.ptp.mode = .tracking ∨ s.net.ptp.mode = .locked) → Runs (.ptpRestep c) s
    (· = ((s.onPtp fun x => { x with stepDue := true, accepted := 0, lastOffset := none, outliers := 0 }).ptpMode
      .uncalibrated).accepted cmdPtpRestep c gs [])) ∧
  (∀ c gs s, Accepts cmdPtpRestep c gs s → s.net.ptp.mode ≠ .tracking → s.net.ptp.mode ≠ .locked → Runs (.ptpRestep c) s
    (· = s.refuse 0x0A12 c stNotLocked 0 0))

/-- RTP packets and reports, and the commands of ports and streams: a stream without an AU sends nothing; one sends its next
paced packet with its number, counted, and while packets remain the AU stays. A late AU is dropped and the stream reads on. A
running stream sends its sender report, one that does not run none; a received RTCP packet is only counted. NET_PORT_SET
whose FEC fits writes the port's fields, NET_PORT_GET returns fields, status and ARP cache, NET_CONTROL_SET sets
BIND_TIMEOUT. RTP_STREAM_SET sets the stream, which then reads its context's queue; RTP_START and RTP_STOP start and stop it
and name the first and last frame. NET_STATUS_GET returns status and counters; the clears clear counters. (R321, R322, R325,
R332, R333, R334, R335, R336, R337, R339) -/
def Obligations.RtpAndNetworkCommands : Prop :=
  (∀ (s : State) (n : Nat) (x : RtpStream), s.net.streams[n]? = some x → x.aus = [] →
    Runs (.rtpPacketSend n) s (· = s) ∧ Runs (.rtpAuLate n) s (· = s)) ∧
  (∀ (s : State) (n : Nat) (x : RtpStream) (a : RtpAu) (rest : List RtpAu) (p q : List Byte × Bool)
    (ps : List (List Byte × Bool)),
    s.net.streams[n]? = some x → x.aus = a :: rest → a.payloads = p :: q :: ps → Runs (.rtpPacketSend n) s
      (· = (s.ipSend x.cfg.port (.udp x.cfg.destAddr x.cfg.destPort x.cfg.ttl x.cfg.dscp
        (rtpPacket x.cfg x.seq a p.1 p.2))).onRtp n fun x =>
          { x with seq := (x.seq + 1) % 65536, packets := (x.packets + 1) % 2 ^ 32, octets := (x.octets + p.1.length) % 2 ^ 32,
                   cnt := bumpAt x.cnt 1, aus := { a with payloads := q :: ps, begun := true } :: rest })) ∧
  (∀ (s : State) (n : Nat) (x : RtpStream) (a : RtpAu) (rest : List RtpAu), s.net.streams[n]? = some x → x.aus = a :: rest →
    Runs (.rtpAuLate n) s (· = ((s.onRtp n fun x => { x with aus := rest }).rtpDrop n a.entry 3).rtpTake n)) ∧
  (∀ (s : State) (n : Nat) (x : RtpStream), s.net.streams[n]? = some x → x.running = true → Runs (.rtcpSenderReport n) s fun u =>
    ∃ bs, u = s.ipSend x.cfg.port (.udp x.cfg.destAddr (x.cfg.destPort + 1) x.cfg.ttl x.cfg.dscp bs) ∧
      bs.take 8 = toLe 1 0x80 ++ toLe 1 200 ++ toBe 2 6 ++ toBe 4 x.cfg.ssrc ∧
      bs.drop 20 = toBe 4 x.packets ++ toBe 4 x.octets) ∧
  (∀ (s : State) (n : Nat) (x : RtpStream), s.net.streams[n]? = some x → x.running = false →
    Runs (.rtcpSenderReport n) s (· = s)) ∧
  (∀ (s : State) (p : Nat), Runs (.rtcpReceived p) s (· = (if s.portIp p then s.countPort p 0 else s))) ∧
  (∀ c gs s n, Accepts cmdNetPortSet c gs s → n = putPlain 0x100 netPortFlds gs (netPortCfg gs s) → (n.fec ≠ 2 ∨ n.speed = 1) →
    Runs (.netPortSet c) s (· = (s.onNetPort (gotN gs 1) fun x => { x with cfg := n }).accepted cmdNetPortSet c gs [])) ∧
  (∀ c gs s x, Accepts cmdNetPortGet c gs s → s.netPort? (gotN gs 1) = some x → Runs (.netPortGet c) s
    (· = s.accepted cmdNetPortGet c gs (fieldItems 0x4100 netPortFlds x.cfg ++ [itemN 0x4001 4 x.status.toNat] ++
      x.arp.map fun e => itemB 0x4002 (toLe 4 e.1 ++ toLe 6 e.2)))) ∧
  Does .netControlSet cmdNetControlSet (fun _ _ => []) (fun gs s => s.onNet fun n =>
    { n with bindTimeout := (gotN? gs 1).getD n.bindTimeout }) ∧
  (∀ c gs s x n, Accepts cmdRtpStreamSet c gs s → s.net.streams[gotN gs 1]? = some x → n = putPlain 0x100 rtpFlds gs x.cfg →
    writesAbove 0x100 gs = true → s.hasQueue n.context = true → Runs (.rtpStreamSet c) s
      (· = (((s.onRtp (gotN gs 1) fun x => { x with cfg := n, set := true }).rtpDetach (gotN gs 1)).rtpTake
        (gotN gs 1)).accepted cmdRtpStreamSet c gs [itemN 0x4001 2 (s.rtpP n)])) ∧
  (∀ c gs s x, Accepts cmdRtpStart c gs s → s.net.streams[gotN gs 1]? = some x → x.running = false → Runs (.rtpStart c) s
    (· = ((s.onRtp (gotN gs 1) fun x => if x.running then x else
        { x with running := true, set := true, firstFrame := s.frameOr gs 2, stopAt := none }).rtpTake (gotN gs 1)).accepted
      cmdRtpStart c gs [itemN 0x4001 4 (s.frameOr gs 2).toNat])) ∧
  (∀ c gs s x f, Accepts cmdRtpStop c gs s → s.net.streams[gotN gs 1]? = some x → gotF? gs 2 = some f → Runs (.rtpStop c) s
    (· = ((s.onRtp (gotN gs 1) fun x => if x.running then { x with stopAt := some f } else x).rtpTake (gotN gs 1)).accepted
      cmdRtpStop c gs [itemN 0x4001 4 (f - 1).toNat])) ∧
  Reads .netStatusGet cmdNetStatusGet (fun _ s => [itemN 0x4001 4 s.netStatus.toNat,
    itemW 0x4002 (s.net.ports.flatMap fun x => x.status :: x.cnt),
    itemW 0x4003 (s.net.streams.flatMap fun x => x.status :: x.cnt)]) ∧
  Does .netCountersClear cmdNetCountersClear (fun _ _ => []) (fun gs s => clearNet (gotN gs 1) (gotN gs 2) (gotN gs 3) s) ∧
  (∀ s : State, Runs .netCtrlCntClear s (· = clearNet allBits allBits allBits s))

/-- flips of the monitor output, its frames' results and its commands: an output that does not run and waits for no start flips
nothing, nor does one that is unlocked; one that runs with a rendition and a single READY slot that fits shows it and
releases the slot held; with none READY it repeats and counts; without a rendition for it, it is black. The end of an output
frame that was cut, or of a stopped output, publishes nothing. MON_SET writes the fields when OUT_LINE lies in the raster;
MON_START needs a listed rate and keeps its frame; MON_STOP at once ends the running frame; MON_OVERLAY_SET and MON_CHECK_SET
write shadows of group 0x0B00; MON_STATUS_GET reads; the two clears clear the counters. (R340, R344, R345, R347, R348, R350,
R352) -/
def Obligations.MonitorOutput : Prop :=
  (∀ s : State, s.monitor.running = false → s.monitor.startAt = none → Runs .flip s (· = s)) ∧
  (∀ s : State, s.monitor.running = true → s.monitor.stopAt = none → s.monitor.unlocked = true → Runs .flip s (· = s)) ∧
  (∀ s : State, s.monitor.running = true → s.monitor.stopAt = none → s.monitor.unlocked = false → s.monRend = none →
    s.monitor.cfg.flipNotify = 0 → Runs .flip s fun u => u.monitor.black = true ∧ u.monitor.held = none ∧
      u.monitor.frameCount = s.monitor.frameCount + 1 ∧ u.monitor.ovlNow = s.monitor.ovl.force ∧
      u.monitor.rectsNow = s.monitor.rects.force ∧ u.monitor.cnt = s.monitor.cnt ∧ u.raster = s.raster) ∧
  (∀ (s : State) (r k : Nat) (x : Slot), s.monitor.running = true → s.monitor.stopAt = none → s.monitor.unlocked = false →
    s.monRend = some r → s.monReady r = (some (k, x), []) → monFits s.monitor.cfg.format x.fmt = true →
    s.monitor.held = none → s.monitor.cfg.flipNotify = 0 → Runs .flip s fun u =>
      u.monitor.held = some { rend := r, slot := k, frame := x.frame, fmt := x.fmt } ∧ u.monitor.black = !(s.rend r).running ∧
      u.monitor.cnt = bumpAt s.monitor.cnt 0) ∧
  (∀ (s : State) (r : Nat), s.monitor.running = true → s.monitor.stopAt = none → s.monitor.unlocked = false →
    s.monRend = some r → s.monReady r = (none, []) → (s.rend r).running = true → s.monitor.held.isSome = true →
    s.monitor.cfg.flipNotify = 0 → Runs .flip s fun u => u.monitor.held = s.monitor.held ∧ u.monitor.black = false ∧
      u.monitor.cnt = bumpAt s.monitor.cnt 1 ∧ u.looks = s.looks) ∧
  (∀ s : State, (s.monitor.running = false ∨ s.monitor.cut = true ∨ s.monitor.unlocked = true) →
    Runs .monOutputFrameEnd s (· = s)) ∧
  (∀ s : State, s.monitor.running = true → s.monitor.cut = false → s.monitor.unlocked = false → s.monitor.lastFlip.isSome = true →
    s.monitor.rectsNow = [] → Runs .monOutputFrameEnd s fun u => u.monitor.results = (indexed s.monitor.results).map (·.2) ∧
      u.monitor.failed = List.replicate 8 false ∧ u.control = s.control) ∧
  (∀ c gs s, Accepts cmdMonSet c gs s → (has gs 2 = true →
      (putPlain 1 monFlds gs s.monitor.cfg).outLine < s.raster.cfg.force.totalLines) →
    Runs (.monSet c) s (· = (s.onMonitor fun m =>
      { m with cfg := putPlain 1 monFlds gs s.monitor.cfg }).accepted cmdMonSet c gs [])) ∧
  (∀ c gs s, Accepts cmdMonStart c gs s → s.monListed = true → s.monitor.running = false → Runs (.monStart c) s
    (· = (s.onMonitor fun m => { m with startAt := some ((gotF? gs 1).getD s.nextFlip) }).accepted cmdMonStart c gs
      [itemN 0x4001 4 ((gotF? gs 1).getD s.nextFlip).toNat])) ∧
  (∀ c gs s, Accepts cmdMonStart c gs s → s.monListed = false → Runs (.monStart c) s
    (· = s.refuse 0x0B01 c 0x1B00 0 (if has gs 1 then 1 else 0))) ∧
  (∀ c gs s, Accepts cmdMonStop c gs s → gotF? gs 1 = none → Runs (.monStop c) s (· = (s.onMonitor fun m =>
      { m with startAt := none, stopAt := if m.running then some none else none }).accepted cmdMonStop c gs
    [itemN 0x4001 4 (s.monitor.lastFlip.getD (s.raster.frame - 1)).toNat])) ∧
  (∀ c gs s, Accepts cmdMonOverlaySet c gs s → (gotNs gs 4).all (fun v => decide (v / 16777216 ≤ 128)) = true →
    s.overlayFits (putFields 1 ovlFlds gs s.monitor.ovl).shadow = true → Runs (.monOverlaySet c) s
      (· = (s.onMonitor fun m => { m with ovl := putFields 1 ovlFlds gs s.monitor.ovl }).accepted cmdMonOverlaySet c gs
        (commitItems (s.commitAt 0x0B00 (writesAbove 1 gs))))) ∧
  (∀ c gs s (new : RectConfig), Accepts cmdMonCheckSet c gs s →
    new = (putFields 2 rectFlds gs { force := s.monitor.rects.force.getD (gotN gs 1) {},
                                     shadow := s.monitor.rects.shadow.getD (gotN gs 1) {} }).shadow →
    new.x + new.w ≤ (monSize s.monitor.cfg.format).1 → new.y + new.h ≤ (monSize s.monitor.cfg.format).2 →
    Runs (.monCheckSet c) s (· = (s.onMonitor fun m => { m with rects :=
      { s.monitor.rects with shadow := setAt s.monitor.rects.shadow (gotN gs 1) new } }).accepted cmdMonCheckSet c gs
        (commitItems (s.commitAt 0x0B00 (writesAbove 2 gs))))) ∧
  Reads .monStatusGet cmdMonStatusGet (fun _ s => [itemN 0x4001 4 s.monStatus.toNat, itemN 0x4002 4 s.monitor.frameCount.toNat,
    itemN 0x4003 4 s.shownFrame.toNat, itemW 0x4004 s.monitor.cnt, itemN 0x4005 4 (bitsOf s.monitor.failed),
    itemW 0x4006 s.monitor.results]) ∧
  Does .monCountersClear cmdMonCountersClear (fun _ _ => []) (fun gs s => s.onMonitor fun m =>
    { m with cnt := clearMasked m.cnt (gotN gs 1) }) ∧
  (∀ s : State, Runs .monCtrlCntClear s (· = s.onMonitor fun m => { m with cnt := clearMasked m.cnt allBits }))

/-- audio blocks, masks, slips, gates, lock, channel status and playout: a complete block of a running capture is written or lost
and the next begins; one that neither runs nor ends is left alone. Masks apply only where the shadow differs in a running
capture: the block ends, a LAYOUT record is written, a new block begins. Only a retimed port slips; a forced slip counts
twice. A waiting change of a gate applies at a crossing or at the timeout, which counts; without one neither does anything. A
locked external input that loses lock is unlocked; a relock needs one unlocked. A good channel status block is held, one with
a bad CRCC counted. A port that plays no ring plays nothing; with no block it underruns. CNT_CLEAR clears every audio
counter. (R357, R360, R361, R362, R363, R364, R367, R368, R371) -/
def Obligations.AudioEvents : Prop :=
  (∀ (s : State) (c : Nat) (xs : List (List Int)), (s.capture c).running = true → Runs (.audioBlockComplete c xs) s
    (· = (s.blockEnd c xs).blockBegin c 0)) ∧
  (∀ (s : State) (c : Nat) (xs : List (List Int)), (s.capture c).running = false → (s.capture c).ending = false →
    Runs (.audioBlockComplete c xs) s (· = s) ∧ Runs (.maskApply c xs) s (· = s)) ∧
  (∀ (s v : State) (c : Nat) (xs : List (List Int)), (s.capture c).running = true →
    (s.capture c).masks ≠ (s.capture c).maskShadow → v = s.blockEnd c xs → c < v.audio.captures.length →
    Runs (.maskApply c xs) s fun u => ∃ w : State, ∃ gates,
      w = (v.onCapture c fun y => { y with masks := y.maskShadow, gates := gates }) ∧
      gates.length = (layoutOf (v.capture c).maskShadow).length ∧
      u = (w.writeLayout c).blockBegin c 32) ∧
  (∀ (s : State) (p n : Nat), s.retimed p = false → Runs (.slipApply p n) s (· = s) ∧ Runs (.slipForced p n) s (· = s)) ∧
  (∀ (s : State) (p n : Nat), s.retimed p = true → Runs (.slipApply p n) s (· = s.slip p n) ∧
    Runs (.slipForced p n) s (· = (s.slip p n).countAud p 1 1)) ∧
  (∀ (s : State) (p k : Nat) (g : Gate), (s.audPort p).running = true → (s.audPort p).gates[k]? = some g → g.waits = true →
    Runs (.gatedChangeApply (.outputSlot p k)) s (· = (s.onAudPort p fun x =>
      { x with gates := modAt x.gates k (Gate.apply 0) }).outputSettle p) ∧
    Runs (.gateTimeout (.outputSlot p k)) s (· = ((s.onAudPort p fun x =>
      { x with gates := modAt x.gates k (Gate.apply 0) }).outputSettle p).onAudio fun a => { a with cntGate := a.cntGate + 1 })) ∧
  (∀ (s : State) (c k : Nat) (g : Gate), (s.capture c).gates[k]? = some g → g.waits = true → g.phase ≠ .starting →
    Runs (.gatedChangeApply (.captureChannel c k)) s (· = (s.onCapture c fun x =>
      { x with gates := modAt x.gates k (Gate.apply (s.sampleNow c)) }).captureSettle c)) ∧
  (∀ (s : State) (c k : Nat), ((s.capture c).gates[k]?).any Gate.waits = false →
    Runs (.gatedChangeApply (.captureChannel c k)) s (· = s) ∧ Runs (.gateTimeout (.captureChannel c k)) s (· = s)) ∧
  (∀ (n k : Nat) (g : Gate), g.phase = .passing → g.pendGain = some k → (g.apply n).gain = k ∧ (g.apply n).pendGain = none ∧
    (g.stop.pendGain = none ∧ (g.stop.apply n).phase = .silent)) ∧
  (∀ (s : State) (p : Nat), s.isInput p = true → (s.audPort p).cfg.clock = 2 → (s.audPort p).locked = true →
    s.audio.captures = [] → p < s.audio.ports.length → Runs (.audioLockLoss p) s fun u => (u.audPort p).locked = false ∧
      (u.audPort p).cnt[2]? = ((s.audPort p).cnt[2]?).map (· + 1) ∧ ∀ q, q ≠ p → u.audPort q = s.audPort q) ∧
  (∀ (s : State) (p : Nat), s.isInput p = true → (s.audPort p).cfg.clock = 2 → (s.audPort p).locked = false →
    s.audio.captures = [] → p < s.audio.ports.length → Runs (.audioRelock p) s fun u => (u.audPort p).locked = true ∧
      (u.audPort p).fill = 8 ∧ ∀ q, q ≠ p → u.audPort q = s.audPort q) ∧
  (∀ (s : State) (p : Nat), (s.audPort p).cfg.clock ≠ 2 → Runs (.audioLockLoss p) s (· = s) ∧ Runs (.audioRelock p) s (· = s)) ∧
  (∀ (s : State) (p n : Nat) (bs : List Byte), (p = 4 ∨ p = 5) → bs.length = 24 → crcc (bs.take 23) = bs.getD 23 0 →
    Runs (.csBlockReceived p bs n) s (· = (s.countAud p 4 n).onAudPort p fun x => { x with status := bs })) ∧
  (∀ (s : State) (p n : Nat) (bs : List Byte), (p = 4 ∨ p = 5) → bs.length = 24 → crcc (bs.take 23) ≠ bs.getD 23 0 →
    Runs (.csBlockReceived p bs n) s (· = (s.countAud p 4 n).countAud p 3 1)) ∧
  (∀ (s : State) (p : Nat), ((s.audPort p).running = false ∨ (s.audPort p).cfg.outSource ≠ 4) →
    Runs (.playoutBlockPlay p) s (· = s)) ∧
  (∀ (s : State) (p : Nat), s.isOutput p = true → (s.audPort p).running = true → (s.audPort p).cfg.outSource = 4 →
    s.unread (BitVec.ofNat 32 (s.audPort p).cfg.playout) (0x0C00 + p) = [] → Runs (.playoutBlockPlay p) s (· = s.underrun p)) ∧
  (∀ s : State, Runs .audCtrlCntClear s (· = clearAud allBits allBits true s))

/-- the audio commands: AUD_PORT_SET within its rules writes the fields, follows PLAYOUT and returns BCLK. AUD_PORT_GET returns
fields, status and channel status. AUD_CAPTURE_SET that no other capture, no rate and no range speaks against writes lead,
block, ring and the shadow masks and returns channels and record size. Starts and stops of captures and outputs at once act
at once, those with AT_FRAME wait for it, and a start of one that runs changes nothing. AUD_MASK_SET writes a mask in shadow.
AUD_GAIN_SET sets each gain named. AUD_STATUS_GET reads, AUD_COUNTERS_CLEAR clears, and the gate timeout counter clears with
any. (R354, R355, R358, R360, R362, R363, R369) -/
def Obligations.AudioCommands : Prop :=
  (∀ c gs s (cfg : AudPortConfig), Accepts cmdAudPortSet c gs s →
    cfg = putPlain 0x100 audPortFlds gs (s.audPort (gotN gs 1)).cfg →
    judgeAudPort (gotN gs 1) gs cfg s = none → Runs (.audPortSet c) s (· = ((s.onAudPort (gotN gs 1) fun x =>
      { x with cfg := cfg }).playoutAttach (gotN gs 1)).accepted cmdAudPortSet c gs [itemN 0x4001 4 (bclk (gotN gs 1) cfg)])) ∧
  Reads .audPortGet cmdAudPortGet (fun gs s => fieldItems 0x4100 audPortFlds (s.audPort (gotN gs 1)).cfg ++
    [itemN 0x4001 4 (s.audPortStatus (gotN gs 1)).toNat, itemB 0x4002 (s.audPort (gotN gs 1)).status]) ∧
  (∀ c gs s (masks : List Nat), Accepts cmdAudCaptureSet c gs s →
    masks = ((indexed (s.capture (gotN gs 1)).maskShadow).map fun pm => (gotN? gs (5 + pm.1)).getD pm.2) →
    s.captureRefusal (gotN gs 1) ((gotN? gs 2).getD (s.capture (gotN gs 1)).lead) masks = none →
    Runs (.audCaptureSet c) s (· = (s.onCapture (gotN gs 1) fun x =>
      { x with lead := (gotN? gs 2).getD (s.capture (gotN gs 1)).lead, block := (gotN? gs 4).getD (s.capture (gotN gs 1)).block,
               maskShadow := masks, ring := if has gs 3 then gotH gs 3 else x.ring }).accepted cmdAudCaptureSet c gs
        [itemN 0x4001 1 (layoutOf masks).length,
         itemN 0x4002 4 (recordBytes (layoutOf masks).length ((gotN? gs 4).getD (s.capture (gotN gs 1)).block))])) ∧
  (∀ c gs s, Accepts cmdAudCaptureStart c gs s → gotF? gs 2 = none → Runs (.audCaptureStart c) s
    (· = (if (s.capture (gotN gs 1)).running then s else s.captureBegin (gotN gs 1)).accepted cmdAudCaptureStart c gs
      [itemN 0x4001 4 s.raster.frame.toNat])) ∧
  (∀ c gs s f, Accepts cmdAudCaptureStart c gs s → gotF? gs 2 = some f → (s.capture (gotN gs 1)).running = false →
    Runs (.audCaptureStart c) s (· = (s.onCapture (gotN gs 1) fun x => { x with startAt := some f }).accepted
      cmdAudCaptureStart c gs [itemN 0x4001 4 f.toNat])) ∧
  (∀ c gs s, Accepts cmdAudCaptureStop c gs s → gotF? gs 2 = none → Runs (.audCaptureStop c) s
    (· = (s.captureStop (gotN gs 1)).accepted cmdAudCaptureStop c gs [])) ∧
  (∀ c gs s f, Accepts cmdAudCaptureStop c gs s → gotF? gs 2 = some f → (s.capture (gotN gs 1)).running = true →
    Runs (.audCaptureStop c) s (· = (s.onCapture (gotN gs 1) fun x => { x with stopAt := some f }).accepted
      cmdAudCaptureStop c gs [])) ∧
  (∀ c gs s, Accepts cmdAudMaskSet c gs s → has gs 3 = true → Runs (.audMaskSet c) s fun u => ∃ v : State,
    v = (s.onCapture (gotN gs 1) fun x => { x with maskShadow := setAt x.maskShadow (gotN gs 2) (gotN gs 3) }) ∧
    u = v.accepted cmdAudMaskSet c gs [itemN 0x4001 1 (layoutOf (v.capture (gotN gs 1)).maskShadow).length]) ∧
  (∀ c gs s v, Accepts cmdAudGainSet c gs s → gotAll gs 3 = [v] → gotN gs 1 = 0 → Runs (.audGainSet c) s
    (· = (s.onCapture (gotN gs 2) fun x =>
      { x with gains := setAt x.gains (v.bytes.headD 0).toNat (leNat (v.bytes.drop 1)),
               gates := modAt x.gates (v.bytes.headD 0).toNat (Gate.setGain (leNat (v.bytes.drop 1))) }).accepted
        cmdAudGainSet c gs [])) ∧
  (∀ c gs s v, Accepts cmdAudGainSet c gs s → gotAll gs 3 = [v] → gotN gs 1 ≠ 0 → Runs (.audGainSet c) s
    (· = (s.onAudPort (gotN gs 2) fun x =>
      { x with gates := modAt x.gates (v.bytes.headD 0).toNat (Gate.setGain (leNat (v.bytes.drop 1))) }).accepted
        cmdAudGainSet c gs [])) ∧
  (∀ c gs s, Accepts cmdAudOutputStart c gs s → gotF? gs 2 = none → Runs (.audOutputStart c) s
    (· = (if (s.audPort (gotN gs 1)).running then s else s.outputBegin (gotN gs 1)).accepted cmdAudOutputStart c gs
      [itemN 0x4001 4 s.raster.frame.toNat])) ∧
  (∀ c gs s f, Accepts cmdAudOutputStart c gs s → gotF? gs 2 = some f → (s.audPort (gotN gs 1)).running = false →
    Runs (.audOutputStart c) s (· = (s.onAudPort (gotN gs 1) fun x => { x with startAt := some f }).accepted
      cmdAudOutputStart c gs [itemN 0x4001 4 f.toNat])) ∧
  (∀ c gs s, Accepts cmdAudOutputStop c gs s → gotF? gs 2 = none → Runs (.audOutputStop c) s
    (· = (s.outputStop (gotN gs 1)).accepted cmdAudOutputStop c gs [])) ∧
  Reads .audStatusGet cmdAudStatusGet (fun _ s => [itemN 0x4001 4 s.audStatus.toNat, itemN 0x4002 4 s.audio.cntGate.toNat,
    itemW 0x4003 ((indexed s.audio.ports).flatMap fun px => s.audPortStatus px.1 :: px.2.cnt),
    itemW 0x4004 (s.audio.captures.flatMap fun x => x.status :: x.cnt)]) ∧
  Does .audCountersClear cmdAudCountersClear (fun _ _ => []) (fun gs s =>
    clearAud (gotN gs 1) (gotN gs 2) (gotN gs 1 != 0 || gotN gs 2 != 0) s)

/-- raising and dropping events, group switches, Bell triggers and tree Bells: a raised source enters what is due as a fresh
event of generation 0 and is counted. A re-raise of its origin on the origin's frame and line is dropped and counted before
generation 8 is. In channel mode only the subscribers of an enabled group's channel are reached, a secure source on an open
channel is dropped, and a secure route reaches only BELL and FW. Of switches in one wave off wins. A trigger rings with the
next number, its cause and a latch of all snapshots; one within the instant joins; one disabled, held or in holdoff rings
nothing. A tree Bell arms its position, rings at once there, or is late or excluded and counted. Software, register and pin
raises are what they name; CNT_CLEAR clears. (R374, R378, R381, R382, R383, R385, R386, R387, R389, R392) -/
def Obligations.EventsAndBell : Prop :=
  (∀ (s : State) (n : Nat), n < 512 → Runs (.eventRaise n) s (· = s.raiseEv (s.newEvent n))) ∧
  (∀ (s : State) (n : Nat), 512 ≤ n → Runs (.eventRaise n) s (· = s)) ∧
  (∀ (s : State) (n : Nat), (s.newEvent n).gen = 0 ∧ (s.newEvent n).source = n ∧ (s.newEvent n).frame = s.raster.frame ∧
    (s.newEvent n).time = s.raster.clock ∧ (s.newEvent n).originSource = n ∧ (s.newEvent n).reRaise = false) ∧
  (∀ (s : State) (n : Nat) (e : Ev) (b : Bool), e.originNode = s.node → e.originSource = n → e.originFrame = s.raster.frame →
    e.originLine = s.raster.line → s.reRaise n e b = s.onEvents fun v =>
      { v with cnt := bumpAt v.cnt 2, loopDrops := v.loopDrops + 1 }) ∧
  (∀ (s : State) (n : Nat) (e : Ev) (b : Bool), e.originSource ≠ n → 7 ≤ e.gen → s.reRaise n e b = s.onEvents fun v =>
    { v with cnt := bumpAt v.cnt 1, genDrops := v.genDrops + 1 }) ∧
  (∀ (v : EventState) (g : BitVec 16) (e : Ev) (cs : List Nat), v.targets g e = .ok cs → v.channelMode = true →
    (v.routes.getD e.source {}).publish < 128 →
    g.getLsbD ((v.routes.getD e.source {}).publish / 8) = true ∧
    (secureSource e.source = true → (v.channels.getD (v.routes.getD e.source {}).publish {}).secure = true) ∧
    ∀ c ∈ cs, (c, (v.routes.getD e.source {}).publish) ∈ indexed v.subscribe ∧
      ((v.channels.getD (v.routes.getD e.source {}).publish {}).secure = true → c = 0 ∨ c = 2)) ∧
  (∀ (v : EventState) (g : BitVec 16) (e : Ev) (cs : List Nat), v.targets g e = .ok cs → v.channelMode = false →
    (secureSource e.source = true → (v.routes.getD e.source {}).secure ≠ 0) ∧
    ∀ c ∈ cs, (v.routes.getD e.source {}).secure = 1 → c = 0 ∨ c = 2) ∧
  (∀ (s : State) (g : Nat) (e f : Ev), g < 16 → 
    (s.switchGroups [⟨g, true, e⟩, ⟨g, false, f⟩]).events.groups = putBit s.events.groups g false) ∧
  (∀ (s : State) (k : Nat) (t : Option Word) (e : Option Ev), s.events.bell.srcEn.testBit k = false → s.trigger k t e = s) ∧
  (∀ (s : State) (k : Nat) (t : Option Word) (e : Option Ev), s.events.bell.srcEn.testBit k = true → s.events.bell.hold = 1 →
    s.trigger k t e = s.countEvt 6) ∧
  (∀ (s : State) (k : Nat) (e : Option Ev), s.events.bell.srcEn.testBit k = true → s.events.bell.hold ≠ 1 →
    s.events.bellNow = true → s.trigger k none e =
      (s.onEvents fun v => { v with cause := putBit v.cause k true }).countEvt 5) ∧
  (∀ (s : State) (k : Nat), s.events.bell.srcEn.testBit k = true → s.events.bell.hold ≠ 1 → s.events.bellNow = false →
    ((k = 1 ∨ k = 5) ∨ s.heldOff = false) → s.events.bell.notify ≠ 1 →
    (s.trigger k none none).events.seq = s.events.seq + 1 ∧ (s.trigger k none none).events.cause = putBit 0 k true ∧
    (s.trigger k none none).raster.bellStamp = s.raster.clock ∧ (s.trigger k none none).raster.frame = s.raster.frame ∧
    (∀ n, (s.trigger k (some n) none).events.seq = n)) ∧
  (∀ s : State, Runs .bellInEdge s (· = (s.onEvents fun v => { v with due := v.due ++ [.bell 3] }).raise 0x0BA)) ∧
  (∀ s : State, Runs .evtCtrlRing s (· = s.onEvents fun v => { v with due := v.due ++ [.bell 2] })) ∧
  (∀ (s : State) (m : Nat), Runs (.evtSwRaise m) s
    (· = (List.range 8).foldl (fun s k => if m.testBit k then s.raise (0x0B0 + k) else s) s)) ∧
  (∀ s : State, Runs .evtCtrlCntClear s (· = s.onEvents fun v => { v with cnt := clearMasked v.cnt allBits })) ∧
  (∀ (s : State) (k : Nat), s.pulsing k = false → Runs (.gpioPulseEnd k) s (· = s)) ∧
  (∀ (s : State) (k : Nat) (e : Ev), s.events.pulses = [(k, e, false)] → ((s.pin k).pulseLevel == 1) = s.pinOut k →
    Runs (.gpioPulseEnd k) s fun u => u.events.pulses = [] ∧ u.bus = s.bus ∧ u.raster = s.raster) ∧
  (∀ (s : State) (t : Nat) (f : BellFlit), s.isMember = false → Runs (.bellFlitReceived t f) s (· = s)) ∧
  (∀ (s : State) (t : Nat) (f : BellFlit), s.isMember = true → s.tree.upstream = some t → (s.treePort t).up = true →
    (s.tree.quarantined || s.tree.outOfStep) = true → Runs (.bellFlitReceived t f) s (· = s.countEvt 8)) ∧
  (∀ (s : State) (t : Nat) (f : BellFlit) (p : Pos), s.isMember = true → s.tree.upstream = some t → (s.treePort t).up = true →
    (s.tree.quarantined || s.tree.outOfStep) = false → p = { frame := f.frame, line := f.line, phase := f.phase } →
    Runs (.bellFlitReceived t f) s (· = if p = s.here then s.onEvents fun v => { v with due := v.due ++ [.treeBell f.seq] }
      else if s.posExpired p then (s.countEvt 7).notice 0x0D81 [itemN 1 4 f.seq.toNat,
        itemB 2 (toLe 4 f.frame.toNat ++ toLe 2 f.line ++ toLe 1 f.phase)]
      else s.onEvents fun v => { v with bellsAt := v.bellsAt ++ [{ pos := p, tree := some f.seq }] }))

/-- the commands of the event router and the Bell: EVT_MODE_SET keeps a mode for its frame. EVT_ROUTE_SET, EVT_CHANNEL_SET,
EVT_SUBSCRIBE_SET and EVT_OWNER_SET write what the caller may write and are DENIED what it may not. EVT_ROUTE_GET returns
fields and PUBLISH. EVT_GROUP_SET writes the masked group states and raises nothing. EVT_RAISE raises a software source.
EVT_LOG_SET and BELL_CONFIG_SET write their fields. BELL_RING at once is a SOFTWARE trigger; at a position ahead it waits
there; one gone is EXPIRED; a tree Bell of no head is NOT_HEAD. EVT_STATUS_GET reads, EVT_COUNTERS_CLEAR clears. (R376, R377,
R378, R379, R380, R384, R389, R390) -/
def Obligations.EventCommands : Prop :=
  (∀ c gs s m, Accepts cmdEvtModeSet c gs s → gotN? gs 1 = some m → Runs (.evtModeSet c) s (· = (s.onEvents fun v =>
    { v with modeNext := some (s.frameOr gs 2, m == 1) }).accepted cmdEvtModeSet c gs [itemN 0x4001 4 (s.frameOr gs 2).toNat])) ∧
  (∀ c gs s, Accepts cmdEvtRouteSet c gs s → (denied gs 1 fun v => s.mayWrite (s.routeOwner v.nat) c) = none →
    Runs (.evtRouteSet c) s (· = (s.onEvents fun v =>
      { v with routes := (gotNs gs 1).foldl (fun l n => modAt l n fun r =>
          let x := putPlain 0x100 routeFlds gs r
          { x with publish := (gotN? gs 2).getD x.publish }) v.routes }).accepted cmdEvtRouteSet c gs [])) ∧
  (∀ c gs s p, Accepts cmdEvtRouteSet c gs s →
    (denied gs 1 fun v => s.mayWrite (s.routeOwner v.nat) c) = some (stDenied, p, 1) →
    Runs (.evtRouteSet c) s (· = s.refuse 0x0D01 c stDenied p 1)) ∧
  Reads .evtRouteGet cmdEvtRouteGet (fun gs s => fieldItems 0x4100 routeFlds (s.events.routes.getD (gotN gs 1) {}) ++
    [itemN 0x4001 1 (s.events.routes.getD (gotN gs 1) {}).publish]) ∧
  (∀ c gs s b, Accepts cmdEvtChannelSet c gs s → (denied gs 1 fun v => s.mayWrite (s.channelOwner v.nat) c) = none →
    gotN? gs 2 = some b → Runs (.evtChannelSet c) s (· = (s.onEvents fun v =>
      { v with channels := modAt v.channels (gotN gs 1) fun x => { x with secure := b == 1 } }).accepted
        cmdEvtChannelSet c gs [])) ∧
  (∀ c gs s, Accepts cmdEvtSubscribeSet c gs s → (denied gs 1 fun v =>
      s.mayWrite (s.channelOwner (s.events.subscribe.getD (subPair v).1 255)) c &&
        s.mayWrite (s.channelOwner (subPair v).2) c) = none →
    Runs (.evtSubscribeSet c) s (· = (s.onEvents fun x =>
      { x with subscribe := (gotAll gs 1).foldl (fun l v => setAt l (subPair v).1 (subPair v).2) x.subscribe }).accepted
        cmdEvtSubscribeSet c gs [])) ∧
  (∀ c gs s, Accepts cmdEvtGroupSet c gs s → Runs (.evtGroupSet c) s fun u => ∃ g : BitVec 16,
    g = (s.events.groups &&& ~~~(BitVec.ofNat 16 (gotN gs 2))) ||| (BitVec.ofNat 16 (gotN gs 1) &&& BitVec.ofNat 16 (gotN gs 2)) ∧
    u = (s.onEvents fun v => { v with groups := g }).accepted cmdEvtGroupSet c gs [itemN 0x4001 2 g.toNat]) ∧
  (∀ c gs s, Accepts cmdEvtOwnerSet c gs s → gotN gs 1 = 0 → s.mayWrite (s.routeOwner (gotN gs 2)) c = true →
    Runs (.evtOwnerSet c) s (· = (s.onEvents fun v =>
      { v with routes := modAt v.routes (gotN gs 2) fun r => { r with owner := gotN gs 3 } }).accepted cmdEvtOwnerSet c gs [])) ∧
  (∀ c gs s, Accepts cmdEvtOwnerSet c gs s → gotN gs 1 ≠ 0 → s.mayWrite (s.channelOwner (gotN gs 2)) c = true →
    Runs (.evtOwnerSet c) s (· = (s.onEvents fun v =>
      { v with channels := modAt v.channels (gotN gs 2) fun x => { x with owner := gotN gs 3 } }).accepted
        cmdEvtOwnerSet c gs [])) ∧
  Does .evtRaise cmdEvtRaise (fun _ s => [itemB 0x4001 (clkBytes s.raster.clock)]) (fun gs s => s.raise (gotN gs 1)) ∧
  Does .evtLogSet cmdEvtLogSet (fun _ _ => []) (fun gs s => s.onEvents fun v =>
    { v with logRing := if has gs 1 then gotH gs 1 else v.logRing, pinPulse := (gotN? gs 2).getD v.pinPulse }) ∧
  Does .bellConfigSet cmdBellConfigSet (fun _ _ => []) (fun gs s => s.onEvents fun v =>
    { v with bell := putPlain 1 bellConfigFlds gs v.bell }) ∧
  (∀ c gs s, Accepts cmdBellRing c gs s → gotN gs 1 = 0 → has gs 2 = false → has gs 3 = false → has gs 4 = false →
    s.events.bell.srcEn.testBit 2 = false → Runs (.bellRing c) s
      (· = s.accepted cmdBellRing c gs [itemN 0x4001 4 s.events.seq.toNat])) ∧
  (∀ c gs s (p : Pos), Accepts cmdBellRing c gs s → gotN gs 1 = 0 → has gs 2 = true → has gs 3 = true → has gs 4 = true →
    p = { frame := gotF gs 2, line := gotN gs 3, phase := gotN gs 4 } → s.posExpired p = false → Runs (.bellRing c) s
      (· = (s.onEvents fun v => { v with bellsAt := v.bellsAt ++ [{ pos := p, tree := none }] }).accepted cmdBellRing c gs
        [itemN 0x4001 4 (s.events.seq + 1).toNat])) ∧
  (∀ c gs s (p : Pos), Accepts cmdBellRing c gs s → gotN gs 1 = 0 → has gs 2 = true → has gs 3 = true → has gs 4 = true →
    p = { frame := gotF gs 2, line := gotN gs 3, phase := gotN gs 4 } → s.posExpired p = true → Runs (.bellRing c) s
      (· = s.refuse 0x0D11 c stExpired (gotPos gs 2) 2)) ∧
  (∀ c s p, Refuses cmdBellRing c 0x1D00 p 1 s → Runs (.bellRing c) s (· = s.refuse 0x0D11 c 0x1D00 p 1)) ∧
  Reads .evtStatusGet cmdEvtStatusGet (fun _ s => [itemN 0x4001 4 s.events.status.toNat, itemN 0x4002 4 s.events.groups.toNat,
    itemN 0x4003 4 s.events.seq.toNat, itemN 0x4004 4 s.events.cause.toNat, itemW 0x4005 s.events.cnt]) ∧
  Does .evtCountersClear cmdEvtCountersClear (fun _ _ => []) (fun gs s => s.onEvents fun v =>
    { v with cnt := clearMasked v.cnt (gotN gs 1) })

/-- flits of a Tabsout link: acceptance, acknowledgement, replay, exchange and loss: a link that is down takes and sends nothing.
A sequenced flit with a good CRC and the next SEQ is accepted, counted and routed after its ACK is used; the first one
discarded after an acceptance sends NAK and later ones do not; a bad CRC is counted. ACK frees the flits up to the one named.
A replay sends every unacknowledged flit again in order and counts; the ninth without progress takes the link down. Timers
send ACK only when due, IDLE on a link that is up, EXCHANGE during exchange. EXCHANGE of a standalone device, or without a
version in common, returns the lanes to DETECT; otherwise the link is up with the highest common version. A loss of a link
that is up takes it down. A message of a port that is not upstream is DENIED. (R394, R395, R397, R398, R399, R401, R404) -/
def Obligations.TreeLinkEvents : Prop :=
  (∀ (s : State) (t n : Nat) (bs : List Byte), (s.treePort t).up = false → Runs (.sequencedFlitReceived t bs) s (· = s) ∧
    Runs (.linkAckReceived t n) s (· = s) ∧ Runs (.nakReceived t n) s (· = s) ∧ Runs (.replayTimeout t) s (· = s) ∧
    Runs (.ackFlitTimer t) s (· = s) ∧ Runs (.idleFlitTimer t) s (· = s) ∧ Runs (.linkDownTimeout t) s (· = s) ∧
    (∀ last, Runs (.controlMessageFlit t n bs last) s (· = s))) ∧
  (∀ (s : State) (t n : Nat) (bs : List Byte), t < s.tree.ports.length → (s.treePort t).up = true → (s.treePort t).unacked = [] →
    n = leNat (bs.take 2) % 4096 → bs.length = 256 → crc32c (bs.take 252) = BitVec.ofNat 32 (leNat (bs.drop 252)) →
    n = ((s.treePort t).rxSeq + 1).toNat → Runs (.sequencedFlitReceived t bs) s fun u => ∃ v : State,
      u = v.route (flitOf bs) (some t) ∧ (v.treePort t).rxSeq = (s.treePort t).rxSeq + 1 ∧ (v.treePort t).ackDue = true ∧
      (v.treePort t).nakSent = false ∧ (v.treePort t).cnt[3]? = ((s.treePort t).cnt[3]?).map (· + 1) ∧
      ∀ q, q ≠ t → v.treePort q = s.treePort q) ∧
  (∀ (s : State) (t : Nat) (bs : List Byte), (s.treePort t).up = true → bs.length ≠ 256 → (s.treePort t).nakSent = true →
    Runs (.sequencedFlitReceived t bs) s (· = s.countLink t 0 1)) ∧
  (∀ (s v : State) (t : Nat) (bs : List Byte), (s.treePort t).up = true → bs.length ≠ 256 → (s.treePort t).nakSent = false →
    v = s.countLink t 0 1 → Runs (.sequencedFlitReceived t bs) s
      (· = (v.sendUnseq t (v.ownFlit .link .link 0 .nak)).onTreePort t fun p => { p with nakSent := true })) ∧
  (∀ (s : State) (t i n : Nat), (s.treePort t).up = true → (s.treePort t).waiting = [] →
    (s.treePort t).unacked.findIdx? (fun sf => sf.1.toNat == n) = some i → t < s.tree.ports.length →
    Runs (.linkAckReceived t n) s fun u => (u.treePort t).unacked = (s.treePort t).unacked.drop (i + 1) ∧
      (u.treePort t).fruitless = 0 ∧ (u.treePort t).replaying = false ∧ ∀ q, q ≠ t → u.treePort q = s.treePort q) ∧
  (∀ (s : State) (t n : Nat), (s.treePort t).up = true → (s.treePort t).unacked.findIdx? (fun sf => sf.1.toNat == n) = none →
    Runs (.linkAckReceived t n) s (· = s) ∧ Runs (.nakReceived t n) s (· = s.replay t)) ∧
  (∀ (s : State) (t : Nat) (f : BitVec 12 × Flit), (s.treePort t).up = true → (s.treePort t).unacked = [f] →
    (s.treePort t).fruitless < 8 → Runs (.replayTimeout t) s (· = ((s.countLink t 1 1).onTreePort t fun p =>
      { p with fruitless := p.fruitless + 1, replaying := true }).sendFlit t (some f.1) f.2)) ∧
  (∀ (s : State) (t : Nat), (s.treePort t).up = true → (s.treePort t).unacked ≠ [] → 8 ≤ (s.treePort t).fruitless →
    Runs (.replayTimeout t) s (· = s.linkDown t)) ∧
  (∀ (s : State) (t : Nat), (s.treePort t).up = true → Runs (.replayTimeout t) s (· = s.replay t) ∧
    Runs (.idleFlitTimer t) s (· = s.sendUnseq t (s.ownFlit .link .link 0 .idle)) ∧
    Runs (.linkDownTimeout t) s (· = (s.linkDown t).nodesLost t) ∧
    ((s.treePort t).ackDue = false → Runs (.ackFlitTimer t) s (· = s)) ∧
    ((s.treePort t).ackDue = true → Runs (.ackFlitTimer t) s (· = s.sendUnseq t (s.ownFlit .link .link 0 .ack)))) ∧
  (∀ (s : State) (t : Nat), (s.treePort t).exchanging = true → Runs (.exchangeFlitTimer t) s
    (· = s.sendUnseq t s.exchangeFlit)) ∧
  (∀ (s : State) (t : Nat) (x : ExchangeInfo), (s.treePort t).exchanging = false →
    Runs (.exchangeFlitTimer t) s (· = s) ∧ Runs (.exchangeFlitReceived t x) s (· = s)) ∧
  (∀ (s : State) (t : Nat) (x : ExchangeInfo), (s.treePort t).exchanging = true →
    (s.tree.cfg.role = 0 ∨ linkVersions.filter (fun v => x.versions.contains v) = []) → Runs (.exchangeFlitReceived t x) s
      (· = (s.onTreePort t fun p => { p with exchanging := false }).portToDetect (2 + t))) ∧
  (∀ (s w : State) (t v : Nat) (x : ExchangeInfo), (s.treePort t).exchanging = true → s.tree.cfg.role = 1 →
    (linkVersions.filter fun v => x.versions.contains v).getLast? = some v →
    w = (s.sendUnseq t s.exchangeFlit).portToActive (2 + t) → t < w.tree.ports.length →
    Runs (.exchangeFlitReceived t x) s fun u => (u.treePort t).up = true ∧ (u.treePort t).version = v ∧
      (u.treePort t).exchanging = false ∧ (u.treePort t).txSeq = 0 ∧ (u.treePort t).rxSeq = 0xFFF ∧
      (u.treePort t).unacked = [] ∧ (u.treePort t).partnerSerial = x.serial) ∧
  (∀ (s : State) (t : Nat) (bs : List Byte) (m : Mailbox) (c : Call), t < 4 → (s.treePort t).up = true → s.isMember = false →
    s.control.mailboxes[12 + t]? = some m → m.partialMsg = [] →
    c = { mb := 12 + t, major := if (bs.headD 0).toNat = 2 then 2 else 3, minor := 0, tag := leNat ((bs.drop 4).take 2),
          byHandle := false, items := [] } → Runs (.controlMessageFlit t 0 bs true) s fun u => ∃ v : State,
      v = s.onMbx (12 + t) (fun m => { m with partialMsg := [] }) ∧
      u = v.post (12 + t) (replyPost (leNat ((bs.drop 2).take 2)) c stDenied (errItems 0 0) v))

/-- time, events, Roll Call, bundles, disagreement and healing in a tree: a TIME flit from elsewhere than upstream changes
nothing; an ECHO gives the delay. The head re-raises and broadcasts an event; a member re-raises one from upstream that is
not its own. CALL on a second port of a tree's member blocks it. COUNT of a port not called, ASSIGN from elsewhere than
upstream and a REPORT not awaited change nothing; an awaited REPORT enters its node. A known serial that announces itself
restarts Roll Call towards it, a new one is noted. A member out of place announces itself. A STATE report that agrees updates
its node. RESYNC and bundles need an upstream; a push without late members ends nothing; the head pushes again to a node of
another epoch. HEAL acts only in a ring. A forward's reply or timeout needs a waiting forward. (R402, R403, R405, R406, R409,
R410, R411, R412, R413, R414, R417) -/
def Obligations.TreeServiceEvents : Prop :=
  (∀ (s : State) (t : Nat) (x : TimeFlit), s.isMember = false → Runs (.timeFlitReceived t x) s (· = s)) ∧
  (∀ (s : State) (t : Nat) (x : TimeFlit), s.isMember = true → (s.treePort t).up = true → s.tree.upstream = some t →
    s.raster.inUse ≠ 5 → Runs (.timeFlitReceived t x) s fun u => u.tree.lastTime = s.raster.clock ∧ u.tree.offset = x.offset ∧
      u.raster = s.raster) ∧
  (∀ (s : State) (t : Nat) (a b c d : Int), Runs (.echoReceived t a b c d) s (· = s.onTreePort t fun p =>
    { p with delay := roundDiv (((d - a) - (c - b)) * 1000) 131072 + p.asym })) ∧
  (∀ (s : State) (t : Nat) (e : TreeEvent), (s.treePort t).up = true → s.isHead = true → Runs (.eventFlitReceived t e) s fun u =>
    ∃ v : State, v = s.reRaise (0xC8 + e.tag % 8) (s.treeEv e) true ∧ u = v.route (v.ownFlit .event .down 0 (.event e)) none) ∧
  (∀ (s : State) (t : Nat) (e : TreeEvent), (s.treePort t).up = true → s.isMember = true → s.isHead = false →
    s.tree.upstream = some t → Runs (.eventFlitReceived t e) s
      (· = if e.originNode = s.node then s else s.reRaise (0xC8 + e.tag % 8) (s.treeEv e) true)) ∧
  (∀ (s : State) (t u : Nat), (s.treePort t).up = true → s.isHead = false → s.isMember = true → s.tree.upstream = some u →
    u ≠ t → s.tree.cfg.topology = 0 → Runs (.callReceived t) s
      (· = (s.onTreePort t fun p => { p with use := .blocked }).countTree 4 1)) ∧
  (∀ (s : State) (t n : Nat), (s.treePort t).called = false → Runs (.countReceived t n) s (· = s)) ∧
  (∀ s : State, s.tree.ports.all (fun p => !p.called) = true → Runs .countTimeout s (· = s)) ∧
  (∀ (s : State) (t : Nat) (a : AssignInfo), s.tree.upstream ≠ some t → Runs (.assignReceived t a) s (· = s)) ∧
  (∀ (s : State) (t : Nat) (a : AssignInfo), s.isMember = true → s.tree.upstream = some t → Runs (.assignReceived t a) s
    fun u => u.tree.nodeId = some a.first ∧ u.tree.depth = a.depth ∧ u.tree.cfg.topology = a.topology ∧
      u.tree.quarantined = (s.tree.epoch != a.epoch || a.version / 256 != 1 || decide (0 < a.minMinor))) ∧
  (∀ (s : State) (x : NodeReport), s.tree.awaited.contains x.node = false → Runs (.reportReceived x) s (· = s)) ∧
  (∀ (s : State) (x : NodeReport) (k : Nat), s.isHead = true → s.tree.awaited = [x.node, k] → k ≠ x.node → s.tree.nodes = [] →
    Runs (.reportReceived x) s fun u => u.tree.awaited = [k] ∧
      u.tree.nodes.map (fun n => (n.id, n.serial, n.epoch, n.version)) = [(x.node, x.serial, x.epoch, x.version)]) ∧
  (∀ (s : State) (t n : Nat), s.isHead = true → s.tree.rollCall = false →
    s.tree.nodes.find? (fun x => x.serial == n) = none → Runs (.tblAnnounceReceived t n) s
      (· = s.notice 0x0E82 [itemN 1 4 0, itemN 2 8 n, itemN 3 1 1])) ∧
  (∀ s : State, s.isMember = false → Runs .tblAnnounceTimer s (· = s)) ∧
  (∀ (s : State) (t : Nat), s.isMember = true → s.tree.quarantined = true → s.tree.upstream = some t →
    Runs .tblAnnounceTimer s (· = s.sendSeq t (s.ownFlit .control .up 0 (.announce Config.serial.toNat)))) ∧
  (∀ (s : State) (i : Nat) (e : Word) (o : Int) (m : BitVec 128), s.isHead = false →
    Runs (.stateReportReceived i e o m) s (· = s)) ∧
  (∀ (s : State) (i : Nat) (n : NodeRec), s.isHead = true → s.tree.nodes = [n] → n.id = i → n.badEpoch = false →
    n.outOfStep = false →
    Runs (.stateReportReceived i s.tree.epoch 0 n.record) s fun u =>
      u.tree.nodes = [{ n with epoch := s.tree.epoch, offset := 0, runMap := n.record, disagree := 0 }]) ∧
  (∀ (s : State) (m : BitVec 128) (bs : List Byte) (e : Word), (s.isMember = false ∨ s.tree.upstream = none) →
    Runs (.resyncReceived m) s (· = s) ∧ Runs (.bundleReceived bs e) s (· = s)) ∧
  (∀ (s : State), s.isMember = true → s.tree.upstream.isSome = true → Runs (.resyncReceived s.runMap) s
    (· = (s.onTree fun t => { t with resyncTo := none }).countTree 1 1)) ∧
  (∀ (s : State) (bs : List Byte) (e : Word), s.isMember = true → s.tree.upstream.isSome = true → Runs (.bundleReceived bs e) s
    (· = s.onTree fun t => { t with bundles := t.bundles ++ [{ epoch := e, rest := bundleMessages bs.length bs }] })) ∧
  (∀ (s : State) (i : Nat) (e : Word), s.isHead = false → Runs (.epochAckReceived i e none) s (· = s) ∧
    Runs (.epochRepushTimer i) s (· = s)) ∧
  (∀ (s : State) (i : Nat) (n : NodeRec), s.isHead = true → s.tree.bundle = none → s.tree.nodes = [n] → n.id = i →
    n.badEpoch = true → s.tree.pushWaiting = [] → Runs (.epochAckReceived i s.tree.epoch none) s fun u =>
      u.tree.nodes = [{ n with epoch := s.tree.epoch, badEpoch := false }] ∧ u.tree.pushAcked = s.tree.pushAcked) ∧
  (∀ s : State, s.tree.pushWaiting = [] → Runs .pushTimeout s (· = s)) ∧
  (∀ (s : State) (i : Nat), s.tree.pushWaiting = [i] → s.tree.nodes = [] → Runs .pushTimeout s fun u =>
    u.tree.pushWaiting = [] ∧ u.tree.pushFailed = s.tree.pushFailed + 1) ∧
  (∀ (s : State) (i : Nat) (n : NodeRec), s.isHead = true → s.node? i = some n → n.badEpoch = true →
    Runs (.epochRepushTimer i) s (· = s.sendBundle .node i)) ∧
  (∀ (s : State) (t n : Nat), s.tree.cfg.topology = 0 → Runs (.healReceived t n) s (· = s)) ∧
  (∀ (s : State) (n : Nat) (bs : List Byte), (s.control.mailboxes.all fun m => m.waiting.isNone) = true →
    Runs (.forwardReplyReceived n bs) s (· = s) ∧ Runs (.nodeTimeout n) s (· = s)) ∧
  (∀ s : State, Runs .tblCtrlCntClear s (· = clearTbl allBits allBits s))

/-- the commands of the tree service: TBL_PORT_SET within its rules writes DELAY_ASYM and the lane fields, and lanes move when
their fields do. TBL_TREE_SET writes the tree fields, and a change to ROLE 2 reverts the target's addresses. TBL_ROLL_CALL,
TBL_CONFIG_PUSH, TBL_NODE_LIST and commands to a node are the head's alone. TBL_ROLL_CALL waits for Roll Call; TBL_NODE_LIST
returns nodes by identifier; TBL_CONFIG_PUSH takes the epoch and returns how many members it addresses; TBL_FORWARD sends the
message and waits; TBL_STATE_SET writes the head's record; TBL_STATUS_GET reads; TBL_COUNTERS_CLEAR clears. (R402, R404,
R411, R414, R415, R424) -/
def Obligations.TreeCommands : Prop :=
  (∀ c gs s (t : Nat) (cfg : LaneConfig) (v : State), Accepts cmdTblPortSet c gs s → t = gotN gs 1 →
    cfg = putPlain 0x100 laneFlds gs (s.lanePort (2 + t)).cfg → judgeLanes gs (s.laneCount (2 + t)) 0x101 cfg = none →
    v = (s.onTreePort t fun p => { p with asym := (gotI? gs 2).getD p.asym }).onLanePort (2 + t)
      (fun q => { q with cfg := cfg }) →
    Runs (.tblPortSet c) s (· = (if movesLanes gs then v.applyLaneConfig (2 + t) else v).accepted cmdTblPortSet c gs [])) ∧
  (∀ c gs s (cfg : TreeConfig), Accepts cmdTblTreeSet c gs s → cfg = putPlain 0x100 treeFlds gs s.tree.cfg →
    (cfg.role ≠ 2 ∨ s.tree.cfg.role = 2) → Runs (.tblTreeSet c) s
      (· = (s.onTree fun r => { r with cfg := cfg }).accepted cmdTblTreeSet c gs [])) ∧
  (∀ c gs s (cfg : TreeConfig), Accepts cmdTblTreeSet c gs s → cfg = putPlain 0x100 treeFlds gs s.tree.cfg → cfg.role = 2 →
    s.tree.cfg.role ≠ 2 → Runs (.tblTreeSet c) s
      (· = (s.onTree fun r => { r with cfg := cfg }).targetRevert.accepted cmdTblTreeSet c gs [])) ∧
  (∀ c gs s st, Accepts cmdTblRollCall c gs s → headRefusal true s = some st → Runs (.tblRollCall c) s
    (· = s.refuse 0x0E02 c st 0 0)) ∧
  (∀ c gs s v, Accepts cmdTblRollCall c gs s → headRefusal true s = none → s.rollCallStart none = (none, v) →
    Runs (.tblRollCall c) s (· = v.awaits cmdTblRollCall c gs .rollCall)) ∧
  (∀ c gs s v its, Accepts cmdTblRollCall c gs s → headRefusal true s = none → s.rollCallStart none = (some its, v) →
    Runs (.tblRollCall c) s (· = v.accepted cmdTblRollCall c gs its)) ∧
  (∀ s : State, s.isHead = false → headRefusal true s = some 0x1E00 ∧ headRefusal false s = some 0x1E00) ∧
  (∀ s : State, s.isHead = true → headRefusal false s = none ∧
    headRefusal true s = if s.tree.rollCall then some 0x1E01 else none) ∧
  Reads .tblNodeList cmdTblNodeList (fun gs s =>
    ((s.tree.nodes.filter fun n => decide (gotN gs 1 ≤ n.id)).take (gotN gs 2)).flatMap NodeRec.items) ∧
  (∀ c gs s, Accepts cmdTblConfigPush c gs s → Runs (.tblConfigPush c) s (· =
    (((s.onTree fun r => { r with epoch := BitVec.ofNat 32 (gotN gs 3), bundle := some (gotH gs 1, gotN gs 2),
                                  pushWaiting := s.tree.nodes.map (·.id), pushAcked := 0, pushFailed := 0 }).sendBundle
      .down 0).pushSettle).accepted cmdTblConfigPush c gs [itemN 0x4001 4 s.tree.nodes.length])) ∧
  (∀ c gs s, Accepts cmdTblForward c gs s → Runs (.tblForward c) s
    (· = (s.sendMessage .node (gotN gs 1) (gotB gs 2)).awaits cmdTblForward c gs (.forward (gotN gs 1)))) ∧
  Does .tblStateSet cmdTblStateSet (fun _ _ => []) (fun gs s => s.onNode (gotN gs 1) fun n =>
    { n with record := BitVec.ofNat 128 (leNat (gotB gs 2)) }) ∧
  Reads .tblStatusGet cmdTblStatusGet (fun _ s => [itemN 0x4001 4 s.tblStatus.toNat, itemN 0x4002 4 s.tblNode.toNat,
    itemW 0x4003 (s.tree.ports.flatMap fun p => p.status :: p.cnt), itemW 0x4004 s.tree.cnt]) ∧
  Does .tblCountersClear cmdTblCountersClear (fun _ _ => []) (fun gs s => clearTbl (gotN gs 1) (gotN gs 2) s)

/-- I2C transfers, the I2C target, UART bytes and GPIO: no transfer starts on a controller in use or without one waiting;
otherwise the first waiting one is on the wires, and a bus clear, for a stuck SDA, is counted. Without a transfer nothing
ends. A lost arbitration counts and, within RETRIES, waits for the retry with the transfer kept; beyond that, or with another
status, the transfer ends and its command is answered. The target answers only its addresses; a write of 4 bytes sets the
next word address, further bytes and aborts count as protocol errors; a read gives words and moves on. A UART that does not
run ignores bytes; otherwise a byte joins the open record, and an idle gap closes it. A GPIO edge that is no change does
nothing; another sets GPIO_IN and raises the pin's source when IN_EDGE takes it. GPIO_OUT bits change under WRITE_MASK.
CNT_CLEAR clears. (R373, R418, R419, R420, R421, R422, R423, R424, R425, R426, R428, R431) -/
def Obligations.BoardBusEvents : Prop :=
  (∀ (s : State) (c : Nat) (a b : Bool), ((s.twi c).active.isSome = true ∨ (s.twi c).queue = []) →
    Runs (.i2cXferStart c a b) s (· = s)) ∧
  (∀ (s : State) (c : Nat) (t : Transfer) (rest : List Transfer), (s.twi c).active = none → (s.twi c).queue = t :: rest →
    t.segments ≠ [] → Runs (.i2cXferStart c false false) s
      (· = s.onTwi c fun x => { x with active := some t, queue := rest, cntClear := x.cntClear })) ∧
  (∀ (s : State) (c : Nat) (t : Transfer) (rest : List Transfer), (s.twi c).active = none → (s.twi c).queue = t :: rest →
    t.segments ≠ [] → Runs (.i2cXferStart c true true) s
      (· = s.onTwi c fun x => { x with active := some t, queue := rest, cntClear := x.cntClear + 1 })) ∧
  (∀ (s : State) (c : Nat) (r : I2cResult), (s.twi c).active = none → Runs (.i2cXferDone c r) s (· = s) ∧
    Runs (.i2cSclTimeout c) s (· = s)) ∧
  (∀ (s : State) (c : Nat) (r : I2cResult) (t : Transfer), (s.twi c).active = some t → (s.twi c).waitsStop = false →
    (r.status = 3 ∨ r.status = 4) → t.losses < (s.twi c).cfg.retries → c < s.bus.i2c.length → Runs (.i2cXferDone c r) s fun u =>
      (u.twi c).active = some { t with losses := t.losses + 1 } ∧ (u.twi c).waitsStop = true ∧
      (u.twi c).cntArb = (s.twi c).cntArb + 1 ∧ (u.twi c).queue = (s.twi c).queue ∧ u.control = s.control) ∧
  (∀ (s : State) (c n : Nat) (r : I2cResult) (t : Transfer), (s.twi c).active = some t → (s.twi c).waitsStop = false →
    r.status ≠ 3 → r.status ≠ 4 → t.for_ = .mailbox n → Runs (.i2cXferDone c r) s (· =
      complete (.i2c n) (if r.status = 0 then stOk else stBusError)
        ((indexed (if r.status = 0 then t.segments else t.segments.take (r.segment + 1))).map (fun ig =>
          if r.status ≠ 0 ∧ ig.1 = r.segment then segmentItem r.status (if r.status = 2 then r.byteIndex else 0) 0
          else segmentItem 0 0 0) ++
          readItems_ (if r.status = 0 then t.segments else t.segments.take (r.segment + 1)) r.data)
        (s.onTwi c fun x => { x with active := none, waitsStop := false }))) ∧
  (∀ (s : State) (c : Nat), Runs (.i2cArbRetry c) s (· = s.onTwi c fun x => { x with waitsStop := false })) ∧
  (∀ (s : State) (a n : Nat) (bs : List Byte), s.bus.target.matches a = false → Runs (.twiTAddressWrite a bs) s (· = s) ∧
    Runs (.twiTRead a n) s (· = s)) ∧
  (∀ (s : State) (a : Nat) (bs : List Byte), s.bus.target.matches a = true → bs.length = 4 →
    Runs (.twiTAddressWrite a bs) s fun u =>
    u.bus.target = { s.bus.target with next := BitVec.ofNat 32 (leNat bs.reverse / 4 * 4) } ∧ u.control = s.control) ∧
  (∀ (s : State) (a : Nat) (bs : List Byte), s.bus.target.matches a = true → 4 < bs.length →
    Runs (.twiTAddressWrite a bs) s fun u => u.bus.target.cntProto = s.bus.target.cntProto + BitVec.ofNat 32 (bs.length - 4)) ∧
  (∀ (s : State) (a n : Nat), s.bus.target.matches a = true → Runs (.twiTRead a n) s fun u =>
    u.bus.target.out = s.burst s.bus.target.next n ∧ u.bus.target.next = BitVec.ofNat 32 (burstAddr s.bus.target.next n) ∧
    u.control = s.control) ∧
  (∀ s : State, Runs .twiTAbort s fun u => u.bus.target = { s.bus.target with cntProto := s.bus.target.cntProto + 1 } ∧
    u.control = s.control) ∧
  (∀ (s : State) (n : Nat) (b : Byte) (x y z : Bool), s.uartRuns n = false → Runs (.uartByteReceived n b x y z) s (· = s)) ∧
  (∀ (s : State) (n : Nat) (b : Byte), n < s.bus.uarts.length → s.uartRuns n = true → s.lensUart n = false →
    (s.uart n).cfg.data = 8 → (s.uart n).rx.length < 255 → Runs (.uartByteReceived n b false false false) s fun u =>
      (u.uart n).rx = (s.uart n).rx ++ [b] ∧ (u.uart n).cntErr = (s.uart n).cntErr ∧ u.control = s.control) ∧
  (∀ (s : State) (n : Nat), Runs (.uartIdleGap n) s (· = s.uartClose n) ∧ ((s.uart n).first = none → s.uartClose n = s)) ∧
  (∀ (s : State) (k : Nat) (b : Bool), (32 ≤ k ∨ s.bus.gpioIn.getLsbD k = b) → Runs (.gpioInputEdge k b) s (· = s)) ∧
  (∀ (s : State) (k : Nat) (b : Bool), k < 32 → s.bus.gpioIn.getLsbD k ≠ b → s.events.pulses = [] → Runs (.gpioInputEdge k b) s
    fun u => u.bus.gpioIn = putBit s.bus.gpioIn k b ∧ ((s.pin k).takes b = false → u.events = s.events) ∧
      ((s.pin k).takes b = true → u.events.due.length = s.events.due.length + 1 ∧ u.events.cnt = bumpAt s.events.cnt 0)) ∧
  (∀ (s : State) (v : Word), (∀ i, i < 16 → v.getLsbD (16 + i) = false) → Runs (.gpioOutWrite false v) s fun u =>
    u.bus.gpioOut = s.bus.gpioOut ∧ u.control = s.control) ∧
  (∀ (s : State), Runs (.gpioOutWrite true 0x00010001) s fun u => u.bus.gpioOut = putBit s.bus.gpioOut 16 true) ∧
  (∀ s : State, Runs .busCtrlCntClear s (· = clearBus allBits s))

/-- the board-bus commands: BUS_I2C_SET writes a controller's fields. BUS_I2C_XFER and BUS_I2C_CLEAR queue their transfer under a
fresh ticket and wait. BUS_TARGET_SET writes addresses and mask. BUS_UART_SET writes a UART's fields, closing the open record
first when RX_RING is 0. BUS_UART_SEND sends its bytes. BUS_LENS_SET writes the lens service's fields. BUS_GPIO_SET writes
each named pin's fields and drives it. BUS_STATUS_GET returns status, GPIO_IN and counters; BUS_COUNTERS_CLEAR clears
counters. (R418, R419, R421, R422, R423, R426, R427, R428, R429) -/
def Obligations.BoardBusCommands : Prop :=
  Does .busI2cSet cmdBusI2cSet (fun _ _ => []) (fun gs s => s.onTwi (gotN gs 1) fun x =>
    { x with cfg := putPlain 0x100 i2cFlds gs x.cfg }) ∧
  (∀ c gs s, Accepts cmdBusI2cXfer c gs s → Runs (.busI2cXfer c) s (· = (s.draw.2.onTwi (gotN gs 1) fun x =>
    { x with queue := x.queue ++ [{ segments := (gotAll gs 2).map fun v => Segment.ofBytes v.bytes,
                                    for_ := .mailbox s.draw.1 }] }).awaits cmdBusI2cXfer c gs (.i2c s.draw.1))) ∧
  (∀ c gs s, Accepts cmdBusI2cClear c gs s → Runs (.busI2cClear c) s (· = (s.draw.2.onTwi (gotN gs 1) fun x =>
    { x with queue := x.queue ++ [{ segments := [], for_ := .mailbox s.draw.1 }] }).awaits
      cmdBusI2cClear c gs (.i2c s.draw.1))) ∧
  Does .busTargetSet cmdBusTargetSet (fun _ _ => []) (fun gs s => s.onBus fun b =>
    { b with target := { b.target with addrs := gotNs gs 1, mask := gotN? gs 2 } }) ∧
  Does .busUartSet cmdBusUartSet (fun _ _ => []) (fun gs s =>
    (if gotN? gs 0x105 = some 0 then s.uartClose (gotN gs 1) else s).onUart (gotN gs 1) fun x =>
      { x with cfg := putPlain 0x100 uartFlds gs x.cfg }) ∧
  Does .busUartSend cmdBusUartSend (fun _ _ => []) (fun gs s => s.send (.uart (gotN gs 1) (gotB gs 2))) ∧
  Does .busLensSet cmdBusLensSet (fun _ _ => []) (fun gs s => s.onLens fun l =>
    { l with cfg := putPlain 0x100 lensFlds gs l.cfg }) ∧
  Does .busGpioSet cmdBusGpioSet (fun _ _ => []) (fun gs s => (gotNs gs 1).foldl (fun s k =>
    (s.onBus fun b => { b with pins := modAt b.pins k fun p => putPlain 0x100 pinFlds gs p }).drivePin k) s) ∧
  Reads .busStatusGet cmdBusStatusGet (fun _ s => [itemN 0x4001 4 s.busStatus.toNat, itemN 0x4002 4 s.bus.gpioIn.toNat,
    itemW 0x4003 s.busCounters]) ∧
  Does .busCountersClear cmdBusCountersClear (fun _ _ => []) (fun gs s => clearBus (gotN gs 1) s)

/-- signatures, image installation, debug and the rollback counter: a signature's record becomes durable once, with the next
index and a token fewer; it is complete only once durable, and then its report and signature leave. A token returns up to
128. A flash write that is done writes the slot of the first installation and answers it. SEC_INFO_GET, SEC_CERT_GET and
SEC_KEY_STATUS read. SEC_ATTEST takes the report as things stand, queues it and waits. Install, boot slot, rollback,
challenge and unlock are DENIED to other mailboxes than the host's. A host's install of an image that fails its check is
refused with the flash untouched; a good one waits. A rollback writes the NVM and is reported. An unlock without a challenge
is refused; any other consumes it. The clears clear the counters. (R434, R435, R436, R437, R438, R441, R442, R443, R444) -/
def Obligations.SecurityEventsAndCommands : Prop :=
  (∀ s : State, s.sec.signing = none → Runs .nvmRecordDurable s (· = s) ∧ Runs .signatureComplete s (· = s)) ∧
  (∀ (s : State) (a : Attest), s.sec.signing = some a → a.durable = true → Runs .nvmRecordDurable s (· = s)) ∧
  (∀ (s : State) (a : Attest), s.sec.signing = some a → a.durable = false → Runs .signatureComplete s (· = s) ∧
    Runs .nvmRecordDurable s fun u => u.sec.nvm.index = s.sec.nvm.index + 1 ∧ u.sec.nvm.tokens = s.sec.nvm.tokens - 1 ∧
      u.sec.signing = some { a with durable := true }) ∧
  (∀ (s : State) (a : Attest), s.sec.signing = some a → a.durable = true → Runs .signatureComplete s
    (· = complete (.attest a.ticket) stOk [itemB 0x4001 (a.head ++ toLe 4 a.index ++ a.tail),
        itemB 0x4002 (Config.xmssSign a.index (a.head ++ toLe 4 a.index ++ a.tail))]
      ((s.onSec fun x => { x with signing := none }).countSec 0))) ∧
  (∀ s : State, Runs .signingTokenReturn s (· = s.onNvm fun n => { n with tokens := min 128 (n.tokens + 1) })) ∧
  (∀ s : State, s.sec.installs = [] → Runs .flashWriteDone s (· = s)) ∧
  (∀ (s v : State) (n k : Nat) (bs : List Byte), s.sec.installs = [(n, k, bs)] →
    v = (s.onSec fun x => { x with installs := [], flash := setAt x.flash k bs }) → Runs .flashWriteDone s
      (· = if v.slotCheck k = 0 then complete (.flash n) stOk [] (v.notice 0x1084
          [itemN 1 1 k, itemN 2 2 (imageSvn bs), itemN 3 4 (imageVersion bs)])
        else complete (.flash n) (imageStatus (v.slotCheck k)) [] v)) ∧
  (∀ c gs s, Accepts cmdSecInfoGet c gs s → Runs (.secInfoGet c) s fun u => ∃ its, u = s.accepted cmdSecInfoGet c gs its ∧
    its.head? = some (itemN 0x4001 4 s.sec.svn) ∧ its.getLast? = some (itemB 0x4007 s.control.configDigest)) ∧
  Reads .secCertGet cmdSecCertGet (fun _ _ => [itemB 0x4001 Config.certificate]) ∧
  Reads .secKeyStatus cmdSecKeyStatus (fun _ s => [itemN 0x4001 4 s.sec.nvm.index, itemN 0x4002 4 (1048576 - s.sec.nvm.index),
    itemN 0x4003 1 s.sec.nvm.tokens, itemN 0x4004 2 s.tokenSeconds]) ∧
  (∀ c gs s, Accepts cmdSecAttest c gs s → Runs (.secAttest c) s (· = (s.draw.2.onSec fun x =>
    { x with attests := x.attests ++ [{ ticket := s.draw.1, head := (s.reportParts (gotB gs 1)).1,
                                        tail := (s.reportParts (gotB gs 1)).2 }] }).awaits
      cmdSecAttest c gs (.attest s.draw.1))) ∧
  (∀ c gs s, Accepts cmdSecImageInstall c gs s → Call.fromHost c = false → Runs (.secImageInstall c) s
    (· = s.refuse 0x1004 c stDenied 0 1)) ∧
  (∀ c gs s, Accepts cmdSecBootSlotSet c gs s → Call.fromHost c = false → Runs (.secBootSlotSet c) s
    (· = s.refuse 0x1005 c stDenied 0 1)) ∧
  (∀ c gs s, Accepts cmdSecRollbackAdvance c gs s → Call.fromHost c = false → Runs (.secRollbackAdvance c) s
    (· = s.refuse 0x1006 c stDenied 0 1)) ∧
  (∀ c gs s, Accepts cmdSecDebugChallenge c gs s → Call.fromHost c = false → Runs (.secDebugChallenge c) s
    (· = s.refuse 0x1007 c stDenied 0 0)) ∧
  (∀ c gs s, Accepts cmdSecDebugUnlock c gs s → Call.fromHost c = false → Runs (.secDebugUnlock c) s
    (· = s.refuse 0x1008 c stDenied 0 1)) ∧
  (∀ c gs s bs, Accepts cmdSecImageInstall c gs s → Call.fromHost c = true → bs = s.bytesOf (gotH gs 1) 0
      (min (4096 + min (leNat (s.bytesOf (gotH gs 1) 16 4)) 6291456) (((s.buffer? (gotH gs 1)).map (·.size)).getD 0)) →
    s.sec.installs ≠ [] → Runs (.secImageInstall c) s (· = if imageCheck s.sec.nvm.rollback bs = 0 then
        (s.draw.2.onSec fun x => { x with installs := x.installs ++ [(s.draw.1, gotN gs 2, bs)] }).awaits
          cmdSecImageInstall c gs (.flash s.draw.1)
      else s.refuse 0x1004 c (imageStatus (imageCheck s.sec.nvm.rollback bs)) (gotPos gs 1) 1)) ∧
  (∀ c gs s, Accepts cmdSecBootSlotSet c gs s → Call.fromHost c = true → Runs (.secBootSlotSet c) s
    (· = if s.slotCheck (gotN gs 1) = 0 then
        (s.onNvm fun n => { n with bootSlot := gotN gs 1 }).accepted cmdSecBootSlotSet c gs []
      else s.refuse 0x1005 c stBadSignature (gotPos gs 1) 1)) ∧
  (∀ c gs s, Accepts cmdSecRollbackAdvance c gs s → Call.fromHost c = true → Runs (.secRollbackAdvance c) s fun u => ∃ v : State,
    v = s.onNvm (fun n => { n with rollback := gotN gs 1 }) ∧ u = (v.notice 0x1083 [itemN 1 2 s.sec.nvm.rollback,
      itemN 2 2 (gotN gs 1)]).accepted cmdSecRollbackAdvance c gs [itemN 0x4001 1 v.slotsValid]) ∧
  (∀ c gs s, Accepts cmdSecDebugChallenge c gs s → Call.fromHost c = true →
    Runs (.secDebugChallenge c) s (· = (s.draw.2.onSec fun x =>
    { x with challenge := some (Config.challenge s.draw.1) }).accepted cmdSecDebugChallenge c gs
      [itemB 0x4001 (Config.challenge s.draw.1)])) ∧
  (∀ c gs s, Accepts cmdSecDebugUnlock c gs s → Call.fromHost c = true → s.sec.challenge = none →
    Runs (.secDebugUnlock c) s (· = s.refuse 0x1008 c 0x2004 (gotPos gs 1) 1)) ∧
  (∀ (s : State) (bs : List Byte), (s.unlock bs).2.sec.challenge = none) ∧
  Does .secCountersClear cmdSecCountersClear (fun _ _ => []) (fun gs s => clearSec (gotN gs 1) s) ∧
  (∀ s : State, Runs .secCtrlCntClear s (· = clearSec allBits s))

/-- resets and what survives them, and the boot to mailbox-ready: power-on, a brown-out and PWR_OK low leave the NVM and nothing
else of the device, with cause POWER_ON, or with HARD_STOP beside it and a recovery after a hard stop. RESET_N keeps the NVM,
the fault log and the causes, adds its own, and is ignored in a thermal or hard-stop hold. A hard stop adds its cause, holds
the device and asserts PWR_FAULT_N, once. The end of a reset samples the straps, unless the device is awake or held; invalid
straps end the boot with 0x0020. Each boot stage goes to the next or ends with its FAIL_CODE; a stage that is not in turn
changes nothing. Firmware comes from the slot in force, else from the other. Mailbox-ready needs firmware and DRAM. (R434,
R448, R449, R450, R451, R452, R453, R455, R459, R462) -/
def Obligations.ResetAndBootEvents : Prop :=
  (∀ s : State, Runs .powerOnReset s (· = powerOnReset s) ∧ Runs .vddAoBrownout s (· = powerOnReset s) ∧
    Runs .pwrOkLow s (· = powerOnReset s)) ∧
  (∀ s : State, (powerOnReset s).sec.nvm = s.sec.nvm ∧ (powerOnReset s).power.log = [] ∧ (powerOnReset s).power.held = .no ∧
    (powerOnReset s).power.inReset = true ∧ (powerOnReset s).raster = State.reset.raster ∧
    (powerOnReset s).granary = State.reset.granary ∧ (powerOnReset s).record = State.reset.record ∧
    (powerOnReset s).control.resetCause = (if s.power.held = .hardStop then 0x21 else 1) ∧
    (powerOnReset s).power.recovery = decide (s.power.held = .hardStop)) ∧
  (∀ s : State, (s.power.held = .thermal ∨ s.power.held = .hardStop) → Runs .resetBall s (· = s)) ∧
  (∀ s : State, s.power.held ≠ .thermal → s.power.held ≠ .hardStop → Runs .resetBall s fun u =>
    u.sec.nvm = s.sec.nvm ∧ u.power.log = s.power.log ∧ u.power.logNext = s.power.logNext ∧
    u.control.resetCause = putBit s.control.resetCause 1 true ∧ u.power.inReset = true ∧ u.power.held = .no ∧
    u.power.recovery = false ∧ u.raster = State.reset.raster ∧ u.control.mailboxes = State.reset.control.mailboxes ∧
    u.control.sincePowerGood = 0) ∧
  (∀ s : State, s.power.held ≠ .hardStop → Runs .hardStop s fun u => u.sec.nvm = s.sec.nvm ∧ u.power.log = s.power.log ∧
    u.control.resetCause = putBit s.control.resetCause 5 true ∧ u.power.held = .hardStop ∧ u.power.faultN = true ∧
    u.power.inReset = true) ∧
  (∀ s : State, s.power.held = .hardStop → Runs .hardStop s (· = s)) ∧
  (∀ (s : State) (a b : Nat), (s.power.inReset = false ∨ s.power.held ≠ .no) → Runs (.resetEnd a b) s (· = s)) ∧
  (∀ (s : State) (a b : Nat), s.power.inReset = true → s.power.held = .no → Runs (.resetEnd a b) s fun u =>
    u.power.inReset = false ∧ u.power.bifurcation = a % 4 ∧ u.control.pcie0Ep = (a / 4 % 2 == 1) ∧ u.bus.target.strap = b % 8 ∧
    u.bus.target.addrs = [0x58 + b % 8] ∧
    ((a % 4 = 3 ∨ a / 8 % 4 = 3 ∨ (a / 4 % 2 = 1 ∧ a % 4 ≠ 2)) → u.control.stage = 15 ∧ u.control.failCode = 0x20) ∧
    (a % 4 ≠ 3 → a / 8 % 4 ≠ 3 → (a / 4 % 2 = 0 ∨ a % 4 = 2) → u.control.stage = s.control.stage)) ∧
  (∀ (s : State) (a b : Bool), (s.power.inReset = true ∨ s.control.stage ≠ 0) → Runs (.bootRomDone a b) s (· = s)) ∧
  (∀ (s : State) (b : Bool), s.power.inReset = false → s.control.stage = 0 →
    Runs (.bootRomDone false b) s (· = s.bootFail 0x10) ∧ Runs (.bootRomDone true false) s (· = s.bootFail 0x11) ∧
    Runs (.bootRomDone true true) s fun u => u.control.stage = 1 ∧ u.power.avsTarget = min 80 Config.avsFuse ∧
      u.power.avs = s.power.avs) ∧
  (∀ s : State, (s.power.inReset = true ∨ s.control.stage ≠ 1) → Runs .firmwareVerified s (· = s)) ∧
  (∀ s : State, s.power.inReset = false → s.control.stage = 1 → Runs .firmwareVerified s fun u =>
    if s.slotCheck s.sec.nvm.bootSlot = 0 then u.control.stage = 2 ∧ u.sec.booted = s.sec.nvm.bootSlot ∧
      u.power.slotFailed = false ∧ u.sec.svn = imageSvn (s.sec.flash.getD s.sec.nvm.bootSlot []) ∧ u.sec.nvm = s.sec.nvm
    else if s.slotCheck (1 - s.sec.nvm.bootSlot) = 0 then u.control.stage = 2 ∧ u.sec.booted = 1 - s.sec.nvm.bootSlot ∧
      u.power.slotFailed = true
    else u = s.bootFail (s.slotCheck (1 - s.sec.nvm.bootSlot))) ∧
  (∀ (s : State) (x : ChannelInfo), s.power.inReset = false → s.control.stage ≤ 2 → s.granary.dramReady = false →
    x.trained = true → Runs (.dramTrainingDone (List.replicate 24 x)) s fun u => u.granary.dramReady = true ∧
      u.control = s.control ∧ ∀ k, k < s.granary.channels.length → k < 24 →
        (u.granary.channels[k]?).map (fun c => (c.up, c.capacity)) = some (true, x.capacity % 4)) ∧
  (∀ s : State, s.power.inReset = false → s.control.stage ≤ 2 → s.granary.dramReady = false →
    Runs (.dramTrainingDone []) s (· = s.bootFail 0x100)) ∧
  (∀ s : State, s.granary.dramReady = true → Runs (.dramTrainingDone []) s (· = s)) ∧
  (∀ s : State, (s.power.inReset = true ∨ s.control.stage ≠ 2 ∨ s.granary.dramReady = false) → Runs .mailboxReady s (· = s)) ∧
  (∀ s : State, s.power.inReset = false → s.control.stage < 3 → Runs .bootStageTimeout s (· = s.bootFail 0x50)) ∧
  (∀ s : State, 3 ≤ s.control.stage → Runs .bootStageTimeout s (· = s))

/-- heat, shutdown, control pairs and the power commands: the AVS code moves by at most one towards its target. A temperature
sample below every threshold clears nothing that is clear and moves the peak; one at 125 degrees sets WARNING and counts;
below 110 degrees a thermal hold ends. A shutdown's time ends a shutdown that is in progress: after a thermal one the device
is held. A failed pair with a good partner starts a takeover, which logs and counts; a second failure resets with cause
WATCHDOG and a recovery. A checkpoint is kept. PWR_STATUS_GET and PWR_FAULT_LOG_GET read; PWR_THERMAL_SET writes;
PWR_POWER_DOWN keeps its frame for the host alone; the clears clear. (R449, R456, R457, R458, R461, R462, R463, R465) -/
def Obligations.PowerEventsAndCommands : Prop :=
  (∀ s : State, Runs .avsStep s fun u => (u.power.avs ≤ s.power.avs + 1 ∧ s.power.avs ≤ u.power.avs + 1) ∧
    (s.power.avs < s.power.avsTarget → u.power.avs = s.power.avs + 1) ∧
    (s.power.avsTarget < s.power.avs → u.power.avs = s.power.avs - 1) ∧
    (s.power.avs = s.power.avsTarget → u = s) ∧ u.control = s.control) ∧
  (∀ s : State, Runs (.tempSample []) s (· = s)) ∧
  (∀ (s : State) (j : Int), s.power.inReset = false → j < 2000 → s.power.warning = false → s.power.throttle = false →
    s.power.shutdown = false → Runs (.tempSample [j]) s fun u => u.power.temps = List.replicate 16 j ∧
      u.power.peak = some ((s.power.peak.map (max · j)).getD j) ∧ u.power.warning = false ∧ u.power.throttle = false ∧
      u.power.shutdown = false ∧ u.power.cnt = s.power.cnt ∧ u.control = s.control) ∧
  (∀ (s : State) (j : Int), s.power.inReset = false → 2000 ≤ j → j < 2240 → s.power.warning = false → s.power.throttle = false →
    s.power.shutdown = false → Runs (.tempSample [j]) s fun u => u.power.warning = true ∧ u.power.throttle = false ∧
      u.power.cnt = bumpAt s.power.cnt 0) ∧
  (∀ (s : State) (j : Int), s.power.inReset = true → s.power.held = .thermal → Runs (.tempSample [j]) s fun u =>
    u.power.held = (if j < 1760 then .no else .thermal) ∧ u.power.inReset = true) ∧
  (∀ s : State, s.power.shuttingDown = none → Runs .shutdownTimeout s (· = s)) ∧
  (∀ s : State, s.power.shuttingDown = some 1 → Runs .shutdownTimeout s fun u =>
    u.power.held = .thermal ∧ u.power.inReset = true ∧
    u.power.recovery = true ∧ u.control.resetCause = putBit s.control.resetCause 4 true ∧ u.power.log = s.power.log) ∧
  (∀ s : State, s.power.shuttingDown = some 2 → Runs .shutdownTimeout s fun u => u.power.held = .command ∧
    u.power.inReset = true ∧ u.power.recovery = false ∧ u.control.resetCause = s.control.resetCause) ∧
  (∀ s : State, (s.power.inReset = true ∨ s.power.takeover.isSome = true) → Runs .lockstepMismatch s (· = s) ∧
    Runs .checkpointMissed s (· = s) ∧ Runs .checkpoint s (· = s)) ∧
  (∀ s : State, s.power.inReset = false → s.power.takeover = none → s.power.pairOk.getD (1 - s.power.activePair) false = true →
    Runs .lockstepMismatch s (· = s.onPower fun p => { p with pairOk := setAt p.pairOk s.power.activePair false,
                                                              takeover := some s.power.activePair }) ∧
    Runs .checkpointMissed s (· = s.onPower fun p => { p with pairOk := setAt p.pairOk s.power.activePair false,
                                                              takeover := some s.power.activePair })) ∧
  (∀ s : State, s.power.inReset = false → s.power.takeover = none → s.power.pairOk.getD (1 - s.power.activePair) false = false →
    Runs .lockstepMismatch s fun u => u.control.resetCause = putBit s.control.resetCause 3 true ∧ u.power.recovery = true ∧
      u.power.bootFaults = [0x0E] ∧ u.power.inReset = true ∧ u.power.log = s.power.log) ∧
  (∀ s : State, s.power.inReset = false → s.power.takeover = none → Runs .checkpoint s
    (· = s.onPower fun p => { p with checkpointAt := some s.raster.clock })) ∧
  (∀ s : State, s.power.takeover = none → Runs .pairTakeover s (· = s)) ∧
  (∀ (s : State) (a : Nat), s.power.takeover = some a → Runs .pairTakeover s (· = (s.onPower fun p =>
    { p with activePair := 1 - a, takeover := none, cnt := bumpAt p.cnt 3 }).faultLog 0x07 0x1100 a)) ∧
  (∀ s : State, Runs .pwrCtrlCntClear s (· = s.onPower fun p =>
    { p with cnt := clearMasked p.cnt allBits, peak := some s.junction })) ∧
  Reads .pwrStatusGet cmdPwrStatusGet (fun _ s => [itemN 0x4001 4 s.pwrStatus.toNat, itemI 0x4002 2 s.junction] ++
    s.power.temps.map (itemI 0x4003 2) ++ [itemI 0x4004 2 (s.power.peak.getD s.junction), itemN 0x4005 4 s.power.avs,
      itemW 0x4006 s.power.cnt]) ∧
  Does .pwrThermalSet cmdPwrThermalSet (fun _ _ => []) (fun gs s => s.onPower fun p =>
    { p with cfg := putPlain 1 thermalFlds gs p.cfg }) ∧
  Reads .pwrFaultLogGet cmdPwrFaultLogGet (fun gs s =>
    ((s.power.log.filter fun e => decide ((e.seq - BitVec.ofNat 32 (gotN gs 1)).toNat < 2147483648)).take (gotN gs 2)).map
      fun e => itemB 0x4001 e.bytes) ∧
  (∀ c gs s, Accepts cmdPwrPowerDown c gs s → Call.fromHost c = true → Runs (.pwrPowerDown c) s
    (· = (s.onPower fun p => { p with downAt := some (s.frameOr gs 1) }).accepted cmdPwrPowerDown c gs
      [itemN 0x4001 4 (s.frameOr gs 1).toNat])) ∧
  (∀ c gs s, Accepts cmdPwrPowerDown c gs s → Call.fromHost c = false → Runs (.pwrPowerDown c) s
    (· = s.refuse 0x1103 c stDenied 0 (if has gs 1 then 1 else 0))) ∧
  Does .pwrCountersClear cmdPwrCountersClear (fun _ _ => []) (fun gs s => clearPwr (gotN gs 1) s)
end

