-- ==== Sys2Proof/Laws/State.lean ====
section
/-!
SUPPORT. What each update of one part of the state leaves and changes: one lemma per field and update, so that no proof
unfolds a record update.
-/

namespace Sys2Proof.Machine

variable (s : State)

@[simp] theorem onControl_pending (f : ControlState → ControlState) : (s.onControl f).pending = s.pending := rfl
@[simp] theorem onControl_control (f : ControlState → ControlState) : (s.onControl f).control = f s.control := rfl
@[simp] theorem onControl_raster (f : ControlState → ControlState) : (s.onControl f).raster = s.raster := rfl
@[simp] theorem onControl_events (f : ControlState → ControlState) : (s.onControl f).events = s.events := rfl
@[simp] theorem onControl_granary (f : ControlState → ControlState) : (s.onControl f).granary = s.granary := rfl
@[simp] theorem onControl_power (f : ControlState → ControlState) : (s.onControl f).power = s.power := rfl
@[simp] theorem onControl_lanes (f : ControlState → ControlState) : (s.onControl f).lanes = s.lanes := rfl
@[simp] theorem onControl_intake (f : ControlState → ControlState) : (s.onControl f).intake = s.intake := rfl
@[simp] theorem onControl_mill (f : ControlState → ControlState) : (s.onControl f).mill = s.mill := rfl
@[simp] theorem onControl_looks (f : ControlState → ControlState) : (s.onControl f).looks = s.looks := rfl
@[simp] theorem onControl_sheaf (f : ControlState → ControlState) : (s.onControl f).sheaf = s.sheaf := rfl
@[simp] theorem onControl_decoder (f : ControlState → ControlState) : (s.onControl f).decoder = s.decoder := rfl
@[simp] theorem onControl_compress (f : ControlState → ControlState) : (s.onControl f).compress = s.compress := rfl
@[simp] theorem onControl_audio (f : ControlState → ControlState) : (s.onControl f).audio = s.audio := rfl
@[simp] theorem onControl_bus (f : ControlState → ControlState) : (s.onControl f).bus = s.bus := rfl
@[simp] theorem onControl_record (f : ControlState → ControlState) : (s.onControl f).record = s.record := rfl
@[simp] theorem onControl_net (f : ControlState → ControlState) : (s.onControl f).net = s.net := rfl
@[simp] theorem onControl_monitor (f : ControlState → ControlState) : (s.onControl f).monitor = s.monitor := rfl
@[simp] theorem onControl_sec (f : ControlState → ControlState) : (s.onControl f).sec = s.sec := rfl
@[simp] theorem onControl_tree (f : ControlState → ControlState) : (s.onControl f).tree = s.tree := rfl
@[simp] theorem onControl_outbox (f : ControlState → ControlState) : (s.onControl f).outbox = s.outbox := rfl
@[simp] theorem onControl_fresh (f : ControlState → ControlState) : (s.onControl f).fresh = s.fresh := rfl

@[simp] theorem onRaster_pending (f : RasterState → RasterState) : (s.onRaster f).pending = s.pending := rfl
@[simp] theorem onRaster_control (f : RasterState → RasterState) : (s.onRaster f).control = s.control := rfl
@[simp] theorem onRaster_raster (f : RasterState → RasterState) : (s.onRaster f).raster = f s.raster := rfl
@[simp] theorem onRaster_events (f : RasterState → RasterState) : (s.onRaster f).events = s.events := rfl
@[simp] theorem onRaster_granary (f : RasterState → RasterState) : (s.onRaster f).granary = s.granary := rfl
@[simp] theorem onRaster_power (f : RasterState → RasterState) : (s.onRaster f).power = s.power := rfl
@[simp] theorem onRaster_lanes (f : RasterState → RasterState) : (s.onRaster f).lanes = s.lanes := rfl
@[simp] theorem onRaster_intake (f : RasterState → RasterState) : (s.onRaster f).intake = s.intake := rfl
@[simp] theorem onRaster_mill (f : RasterState → RasterState) : (s.onRaster f).mill = s.mill := rfl
@[simp] theorem onRaster_looks (f : RasterState → RasterState) : (s.onRaster f).looks = s.looks := rfl
@[simp] theorem onRaster_sheaf (f : RasterState → RasterState) : (s.onRaster f).sheaf = s.sheaf := rfl
@[simp] theorem onRaster_decoder (f : RasterState → RasterState) : (s.onRaster f).decoder = s.decoder := rfl
@[simp] theorem onRaster_compress (f : RasterState → RasterState) : (s.onRaster f).compress = s.compress := rfl
@[simp] theorem onRaster_audio (f : RasterState → RasterState) : (s.onRaster f).audio = s.audio := rfl
@[simp] theorem onRaster_bus (f : RasterState → RasterState) : (s.onRaster f).bus = s.bus := rfl
@[simp] theorem onRaster_record (f : RasterState → RasterState) : (s.onRaster f).record = s.record := rfl
@[simp] theorem onRaster_net (f : RasterState → RasterState) : (s.onRaster f).net = s.net := rfl
@[simp] theorem onRaster_monitor (f : RasterState → RasterState) : (s.onRaster f).monitor = s.monitor := rfl
@[simp] theorem onRaster_sec (f : RasterState → RasterState) : (s.onRaster f).sec = s.sec := rfl
@[simp] theorem onRaster_tree (f : RasterState → RasterState) : (s.onRaster f).tree = s.tree := rfl
@[simp] theorem onRaster_outbox (f : RasterState → RasterState) : (s.onRaster f).outbox = s.outbox := rfl
@[simp] theorem onRaster_fresh (f : RasterState → RasterState) : (s.onRaster f).fresh = s.fresh := rfl

@[simp] theorem onEvents_pending (f : EventState → EventState) : (s.onEvents f).pending = s.pending := rfl
@[simp] theorem onEvents_control (f : EventState → EventState) : (s.onEvents f).control = s.control := rfl
@[simp] theorem onEvents_raster (f : EventState → EventState) : (s.onEvents f).raster = s.raster := rfl
@[simp] theorem onEvents_events (f : EventState → EventState) : (s.onEvents f).events = f s.events := rfl
@[simp] theorem onEvents_granary (f : EventState → EventState) : (s.onEvents f).granary = s.granary := rfl
@[simp] theorem onEvents_power (f : EventState → EventState) : (s.onEvents f).power = s.power := rfl
@[simp] theorem onEvents_lanes (f : EventState → EventState) : (s.onEvents f).lanes = s.lanes := rfl
@[simp] theorem onEvents_intake (f : EventState → EventState) : (s.onEvents f).intake = s.intake := rfl
@[simp] theorem onEvents_mill (f : EventState → EventState) : (s.onEvents f).mill = s.mill := rfl
@[simp] theorem onEvents_looks (f : EventState → EventState) : (s.onEvents f).looks = s.looks := rfl
@[simp] theorem onEvents_sheaf (f : EventState → EventState) : (s.onEvents f).sheaf = s.sheaf := rfl
@[simp] theorem onEvents_decoder (f : EventState → EventState) : (s.onEvents f).decoder = s.decoder := rfl
@[simp] theorem onEvents_compress (f : EventState → EventState) : (s.onEvents f).compress = s.compress := rfl
@[simp] theorem onEvents_audio (f : EventState → EventState) : (s.onEvents f).audio = s.audio := rfl
@[simp] theorem onEvents_bus (f : EventState → EventState) : (s.onEvents f).bus = s.bus := rfl
@[simp] theorem onEvents_record (f : EventState → EventState) : (s.onEvents f).record = s.record := rfl
@[simp] theorem onEvents_net (f : EventState → EventState) : (s.onEvents f).net = s.net := rfl
@[simp] theorem onEvents_monitor (f : EventState → EventState) : (s.onEvents f).monitor = s.monitor := rfl
@[simp] theorem onEvents_sec (f : EventState → EventState) : (s.onEvents f).sec = s.sec := rfl
@[simp] theorem onEvents_tree (f : EventState → EventState) : (s.onEvents f).tree = s.tree := rfl
@[simp] theorem onEvents_outbox (f : EventState → EventState) : (s.onEvents f).outbox = s.outbox := rfl
@[simp] theorem onEvents_fresh (f : EventState → EventState) : (s.onEvents f).fresh = s.fresh := rfl

@[simp] theorem onGranary_pending (f : GranaryState → GranaryState) : (s.onGranary f).pending = s.pending := rfl
@[simp] theorem onGranary_control (f : GranaryState → GranaryState) : (s.onGranary f).control = s.control := rfl
@[simp] theorem onGranary_raster (f : GranaryState → GranaryState) : (s.onGranary f).raster = s.raster := rfl
@[simp] theorem onGranary_events (f : GranaryState → GranaryState) : (s.onGranary f).events = s.events := rfl
@[simp] theorem onGranary_granary (f : GranaryState → GranaryState) : (s.onGranary f).granary = f s.granary := rfl
@[simp] theorem onGranary_power (f : GranaryState → GranaryState) : (s.onGranary f).power = s.power := rfl
@[simp] theorem onGranary_lanes (f : GranaryState → GranaryState) : (s.onGranary f).lanes = s.lanes := rfl
@[simp] theorem onGranary_intake (f : GranaryState → GranaryState) : (s.onGranary f).intake = s.intake := rfl
@[simp] theorem onGranary_mill (f : GranaryState → GranaryState) : (s.onGranary f).mill = s.mill := rfl
@[simp] theorem onGranary_looks (f : GranaryState → GranaryState) : (s.onGranary f).looks = s.looks := rfl
@[simp] theorem onGranary_sheaf (f : GranaryState → GranaryState) : (s.onGranary f).sheaf = s.sheaf := rfl
@[simp] theorem onGranary_decoder (f : GranaryState → GranaryState) : (s.onGranary f).decoder = s.decoder := rfl
@[simp] theorem onGranary_compress (f : GranaryState → GranaryState) : (s.onGranary f).compress = s.compress := rfl
@[simp] theorem onGranary_audio (f : GranaryState → GranaryState) : (s.onGranary f).audio = s.audio := rfl
@[simp] theorem onGranary_bus (f : GranaryState → GranaryState) : (s.onGranary f).bus = s.bus := rfl
@[simp] theorem onGranary_record (f : GranaryState → GranaryState) : (s.onGranary f).record = s.record := rfl
@[simp] theorem onGranary_net (f : GranaryState → GranaryState) : (s.onGranary f).net = s.net := rfl
@[simp] theorem onGranary_monitor (f : GranaryState → GranaryState) : (s.onGranary f).monitor = s.monitor := rfl
@[simp] theorem onGranary_sec (f : GranaryState → GranaryState) : (s.onGranary f).sec = s.sec := rfl
@[simp] theorem onGranary_tree (f : GranaryState → GranaryState) : (s.onGranary f).tree = s.tree := rfl
@[simp] theorem onGranary_outbox (f : GranaryState → GranaryState) : (s.onGranary f).outbox = s.outbox := rfl
@[simp] theorem onGranary_fresh (f : GranaryState → GranaryState) : (s.onGranary f).fresh = s.fresh := rfl

@[simp] theorem onPower_pending (f : PowerState → PowerState) : (s.onPower f).pending = s.pending := rfl
@[simp] theorem onPower_control (f : PowerState → PowerState) : (s.onPower f).control = s.control := rfl
@[simp] theorem onPower_raster (f : PowerState → PowerState) : (s.onPower f).raster = s.raster := rfl
@[simp] theorem onPower_events (f : PowerState → PowerState) : (s.onPower f).events = s.events := rfl
@[simp] theorem onPower_granary (f : PowerState → PowerState) : (s.onPower f).granary = s.granary := rfl
@[simp] theorem onPower_power (f : PowerState → PowerState) : (s.onPower f).power = f s.power := rfl
@[simp] theorem onPower_lanes (f : PowerState → PowerState) : (s.onPower f).lanes = s.lanes := rfl
@[simp] theorem onPower_intake (f : PowerState → PowerState) : (s.onPower f).intake = s.intake := rfl
@[simp] theorem onPower_mill (f : PowerState → PowerState) : (s.onPower f).mill = s.mill := rfl
@[simp] theorem onPower_looks (f : PowerState → PowerState) : (s.onPower f).looks = s.looks := rfl
@[simp] theorem onPower_sheaf (f : PowerState → PowerState) : (s.onPower f).sheaf = s.sheaf := rfl
@[simp] theorem onPower_decoder (f : PowerState → PowerState) : (s.onPower f).decoder = s.decoder := rfl
@[simp] theorem onPower_compress (f : PowerState → PowerState) : (s.onPower f).compress = s.compress := rfl
@[simp] theorem onPower_audio (f : PowerState → PowerState) : (s.onPower f).audio = s.audio := rfl
@[simp] theorem onPower_bus (f : PowerState → PowerState) : (s.onPower f).bus = s.bus := rfl
@[simp] theorem onPower_record (f : PowerState → PowerState) : (s.onPower f).record = s.record := rfl
@[simp] theorem onPower_net (f : PowerState → PowerState) : (s.onPower f).net = s.net := rfl
@[simp] theorem onPower_monitor (f : PowerState → PowerState) : (s.onPower f).monitor = s.monitor := rfl
@[simp] theorem onPower_sec (f : PowerState → PowerState) : (s.onPower f).sec = s.sec := rfl
@[simp] theorem onPower_tree (f : PowerState → PowerState) : (s.onPower f).tree = s.tree := rfl
@[simp] theorem onPower_outbox (f : PowerState → PowerState) : (s.onPower f).outbox = s.outbox := rfl
@[simp] theorem onPower_fresh (f : PowerState → PowerState) : (s.onPower f).fresh = s.fresh := rfl

@[simp] theorem onLanes_pending (f : LaneState → LaneState) : (s.onLanes f).pending = s.pending := rfl
@[simp] theorem onLanes_control (f : LaneState → LaneState) : (s.onLanes f).control = s.control := rfl
@[simp] theorem onLanes_raster (f : LaneState → LaneState) : (s.onLanes f).raster = s.raster := rfl
@[simp] theorem onLanes_events (f : LaneState → LaneState) : (s.onLanes f).events = s.events := rfl
@[simp] theorem onLanes_granary (f : LaneState → LaneState) : (s.onLanes f).granary = s.granary := rfl
@[simp] theorem onLanes_power (f : LaneState → LaneState) : (s.onLanes f).power = s.power := rfl
@[simp] theorem onLanes_lanes (f : LaneState → LaneState) : (s.onLanes f).lanes = f s.lanes := rfl
@[simp] theorem onLanes_intake (f : LaneState → LaneState) : (s.onLanes f).intake = s.intake := rfl
@[simp] theorem onLanes_mill (f : LaneState → LaneState) : (s.onLanes f).mill = s.mill := rfl
@[simp] theorem onLanes_looks (f : LaneState → LaneState) : (s.onLanes f).looks = s.looks := rfl
@[simp] theorem onLanes_sheaf (f : LaneState → LaneState) : (s.onLanes f).sheaf = s.sheaf := rfl
@[simp] theorem onLanes_decoder (f : LaneState → LaneState) : (s.onLanes f).decoder = s.decoder := rfl
@[simp] theorem onLanes_compress (f : LaneState → LaneState) : (s.onLanes f).compress = s.compress := rfl
@[simp] theorem onLanes_audio (f : LaneState → LaneState) : (s.onLanes f).audio = s.audio := rfl
@[simp] theorem onLanes_bus (f : LaneState → LaneState) : (s.onLanes f).bus = s.bus := rfl
@[simp] theorem onLanes_record (f : LaneState → LaneState) : (s.onLanes f).record = s.record := rfl
@[simp] theorem onLanes_net (f : LaneState → LaneState) : (s.onLanes f).net = s.net := rfl
@[simp] theorem onLanes_monitor (f : LaneState → LaneState) : (s.onLanes f).monitor = s.monitor := rfl
@[simp] theorem onLanes_sec (f : LaneState → LaneState) : (s.onLanes f).sec = s.sec := rfl
@[simp] theorem onLanes_tree (f : LaneState → LaneState) : (s.onLanes f).tree = s.tree := rfl
@[simp] theorem onLanes_outbox (f : LaneState → LaneState) : (s.onLanes f).outbox = s.outbox := rfl
@[simp] theorem onLanes_fresh (f : LaneState → LaneState) : (s.onLanes f).fresh = s.fresh := rfl

@[simp] theorem onIntake_pending (f : IntakeState → IntakeState) : (s.onIntake f).pending = s.pending := rfl
@[simp] theorem onIntake_control (f : IntakeState → IntakeState) : (s.onIntake f).control = s.control := rfl
@[simp] theorem onIntake_raster (f : IntakeState → IntakeState) : (s.onIntake f).raster = s.raster := rfl
@[simp] theorem onIntake_events (f : IntakeState → IntakeState) : (s.onIntake f).events = s.events := rfl
@[simp] theorem onIntake_granary (f : IntakeState → IntakeState) : (s.onIntake f).granary = s.granary := rfl
@[simp] theorem onIntake_power (f : IntakeState → IntakeState) : (s.onIntake f).power = s.power := rfl
@[simp] theorem onIntake_lanes (f : IntakeState → IntakeState) : (s.onIntake f).lanes = s.lanes := rfl
@[simp] theorem onIntake_intake (f : IntakeState → IntakeState) : (s.onIntake f).intake = f s.intake := rfl
@[simp] theorem onIntake_mill (f : IntakeState → IntakeState) : (s.onIntake f).mill = s.mill := rfl
@[simp] theorem onIntake_looks (f : IntakeState → IntakeState) : (s.onIntake f).looks = s.looks := rfl
@[simp] theorem onIntake_sheaf (f : IntakeState → IntakeState) : (s.onIntake f).sheaf = s.sheaf := rfl
@[simp] theorem onIntake_decoder (f : IntakeState → IntakeState) : (s.onIntake f).decoder = s.decoder := rfl
@[simp] theorem onIntake_compress (f : IntakeState → IntakeState) : (s.onIntake f).compress = s.compress := rfl
@[simp] theorem onIntake_audio (f : IntakeState → IntakeState) : (s.onIntake f).audio = s.audio := rfl
@[simp] theorem onIntake_bus (f : IntakeState → IntakeState) : (s.onIntake f).bus = s.bus := rfl
@[simp] theorem onIntake_record (f : IntakeState → IntakeState) : (s.onIntake f).record = s.record := rfl
@[simp] theorem onIntake_net (f : IntakeState → IntakeState) : (s.onIntake f).net = s.net := rfl
@[simp] theorem onIntake_monitor (f : IntakeState → IntakeState) : (s.onIntake f).monitor = s.monitor := rfl
@[simp] theorem onIntake_sec (f : IntakeState → IntakeState) : (s.onIntake f).sec = s.sec := rfl
@[simp] theorem onIntake_tree (f : IntakeState → IntakeState) : (s.onIntake f).tree = s.tree := rfl
@[simp] theorem onIntake_outbox (f : IntakeState → IntakeState) : (s.onIntake f).outbox = s.outbox := rfl
@[simp] theorem onIntake_fresh (f : IntakeState → IntakeState) : (s.onIntake f).fresh = s.fresh := rfl

@[simp] theorem onMill_pending (f : MillState → MillState) : (s.onMill f).pending = s.pending := rfl
@[simp] theorem onMill_control (f : MillState → MillState) : (s.onMill f).control = s.control := rfl
@[simp] theorem onMill_raster (f : MillState → MillState) : (s.onMill f).raster = s.raster := rfl
@[simp] theorem onMill_events (f : MillState → MillState) : (s.onMill f).events = s.events := rfl
@[simp] theorem onMill_granary (f : MillState → MillState) : (s.onMill f).granary = s.granary := rfl
@[simp] theorem onMill_power (f : MillState → MillState) : (s.onMill f).power = s.power := rfl
@[simp] theorem onMill_lanes (f : MillState → MillState) : (s.onMill f).lanes = s.lanes := rfl
@[simp] theorem onMill_intake (f : MillState → MillState) : (s.onMill f).intake = s.intake := rfl
@[simp] theorem onMill_mill (f : MillState → MillState) : (s.onMill f).mill = f s.mill := rfl
@[simp] theorem onMill_looks (f : MillState → MillState) : (s.onMill f).looks = s.looks := rfl
@[simp] theorem onMill_sheaf (f : MillState → MillState) : (s.onMill f).sheaf = s.sheaf := rfl
@[simp] theorem onMill_decoder (f : MillState → MillState) : (s.onMill f).decoder = s.decoder := rfl
@[simp] theorem onMill_compress (f : MillState → MillState) : (s.onMill f).compress = s.compress := rfl
@[simp] theorem onMill_audio (f : MillState → MillState) : (s.onMill f).audio = s.audio := rfl
@[simp] theorem onMill_bus (f : MillState → MillState) : (s.onMill f).bus = s.bus := rfl
@[simp] theorem onMill_record (f : MillState → MillState) : (s.onMill f).record = s.record := rfl
@[simp] theorem onMill_net (f : MillState → MillState) : (s.onMill f).net = s.net := rfl
@[simp] theorem onMill_monitor (f : MillState → MillState) : (s.onMill f).monitor = s.monitor := rfl
@[simp] theorem onMill_sec (f : MillState → MillState) : (s.onMill f).sec = s.sec := rfl
@[simp] theorem onMill_tree (f : MillState → MillState) : (s.onMill f).tree = s.tree := rfl
@[simp] theorem onMill_outbox (f : MillState → MillState) : (s.onMill f).outbox = s.outbox := rfl
@[simp] theorem onMill_fresh (f : MillState → MillState) : (s.onMill f).fresh = s.fresh := rfl

@[simp] theorem onLooks_pending (f : LooksState → LooksState) : (s.onLooks f).pending = s.pending := rfl
@[simp] theorem onLooks_control (f : LooksState → LooksState) : (s.onLooks f).control = s.control := rfl
@[simp] theorem onLooks_raster (f : LooksState → LooksState) : (s.onLooks f).raster = s.raster := rfl
@[simp] theorem onLooks_events (f : LooksState → LooksState) : (s.onLooks f).events = s.events := rfl
@[simp] theorem onLooks_granary (f : LooksState → LooksState) : (s.onLooks f).granary = s.granary := rfl
@[simp] theorem onLooks_power (f : LooksState → LooksState) : (s.onLooks f).power = s.power := rfl
@[simp] theorem onLooks_lanes (f : LooksState → LooksState) : (s.onLooks f).lanes = s.lanes := rfl
@[simp] theorem onLooks_intake (f : LooksState → LooksState) : (s.onLooks f).intake = s.intake := rfl
@[simp] theorem onLooks_mill (f : LooksState → LooksState) : (s.onLooks f).mill = s.mill := rfl
@[simp] theorem onLooks_looks (f : LooksState → LooksState) : (s.onLooks f).looks = f s.looks := rfl
@[simp] theorem onLooks_sheaf (f : LooksState → LooksState) : (s.onLooks f).sheaf = s.sheaf := rfl
@[simp] theorem onLooks_decoder (f : LooksState → LooksState) : (s.onLooks f).decoder = s.decoder := rfl
@[simp] theorem onLooks_compress (f : LooksState → LooksState) : (s.onLooks f).compress = s.compress := rfl
@[simp] theorem onLooks_audio (f : LooksState → LooksState) : (s.onLooks f).audio = s.audio := rfl
@[simp] theorem onLooks_bus (f : LooksState → LooksState) : (s.onLooks f).bus = s.bus := rfl
@[simp] theorem onLooks_record (f : LooksState → LooksState) : (s.onLooks f).record = s.record := rfl
@[simp] theorem onLooks_net (f : LooksState → LooksState) : (s.onLooks f).net = s.net := rfl
@[simp] theorem onLooks_monitor (f : LooksState → LooksState) : (s.onLooks f).monitor = s.monitor := rfl
@[simp] theorem onLooks_sec (f : LooksState → LooksState) : (s.onLooks f).sec = s.sec := rfl
@[simp] theorem onLooks_tree (f : LooksState → LooksState) : (s.onLooks f).tree = s.tree := rfl
@[simp] theorem onLooks_outbox (f : LooksState → LooksState) : (s.onLooks f).outbox = s.outbox := rfl
@[simp] theorem onLooks_fresh (f : LooksState → LooksState) : (s.onLooks f).fresh = s.fresh := rfl

@[simp] theorem onSheaf_pending (f : SheafState → SheafState) : (s.onSheaf f).pending = s.pending := rfl
@[simp] theorem onSheaf_control (f : SheafState → SheafState) : (s.onSheaf f).control = s.control := rfl
@[simp] theorem onSheaf_raster (f : SheafState → SheafState) : (s.onSheaf f).raster = s.raster := rfl
@[simp] theorem onSheaf_events (f : SheafState → SheafState) : (s.onSheaf f).events = s.events := rfl
@[simp] theorem onSheaf_granary (f : SheafState → SheafState) : (s.onSheaf f).granary = s.granary := rfl
@[simp] theorem onSheaf_power (f : SheafState → SheafState) : (s.onSheaf f).power = s.power := rfl
@[simp] theorem onSheaf_lanes (f : SheafState → SheafState) : (s.onSheaf f).lanes = s.lanes := rfl
@[simp] theorem onSheaf_intake (f : SheafState → SheafState) : (s.onSheaf f).intake = s.intake := rfl
@[simp] theorem onSheaf_mill (f : SheafState → SheafState) : (s.onSheaf f).mill = s.mill := rfl
@[simp] theorem onSheaf_looks (f : SheafState → SheafState) : (s.onSheaf f).looks = s.looks := rfl
@[simp] theorem onSheaf_sheaf (f : SheafState → SheafState) : (s.onSheaf f).sheaf = f s.sheaf := rfl
@[simp] theorem onSheaf_decoder (f : SheafState → SheafState) : (s.onSheaf f).decoder = s.decoder := rfl
@[simp] theorem onSheaf_compress (f : SheafState → SheafState) : (s.onSheaf f).compress = s.compress := rfl
@[simp] theorem onSheaf_audio (f : SheafState → SheafState) : (s.onSheaf f).audio = s.audio := rfl
@[simp] theorem onSheaf_bus (f : SheafState → SheafState) : (s.onSheaf f).bus = s.bus := rfl
@[simp] theorem onSheaf_record (f : SheafState → SheafState) : (s.onSheaf f).record = s.record := rfl
@[simp] theorem onSheaf_net (f : SheafState → SheafState) : (s.onSheaf f).net = s.net := rfl
@[simp] theorem onSheaf_monitor (f : SheafState → SheafState) : (s.onSheaf f).monitor = s.monitor := rfl
@[simp] theorem onSheaf_sec (f : SheafState → SheafState) : (s.onSheaf f).sec = s.sec := rfl
@[simp] theorem onSheaf_tree (f : SheafState → SheafState) : (s.onSheaf f).tree = s.tree := rfl
@[simp] theorem onSheaf_outbox (f : SheafState → SheafState) : (s.onSheaf f).outbox = s.outbox := rfl
@[simp] theorem onSheaf_fresh (f : SheafState → SheafState) : (s.onSheaf f).fresh = s.fresh := rfl

@[simp] theorem onDecoder_pending (f : DecoderState → DecoderState) : (s.onDecoder f).pending = s.pending := rfl
@[simp] theorem onDecoder_control (f : DecoderState → DecoderState) : (s.onDecoder f).control = s.control := rfl
@[simp] theorem onDecoder_raster (f : DecoderState → DecoderState) : (s.onDecoder f).raster = s.raster := rfl
@[simp] theorem onDecoder_events (f : DecoderState → DecoderState) : (s.onDecoder f).events = s.events := rfl
@[simp] theorem onDecoder_granary (f : DecoderState → DecoderState) : (s.onDecoder f).granary = s.granary := rfl
@[simp] theorem onDecoder_power (f : DecoderState → DecoderState) : (s.onDecoder f).power = s.power := rfl
@[simp] theorem onDecoder_lanes (f : DecoderState → DecoderState) : (s.onDecoder f).lanes = s.lanes := rfl
@[simp] theorem onDecoder_intake (f : DecoderState → DecoderState) : (s.onDecoder f).intake = s.intake := rfl
@[simp] theorem onDecoder_mill (f : DecoderState → DecoderState) : (s.onDecoder f).mill = s.mill := rfl
@[simp] theorem onDecoder_looks (f : DecoderState → DecoderState) : (s.onDecoder f).looks = s.looks := rfl
@[simp] theorem onDecoder_sheaf (f : DecoderState → DecoderState) : (s.onDecoder f).sheaf = s.sheaf := rfl
@[simp] theorem onDecoder_decoder (f : DecoderState → DecoderState) : (s.onDecoder f).decoder = f s.decoder := rfl
@[simp] theorem onDecoder_compress (f : DecoderState → DecoderState) : (s.onDecoder f).compress = s.compress := rfl
@[simp] theorem onDecoder_audio (f : DecoderState → DecoderState) : (s.onDecoder f).audio = s.audio := rfl
@[simp] theorem onDecoder_bus (f : DecoderState → DecoderState) : (s.onDecoder f).bus = s.bus := rfl
@[simp] theorem onDecoder_record (f : DecoderState → DecoderState) : (s.onDecoder f).record = s.record := rfl
@[simp] theorem onDecoder_net (f : DecoderState → DecoderState) : (s.onDecoder f).net = s.net := rfl
@[simp] theorem onDecoder_monitor (f : DecoderState → DecoderState) : (s.onDecoder f).monitor = s.monitor := rfl
@[simp] theorem onDecoder_sec (f : DecoderState → DecoderState) : (s.onDecoder f).sec = s.sec := rfl
@[simp] theorem onDecoder_tree (f : DecoderState → DecoderState) : (s.onDecoder f).tree = s.tree := rfl
@[simp] theorem onDecoder_outbox (f : DecoderState → DecoderState) : (s.onDecoder f).outbox = s.outbox := rfl
@[simp] theorem onDecoder_fresh (f : DecoderState → DecoderState) : (s.onDecoder f).fresh = s.fresh := rfl

@[simp] theorem onCompress_pending (f : CompressState → CompressState) : (s.onCompress f).pending = s.pending := rfl
@[simp] theorem onCompress_control (f : CompressState → CompressState) : (s.onCompress f).control = s.control := rfl
@[simp] theorem onCompress_raster (f : CompressState → CompressState) : (s.onCompress f).raster = s.raster := rfl
@[simp] theorem onCompress_events (f : CompressState → CompressState) : (s.onCompress f).events = s.events := rfl
@[simp] theorem onCompress_granary (f : CompressState → CompressState) : (s.onCompress f).granary = s.granary := rfl
@[simp] theorem onCompress_power (f : CompressState → CompressState) : (s.onCompress f).power = s.power := rfl
@[simp] theorem onCompress_lanes (f : CompressState → CompressState) : (s.onCompress f).lanes = s.lanes := rfl
@[simp] theorem onCompress_intake (f : CompressState → CompressState) : (s.onCompress f).intake = s.intake := rfl
@[simp] theorem onCompress_mill (f : CompressState → CompressState) : (s.onCompress f).mill = s.mill := rfl
@[simp] theorem onCompress_looks (f : CompressState → CompressState) : (s.onCompress f).looks = s.looks := rfl
@[simp] theorem onCompress_sheaf (f : CompressState → CompressState) : (s.onCompress f).sheaf = s.sheaf := rfl
@[simp] theorem onCompress_decoder (f : CompressState → CompressState) : (s.onCompress f).decoder = s.decoder := rfl
@[simp] theorem onCompress_compress (f : CompressState → CompressState) : (s.onCompress f).compress = f s.compress := rfl
@[simp] theorem onCompress_audio (f : CompressState → CompressState) : (s.onCompress f).audio = s.audio := rfl
@[simp] theorem onCompress_bus (f : CompressState → CompressState) : (s.onCompress f).bus = s.bus := rfl
@[simp] theorem onCompress_record (f : CompressState → CompressState) : (s.onCompress f).record = s.record := rfl
@[simp] theorem onCompress_net (f : CompressState → CompressState) : (s.onCompress f).net = s.net := rfl
@[simp] theorem onCompress_monitor (f : CompressState → CompressState) : (s.onCompress f).monitor = s.monitor := rfl
@[simp] theorem onCompress_sec (f : CompressState → CompressState) : (s.onCompress f).sec = s.sec := rfl
@[simp] theorem onCompress_tree (f : CompressState → CompressState) : (s.onCompress f).tree = s.tree := rfl
@[simp] theorem onCompress_outbox (f : CompressState → CompressState) : (s.onCompress f).outbox = s.outbox := rfl
@[simp] theorem onCompress_fresh (f : CompressState → CompressState) : (s.onCompress f).fresh = s.fresh := rfl

@[simp] theorem onAudio_pending (f : AudioState → AudioState) : (s.onAudio f).pending = s.pending := rfl
@[simp] theorem onAudio_control (f : AudioState → AudioState) : (s.onAudio f).control = s.control := rfl
@[simp] theorem onAudio_raster (f : AudioState → AudioState) : (s.onAudio f).raster = s.raster := rfl
@[simp] theorem onAudio_events (f : AudioState → AudioState) : (s.onAudio f).events = s.events := rfl
@[simp] theorem onAudio_granary (f : AudioState → AudioState) : (s.onAudio f).granary = s.granary := rfl
@[simp] theorem onAudio_power (f : AudioState → AudioState) : (s.onAudio f).power = s.power := rfl
@[simp] theorem onAudio_lanes (f : AudioState → AudioState) : (s.onAudio f).lanes = s.lanes := rfl
@[simp] theorem onAudio_intake (f : AudioState → AudioState) : (s.onAudio f).intake = s.intake := rfl
@[simp] theorem onAudio_mill (f : AudioState → AudioState) : (s.onAudio f).mill = s.mill := rfl
@[simp] theorem onAudio_looks (f : AudioState → AudioState) : (s.onAudio f).looks = s.looks := rfl
@[simp] theorem onAudio_sheaf (f : AudioState → AudioState) : (s.onAudio f).sheaf = s.sheaf := rfl
@[simp] theorem onAudio_decoder (f : AudioState → AudioState) : (s.onAudio f).decoder = s.decoder := rfl
@[simp] theorem onAudio_compress (f : AudioState → AudioState) : (s.onAudio f).compress = s.compress := rfl
@[simp] theorem onAudio_audio (f : AudioState → AudioState) : (s.onAudio f).audio = f s.audio := rfl
@[simp] theorem onAudio_bus (f : AudioState → AudioState) : (s.onAudio f).bus = s.bus := rfl
@[simp] theorem onAudio_record (f : AudioState → AudioState) : (s.onAudio f).record = s.record := rfl
@[simp] theorem onAudio_net (f : AudioState → AudioState) : (s.onAudio f).net = s.net := rfl
@[simp] theorem onAudio_monitor (f : AudioState → AudioState) : (s.onAudio f).monitor = s.monitor := rfl
@[simp] theorem onAudio_sec (f : AudioState → AudioState) : (s.onAudio f).sec = s.sec := rfl
@[simp] theorem onAudio_tree (f : AudioState → AudioState) : (s.onAudio f).tree = s.tree := rfl
@[simp] theorem onAudio_outbox (f : AudioState → AudioState) : (s.onAudio f).outbox = s.outbox := rfl
@[simp] theorem onAudio_fresh (f : AudioState → AudioState) : (s.onAudio f).fresh = s.fresh := rfl

@[simp] theorem onBus_pending (f : BusState → BusState) : (s.onBus f).pending = s.pending := rfl
@[simp] theorem onBus_control (f : BusState → BusState) : (s.onBus f).control = s.control := rfl
@[simp] theorem onBus_raster (f : BusState → BusState) : (s.onBus f).raster = s.raster := rfl
@[simp] theorem onBus_events (f : BusState → BusState) : (s.onBus f).events = s.events := rfl
@[simp] theorem onBus_granary (f : BusState → BusState) : (s.onBus f).granary = s.granary := rfl
@[simp] theorem onBus_power (f : BusState → BusState) : (s.onBus f).power = s.power := rfl
@[simp] theorem onBus_lanes (f : BusState → BusState) : (s.onBus f).lanes = s.lanes := rfl
@[simp] theorem onBus_intake (f : BusState → BusState) : (s.onBus f).intake = s.intake := rfl
@[simp] theorem onBus_mill (f : BusState → BusState) : (s.onBus f).mill = s.mill := rfl
@[simp] theorem onBus_looks (f : BusState → BusState) : (s.onBus f).looks = s.looks := rfl
@[simp] theorem onBus_sheaf (f : BusState → BusState) : (s.onBus f).sheaf = s.sheaf := rfl
@[simp] theorem onBus_decoder (f : BusState → BusState) : (s.onBus f).decoder = s.decoder := rfl
@[simp] theorem onBus_compress (f : BusState → BusState) : (s.onBus f).compress = s.compress := rfl
@[simp] theorem onBus_audio (f : BusState → BusState) : (s.onBus f).audio = s.audio := rfl
@[simp] theorem onBus_bus (f : BusState → BusState) : (s.onBus f).bus = f s.bus := rfl
@[simp] theorem onBus_record (f : BusState → BusState) : (s.onBus f).record = s.record := rfl
@[simp] theorem onBus_net (f : BusState → BusState) : (s.onBus f).net = s.net := rfl
@[simp] theorem onBus_monitor (f : BusState → BusState) : (s.onBus f).monitor = s.monitor := rfl
@[simp] theorem onBus_sec (f : BusState → BusState) : (s.onBus f).sec = s.sec := rfl
@[simp] theorem onBus_tree (f : BusState → BusState) : (s.onBus f).tree = s.tree := rfl
@[simp] theorem onBus_outbox (f : BusState → BusState) : (s.onBus f).outbox = s.outbox := rfl
@[simp] theorem onBus_fresh (f : BusState → BusState) : (s.onBus f).fresh = s.fresh := rfl

@[simp] theorem onRecord_pending (f : RecordState → RecordState) : (s.onRecord f).pending = s.pending := rfl
@[simp] theorem onRecord_control (f : RecordState → RecordState) : (s.onRecord f).control = s.control := rfl
@[simp] theorem onRecord_raster (f : RecordState → RecordState) : (s.onRecord f).raster = s.raster := rfl
@[simp] theorem onRecord_events (f : RecordState → RecordState) : (s.onRecord f).events = s.events := rfl
@[simp] theorem onRecord_granary (f : RecordState → RecordState) : (s.onRecord f).granary = s.granary := rfl
@[simp] theorem onRecord_power (f : RecordState → RecordState) : (s.onRecord f).power = s.power := rfl
@[simp] theorem onRecord_lanes (f : RecordState → RecordState) : (s.onRecord f).lanes = s.lanes := rfl
@[simp] theorem onRecord_intake (f : RecordState → RecordState) : (s.onRecord f).intake = s.intake := rfl
@[simp] theorem onRecord_mill (f : RecordState → RecordState) : (s.onRecord f).mill = s.mill := rfl
@[simp] theorem onRecord_looks (f : RecordState → RecordState) : (s.onRecord f).looks = s.looks := rfl
@[simp] theorem onRecord_sheaf (f : RecordState → RecordState) : (s.onRecord f).sheaf = s.sheaf := rfl
@[simp] theorem onRecord_decoder (f : RecordState → RecordState) : (s.onRecord f).decoder = s.decoder := rfl
@[simp] theorem onRecord_compress (f : RecordState → RecordState) : (s.onRecord f).compress = s.compress := rfl
@[simp] theorem onRecord_audio (f : RecordState → RecordState) : (s.onRecord f).audio = s.audio := rfl
@[simp] theorem onRecord_bus (f : RecordState → RecordState) : (s.onRecord f).bus = s.bus := rfl
@[simp] theorem onRecord_record (f : RecordState → RecordState) : (s.onRecord f).record = f s.record := rfl
@[simp] theorem onRecord_net (f : RecordState → RecordState) : (s.onRecord f).net = s.net := rfl
@[simp] theorem onRecord_monitor (f : RecordState → RecordState) : (s.onRecord f).monitor = s.monitor := rfl
@[simp] theorem onRecord_sec (f : RecordState → RecordState) : (s.onRecord f).sec = s.sec := rfl
@[simp] theorem onRecord_tree (f : RecordState → RecordState) : (s.onRecord f).tree = s.tree := rfl
@[simp] theorem onRecord_outbox (f : RecordState → RecordState) : (s.onRecord f).outbox = s.outbox := rfl
@[simp] theorem onRecord_fresh (f : RecordState → RecordState) : (s.onRecord f).fresh = s.fresh := rfl

@[simp] theorem onNet_pending (f : NetState → NetState) : (s.onNet f).pending = s.pending := rfl
@[simp] theorem onNet_control (f : NetState → NetState) : (s.onNet f).control = s.control := rfl
@[simp] theorem onNet_raster (f : NetState → NetState) : (s.onNet f).raster = s.raster := rfl
@[simp] theorem onNet_events (f : NetState → NetState) : (s.onNet f).events = s.events := rfl
@[simp] theorem onNet_granary (f : NetState → NetState) : (s.onNet f).granary = s.granary := rfl
@[simp] theorem onNet_power (f : NetState → NetState) : (s.onNet f).power = s.power := rfl
@[simp] theorem onNet_lanes (f : NetState → NetState) : (s.onNet f).lanes = s.lanes := rfl
@[simp] theorem onNet_intake (f : NetState → NetState) : (s.onNet f).intake = s.intake := rfl
@[simp] theorem onNet_mill (f : NetState → NetState) : (s.onNet f).mill = s.mill := rfl
@[simp] theorem onNet_looks (f : NetState → NetState) : (s.onNet f).looks = s.looks := rfl
@[simp] theorem onNet_sheaf (f : NetState → NetState) : (s.onNet f).sheaf = s.sheaf := rfl
@[simp] theorem onNet_decoder (f : NetState → NetState) : (s.onNet f).decoder = s.decoder := rfl
@[simp] theorem onNet_compress (f : NetState → NetState) : (s.onNet f).compress = s.compress := rfl
@[simp] theorem onNet_audio (f : NetState → NetState) : (s.onNet f).audio = s.audio := rfl
@[simp] theorem onNet_bus (f : NetState → NetState) : (s.onNet f).bus = s.bus := rfl
@[simp] theorem onNet_record (f : NetState → NetState) : (s.onNet f).record = s.record := rfl
@[simp] theorem onNet_net (f : NetState → NetState) : (s.onNet f).net = f s.net := rfl
@[simp] theorem onNet_monitor (f : NetState → NetState) : (s.onNet f).monitor = s.monitor := rfl
@[simp] theorem onNet_sec (f : NetState → NetState) : (s.onNet f).sec = s.sec := rfl
@[simp] theorem onNet_tree (f : NetState → NetState) : (s.onNet f).tree = s.tree := rfl
@[simp] theorem onNet_outbox (f : NetState → NetState) : (s.onNet f).outbox = s.outbox := rfl
@[simp] theorem onNet_fresh (f : NetState → NetState) : (s.onNet f).fresh = s.fresh := rfl

@[simp] theorem onMonitor_pending (f : MonitorState → MonitorState) : (s.onMonitor f).pending = s.pending := rfl
@[simp] theorem onMonitor_control (f : MonitorState → MonitorState) : (s.onMonitor f).control = s.control := rfl
@[simp] theorem onMonitor_raster (f : MonitorState → MonitorState) : (s.onMonitor f).raster = s.raster := rfl
@[simp] theorem onMonitor_events (f : MonitorState → MonitorState) : (s.onMonitor f).events = s.events := rfl
@[simp] theorem onMonitor_granary (f : MonitorState → MonitorState) : (s.onMonitor f).granary = s.granary := rfl
@[simp] theorem onMonitor_power (f : MonitorState → MonitorState) : (s.onMonitor f).power = s.power := rfl
@[simp] theorem onMonitor_lanes (f : MonitorState → MonitorState) : (s.onMonitor f).lanes = s.lanes := rfl
@[simp] theorem onMonitor_intake (f : MonitorState → MonitorState) : (s.onMonitor f).intake = s.intake := rfl
@[simp] theorem onMonitor_mill (f : MonitorState → MonitorState) : (s.onMonitor f).mill = s.mill := rfl
@[simp] theorem onMonitor_looks (f : MonitorState → MonitorState) : (s.onMonitor f).looks = s.looks := rfl
@[simp] theorem onMonitor_sheaf (f : MonitorState → MonitorState) : (s.onMonitor f).sheaf = s.sheaf := rfl
@[simp] theorem onMonitor_decoder (f : MonitorState → MonitorState) : (s.onMonitor f).decoder = s.decoder := rfl
@[simp] theorem onMonitor_compress (f : MonitorState → MonitorState) : (s.onMonitor f).compress = s.compress := rfl
@[simp] theorem onMonitor_audio (f : MonitorState → MonitorState) : (s.onMonitor f).audio = s.audio := rfl
@[simp] theorem onMonitor_bus (f : MonitorState → MonitorState) : (s.onMonitor f).bus = s.bus := rfl
@[simp] theorem onMonitor_record (f : MonitorState → MonitorState) : (s.onMonitor f).record = s.record := rfl
@[simp] theorem onMonitor_net (f : MonitorState → MonitorState) : (s.onMonitor f).net = s.net := rfl
@[simp] theorem onMonitor_monitor (f : MonitorState → MonitorState) : (s.onMonitor f).monitor = f s.monitor := rfl
@[simp] theorem onMonitor_sec (f : MonitorState → MonitorState) : (s.onMonitor f).sec = s.sec := rfl
@[simp] theorem onMonitor_tree (f : MonitorState → MonitorState) : (s.onMonitor f).tree = s.tree := rfl
@[simp] theorem onMonitor_outbox (f : MonitorState → MonitorState) : (s.onMonitor f).outbox = s.outbox := rfl
@[simp] theorem onMonitor_fresh (f : MonitorState → MonitorState) : (s.onMonitor f).fresh = s.fresh := rfl

@[simp] theorem onSec_pending (f : SecState → SecState) : (s.onSec f).pending = s.pending := rfl
@[simp] theorem onSec_control (f : SecState → SecState) : (s.onSec f).control = s.control := rfl
@[simp] theorem onSec_raster (f : SecState → SecState) : (s.onSec f).raster = s.raster := rfl
@[simp] theorem onSec_events (f : SecState → SecState) : (s.onSec f).events = s.events := rfl
@[simp] theorem onSec_granary (f : SecState → SecState) : (s.onSec f).granary = s.granary := rfl
@[simp] theorem onSec_power (f : SecState → SecState) : (s.onSec f).power = s.power := rfl
@[simp] theorem onSec_lanes (f : SecState → SecState) : (s.onSec f).lanes = s.lanes := rfl
@[simp] theorem onSec_intake (f : SecState → SecState) : (s.onSec f).intake = s.intake := rfl
@[simp] theorem onSec_mill (f : SecState → SecState) : (s.onSec f).mill = s.mill := rfl
@[simp] theorem onSec_looks (f : SecState → SecState) : (s.onSec f).looks = s.looks := rfl
@[simp] theorem onSec_sheaf (f : SecState → SecState) : (s.onSec f).sheaf = s.sheaf := rfl
@[simp] theorem onSec_decoder (f : SecState → SecState) : (s.onSec f).decoder = s.decoder := rfl
@[simp] theorem onSec_compress (f : SecState → SecState) : (s.onSec f).compress = s.compress := rfl
@[simp] theorem onSec_audio (f : SecState → SecState) : (s.onSec f).audio = s.audio := rfl
@[simp] theorem onSec_bus (f : SecState → SecState) : (s.onSec f).bus = s.bus := rfl
@[simp] theorem onSec_record (f : SecState → SecState) : (s.onSec f).record = s.record := rfl
@[simp] theorem onSec_net (f : SecState → SecState) : (s.onSec f).net = s.net := rfl
@[simp] theorem onSec_monitor (f : SecState → SecState) : (s.onSec f).monitor = s.monitor := rfl
@[simp] theorem onSec_sec (f : SecState → SecState) : (s.onSec f).sec = f s.sec := rfl
@[simp] theorem onSec_tree (f : SecState → SecState) : (s.onSec f).tree = s.tree := rfl
@[simp] theorem onSec_outbox (f : SecState → SecState) : (s.onSec f).outbox = s.outbox := rfl
@[simp] theorem onSec_fresh (f : SecState → SecState) : (s.onSec f).fresh = s.fresh := rfl

@[simp] theorem onTree_pending (f : TreeState → TreeState) : (s.onTree f).pending = s.pending := rfl
@[simp] theorem onTree_control (f : TreeState → TreeState) : (s.onTree f).control = s.control := rfl
@[simp] theorem onTree_raster (f : TreeState → TreeState) : (s.onTree f).raster = s.raster := rfl
@[simp] theorem onTree_events (f : TreeState → TreeState) : (s.onTree f).events = s.events := rfl
@[simp] theorem onTree_granary (f : TreeState → TreeState) : (s.onTree f).granary = s.granary := rfl
@[simp] theorem onTree_power (f : TreeState → TreeState) : (s.onTree f).power = s.power := rfl
@[simp] theorem onTree_lanes (f : TreeState → TreeState) : (s.onTree f).lanes = s.lanes := rfl
@[simp] theorem onTree_intake (f : TreeState → TreeState) : (s.onTree f).intake = s.intake := rfl
@[simp] theorem onTree_mill (f : TreeState → TreeState) : (s.onTree f).mill = s.mill := rfl
@[simp] theorem onTree_looks (f : TreeState → TreeState) : (s.onTree f).looks = s.looks := rfl
@[simp] theorem onTree_sheaf (f : TreeState → TreeState) : (s.onTree f).sheaf = s.sheaf := rfl
@[simp] theorem onTree_decoder (f : TreeState → TreeState) : (s.onTree f).decoder = s.decoder := rfl
@[simp] theorem onTree_compress (f : TreeState → TreeState) : (s.onTree f).compress = s.compress := rfl
@[simp] theorem onTree_audio (f : TreeState → TreeState) : (s.onTree f).audio = s.audio := rfl
@[simp] theorem onTree_bus (f : TreeState → TreeState) : (s.onTree f).bus = s.bus := rfl
@[simp] theorem onTree_record (f : TreeState → TreeState) : (s.onTree f).record = s.record := rfl
@[simp] theorem onTree_net (f : TreeState → TreeState) : (s.onTree f).net = s.net := rfl
@[simp] theorem onTree_monitor (f : TreeState → TreeState) : (s.onTree f).monitor = s.monitor := rfl
@[simp] theorem onTree_sec (f : TreeState → TreeState) : (s.onTree f).sec = s.sec := rfl
@[simp] theorem onTree_tree (f : TreeState → TreeState) : (s.onTree f).tree = f s.tree := rfl
@[simp] theorem onTree_outbox (f : TreeState → TreeState) : (s.onTree f).outbox = s.outbox := rfl
@[simp] theorem onTree_fresh (f : TreeState → TreeState) : (s.onTree f).fresh = s.fresh := rfl

@[simp] theorem send_pending (o : Output) : (s.send o).pending = s.pending := rfl
@[simp] theorem send_control (o : Output) : (s.send o).control = s.control := rfl
@[simp] theorem send_raster (o : Output) : (s.send o).raster = s.raster := rfl
@[simp] theorem send_events (o : Output) : (s.send o).events = s.events := rfl
@[simp] theorem send_granary (o : Output) : (s.send o).granary = s.granary := rfl
@[simp] theorem send_power (o : Output) : (s.send o).power = s.power := rfl
@[simp] theorem send_lanes (o : Output) : (s.send o).lanes = s.lanes := rfl
@[simp] theorem send_intake (o : Output) : (s.send o).intake = s.intake := rfl
@[simp] theorem send_mill (o : Output) : (s.send o).mill = s.mill := rfl
@[simp] theorem send_looks (o : Output) : (s.send o).looks = s.looks := rfl
@[simp] theorem send_sheaf (o : Output) : (s.send o).sheaf = s.sheaf := rfl
@[simp] theorem send_decoder (o : Output) : (s.send o).decoder = s.decoder := rfl
@[simp] theorem send_compress (o : Output) : (s.send o).compress = s.compress := rfl
@[simp] theorem send_audio (o : Output) : (s.send o).audio = s.audio := rfl
@[simp] theorem send_bus (o : Output) : (s.send o).bus = s.bus := rfl
@[simp] theorem send_record (o : Output) : (s.send o).record = s.record := rfl
@[simp] theorem send_net (o : Output) : (s.send o).net = s.net := rfl
@[simp] theorem send_monitor (o : Output) : (s.send o).monitor = s.monitor := rfl
@[simp] theorem send_sec (o : Output) : (s.send o).sec = s.sec := rfl
@[simp] theorem send_tree (o : Output) : (s.send o).tree = s.tree := rfl
@[simp] theorem send_outbox (o : Output) : (s.send o).outbox = s.outbox ++ [o] := rfl
@[simp] theorem send_fresh (o : Output) : (s.send o).fresh = s.fresh := rfl

@[simp] theorem draw_snd_pending : (s.draw.2).pending = s.pending := rfl
@[simp] theorem draw_snd_control : (s.draw.2).control = s.control := rfl
@[simp] theorem draw_snd_raster : (s.draw.2).raster = s.raster := rfl
@[simp] theorem draw_snd_events : (s.draw.2).events = s.events := rfl
@[simp] theorem draw_snd_granary : (s.draw.2).granary = s.granary := rfl
@[simp] theorem draw_snd_power : (s.draw.2).power = s.power := rfl
@[simp] theorem draw_snd_lanes : (s.draw.2).lanes = s.lanes := rfl
@[simp] theorem draw_snd_intake : (s.draw.2).intake = s.intake := rfl
@[simp] theorem draw_snd_mill : (s.draw.2).mill = s.mill := rfl
@[simp] theorem draw_snd_looks : (s.draw.2).looks = s.looks := rfl
@[simp] theorem draw_snd_sheaf : (s.draw.2).sheaf = s.sheaf := rfl
@[simp] theorem draw_snd_decoder : (s.draw.2).decoder = s.decoder := rfl
@[simp] theorem draw_snd_compress : (s.draw.2).compress = s.compress := rfl
@[simp] theorem draw_snd_audio : (s.draw.2).audio = s.audio := rfl
@[simp] theorem draw_snd_bus : (s.draw.2).bus = s.bus := rfl
@[simp] theorem draw_snd_record : (s.draw.2).record = s.record := rfl
@[simp] theorem draw_snd_net : (s.draw.2).net = s.net := rfl
@[simp] theorem draw_snd_monitor : (s.draw.2).monitor = s.monitor := rfl
@[simp] theorem draw_snd_sec : (s.draw.2).sec = s.sec := rfl
@[simp] theorem draw_snd_tree : (s.draw.2).tree = s.tree := rfl
@[simp] theorem draw_snd_outbox : (s.draw.2).outbox = s.outbox := rfl
@[simp] theorem draw_snd_fresh : (s.draw.2).fresh = s.fresh + 1 := rfl

@[simp] theorem draw_fst : s.draw.1 = s.fresh := rfl

@[simp] theorem onControl_id : s.onControl (fun x => x) = s := rfl
@[simp] theorem onRaster_id : s.onRaster (fun x => x) = s := rfl
@[simp] theorem onEvents_id : s.onEvents (fun x => x) = s := rfl
@[simp] theorem onGranary_id : s.onGranary (fun x => x) = s := rfl
@[simp] theorem onPower_id : s.onPower (fun x => x) = s := rfl
@[simp] theorem onLanes_id : s.onLanes (fun x => x) = s := rfl
@[simp] theorem onIntake_id : s.onIntake (fun x => x) = s := rfl
@[simp] theorem onMill_id : s.onMill (fun x => x) = s := rfl
@[simp] theorem onLooks_id : s.onLooks (fun x => x) = s := rfl
@[simp] theorem onSheaf_id : s.onSheaf (fun x => x) = s := rfl
@[simp] theorem onDecoder_id : s.onDecoder (fun x => x) = s := rfl
@[simp] theorem onCompress_id : s.onCompress (fun x => x) = s := rfl
@[simp] theorem onAudio_id : s.onAudio (fun x => x) = s := rfl
@[simp] theorem onBus_id : s.onBus (fun x => x) = s := rfl
@[simp] theorem onRecord_id : s.onRecord (fun x => x) = s := rfl
@[simp] theorem onNet_id : s.onNet (fun x => x) = s := rfl
@[simp] theorem onMonitor_id : s.onMonitor (fun x => x) = s := rfl
@[simp] theorem onSec_id : s.onSec (fun x => x) = s := rfl
@[simp] theorem onTree_id : s.onTree (fun x => x) = s := rfl

end Sys2Proof.Machine
end

