-- ==== Sys2Proof/Laws/Commands.lean ====
section
/-!
SUPPORT. What a mailbox command can do, said once: refused it replies and nothing else moves, accepted it does its own part and
replies, or waits.
-/

namespace Sys2Proof.Machine

theorem takesCall_mailbox {op : Nat} {c : Call} {s : State} (h : s.takesCall op c = true) :
    s.ready = true ∧ ∃ m, s.control.mailboxes[c.mb]? = some m ∧ m.waiting = none ∧ m.queue = [] ∧ sessionRefusal op c m = none := by
  unfold State.takesCall at h
  cases hm : s.control.mailboxes[c.mb]? with
  | none => simp [hm] at h
  | some m =>
    simp only [hm, Bool.and_eq_true] at h
    refine ⟨h.1, m, rfl, ?_, ?_, ?_⟩
    · simpa using h.2.1.1
    · simpa using h.2.1.2
    · simpa using h.2.2

/-- A call that its mailbox takes is executed at once, past the judgement of its session. -/
theorem runCommand_takes {k : Cmd} {c : Call} {s : State} (h : s.takesCall k.op c = true) :
    runCommand k c s = match judgeCall k c s with
      | .error (st, p, ty) => s.refuse k.op c st p ty
      | .ok gs => match k.run c gs s with
        | .err st p ty => s.refuse k.op c st p ty
        | .kept st p ty s' => s'.refuse k.op c st p ty
        | .ok items commits s' => s'.accepted k c gs (items ++ commitItems commits)
        | .wait why s' => s'.awaits k c gs why := by
  obtain ⟨hr, m, hm, hw, hq, hs⟩ := takesCall_mailbox h
  have e : runCommand k c s = execute k c s := by
    unfold runCommand
    simp [hr, hm, hw, hq]
  rw [e]
  unfold execute
  simp only [hm, hs]
  rfl

theorem runCommand_refuses {k : Cmd} {c : Call} {st p ty : Nat} {s : State} (h : Refuses k c st p ty s) :
    runCommand k c s = s.refuse k.op c st p ty := by
  rw [runCommand_takes h.1, h.2]

theorem runCommand_ok {k : Cmd} {c : Call} {gs : List Got} {s s' : State} {items : List Item} {commits : List (Nat × Word)}
    (h : Accepts k c gs s) (hr : k.run c gs s = .ok items commits s') :
    runCommand k c s = s'.accepted k c gs (items ++ commitItems commits) := by
  rw [runCommand_takes h.1, h.2]
  simp only [hr]

theorem runCommand_err {k : Cmd} {c : Call} {gs : List Got} {s : State} {st p ty : Nat}
    (h : Accepts k c gs s) (hr : k.run c gs s = .err st p ty) : runCommand k c s = s.refuse k.op c st p ty := by
  rw [runCommand_takes h.1, h.2]
  simp only [hr]

theorem runCommand_kept {k : Cmd} {c : Call} {gs : List Got} {s s' : State} {st p ty : Nat}
    (h : Accepts k c gs s) (hr : k.run c gs s = .kept st p ty s') : runCommand k c s = s'.refuse k.op c st p ty := by
  rw [runCommand_takes h.1, h.2]
  simp only [hr]

theorem runCommand_wait {k : Cmd} {c : Call} {gs : List Got} {s s' : State} {why : Await}
    (h : Accepts k c gs s) (hr : k.run c gs s = .wait why s') : runCommand k c s = s'.awaits k c gs why := by
  rw [runCommand_takes h.1, h.2]
  simp only [hr]

/-- A row that names a mailbox command runs that command. -/
theorem runs_command {i : Instr} {k : Cmd} {c : Call} {s : State} {P : State → Prop} (hi : exec i s = command k c s)
    (hP : P (runCommand k c s)) : Runs i s P := ⟨_, hi, hP⟩

/-- A row that names an event does its effect. -/
theorem runs_event {i : Instr} {f : State → State} {s : State} {P : State → Prop} (hi : exec i s = .next (after f s))
    (hP : P (f s)) : Runs i s P := ⟨_, hi, hP⟩

/-- A command that only has an accepted part does that part. -/
theorem does_of_run {i : Call → Instr} {k : Cmd} {items : List Got → State → List Item} {effect : List Got → State → State}
    (hi : ∀ c s, exec (i c) s = command k c s)
    (hr : ∀ c gs s, ∃ its cs, k.run c gs s = .ok its cs (effect gs s) ∧ its ++ commitItems cs = items gs s) : Does i k items effect := by
  intro c gs s h
  obtain ⟨its, cs, hk, he⟩ := hr c gs s
  refine runs_command (hi c s) ?_
  rw [runCommand_ok h hk, he]

@[simp] theorem commitItems_nil : commitItems [] = [] := rfl

end Sys2Proof.Machine
end

