-- ==== Sys2Proof/Laws/Memory.lean ====
section
/-!
SUPPORT. The sparse memories keep their canonical form: addresses strictly rising, no byte 0 listed.
-/

namespace Sys2Proof.Machine

/-- The canonical form as a property of the list. -/
theorem mem_wf_iff (m : Mem) : Mem.wf m = true ↔ m.Pairwise (fun x y => x.1 < y.1) ∧ ∀ x ∈ m, x.2 ≠ 0 := by
  induction m with
  | nil => simp [Mem.wf]
  | cons x t ih =>
    obtain ⟨k, b⟩ := x
    unfold Mem.wf
    rw [Bool.and_eq_true, Bool.and_eq_true, ih]
    cases t with
    | nil => simp
    | cons y u =>
      obtain ⟨j, c⟩ := y
      simp only [List.pairwise_cons, List.mem_cons, bne_iff_ne, decide_eq_true_eq]
      constructor
      · rintro ⟨⟨hb, hk⟩, ⟨hj, hu⟩, hz⟩
        refine ⟨⟨?_, hj, hu⟩, ?_⟩
        · rintro z (rfl | hm)
          · exact hk
          · exact Nat.lt_trans hk (hj z hm)
        · rintro z (rfl | hm)
          · exact hb
          · exact hz z hm
      · rintro ⟨⟨hk, hj, hu⟩, hz⟩
        exact ⟨⟨hz _ (.inl rfl), hk _ (.inl rfl)⟩, ⟨hj, hu⟩, fun z hm => hz z (.inr hm)⟩

/-- A write lists the byte written, when it is not 0, and nothing that was not listed before. -/
theorem mem_of_mem_write {m : Mem} {a : Nat} {v : Byte} {x : Host.Cell} (h : x ∈ Mem.write m a v) :
    x = (a, v) ∧ v ≠ 0 ∨ x ∈ m := by
  induction m with
  | nil => unfold Mem.write at h; split at h <;> simp_all
  | cons y t ih =>
    obtain ⟨k, b⟩ := y
    unfold Mem.write at h
    split at h
    · split at h <;> simp_all
    · split at h
      · split at h
        · exact .inr (List.mem_cons_of_mem _ h)
        · rcases List.mem_cons.1 h with rfl | h
          · exact .inl ⟨rfl, by assumption⟩
          · exact .inr (List.mem_cons_of_mem _ h)
      · rcases List.mem_cons.1 h with rfl | h
        · simp
        · exact (ih h).imp_right (List.mem_cons_of_mem _)

theorem mem_write_wf {m : Mem} (h : Mem.wf m = true) (a : Nat) (v : Byte) : Mem.wf (Mem.write m a v) = true := by
  rw [mem_wf_iff] at h ⊢
  refine ⟨?_, fun x hx => ?_⟩
  · obtain ⟨hp, -⟩ := h
    induction m with
    | nil => unfold Mem.write; split <;> simp
    | cons y t ih =>
      obtain ⟨k, b⟩ := y
      obtain ⟨hk, ht⟩ := List.pairwise_cons.1 hp
      unfold Mem.write
      split
      · rename_i hak
        split
        · exact hp
        · refine List.pairwise_cons.2 ⟨fun z hz => ?_, hp⟩
          rcases List.mem_cons.1 hz with rfl | hz
          · exact hak
          · exact Nat.lt_trans hak (hk z hz)
      · split
        · rename_i hak
          subst hak
          split
          · exact ht
          · exact List.pairwise_cons.2 ⟨hk, ht⟩
        · refine List.pairwise_cons.2 ⟨fun z hz => ?_, ih ht⟩
          rcases mem_of_mem_write hz with ⟨rfl, -⟩ | hz
          · show k < a
            omega
          · exact hk z hz
  · rcases mem_of_mem_write hx with ⟨rfl, hv⟩ | hx
    · exact hv
    · exact h.2 x hx

theorem mem_writeN_wf (bs : List Byte) {m : Mem} (h : Mem.wf m = true) (a : Nat) : Mem.wf (Mem.writeN m a bs) = true := by
  induction bs generalizing m a with
  | nil => exact h
  | cons b bs ih => exact ih (mem_write_wf h a b) (a + 1)

theorem buffer_put_wf {b : Buffer} (h : Mem.wf b.data = true) (off : Nat) (bs : List Byte) :
    Mem.wf (b.put off bs).data = true := mem_writeN_wf bs h off

theorem buffer_putWrapped_wf {b : Buffer} (h : Mem.wf b.data = true) (off : Nat) (bs : List Byte) :
    Mem.wf (b.putWrapped off bs).data = true := by
  unfold Buffer.putWrapped
  split
  · exact h
  · exact buffer_put_wf (buffer_put_wf h _ _) _ _

theorem readN_length (m : Mem) (a n : Nat) : (Mem.readN m a n).length = n := by
  induction n generalizing a with
  | zero => rfl
  | succ n ih => simp [Mem.readN, ih]

/-- The memories of the state after reset list nothing. -/
theorem reset_memories : State.reset.control.slots = [] ∧ State.reset.granary.buffers = [] := by decide +kernel

end Sys2Proof.Machine
end

