-- ==== Sys2Proof/Laws/Ops.lean ====
section
/-!
SUPPORT. What each shared operation of Ops.lean leaves alone: one lemma per field that it does not touch, so that no proof unfolds
it; and the small laws of lists and counters.
-/

namespace Sys2Proof.Machine

variable (s : State)

@[simp] theorem onMbx_pending (n : Nat) (f : Mailbox → Mailbox) : (s.onMbx n f).pending = s.pending := rfl
@[simp] theorem onMbx_raster (n : Nat) (f : Mailbox → Mailbox) : (s.onMbx n f).raster = s.raster := rfl
@[simp] theorem onMbx_events (n : Nat) (f : Mailbox → Mailbox) : (s.onMbx n f).events = s.events := rfl
@[simp] theorem onMbx_granary (n : Nat) (f : Mailbox → Mailbox) : (s.onMbx n f).granary = s.granary := rfl
@[simp] theorem onMbx_power (n : Nat) (f : Mailbox → Mailbox) : (s.onMbx n f).power = s.power := rfl
@[simp] theorem onMbx_lanes (n : Nat) (f : Mailbox → Mailbox) : (s.onMbx n f).lanes = s.lanes := rfl
@[simp] theorem onMbx_intake (n : Nat) (f : Mailbox → Mailbox) : (s.onMbx n f).intake = s.intake := rfl
@[simp] theorem onMbx_mill (n : Nat) (f : Mailbox → Mailbox) : (s.onMbx n f).mill = s.mill := rfl
@[simp] theorem onMbx_looks (n : Nat) (f : Mailbox → Mailbox) : (s.onMbx n f).looks = s.looks := rfl
@[simp] theorem onMbx_sheaf (n : Nat) (f : Mailbox → Mailbox) : (s.onMbx n f).sheaf = s.sheaf := rfl
@[simp] theorem onMbx_decoder (n : Nat) (f : Mailbox → Mailbox) : (s.onMbx n f).decoder = s.decoder := rfl
@[simp] theorem onMbx_compress (n : Nat) (f : Mailbox → Mailbox) : (s.onMbx n f).compress = s.compress := rfl
@[simp] theorem onMbx_audio (n : Nat) (f : Mailbox → Mailbox) : (s.onMbx n f).audio = s.audio := rfl
@[simp] theorem onMbx_bus (n : Nat) (f : Mailbox → Mailbox) : (s.onMbx n f).bus = s.bus := rfl
@[simp] theorem onMbx_record (n : Nat) (f : Mailbox → Mailbox) : (s.onMbx n f).record = s.record := rfl
@[simp] theorem onMbx_net (n : Nat) (f : Mailbox → Mailbox) : (s.onMbx n f).net = s.net := rfl
@[simp] theorem onMbx_monitor (n : Nat) (f : Mailbox → Mailbox) : (s.onMbx n f).monitor = s.monitor := rfl
@[simp] theorem onMbx_sec (n : Nat) (f : Mailbox → Mailbox) : (s.onMbx n f).sec = s.sec := rfl
@[simp] theorem onMbx_tree (n : Nat) (f : Mailbox → Mailbox) : (s.onMbx n f).tree = s.tree := rfl
@[simp] theorem onMbx_outbox (n : Nat) (f : Mailbox → Mailbox) : (s.onMbx n f).outbox = s.outbox := rfl
@[simp] theorem onMbx_fresh (n : Nat) (f : Mailbox → Mailbox) : (s.onMbx n f).fresh = s.fresh := rfl

@[simp] theorem raiseEv_pending (e : Ev) : (s.raiseEv e).pending = s.pending := rfl
@[simp] theorem raiseEv_control (e : Ev) : (s.raiseEv e).control = s.control := rfl
@[simp] theorem raiseEv_raster (e : Ev) : (s.raiseEv e).raster = s.raster := rfl
@[simp] theorem raiseEv_granary (e : Ev) : (s.raiseEv e).granary = s.granary := rfl
@[simp] theorem raiseEv_power (e : Ev) : (s.raiseEv e).power = s.power := rfl
@[simp] theorem raiseEv_lanes (e : Ev) : (s.raiseEv e).lanes = s.lanes := rfl
@[simp] theorem raiseEv_intake (e : Ev) : (s.raiseEv e).intake = s.intake := rfl
@[simp] theorem raiseEv_mill (e : Ev) : (s.raiseEv e).mill = s.mill := rfl
@[simp] theorem raiseEv_looks (e : Ev) : (s.raiseEv e).looks = s.looks := rfl
@[simp] theorem raiseEv_sheaf (e : Ev) : (s.raiseEv e).sheaf = s.sheaf := rfl
@[simp] theorem raiseEv_decoder (e : Ev) : (s.raiseEv e).decoder = s.decoder := rfl
@[simp] theorem raiseEv_compress (e : Ev) : (s.raiseEv e).compress = s.compress := rfl
@[simp] theorem raiseEv_audio (e : Ev) : (s.raiseEv e).audio = s.audio := rfl
@[simp] theorem raiseEv_bus (e : Ev) : (s.raiseEv e).bus = s.bus := rfl
@[simp] theorem raiseEv_record (e : Ev) : (s.raiseEv e).record = s.record := rfl
@[simp] theorem raiseEv_net (e : Ev) : (s.raiseEv e).net = s.net := rfl
@[simp] theorem raiseEv_monitor (e : Ev) : (s.raiseEv e).monitor = s.monitor := rfl
@[simp] theorem raiseEv_sec (e : Ev) : (s.raiseEv e).sec = s.sec := rfl
@[simp] theorem raiseEv_tree (e : Ev) : (s.raiseEv e).tree = s.tree := rfl
@[simp] theorem raiseEv_outbox (e : Ev) : (s.raiseEv e).outbox = s.outbox := rfl
@[simp] theorem raiseEv_fresh (e : Ev) : (s.raiseEv e).fresh = s.fresh := rfl

@[simp] theorem raise_pending (n : Nat) : (s.raise n).pending = s.pending := rfl
@[simp] theorem raise_control (n : Nat) : (s.raise n).control = s.control := rfl
@[simp] theorem raise_raster (n : Nat) : (s.raise n).raster = s.raster := rfl
@[simp] theorem raise_granary (n : Nat) : (s.raise n).granary = s.granary := rfl
@[simp] theorem raise_power (n : Nat) : (s.raise n).power = s.power := rfl
@[simp] theorem raise_lanes (n : Nat) : (s.raise n).lanes = s.lanes := rfl
@[simp] theorem raise_intake (n : Nat) : (s.raise n).intake = s.intake := rfl
@[simp] theorem raise_mill (n : Nat) : (s.raise n).mill = s.mill := rfl
@[simp] theorem raise_looks (n : Nat) : (s.raise n).looks = s.looks := rfl
@[simp] theorem raise_sheaf (n : Nat) : (s.raise n).sheaf = s.sheaf := rfl
@[simp] theorem raise_decoder (n : Nat) : (s.raise n).decoder = s.decoder := rfl
@[simp] theorem raise_compress (n : Nat) : (s.raise n).compress = s.compress := rfl
@[simp] theorem raise_audio (n : Nat) : (s.raise n).audio = s.audio := rfl
@[simp] theorem raise_bus (n : Nat) : (s.raise n).bus = s.bus := rfl
@[simp] theorem raise_record (n : Nat) : (s.raise n).record = s.record := rfl
@[simp] theorem raise_net (n : Nat) : (s.raise n).net = s.net := rfl
@[simp] theorem raise_monitor (n : Nat) : (s.raise n).monitor = s.monitor := rfl
@[simp] theorem raise_sec (n : Nat) : (s.raise n).sec = s.sec := rfl
@[simp] theorem raise_tree (n : Nat) : (s.raise n).tree = s.tree := rfl
@[simp] theorem raise_outbox (n : Nat) : (s.raise n).outbox = s.outbox := rfl
@[simp] theorem raise_fresh (n : Nat) : (s.raise n).fresh = s.fresh := rfl

@[simp] theorem reRaise_pending (n : Nat) (e : Ev) (b : Bool) : (s.reRaise n e b).pending = s.pending := by
  unfold State.reRaise; split <;> first | rfl | (split <;> rfl)
@[simp] theorem reRaise_control (n : Nat) (e : Ev) (b : Bool) : (s.reRaise n e b).control = s.control := by
  unfold State.reRaise; split <;> first | rfl | (split <;> rfl)
@[simp] theorem reRaise_raster (n : Nat) (e : Ev) (b : Bool) : (s.reRaise n e b).raster = s.raster := by
  unfold State.reRaise; split <;> first | rfl | (split <;> rfl)
@[simp] theorem reRaise_granary (n : Nat) (e : Ev) (b : Bool) : (s.reRaise n e b).granary = s.granary := by
  unfold State.reRaise; split <;> first | rfl | (split <;> rfl)
@[simp] theorem reRaise_power (n : Nat) (e : Ev) (b : Bool) : (s.reRaise n e b).power = s.power := by
  unfold State.reRaise; split <;> first | rfl | (split <;> rfl)
@[simp] theorem reRaise_lanes (n : Nat) (e : Ev) (b : Bool) : (s.reRaise n e b).lanes = s.lanes := by
  unfold State.reRaise; split <;> first | rfl | (split <;> rfl)
@[simp] theorem reRaise_intake (n : Nat) (e : Ev) (b : Bool) : (s.reRaise n e b).intake = s.intake := by
  unfold State.reRaise; split <;> first | rfl | (split <;> rfl)
@[simp] theorem reRaise_mill (n : Nat) (e : Ev) (b : Bool) : (s.reRaise n e b).mill = s.mill := by
  unfold State.reRaise; split <;> first | rfl | (split <;> rfl)
@[simp] theorem reRaise_looks (n : Nat) (e : Ev) (b : Bool) : (s.reRaise n e b).looks = s.looks := by
  unfold State.reRaise; split <;> first | rfl | (split <;> rfl)
@[simp] theorem reRaise_sheaf (n : Nat) (e : Ev) (b : Bool) : (s.reRaise n e b).sheaf = s.sheaf := by
  unfold State.reRaise; split <;> first | rfl | (split <;> rfl)
@[simp] theorem reRaise_decoder (n : Nat) (e : Ev) (b : Bool) : (s.reRaise n e b).decoder = s.decoder := by
  unfold State.reRaise; split <;> first | rfl | (split <;> rfl)
@[simp] theorem reRaise_compress (n : Nat) (e : Ev) (b : Bool) : (s.reRaise n e b).compress = s.compress := by
  unfold State.reRaise; split <;> first | rfl | (split <;> rfl)
@[simp] theorem reRaise_audio (n : Nat) (e : Ev) (b : Bool) : (s.reRaise n e b).audio = s.audio := by
  unfold State.reRaise; split <;> first | rfl | (split <;> rfl)
@[simp] theorem reRaise_bus (n : Nat) (e : Ev) (b : Bool) : (s.reRaise n e b).bus = s.bus := by
  unfold State.reRaise; split <;> first | rfl | (split <;> rfl)
@[simp] theorem reRaise_record (n : Nat) (e : Ev) (b : Bool) : (s.reRaise n e b).record = s.record := by
  unfold State.reRaise; split <;> first | rfl | (split <;> rfl)
@[simp] theorem reRaise_net (n : Nat) (e : Ev) (b : Bool) : (s.reRaise n e b).net = s.net := by
  unfold State.reRaise; split <;> first | rfl | (split <;> rfl)
@[simp] theorem reRaise_monitor (n : Nat) (e : Ev) (b : Bool) : (s.reRaise n e b).monitor = s.monitor := by
  unfold State.reRaise; split <;> first | rfl | (split <;> rfl)
@[simp] theorem reRaise_sec (n : Nat) (e : Ev) (b : Bool) : (s.reRaise n e b).sec = s.sec := by
  unfold State.reRaise; split <;> first | rfl | (split <;> rfl)
@[simp] theorem reRaise_tree (n : Nat) (e : Ev) (b : Bool) : (s.reRaise n e b).tree = s.tree := by
  unfold State.reRaise; split <;> first | rfl | (split <;> rfl)
@[simp] theorem reRaise_outbox (n : Nat) (e : Ev) (b : Bool) : (s.reRaise n e b).outbox = s.outbox := by
  unfold State.reRaise; split <;> first | rfl | (split <;> rfl)
@[simp] theorem reRaise_fresh (n : Nat) (e : Ev) (b : Bool) : (s.reRaise n e b).fresh = s.fresh := by
  unfold State.reRaise; split <;> first | rfl | (split <;> rfl)

@[simp] theorem noticeOn_pending (op : Nat) (items : List Item) (b : Bool) : (s.noticeOn op items b).pending = s.pending := by
  unfold State.noticeOn; dsimp only; split <;> rfl
@[simp] theorem noticeOn_raster (op : Nat) (items : List Item) (b : Bool) : (s.noticeOn op items b).raster = s.raster := by
  unfold State.noticeOn; dsimp only; split <;> rfl
@[simp] theorem noticeOn_granary (op : Nat) (items : List Item) (b : Bool) : (s.noticeOn op items b).granary = s.granary := by
  unfold State.noticeOn; dsimp only; split <;> rfl
@[simp] theorem noticeOn_power (op : Nat) (items : List Item) (b : Bool) : (s.noticeOn op items b).power = s.power := by
  unfold State.noticeOn; dsimp only; split <;> rfl
@[simp] theorem noticeOn_lanes (op : Nat) (items : List Item) (b : Bool) : (s.noticeOn op items b).lanes = s.lanes := by
  unfold State.noticeOn; dsimp only; split <;> rfl
@[simp] theorem noticeOn_intake (op : Nat) (items : List Item) (b : Bool) : (s.noticeOn op items b).intake = s.intake := by
  unfold State.noticeOn; dsimp only; split <;> rfl
@[simp] theorem noticeOn_mill (op : Nat) (items : List Item) (b : Bool) : (s.noticeOn op items b).mill = s.mill := by
  unfold State.noticeOn; dsimp only; split <;> rfl
@[simp] theorem noticeOn_looks (op : Nat) (items : List Item) (b : Bool) : (s.noticeOn op items b).looks = s.looks := by
  unfold State.noticeOn; dsimp only; split <;> rfl
@[simp] theorem noticeOn_sheaf (op : Nat) (items : List Item) (b : Bool) : (s.noticeOn op items b).sheaf = s.sheaf := by
  unfold State.noticeOn; dsimp only; split <;> rfl
@[simp] theorem noticeOn_decoder (op : Nat) (items : List Item) (b : Bool) : (s.noticeOn op items b).decoder = s.decoder := by
  unfold State.noticeOn; dsimp only; split <;> rfl
@[simp] theorem noticeOn_compress (op : Nat) (items : List Item) (b : Bool) : (s.noticeOn op items b).compress = s.compress := by
  unfold State.noticeOn; dsimp only; split <;> rfl
@[simp] theorem noticeOn_audio (op : Nat) (items : List Item) (b : Bool) : (s.noticeOn op items b).audio = s.audio := by
  unfold State.noticeOn; dsimp only; split <;> rfl
@[simp] theorem noticeOn_bus (op : Nat) (items : List Item) (b : Bool) : (s.noticeOn op items b).bus = s.bus := by
  unfold State.noticeOn; dsimp only; split <;> rfl
@[simp] theorem noticeOn_record (op : Nat) (items : List Item) (b : Bool) : (s.noticeOn op items b).record = s.record := by
  unfold State.noticeOn; dsimp only; split <;> rfl
@[simp] theorem noticeOn_net (op : Nat) (items : List Item) (b : Bool) : (s.noticeOn op items b).net = s.net := by
  unfold State.noticeOn; dsimp only; split <;> rfl
@[simp] theorem noticeOn_monitor (op : Nat) (items : List Item) (b : Bool) : (s.noticeOn op items b).monitor = s.monitor := by
  unfold State.noticeOn; dsimp only; split <;> rfl
@[simp] theorem noticeOn_sec (op : Nat) (items : List Item) (b : Bool) : (s.noticeOn op items b).sec = s.sec := by
  unfold State.noticeOn; dsimp only; split <;> rfl
@[simp] theorem noticeOn_tree (op : Nat) (items : List Item) (b : Bool) : (s.noticeOn op items b).tree = s.tree := by
  unfold State.noticeOn; dsimp only; split <;> rfl
@[simp] theorem noticeOn_outbox (op : Nat) (items : List Item) (b : Bool) : (s.noticeOn op items b).outbox = s.outbox := by
  unfold State.noticeOn; dsimp only; split <;> rfl
@[simp] theorem noticeOn_fresh (op : Nat) (items : List Item) (b : Bool) : (s.noticeOn op items b).fresh = s.fresh := by
  unfold State.noticeOn; dsimp only; split <;> rfl

@[simp] theorem notice_pending (op : Nat) (items : List Item) : (s.notice op items).pending = s.pending := by
  simp [State.notice]
@[simp] theorem notice_raster (op : Nat) (items : List Item) : (s.notice op items).raster = s.raster := by
  simp [State.notice]
@[simp] theorem notice_granary (op : Nat) (items : List Item) : (s.notice op items).granary = s.granary := by
  simp [State.notice]
@[simp] theorem notice_power (op : Nat) (items : List Item) : (s.notice op items).power = s.power := by
  simp [State.notice]
@[simp] theorem notice_lanes (op : Nat) (items : List Item) : (s.notice op items).lanes = s.lanes := by
  simp [State.notice]
@[simp] theorem notice_intake (op : Nat) (items : List Item) : (s.notice op items).intake = s.intake := by
  simp [State.notice]
@[simp] theorem notice_mill (op : Nat) (items : List Item) : (s.notice op items).mill = s.mill := by
  simp [State.notice]
@[simp] theorem notice_looks (op : Nat) (items : List Item) : (s.notice op items).looks = s.looks := by
  simp [State.notice]
@[simp] theorem notice_sheaf (op : Nat) (items : List Item) : (s.notice op items).sheaf = s.sheaf := by
  simp [State.notice]
@[simp] theorem notice_decoder (op : Nat) (items : List Item) : (s.notice op items).decoder = s.decoder := by
  simp [State.notice]
@[simp] theorem notice_compress (op : Nat) (items : List Item) : (s.notice op items).compress = s.compress := by
  simp [State.notice]
@[simp] theorem notice_audio (op : Nat) (items : List Item) : (s.notice op items).audio = s.audio := by
  simp [State.notice]
@[simp] theorem notice_bus (op : Nat) (items : List Item) : (s.notice op items).bus = s.bus := by
  simp [State.notice]
@[simp] theorem notice_record (op : Nat) (items : List Item) : (s.notice op items).record = s.record := by
  simp [State.notice]
@[simp] theorem notice_net (op : Nat) (items : List Item) : (s.notice op items).net = s.net := by
  simp [State.notice]
@[simp] theorem notice_monitor (op : Nat) (items : List Item) : (s.notice op items).monitor = s.monitor := by
  simp [State.notice]
@[simp] theorem notice_sec (op : Nat) (items : List Item) : (s.notice op items).sec = s.sec := by
  simp [State.notice]
@[simp] theorem notice_tree (op : Nat) (items : List Item) : (s.notice op items).tree = s.tree := by
  simp [State.notice]
@[simp] theorem notice_outbox (op : Nat) (items : List Item) : (s.notice op items).outbox = s.outbox := by
  simp [State.notice]
@[simp] theorem notice_fresh (op : Nat) (items : List Item) : (s.notice op items).fresh = s.fresh := by
  simp [State.notice]

@[simp] theorem msixSend_pending (v : Nat) : (s.msixSend v).pending = s.pending := by
  unfold State.msixSend; split <;> first | rfl | (split <;> rfl)
@[simp] theorem msixSend_raster (v : Nat) : (s.msixSend v).raster = s.raster := by
  unfold State.msixSend; split <;> first | rfl | (split <;> rfl)
@[simp] theorem msixSend_events (v : Nat) : (s.msixSend v).events = s.events := by
  unfold State.msixSend; split <;> first | rfl | (split <;> rfl)
@[simp] theorem msixSend_granary (v : Nat) : (s.msixSend v).granary = s.granary := by
  unfold State.msixSend; split <;> first | rfl | (split <;> rfl)
@[simp] theorem msixSend_power (v : Nat) : (s.msixSend v).power = s.power := by
  unfold State.msixSend; split <;> first | rfl | (split <;> rfl)
@[simp] theorem msixSend_lanes (v : Nat) : (s.msixSend v).lanes = s.lanes := by
  unfold State.msixSend; split <;> first | rfl | (split <;> rfl)
@[simp] theorem msixSend_intake (v : Nat) : (s.msixSend v).intake = s.intake := by
  unfold State.msixSend; split <;> first | rfl | (split <;> rfl)
@[simp] theorem msixSend_mill (v : Nat) : (s.msixSend v).mill = s.mill := by
  unfold State.msixSend; split <;> first | rfl | (split <;> rfl)
@[simp] theorem msixSend_looks (v : Nat) : (s.msixSend v).looks = s.looks := by
  unfold State.msixSend; split <;> first | rfl | (split <;> rfl)
@[simp] theorem msixSend_sheaf (v : Nat) : (s.msixSend v).sheaf = s.sheaf := by
  unfold State.msixSend; split <;> first | rfl | (split <;> rfl)
@[simp] theorem msixSend_decoder (v : Nat) : (s.msixSend v).decoder = s.decoder := by
  unfold State.msixSend; split <;> first | rfl | (split <;> rfl)
@[simp] theorem msixSend_compress (v : Nat) : (s.msixSend v).compress = s.compress := by
  unfold State.msixSend; split <;> first | rfl | (split <;> rfl)
@[simp] theorem msixSend_audio (v : Nat) : (s.msixSend v).audio = s.audio := by
  unfold State.msixSend; split <;> first | rfl | (split <;> rfl)
@[simp] theorem msixSend_bus (v : Nat) : (s.msixSend v).bus = s.bus := by
  unfold State.msixSend; split <;> first | rfl | (split <;> rfl)
@[simp] theorem msixSend_record (v : Nat) : (s.msixSend v).record = s.record := by
  unfold State.msixSend; split <;> first | rfl | (split <;> rfl)
@[simp] theorem msixSend_net (v : Nat) : (s.msixSend v).net = s.net := by
  unfold State.msixSend; split <;> first | rfl | (split <;> rfl)
@[simp] theorem msixSend_monitor (v : Nat) : (s.msixSend v).monitor = s.monitor := by
  unfold State.msixSend; split <;> first | rfl | (split <;> rfl)
@[simp] theorem msixSend_sec (v : Nat) : (s.msixSend v).sec = s.sec := by
  unfold State.msixSend; split <;> first | rfl | (split <;> rfl)
@[simp] theorem msixSend_tree (v : Nat) : (s.msixSend v).tree = s.tree := by
  unfold State.msixSend; split <;> first | rfl | (split <;> rfl)
@[simp] theorem msixSend_fresh (v : Nat) : (s.msixSend v).fresh = s.fresh := by
  unfold State.msixSend; split <;> first | rfl | (split <;> rfl)

@[simp] theorem setSystemIrq_pending (b : Nat) : (s.setSystemIrq b).pending = s.pending := by
  unfold State.setSystemIrq; dsimp only; split <;> simp
@[simp] theorem setSystemIrq_raster (b : Nat) : (s.setSystemIrq b).raster = s.raster := by
  unfold State.setSystemIrq; dsimp only; split <;> simp
@[simp] theorem setSystemIrq_events (b : Nat) : (s.setSystemIrq b).events = s.events := by
  unfold State.setSystemIrq; dsimp only; split <;> simp
@[simp] theorem setSystemIrq_granary (b : Nat) : (s.setSystemIrq b).granary = s.granary := by
  unfold State.setSystemIrq; dsimp only; split <;> simp
@[simp] theorem setSystemIrq_power (b : Nat) : (s.setSystemIrq b).power = s.power := by
  unfold State.setSystemIrq; dsimp only; split <;> simp
@[simp] theorem setSystemIrq_lanes (b : Nat) : (s.setSystemIrq b).lanes = s.lanes := by
  unfold State.setSystemIrq; dsimp only; split <;> simp
@[simp] theorem setSystemIrq_intake (b : Nat) : (s.setSystemIrq b).intake = s.intake := by
  unfold State.setSystemIrq; dsimp only; split <;> simp
@[simp] theorem setSystemIrq_mill (b : Nat) : (s.setSystemIrq b).mill = s.mill := by
  unfold State.setSystemIrq; dsimp only; split <;> simp
@[simp] theorem setSystemIrq_looks (b : Nat) : (s.setSystemIrq b).looks = s.looks := by
  unfold State.setSystemIrq; dsimp only; split <;> simp
@[simp] theorem setSystemIrq_sheaf (b : Nat) : (s.setSystemIrq b).sheaf = s.sheaf := by
  unfold State.setSystemIrq; dsimp only; split <;> simp
@[simp] theorem setSystemIrq_decoder (b : Nat) : (s.setSystemIrq b).decoder = s.decoder := by
  unfold State.setSystemIrq; dsimp only; split <;> simp
@[simp] theorem setSystemIrq_compress (b : Nat) : (s.setSystemIrq b).compress = s.compress := by
  unfold State.setSystemIrq; dsimp only; split <;> simp
@[simp] theorem setSystemIrq_audio (b : Nat) : (s.setSystemIrq b).audio = s.audio := by
  unfold State.setSystemIrq; dsimp only; split <;> simp
@[simp] theorem setSystemIrq_bus (b : Nat) : (s.setSystemIrq b).bus = s.bus := by
  unfold State.setSystemIrq; dsimp only; split <;> simp
@[simp] theorem setSystemIrq_record (b : Nat) : (s.setSystemIrq b).record = s.record := by
  unfold State.setSystemIrq; dsimp only; split <;> simp
@[simp] theorem setSystemIrq_net (b : Nat) : (s.setSystemIrq b).net = s.net := by
  unfold State.setSystemIrq; dsimp only; split <;> simp
@[simp] theorem setSystemIrq_monitor (b : Nat) : (s.setSystemIrq b).monitor = s.monitor := by
  unfold State.setSystemIrq; dsimp only; split <;> simp
@[simp] theorem setSystemIrq_sec (b : Nat) : (s.setSystemIrq b).sec = s.sec := by
  unfold State.setSystemIrq; dsimp only; split <;> simp
@[simp] theorem setSystemIrq_tree (b : Nat) : (s.setSystemIrq b).tree = s.tree := by
  unfold State.setSystemIrq; dsimp only; split <;> simp
@[simp] theorem setSystemIrq_fresh (b : Nat) : (s.setSystemIrq b).fresh = s.fresh := by
  unfold State.setSystemIrq; dsimp only; split <;> simp

@[simp] theorem faultLog_pending (code unit data : Nat) : (s.faultLog code unit data).pending = s.pending := by
  simp [State.faultLog]
@[simp] theorem faultLog_raster (code unit data : Nat) : (s.faultLog code unit data).raster = s.raster := by
  simp [State.faultLog]
@[simp] theorem faultLog_granary (code unit data : Nat) : (s.faultLog code unit data).granary = s.granary := by
  simp [State.faultLog]
@[simp] theorem faultLog_lanes (code unit data : Nat) : (s.faultLog code unit data).lanes = s.lanes := by
  simp [State.faultLog]
@[simp] theorem faultLog_intake (code unit data : Nat) : (s.faultLog code unit data).intake = s.intake := by
  simp [State.faultLog]
@[simp] theorem faultLog_mill (code unit data : Nat) : (s.faultLog code unit data).mill = s.mill := by
  simp [State.faultLog]
@[simp] theorem faultLog_looks (code unit data : Nat) : (s.faultLog code unit data).looks = s.looks := by
  simp [State.faultLog]
@[simp] theorem faultLog_sheaf (code unit data : Nat) : (s.faultLog code unit data).sheaf = s.sheaf := by
  simp [State.faultLog]
@[simp] theorem faultLog_decoder (code unit data : Nat) : (s.faultLog code unit data).decoder = s.decoder := by
  simp [State.faultLog]
@[simp] theorem faultLog_compress (code unit data : Nat) : (s.faultLog code unit data).compress = s.compress := by
  simp [State.faultLog]
@[simp] theorem faultLog_audio (code unit data : Nat) : (s.faultLog code unit data).audio = s.audio := by
  simp [State.faultLog]
@[simp] theorem faultLog_bus (code unit data : Nat) : (s.faultLog code unit data).bus = s.bus := by
  simp [State.faultLog]
@[simp] theorem faultLog_record (code unit data : Nat) : (s.faultLog code unit data).record = s.record := by
  simp [State.faultLog]
@[simp] theorem faultLog_net (code unit data : Nat) : (s.faultLog code unit data).net = s.net := by
  simp [State.faultLog]
@[simp] theorem faultLog_monitor (code unit data : Nat) : (s.faultLog code unit data).monitor = s.monitor := by
  simp [State.faultLog]
@[simp] theorem faultLog_sec (code unit data : Nat) : (s.faultLog code unit data).sec = s.sec := by
  simp [State.faultLog]
@[simp] theorem faultLog_tree (code unit data : Nat) : (s.faultLog code unit data).tree = s.tree := by
  simp [State.faultLog]
@[simp] theorem faultLog_fresh (code unit data : Nat) : (s.faultLog code unit data).fresh = s.fresh := by
  simp [State.faultLog]

@[simp] theorem onBuffer_pending (h : Handle) (f : Buffer → Buffer) : (s.onBuffer h f).pending = s.pending := rfl
@[simp] theorem onBuffer_control (h : Handle) (f : Buffer → Buffer) : (s.onBuffer h f).control = s.control := rfl
@[simp] theorem onBuffer_raster (h : Handle) (f : Buffer → Buffer) : (s.onBuffer h f).raster = s.raster := rfl
@[simp] theorem onBuffer_events (h : Handle) (f : Buffer → Buffer) : (s.onBuffer h f).events = s.events := rfl
@[simp] theorem onBuffer_power (h : Handle) (f : Buffer → Buffer) : (s.onBuffer h f).power = s.power := rfl
@[simp] theorem onBuffer_lanes (h : Handle) (f : Buffer → Buffer) : (s.onBuffer h f).lanes = s.lanes := rfl
@[simp] theorem onBuffer_intake (h : Handle) (f : Buffer → Buffer) : (s.onBuffer h f).intake = s.intake := rfl
@[simp] theorem onBuffer_mill (h : Handle) (f : Buffer → Buffer) : (s.onBuffer h f).mill = s.mill := rfl
@[simp] theorem onBuffer_looks (h : Handle) (f : Buffer → Buffer) : (s.onBuffer h f).looks = s.looks := rfl
@[simp] theorem onBuffer_sheaf (h : Handle) (f : Buffer → Buffer) : (s.onBuffer h f).sheaf = s.sheaf := rfl
@[simp] theorem onBuffer_decoder (h : Handle) (f : Buffer → Buffer) : (s.onBuffer h f).decoder = s.decoder := rfl
@[simp] theorem onBuffer_compress (h : Handle) (f : Buffer → Buffer) : (s.onBuffer h f).compress = s.compress := rfl
@[simp] theorem onBuffer_audio (h : Handle) (f : Buffer → Buffer) : (s.onBuffer h f).audio = s.audio := rfl
@[simp] theorem onBuffer_bus (h : Handle) (f : Buffer → Buffer) : (s.onBuffer h f).bus = s.bus := rfl
@[simp] theorem onBuffer_record (h : Handle) (f : Buffer → Buffer) : (s.onBuffer h f).record = s.record := rfl
@[simp] theorem onBuffer_net (h : Handle) (f : Buffer → Buffer) : (s.onBuffer h f).net = s.net := rfl
@[simp] theorem onBuffer_monitor (h : Handle) (f : Buffer → Buffer) : (s.onBuffer h f).monitor = s.monitor := rfl
@[simp] theorem onBuffer_sec (h : Handle) (f : Buffer → Buffer) : (s.onBuffer h f).sec = s.sec := rfl
@[simp] theorem onBuffer_tree (h : Handle) (f : Buffer → Buffer) : (s.onBuffer h f).tree = s.tree := rfl
@[simp] theorem onBuffer_outbox (h : Handle) (f : Buffer → Buffer) : (s.onBuffer h f).outbox = s.outbox := rfl
@[simp] theorem onBuffer_fresh (h : Handle) (f : Buffer → Buffer) : (s.onBuffer h f).fresh = s.fresh := rfl

@[simp] theorem putBytes_pending (h : Handle) (o : Nat) (bs : List Byte) : (s.putBytes h o bs).pending = s.pending := rfl
@[simp] theorem putBytes_control (h : Handle) (o : Nat) (bs : List Byte) : (s.putBytes h o bs).control = s.control := rfl
@[simp] theorem putBytes_raster (h : Handle) (o : Nat) (bs : List Byte) : (s.putBytes h o bs).raster = s.raster := rfl
@[simp] theorem putBytes_events (h : Handle) (o : Nat) (bs : List Byte) : (s.putBytes h o bs).events = s.events := rfl
@[simp] theorem putBytes_power (h : Handle) (o : Nat) (bs : List Byte) : (s.putBytes h o bs).power = s.power := rfl
@[simp] theorem putBytes_lanes (h : Handle) (o : Nat) (bs : List Byte) : (s.putBytes h o bs).lanes = s.lanes := rfl
@[simp] theorem putBytes_intake (h : Handle) (o : Nat) (bs : List Byte) : (s.putBytes h o bs).intake = s.intake := rfl
@[simp] theorem putBytes_mill (h : Handle) (o : Nat) (bs : List Byte) : (s.putBytes h o bs).mill = s.mill := rfl
@[simp] theorem putBytes_looks (h : Handle) (o : Nat) (bs : List Byte) : (s.putBytes h o bs).looks = s.looks := rfl
@[simp] theorem putBytes_sheaf (h : Handle) (o : Nat) (bs : List Byte) : (s.putBytes h o bs).sheaf = s.sheaf := rfl
@[simp] theorem putBytes_decoder (h : Handle) (o : Nat) (bs : List Byte) : (s.putBytes h o bs).decoder = s.decoder := rfl
@[simp] theorem putBytes_compress (h : Handle) (o : Nat) (bs : List Byte) : (s.putBytes h o bs).compress = s.compress := rfl
@[simp] theorem putBytes_audio (h : Handle) (o : Nat) (bs : List Byte) : (s.putBytes h o bs).audio = s.audio := rfl
@[simp] theorem putBytes_bus (h : Handle) (o : Nat) (bs : List Byte) : (s.putBytes h o bs).bus = s.bus := rfl
@[simp] theorem putBytes_record (h : Handle) (o : Nat) (bs : List Byte) : (s.putBytes h o bs).record = s.record := rfl
@[simp] theorem putBytes_net (h : Handle) (o : Nat) (bs : List Byte) : (s.putBytes h o bs).net = s.net := rfl
@[simp] theorem putBytes_monitor (h : Handle) (o : Nat) (bs : List Byte) : (s.putBytes h o bs).monitor = s.monitor := rfl
@[simp] theorem putBytes_sec (h : Handle) (o : Nat) (bs : List Byte) : (s.putBytes h o bs).sec = s.sec := rfl
@[simp] theorem putBytes_tree (h : Handle) (o : Nat) (bs : List Byte) : (s.putBytes h o bs).tree = s.tree := rfl
@[simp] theorem putBytes_outbox (h : Handle) (o : Nat) (bs : List Byte) : (s.putBytes h o bs).outbox = s.outbox := rfl
@[simp] theorem putBytes_fresh (h : Handle) (o : Nat) (bs : List Byte) : (s.putBytes h o bs).fresh = s.fresh := rfl

/-! ## Lists and counters -/

theorem modAt_getElem? {α : Type} (l : List α) (i j : Nat) (f : α → α) :
    (modAt l i f)[j]? = if i = j then l[j]?.map f else l[j]? := by
  unfold modAt; rw [List.getElem?_modify]; split <;> simp_all

@[simp] theorem modAt_length {α : Type} (l : List α) (i : Nat) (f : α → α) : (modAt l i f).length = l.length := by
  simp [modAt]

@[simp] theorem modAt_same {α : Type} (l : List α) (i : Nat) (f : α → α) : (modAt l i f)[i]? = l[i]?.map f := by
  simp [modAt_getElem?]

theorem modAt_other {α : Type} (l : List α) {i j : Nat} (f : α → α) (h : i ≠ j) : (modAt l i f)[j]? = l[j]? := by
  simp [modAt_getElem?, h]

@[simp] theorem addAt_same (l : List Word) (i n : Nat) : (addAt l i n)[i]? = l[i]?.map (· + BitVec.ofNat 32 n) := by
  simp [addAt]

@[simp] theorem bumpAt_same (l : List Word) (i : Nat) : (bumpAt l i)[i]? = l[i]?.map (· + 1) := by
  simp [bumpAt]

theorem addAt_other (l : List Word) {i j : Nat} (n : Nat) (h : i ≠ j) : (addAt l i n)[j]? = l[j]? := by
  simp [addAt, modAt_other, h]

@[simp] theorem clearMasked_length (l : List Word) (m : Nat) : (clearMasked l m).length = l.length := by
  simp [clearMasked]

/-- A counter clear clears the counters that the mask names and leaves the others. -/
theorem clearMasked_getElem? (l : List Word) (m i : Nat) :
    (clearMasked l m)[i]? = l[i]?.map fun w => if m.testBit i then 0 else w := by
  simp [clearMasked, List.getElem?_zipIdx, Function.comp_def]

theorem putBit_getLsbD {w : Nat} (v : BitVec w) (i : Nat) (b : Bool) (h : i < w) : (putBit v i b).getLsbD i = b := by
  have hp : (BitVec.ofNat w (2 ^ i)).getLsbD i = true := by
    rw [BitVec.getLsbD_ofNat, Nat.testBit_two_pow_self, decide_eq_true h, Bool.and_self]
  cases b
  · rw [putBit, if_neg (by decide), BitVec.getLsbD_and, BitVec.getLsbD_not, hp, Bool.not_true, Bool.and_false, Bool.and_false]
  · rw [putBit, if_pos rfl, BitVec.getLsbD_or, hp, Bool.or_true]

theorem foldl_same {α β : Type} (f : β → α → β) (b : β) (l : List α) (h : ∀ a ∈ l, f b a = b) : l.foldl f b = b := by
  induction l with
  | nil => rfl
  | cons a l ih => simp only [List.foldl_cons, h a (by simp)]; exact ih fun x hx => h x (by simp [hx])

end Sys2Proof.Machine
end

