-- ==== Sys2Proof/Tests/Witnesses.lean ====
section
/-!
SUPPORT. For every statement of the certificate that has hypotheses, a theorem with states and operands that meet all of them
together, clause by clause: no statement is empty.
-/

namespace Sys2Proof.Tests

open Sys2Proof Sys2Proof.Machine

set_option Elab.async false

def tBuf (h role : Nat) (ring : Bool) : Buffer :=
  { handle := BitVec.ofNat 32 h, role, size := 16777216, pattern := 0, rt := true, place := .ordinary, runs := []
    ring := if ring then some {} else none }
def tUp : State :=
  let r := State.reset
  { r with control := { r.control with stage := 3, mailboxes := r.control.mailboxes.map fun m => { m with session := .v3, path := some .pcie } }
           power := { r.power with inReset := false }
           raster := { r.raster with running := true }
           granary := { r.granary with dramReady := true, buffers := (List.range 13).flatMap fun k => [tBuf (k + 1) (k + 1) false, tBuf (k + 17) (k + 1) true] } }
def tCall (its : List Item) : Call := { mb := 0, major := 3, minor := 0, tag := 7, byHandle := false, items := its }
def tItem (ty n v : Nat) : Item := { ty, val := toLe n v }
def tGot (k : Cmd) (c : Call) (s : State) : List Got := match judgeCall k c s with | .ok g => g | .error _ => []
def tOk (k : Cmd) (c : Call) (s : State) : Bool := s.takesCall k.op c && (match judgeCall k c s with | .ok _ => true | .error _ => false)
def tClk : Clk := { sec := 0, ns := 0, frac := 0 }
def tTc : Timecode := { hours := 0, minutes := 0, seconds := 0, frames := 0, drop := false }
def tReeval : Reeval := { syncsFound := true, rateInRange := true, phaseErr := 0, linePeriod := 0, framePeriod := 0, refLines := 0 }
def tPost : Post := { notice := true, major := 3, minor := 0, op := 0x80, tag := 0, status := 0, items := [] }
def tSearch : Search := { cur := {}, todo := [] }
def tFrameIn : FrameIn := { frame := 0, frameLo := 0, mark := 0, start := tClk, width := 64, lines := 4, exposures := 1, bits := 10, cfa := 0 }
def tRow : Row := { row := 0, exposure := 0 }
def tReplayFrame : ReplayFrame := { index := 0, bits := 10, flags := 0, planes := [] }
def tSbRequest : SbRequest := { ty := 0, ask := .poll, payload := [] }
def tSbHead : SbHead := { seq := 0, ok := true }
def tPair : Pair := { frame := 0, index := 0, last := false, top := [], bottom := [], topTags := [], bottomTags := [] }
def tMillFrame : MillFrame := { frame := 0, mark := 0, intakeFlags := 0, width := 64, lines := 4, cfa := 0, start := tClk, cfg := {} }
def tStatsRecord : StatsRecord := { ring := 11, id := 0, frame := 0, notify := false, bytes := [] }
def tTableLoad : TableLoad := { handle := 1, bank := 0, content := {} }
def tRendJob : RendJob := { ctx := 0, frame := 0, look := 0, lookCfg := {}, cfg := {}, filters := {}, slot := 0 }
def tFrameInfo : FrameInfo := { frame := 0, mark := 0, start := tClk, tc := tTc, sub := 0 }
def tShfItem : ShfItem := { ctx := 0, tile := 0, split := false }
def tShfPic : ShfPic := { ctx := 0, rend := 0, slot := 0, ringId := 0, tilesLeft := 1, irap := true, idr := true, ladder := false, deferred := false, ladderDue := none, sliceType := 2, nal := 19, tid := 0, key := false, flags := 0, qp := 30, cap := 0, au := [] }
def tParsed : ParsedPicture := { used := 0, sets := [], poc := 0, width := 64, height := 64, left := 0, top := 0, cropW := 64, cropH := 64, chroma := 1, bitDepth := 8, ctb := 64, irap := true, rasl := false, newSequence := true, noOutputPrior := false, output := true, refs := [], listed := [], maxBuffering := 1, maxReorder := 0, maxLatency := 0, outside := 0, errors := [], headerLost := false }
def tDecJob : DecJob := { ctx := 0, slot := 0, pic := tParsed, input := [], used := 0, frame := 0, auFlags := 0, flags := 0, refs := [], substituted := 0 }
def tEntry : Entry := { id := 0, start := 0, span := 16, len := 16, state := .published, unit := 0x0200 }
def tTapFrame : TapFrame := { id := 0, tap := 0, frame := 0, width := 64, bits := 10, cfa := 0, tc := tTc, sub := 0 }
def tCmpFrame : CmpFrame := { entry := 0, outId := 0, info := tTapFrame, record := [], key := true, distance := 0 }
def tDecompChunk : DecompChunk := { index := 0, frame := 0, bytes := [], poison := [] }
def tMigration : Migration := { kind := .promotion, handle := 1, granule := 0, stage := .copying, oldPlace := .ordinary, newPlace := .sram, frame := 0 }
def tNvmeCmd : NvmeCmd := { op := 1, lba := 0, data := [], fua := false }
def tDriveInfo : DriveInfo := { width := 4, gen := 4, serial := [], model := [], firmware := [], smart := [], format4k := true, bytes := 0, maxTransfer := 0, super := none, journal := [], clips := [] }
def tVolume : Volume := { id := [], members := 1, layout := 0, shift := 0, journalBlocks := 0, dataLba := 0 }
def tClip : Clip := { no := 0, kind := 0, source := 0, session := 0, clipId := [], start := tClk, firstFrame := 0 }
def tCopy : Copy := { drive := 0, extentNo := 0 }
def tDatagram : Datagram := { port := 0, srcIp := 1, srcPort := 1, ver := 1, mailbox := 8, flags := 0, reserved := 0, msgSeq := 0, fillNo := 0, fill := [] }
def tOutFill : OutFill := { msgSeq := 0, fillNo := 0, last := true, bytes := [] }
def tArp : ArpPacket := { request := true, senderIp := 1, senderMac := 1, targetIp := 1 }
def tSync : PtpSync := { source := 0, seq := 0, twoStep := false, origin := 0, received := 0, correction := 0 }
def tDelayResp : PtpDelayResp := { source := 0, seq := 0, received := 0, correction := 0 }
def tAnnounce : PtpAnnounce := { source := 0, priority1 := 0, clockClass := 0, accuracy := 0, variance := 0, priority2 := 0, grandmaster := 0, steps := 0, utcOffset := 0, utcValid := true, syncTlv := [] }
def tRtpAu : RtpAu := { entry := 0, frame := 0, payloads := [], stamp := 0, flags := 0 }
def tEv : Ev := { source := 0xB0, gen := 0, originNode := 0, originSource := 0xB0, originFrame := 0, originLine := 0, frame := 0, line := 0, phase := 0, time := tClk, reRaise := false, fromTree := false }
def tExchange : ExchangeInfo := { versions := [], serial := 0, role := 1, flags := 2 }
def tTime : TimeFlit := { frame := 0, line := 0, phase := 0, rateNum := 24, rateDen := 1, totalLines := 1125, activeLines := 1080, mark := 0, tc := tTc, sub := 0, user := 0, t1 := 0, delay := 0, t2 := 0, offset := 0 }
def tTreeEvent : TreeEvent := { source := 0, gen := 0, originNode := 1, originSource := 0, frame := 0, line := 0, tag := 0 }
def tAssign : AssignInfo := { first := 1, depth := 1, topology := 0, ringPort := 0, tolerance := 0, bellMargin := 0, minMinor := 0, pushTimeout := 0, epoch := 0, version := 256 }
def tReport : NodeReport := { node := 1, serial := 1, depth := 1, upstream := 0, links := [], version := 256, epoch := 0, runMap := 0, pathDelay := 0 }
def tNode : NodeRec := { id := 1, serial := 1, depth := 1, upstream := 0, links := [], version := 256, epoch := 0, runMap := 0, record := 0 }
def tTransfer : Transfer := { segments := [{ addr := 8, read := false, count := 1, data := [0] }], for_ := .mailbox 0 }
def tI2cResult : I2cResult := { segment := 0, status := 0, byteIndex := 0, bitIndex := 0, data := [] }
def tAttest : Attest := { ticket := 0, head := [], tail := [] }
def tTraining : List Byte := let b : List Byte := [0xBC, 0, 0, 0, 0, 0, 0, 0, 63, 0, 0, 0, 0, 0]; let k := crc16 (b.drop 1); b ++ [BitVec.ofNat 8 (k.toNat / 256), BitVec.ofNat 8 k.toNat]
def tPacket (line : Nat) : List Byte := let n := packetLength 4 10; let b := toLe 2 0 ++ toLe 2 line ++ toLe 2 n ++ [0, 0] ++ List.replicate n 0; b ++ toLe 4 (crc32c b).toNat
def tChunk : List Byte :=
  let b := kindFrame ++ toLe 4 64 ++ List.replicate 20 0
  b ++ toLe 4 (crc32c b).toNat ++ List.replicate 10 0 ++ toLe 2 1 ++ List.replicate 20 0

theorem tAcc {k : Cmd} {c : Call} {s : State} (h : tOk k c s = true) : Accepts k c (tGot k c s) s := by
  simp only [tOk, Bool.and_eq_true] at h; refine ⟨h.1, ?_⟩; have h2 := h.2; unfold tGot; split <;> simp_all
theorem tRef {k : Cmd} {c : Call} {s : State} {st p ty : Nat}
    (h : (s.takesCall k.op c && (match judgeCall k c s with | .ok _ => false | .error e => e == (st, p, ty))) = true) :
    Refuses k c st p ty s := by
  simp only [Bool.and_eq_true] at h; refine ⟨h.1, ?_⟩; have h2 := h.2; split at h2 <;> simp_all
theorem tOkOf {E : Except Nat (List Nat)} {cs : List Nat} (h : E.toOption = some cs) : E = .ok cs := by
  cases E <;> simp_all [Except.toOption]
theorem tBig : payloadLimit 3 < (payloadBytes [{ ty := 1, val := List.replicate 70000 0 }]).length := by
  simp only [payloadLimit, payloadBytes, itemBytes, padTo4, List.flatMap_cons, List.flatMap_nil, List.length_append, List.length_replicate]
  simp [toLe]
theorem tSome1 {α β : Type} {E : Option α × β} (h : E.1.isSome = true) : E = (some (E.1.get h), E.2) :=
  Prod.ext (Option.some_get h).symm rfl
theorem tSome2 {α β γ : Type} {E : Option (α × γ) × β} (h : E.1.isSome = true) : E = (some ((E.1.get h).1, (E.1.get h).2), E.2) :=
  Prod.ext (Option.some_get h).symm rfl
theorem tNone1 {α β : Type} {E : Option α × β} (h : E.1.isNone = true) : E = (none, E.2) :=
  Prod.ext (Option.isNone_iff_eq_none.1 h) rfl
theorem tCrc (b : List Byte) (h : b.length = 252) :
    crc32c ((b ++ toLe 4 (crc32c b).toNat).take 252) = BitVec.ofNat 32 (leNat ((b ++ toLe 4 (crc32c b).toNat).drop 252)) := by
  rw [← h, List.take_left, List.drop_left]
  apply BitVec.eq_of_toNat_eq
  simp only [toLe, leNat, BitVec.toNat_ofNat]
  have := (crc32c b).isLt
  omega
theorem tClockId : clockIdentity + 1 ≠ clockIdentity := by
  intro h
  have := congrArg (fun x => x - clockIdentity) h
  simp at this
def tAsked (r : SbRequest) : State := tUp.onUnit 0 fun u => { u with sbOut := some r, sbQueue := [] }

theorem test_hypotheses_of_StepRunsTheFrontCommand :
    ∃ (s : State) (c : Instr) (rest : List Instr), s.pending = c :: rest := by
  exact
    let c : Instr := .flip
    let rest : List Instr := []
    let s : State := tUp
    let s : State := { s with pending := [.flip] }
    ⟨s, c, rest, by decide +kernel⟩

theorem test_hypotheses_of_IdleStepIsOneReferenceCycle :
    (∃ (s : State), s.pending = []) ∧
    (∃ s : State, s.pending = [] ∧ s.power.inReset = true) ∧
    (∃ s : State, s.pending = [] ∧ s.power.inReset = false ∧ s.net.ptp.rateAdj = 0 ∧ s.raster.clockRest = 0 ∧ (Clk.ofUnits
      (Clk.units s.raster.clock + 1310720)).sec = s.raster.clock.sec) := by
  refine ⟨?_, ?_, ?_⟩
  · exact
      let s : State := tUp
      ⟨s, by decide +kernel⟩
  · exact
      ⟨State.reset, by decide +kernel⟩
  · exact
      let s : State := { tUp with raster.clock := { sec := 4, ns := 999999979, frac := 65535 } }
      ⟨s, by decide +kernel⟩

theorem test_hypotheses_of_EveryCommandAnswersAndKeepsTheQueue :
    ∃ (i : Instr) (k : Cmd) (c : Call), commandOf i = some (k, c) := by
  exact
    ⟨.sysEcho (tCall []), cmdSysEcho, tCall [], rfl⟩

theorem test_hypotheses_of_ResetValues :
    ∃ (u : _), u ≠ 0x0100 ∧ u ≠ 0x0101 := by
  exact
    let u := 0
    ⟨u, by decide +kernel⟩

theorem test_hypotheses_of_RefusedCommandChangesNothing :
    (∃ (i : Instr) (k : Cmd) (c : Call) (s : State) (st p ty : Nat), commandOf i = some (k, c) ∧ Refuses k c st p ty s) ∧ (∃
      (i : Instr) (k : Cmd) (c : Call) (s : State) (st p ty : Nat), commandOf i = some (k, c) ∧ ∃ gs, Accepts k c gs s ∧ k.run c
      gs s = .err st p ty) := by
  exact
    ⟨⟨.sysEcho (tCall []), cmdSysEcho, tCall [], tUp, 3, 0, 1, rfl, tRef (by decide +kernel)⟩, ⟨.recVolumeInfo (tCall []),
      cmdRecVolumeInfo, tCall [], tUp, 6400, 0, 0, rfl, tGot cmdRecVolumeInfo (tCall []) tUp, tAcc (by decide +kernel), rfl⟩⟩

theorem test_hypotheses_of_AcceptedCommandReplies :
    ∃ (k : Cmd) (c : Call) (gs : List Got) (items : List Item) (s : State), c.mb < s.control.mailboxes.length ∧ (payloadBytes
      items).length ≤ payloadLimit c.major := by
  exact
    let k : Cmd := cmdSysEcho
    let c : Call := tCall []
    let gs : List Got := []
    let items : List Item := []
    let s : State := tUp
    ⟨k, c, gs, items, s, by decide +kernel⟩

theorem test_hypotheses_of_ReplyTooLargeForItsMessage :
    (∃ (c : Call) (items : List Item) (s : State) (it : Item), c.mb < s.control.mailboxes.length ∧ payloadLimit c.major <
      (payloadBytes items).length ∧ (effItems c s).1.find? (fun x => x.ty == 0xC004) = some it ∧ c.major = 3) ∧ (∃ (c : Call)
      (items : List Item) (s : State), c.mb < s.control.mailboxes.length ∧ payloadLimit c.major < (payloadBytes items).length ∧
      ((effItems c s).1.find? (fun x => x.ty == 0xC004) = none ∨ c.major ≠ 3)) := by
  exact
    ⟨⟨tCall [tItem 0xC004 4 1], [{ ty := 1, val := List.replicate 70000 0 }], tUp, tItem 0xC004 4 1, by decide +kernel, tBig,
      by decide +kernel, rfl⟩, ⟨tCall [], [{ ty := 1, val := List.replicate 70000 0 }], tUp, by decide +kernel, tBig, by
      decide +kernel⟩⟩

theorem test_hypotheses_of_SessionGatesCommands :
    (∃ (i : Instr) (k : Cmd) (c : Call) (s : State) (m : Mailbox), commandOf i = some (k, c) ∧ s.control.mailboxes[c.mb]? =
      some m ∧ s.ready = false) ∧ (∃ (i : Instr) (k : Cmd) (c : Call) (s : State) (m : Mailbox), commandOf i = some (k, c) ∧
      s.control.mailboxes[c.mb]? = some m ∧ s.ready = true ∧ m.waiting = none ∧ m.queue = [] ∧ k.op ≠ 0 ∧ m.session =
      .unnegotiated ∧ c.major = 3) ∧ (∃ (i : Instr) (k : Cmd) (c : Call) (s : State) (m : Mailbox), commandOf i = some (k, c) ∧
      s.control.mailboxes[c.mb]? = some m ∧ s.ready = true ∧ m.waiting = none ∧ m.queue = [] ∧ k.op ≠ 0 ∧ m.session = .v3 ∧
      c.major = 2) ∧ (∃ (i : Instr) (k : Cmd) (c : Call) (s : State) (m : Mailbox), commandOf i = some (k, c) ∧
      s.control.mailboxes[c.mb]? = some m ∧ s.ready = true ∧ m.waiting.isSome = true) := by
  exact
    let c := tCall []
    let m : Mailbox := { session := .v3, path := some .pcie }
    let w : Mailbox := { m with waiting := some { op := 1, call := c, why := .rollCall } }
    let with_ (m : Mailbox) : State := { tUp with control.mailboxes := [m] }
    ⟨⟨.sysEcho c, cmdSysEcho, c, State.reset, {}, rfl, by decide +kernel, by decide +kernel⟩, ⟨.sysEcho c, cmdSysEcho, c,
      with_ {}, {}, rfl, by decide +kernel⟩, ⟨.sysEcho { c with major := 2 }, cmdSysEcho, { c with major := 2 }, with_ m, m,
      rfl, by decide +kernel⟩, ⟨.sysEcho c, cmdSysEcho, c, with_ w, w, rfl, by decide +kernel⟩⟩

theorem test_hypotheses_of_SparseMemoryReadsBackWhatWasWritten :
    ∃ (m : Mem) (a : Nat) (b : Nat) (bs : List Byte), m.wf = true := by
  exact
    let m : Mem := []
    let a : Nat := 0
    let b : Nat := 0
    let bs : List Byte := [1]
    ⟨m, a, b, bs, by decide +kernel⟩

theorem test_hypotheses_of_QuietStateHasNoConsequences :
    ∃ (q : List Instr) (s : State), s.quiet = true := by
  exact
    let q : List Instr := []
    let s : State := State.reset
    ⟨q, s, by decide +kernel⟩

theorem test_hypotheses_of_RasterSourceEvents :
    (∃ (s : State) (e : Bool), s.syncsExpected = true) ∧
    (∃ (s : State), s.syncsExpected = true ∧ s.raster.lastOutlier = true) ∧
    (∃ (s : State), s.syncsExpected = true ∧ s.raster.noWindow = 2) ∧
    (∃ (s : State), s.raster.inUse = 0) ∧
    (∃ (s : State) (m : Reeval), s.raster.mode = .acquire ∧ s.raster.inUse = 1 ∧ m.syncsFound = false) ∧
    (∃ (s : State) (m : Reeval), s.raster.mode = .acquire ∧ s.raster.inUse = 1 ∧ m.syncsFound = true ∧ m.rateInRange = true) ∧
    (∃ (s : State), s.raster.mode = .holdover ∧ s.raster.src.holdFrames ≠ 0 ∧ s.raster.src.holdFrames ≤ s.raster.holdRun ∧
      s.raster.src.fallback ≠ 255 ∧ s.raster.src.fallback ≠ s.raster.inUse) ∧
    (∃ (s : State), s.raster.inUse = 5) ∧
    (∃ (s : State), s.raster.mode = .holdover ∧ s.raster.inUse = 1) ∧
    (∃ (s : State) (line : Nat) (phase : Nat), s.raster.running = true ∧ line < s.raster.cfg.force.totalLines ∧ phase < 256 ∧
      posBefore (s.raster.line, s.raster.phase) (line, phase) = true ∧ ¬(line = 0 ∧ phase = 0) ∧ s.nextPos (line, phase) = none) ∧
    (∃ (s : State) (line : Nat) (phase : Nat), s.raster.running = false) ∧
    (∃ (s : State) (tc : Timecode) (user : Word), s.raster.tc.force.source = 0 ∧ s.raster.tc.force.ltcMode ≠ 0) ∧
    (∃ (s : State) (m : Nat), s.raster.tc.force.source = 1 ∧ s.raster.tc.force.tc1001 = 1 ∧ tcRatio s.raster.tc.force
      s.raster.cfg.force = some m) := by
  refine ⟨?_, ?_, ?_, ?_, ?_, ?_, ?_, ?_, ?_, ?_, ?_, ?_, ?_⟩
  · exact
      let e : Bool := false
      let s : State := tUp
      let s : State := s.onRaster fun r => { r with inUse := 1, mode := .locked }
      ⟨s, e, by decide +kernel⟩
  · exact
      let s : State := tUp
      let s : State := s.onRaster fun r => { r with inUse := 1, mode := .locked }
      let s : State := { s with raster.lastOutlier := true }
      ⟨s, by decide +kernel⟩
  · exact
      let s : State := tUp
      let s : State := s.onRaster fun r => { r with inUse := 1, mode := .locked }
      let s : State := { s with raster.noWindow := 2 }
      ⟨s, by decide +kernel⟩
  · exact
      let s : State := tUp
      let s : State := { s with raster.inUse := 0 }
      ⟨s, by decide +kernel⟩
  · exact
      let m : Reeval := { (tReeval : Reeval) with syncsFound := false }
      let s : State := tUp
      let s : State := { s with raster.mode := .acquire }
      let s : State := { s with raster.inUse := 1 }
      ⟨s, m, by decide +kernel⟩
  · exact
      let m : Reeval := { ({ (tReeval : Reeval) with syncsFound := true } : Reeval) with rateInRange := true }
      let s : State := tUp
      let s : State := { s with raster.mode := .acquire }
      let s : State := { s with raster.inUse := 1 }
      ⟨s, m, by decide +kernel⟩
  · exact
      let s : State := tUp
      let s : State := s.onRaster fun r => { r with holdRun := 5, src := { r.src with holdFrames := 5, fallback := 0 }, inUse := 1 }
      let s : State := { s with raster.mode := .holdover }
      ⟨s, by decide +kernel⟩
  · exact
      let s : State := tUp
      let s : State := { s with raster.inUse := 5 }
      ⟨s, by decide +kernel⟩
  · exact
      let s : State := tUp
      let s : State := { s with raster.mode := .holdover }
      let s : State := { s with raster.inUse := 1 }
      ⟨s, by decide +kernel⟩
  · exact
      let line : Nat := 1
      let phase : Nat := 255
      let s : State := tUp
      let s : State := { s with raster.running := true }
      ⟨s, line, phase, by decide +kernel⟩
  · exact
      let line : Nat := 0
      let phase : Nat := 0
      let s : State := tUp
      let s : State := { s with raster.running := false }
      ⟨s, line, phase, by decide +kernel⟩
  · exact
      let tc : Timecode := tTc
      let user : Word := 0
      let s : State := tUp
      let s : State := { s with raster.tc.force.ltcMode := 1 }
      let s : State := { s with raster.tc.force.source := 0 }
      ⟨s, tc, user, by decide +kernel⟩
  · exact
      let m : Nat := 1
      let s : State := tUp
      let s : State := { s with raster.tc.force.base := 24, raster.cfg.force.rateNum := 24000, raster.cfg.force.rateDen := 1001 }
      let s : State := { s with raster.tc.force.source := 1 }
      let s : State := { s with raster.tc.force.tc1001 := 1 }
      ⟨s, m, by decide +kernel⟩

theorem test_hypotheses_of_NewFrameTakesItsNumberAndCommits :
    (∃ (s : State), s.raster.inUse < 4) ∧
    (∃ s : State, s.raster.inUse < 4 ∧ (∀ p, s.raster.preset = some p → p.1 ≠ s.raster.frame + 1) ∧ s.raster.held = none) ∧
    (∃ (s : State) (n : Frame), s.raster.inUse < 4 ∧ s.raster.preset = some (s.raster.frame + 1, n)) := by
  refine ⟨?_, ?_, ?_⟩
  · exact
      let s : State := tUp
      ⟨s, by decide +kernel⟩
  · exact
      let s : State := { tUp with raster.inUse := 3, raster.preset := some (2, 9) }
      ⟨s, by decide +kernel, fun p h => by cases h; decide +kernel, by decide +kernel⟩
  · exact
      let s : State := { tUp with raster.frame := 0xFFFFFFFF, raster.preset := some (0, 9) }
      ⟨s, 9, by decide +kernel⟩

theorem test_hypotheses_of_RasterCommands :
    (∃ (c : Call) (gs : List Got) (s : State), Accepts cmdRasConfigSet c gs s ∧ gs.any (fun g => decide (g.ty ≤ 4)) = true ∧
      s.judgeRas gs (putFields 1 rasConfigFlds gs s.raster.cfg).shadow = none ∧ has gs 5 = false) ∧
    (∃ (c : Call) (gs : List Got) (s : State), Accepts cmdRasConfigSet c gs s ∧ gs.any (fun g => decide (g.ty ≤ 4)) = true ∧
      s.judgeRas gs (putFields 1 rasConfigFlds gs s.raster.cfg).shadow = none ∧ has gs 5 = true) ∧
    (∃ (c : Call) (gs : List Got) (s : State), Accepts cmdRasConfigGet c gs s) ∧
    (∃ (c : Call) (gs : List Got) (s : State), Accepts cmdRasSourceSet c gs s ∧ gotN? gs 1 = some 0 ∧ s.raster.inUse ≠ 0) ∧
    (∃ (c : Call) (gs : List Got) (s : State), Accepts cmdRasStatusGet c gs s) ∧
    (∃ (c : Call) (gs : List Got) (s : State), Accepts cmdRasFramePreset c gs s) ∧
    (∃ (c : Call) (gs : List Got) (s : State), Accepts cmdRasClockSet c gs s) ∧
    (∃ (c : Call) (gs : List Got) (s : State), Accepts cmdRasCountersClear c gs s) ∧
    (∃ (c : Call) (gs : List Got) (s : State) (p : _), Accepts cmdTtPeriodSet c gs s ∧ writesAbove 2 gs = true ∧ p =
      (putFields 2 periodFlds gs (s.raster.periods.getD (gotN gs 1) {}).cfg).shadow ∧ (p.selector ≠ 1 ∨ p.frameValue < p.n) ∧
      argFits p.action p.arg = true) ∧
    (∃ (c : Call) (gs : List Got) (s : State), Accepts cmdTtPeriodGet c gs s) ∧
    (∃ (c : Call) (gs : List Got) (s : State) (i : _), Accepts cmdTtPeriodClear c gs s ∧ gotNs gs 1 = [i]) ∧
    (∃ (c : Call) (gs : List Got) (s : State) (n : _), Accepts cmdTcConfigSet c gs s ∧ n = (putFields 1 tcConfigFlds gs
      s.raster.tc).shadow ∧ (n.drop = 0 ∨ (n.base = 30 ∧ n.tc1001 = 1)) ∧ (tcRatio n s.raster.cfg.shadow).isSome = true) ∧
    (∃ (c : Call) (gs : List Got) (s : State) (t : _), Accepts cmdTcPreset c gs s ∧ tcRead (gotB gs 2) = some t) ∧
    (∃ (c : Call) (gs : List Got) (s : State), Accepts cmdTcGet c gs s) := by
  refine ⟨?_, ?_, ?_, ?_, ?_, ?_, ?_, ?_, ?_, ?_, ?_, ?_, ?_, ?_⟩
  · exact
      let c : Call := tCall [tItem 4 4 1080]
      let s : State := tUp
      let gs : List Got := tGot cmdRasConfigSet c s
      ⟨c, gs, s, tAcc (by decide +kernel), by decide +kernel⟩
  · exact
      let c : Call := tCall [tItem 4 4 1080, tItem 5 4 5]
      let s : State := tUp
      let gs : List Got := tGot cmdRasConfigSet c s
      ⟨c, gs, s, tAcc (by decide +kernel), by decide +kernel⟩
  · exact
      let c : Call := tCall []
      let s : State := tUp
      let gs : List Got := tGot cmdRasConfigGet c s
      ⟨c, gs, s, tAcc (by decide +kernel)⟩
  · exact
      let c : Call := tCall [tItem 1 1 0]
      let s : State := tUp
      let s : State := s.onRaster fun r => { r with inUse := 1 }
      let gs : List Got := tGot cmdRasSourceSet c s
      ⟨c, gs, s, tAcc (by decide +kernel), by decide +kernel⟩
  · exact
      let c : Call := tCall []
      let s : State := tUp
      let gs : List Got := tGot cmdRasStatusGet c s
      ⟨c, gs, s, tAcc (by decide +kernel)⟩
  · exact
      let c : Call := tCall [tItem 1 4 1, tItem 2 4 0]
      let s : State := tUp
      let gs : List Got := tGot cmdRasFramePreset c s
      ⟨c, gs, s, tAcc (by decide +kernel)⟩
  · exact
      let c : Call := tCall [tItem 1 12 0]
      let s : State := tUp
      let gs : List Got := tGot cmdRasClockSet c s
      ⟨c, gs, s, tAcc (by decide +kernel)⟩
  · exact
      let c : Call := tCall [tItem 1 4 0]
      let s : State := tUp
      let gs : List Got := tGot cmdRasCountersClear c s
      ⟨c, gs, s, tAcc (by decide +kernel)⟩
  · exact
      let c : Call := tCall [tItem 1 4 0, tItem 3 1 0]
      let s : State := tUp
      let gs : List Got := tGot cmdTtPeriodSet c s
      let p := (putFields 2 periodFlds gs (s.raster.periods.getD (gotN gs 1) {}).cfg).shadow
      ⟨c, gs, s, p, tAcc (by decide +kernel), by decide +kernel, rfl, by decide +kernel⟩
  · exact
      let c : Call := tCall [tItem 1 4 0]
      let s : State := tUp
      let gs : List Got := tGot cmdTtPeriodGet c s
      ⟨c, gs, s, tAcc (by decide +kernel)⟩
  · exact
      let c : Call := tCall [tItem 1 4 0]
      let s : State := tUp
      let gs : List Got := tGot cmdTtPeriodClear c s
      let i := List.head (gotNs gs 1) (by decide +kernel)
      ⟨c, gs, s, i, tAcc (by decide +kernel), by decide +kernel⟩
  · exact
      let c : Call := tCall []
      let s : State := tUp
      let gs : List Got := tGot cmdTcConfigSet c s
      let n := (putFields 1 tcConfigFlds gs s.raster.tc).shadow
      ⟨c, gs, s, n, tAcc (by decide +kernel), rfl, by decide +kernel⟩
  · exact
      let c : Call := tCall [tItem 1 4 1, tItem 2 4 0]
      let s : State := tUp
      let gs : List Got := tGot cmdTcPreset c s
      let t := Option.get (tcRead (gotB gs 2)) (by decide +kernel)
      ⟨c, gs, s, t, tAcc (by decide +kernel), (Option.some_get _).symm⟩
  · exact
      let c : Call := tCall []
      let s : State := tUp
      let gs : List Got := tGot cmdTcGet c s
      ⟨c, gs, s, tAcc (by decide +kernel)⟩

theorem test_hypotheses_of_RegisterPathsAndControlPort :
    (∃ (s : State) (p : Path) (a : Word) (v : Word), s.ready = false ∧ 0x10000 ≤ a.toNat) ∧
    (∃ (s : State) (b : Blk) (v : Word), blkIndex b < s.control.wides.length) ∧
    (∃ (s : State) (b : Blk) (w : Wide), s.control.wides[blkIndex b]? = some w ∧ w.valid = false) := by
  refine ⟨?_, ?_, ?_⟩
  · exact
      let p : Path := .pcie
      let a : Word := 0x10000
      let v : Word := 0
      let s : State := tUp
      let s : State := { s with control.stage := 1 }
      ⟨s, p, a, v, by decide +kernel⟩
  · exact
      let b : Blk := .ras
      let v : Word := 0
      let s : State := tUp
      ⟨s, b, v, by decide +kernel⟩
  · exact
      let b : Blk := .ras
      let s : State := tUp
      let w : Wide := Option.get (s.control.wides[blkIndex b]?) (by decide +kernel)
      ⟨s, b, w, (Option.some_get _).symm, by decide +kernel⟩

theorem test_hypotheses_of_MailboxFillsAndSessions :
    (∃ (s : State) (p : Path) (n : Nat) (v : Word) (m : Mailbox), n < 8 ∧ s.ready = true ∧ s.control.mailboxes[n]? = some m ∧
      m.foreign p = false ∧ m.inEmpty = true ∧ 0 < v.toNat % 8192 ∧ v.toNat % 8192 ≤ 4096 ∧ (v.getLsbD 13 = true ∨ v.toNat %
      8192 = 4096)) ∧
    (∃ (s : State) (p : Path) (n : Nat) (v : Word) (m : Mailbox), n < 8 ∧ s.control.mailboxes[n]? = some m ∧ (s.ready = false
      ∨ m.foreign p = true ∨ m.inEmpty = false ∨ v.toNat % 8192 = 0 ∨ 4096 < v.toNat % 8192 ∨ (v.getLsbD 13 = false ∧ v.toNat %
      8192 ≠ 4096))) ∧
    (∃ (s : State) (n : Nat) (m : Mailbox), n < 8 ∧ s.ready = true ∧ s.control.mailboxes[n]? = some m ∧ m.inEmpty = false ∧
      m.bellLast = false) ∧
    (∃ (s : State) (p : Path) (n : Nat) (m : Mailbox), n < 8 ∧ s.ready = true ∧ s.control.mailboxes[n]? = some m ∧ m.foreign p
      = false ∧ m.resetOnAck = false) ∧
    (∃ (s : State) (p : Path) (n : Nat) (m : Mailbox), n < 8 ∧ s.ready = true ∧ s.control.mailboxes[n]? = some m ∧ m.foreign p
      = false) ∧
    (∃ (s : State) (n : Nat) (m : Mailbox) (q : Post) (rest : List Post), n < 8 ∧ s.ready = true ∧ s.control.mailboxes[n]? =
      some m ∧ m.outFull = false ∧ m.sending = [] ∧ m.posts = q :: rest ∧ q.bytes.length ≤ 4096 ∧ m.lost = 0) ∧
    (∃ (s : State) (v : Nat), v < 9 ∧ s.control.msix.functionMask = false ∧ s.control.msix.masks.length = 9 ∧
      s.control.msix.pending = (List.range 9).map (· == v)) := by
  refine ⟨?_, ?_, ?_, ?_, ?_, ?_, ?_⟩
  · exact
      let p : Path := .pcie
      let n : Nat := 0
      let v : Word := 0x2004
      let s : State := tUp
      let m : Mailbox := Option.get (s.control.mailboxes[n]?) (by decide +kernel)
      ⟨s, p, n, v, m, by decide +kernel, by decide +kernel, (Option.some_get _).symm, by decide +kernel⟩
  · exact
      let p : Path := .pcie
      let n : Nat := 0
      let v : Word := 0
      let s : State := tUp
      let m : Mailbox := Option.get (s.control.mailboxes[n]?) (by decide +kernel)
      ⟨s, p, n, v, m, by decide +kernel, (Option.some_get _).symm, by decide +kernel⟩
  · exact
      let n : Nat := 0
      let s : State := tUp
      let s : State := s.onMbx 0 fun m => { m with inEmpty := false, bellLast := false }
      let m : Mailbox := Option.get (s.control.mailboxes[n]?) (by decide +kernel)
      ⟨s, n, m, by decide +kernel, by decide +kernel, (Option.some_get _).symm, by decide +kernel⟩
  · exact
      let p : Path := .pcie
      let n : Nat := 0
      let s : State := tUp
      let m : Mailbox := Option.get (s.control.mailboxes[n]?) (by decide +kernel)
      ⟨s, p, n, m, by decide +kernel, by decide +kernel, (Option.some_get _).symm, by decide +kernel⟩
  · exact
      let p : Path := .pcie
      let n : Nat := 0
      let s : State := tUp
      let m : Mailbox := Option.get (s.control.mailboxes[n]?) (by decide +kernel)
      ⟨s, p, n, m, by decide +kernel, by decide +kernel, (Option.some_get _).symm, by decide +kernel⟩
  · exact
      let n : Nat := 0
      let m : Mailbox := { session := .v3, path := some .pcie, posts := [tPost] }
      let q : Post := tPost
      let rest : List Post := []
      let s : State := tUp
      let s : State := s.onMbx 0 fun m => { m with posts := [tPost] }
      ⟨s, n, m, q, rest, by decide +kernel⟩
  · exact
      let v : Nat := 8
      let s : State := tUp
      let s : State := { s with control.msix.pending := (List.range 9).map (· == 8) }
      let s : State := { s with control.msix.functionMask := false }
      ⟨s, v, by decide +kernel⟩

theorem test_hypotheses_of_SystemCommands :
    (∃ (c : Call) (gs : List Got) (s : State) (v : _), Accepts cmdHello c gs s ∧ chosenVersion (gotNs gs 1) = some v) ∧
    (∃ (c : Call) (gs : List Got) (s : State), Accepts cmdHello c gs s ∧ chosenVersion (gotNs gs 1) = none) ∧
    (∃ (c : Call) (gs : List Got) (s : State), Accepts cmdSysInfoGet c gs s) ∧
    (∃ (c : Call) (gs : List Got) (s : State) (m : _) (v : _), Accepts cmdSysNoticeSubscribe c gs s ∧
      s.control.mailboxes[c.mb]? = some m ∧ gotN? gs 1 = some v) ∧
    (∃ (c : Call) (gs : List Got) (s : State), Accepts cmdSysGroupBind c gs s) ∧
    (∃ (c : Call) (gs : List Got) (s : State) (f : _), Accepts cmdSysGroupStatus c gs s ∧ (s.control.groups.getD (gotN gs 1)
      {}).lastFrame = some f) ∧
    (∃ (c : Call) (gs : List Got) (s : State), Accepts cmdSysCommit c gs s) ∧
    (∃ (c : Call) (gs : List Got) (s : State), Accepts cmdSysReset c gs s ∧ gotN gs 1 = 0) ∧
    (∃ (c : Call) (gs : List Got) (s : State), Accepts cmdSysReset c gs s ∧ gotN gs 1 = 1) ∧
    (∃ (s : State), s.control.resetAsked = true) ∧
    (∃ (c : Call) (gs : List Got) (s : State), Accepts cmdSysEcho c gs s) := by
  refine ⟨?_, ?_, ?_, ?_, ?_, ?_, ?_, ?_, ?_, ?_, ?_⟩
  · exact
      let c : Call := tCall [tItem 1 2 768]
      let s : State := tUp
      let gs : List Got := tGot cmdHello c s
      let v := Option.get (chosenVersion (gotNs gs 1)) (by decide +kernel)
      ⟨c, gs, s, v, tAcc (by decide +kernel), (Option.some_get _).symm⟩
  · exact
      let c : Call := tCall [tItem 1 4 0]
      let s : State := tUp
      let gs : List Got := tGot cmdHello c s
      ⟨c, gs, s, tAcc (by decide +kernel), by decide +kernel⟩
  · exact
      let c : Call := tCall []
      let s : State := tUp
      let gs : List Got := tGot cmdSysInfoGet c s
      ⟨c, gs, s, tAcc (by decide +kernel)⟩
  · exact
      let c : Call := tCall [tItem 1 4 1]
      let s : State := tUp
      let gs : List Got := tGot cmdSysNoticeSubscribe c s
      let m := Option.get (s.control.mailboxes[c.mb]?) (by decide +kernel)
      let v := Option.get (gotN? gs 1) (by decide +kernel)
      ⟨c, gs, s, m, v, tAcc (by decide +kernel), (Option.some_get _).symm, (Option.some_get _).symm⟩
  · exact
      let c : Call := tCall [tItem 1 4 1024, tItem 2 4 2]
      let s : State := tUp
      let gs : List Got := tGot cmdSysGroupBind c s
      ⟨c, gs, s, tAcc (by decide +kernel)⟩
  · exact
      let c : Call := tCall [tItem 1 1 0]
      let s : State := tUp
      let s : State := { s with control.groups := [{ lastFrame := some 3 }] }
      let gs : List Got := tGot cmdSysGroupStatus c s
      let f := Option.get ((s.control.groups.getD (gotN gs 1) {}).lastFrame) (by decide +kernel)
      ⟨c, gs, s, f, tAcc (by decide +kernel), (Option.some_get _).symm⟩
  · exact
      let c : Call := tCall [tItem 1 4 2]
      let s : State := tUp
      let gs : List Got := tGot cmdSysCommit c s
      ⟨c, gs, s, tAcc (by decide +kernel)⟩
  · exact
      let c : Call := tCall [tItem 1 4 0]
      let s : State := tUp
      let gs : List Got := tGot cmdSysReset c s
      ⟨c, gs, s, tAcc (by decide +kernel), by decide +kernel⟩
  · exact
      let c : Call := tCall [tItem 1 1 1]
      let s : State := tUp
      let gs : List Got := tGot cmdSysReset c s
      ⟨c, gs, s, tAcc (by decide +kernel), by decide +kernel⟩
  · exact
      let s : State := tUp
      let s : State := { s with control.resetAsked := true }
      ⟨s, by decide +kernel⟩
  · exact
      let c : Call := tCall [tItem 1 0 0]
      let s : State := tUp
      let gs : List Got := tGot cmdSysEcho c s
      ⟨c, gs, s, tAcc (by decide +kernel)⟩

theorem test_hypotheses_of_LaneTrainingEvents :
    (∃ (s : State) (ln : Nat), (s.lane ln).phase = .detect ∧ transmits ln = true) ∧
    (∃ (s : State) (ln : Nat), (s.lane ln).phase = .detect ∧ 64 ≤ ln ∧ transmits ln = true) ∧
    (∃ (s : State) (ln : Nat) (t : Taps), (s.lane ln).phase = .detect ∧ ln < 64 ∧ (s.unit (s.portOf ln)).portState ≠ 4 ∧ t =
      (let g := (s.lanePort (s.portOf ln)).cfg; if g.tapMode = 1 then ⟨g.fixedPre, g.fixedMain, g.fixedPost⟩ else ⟨0, 63, 0⟩)) ∧
    (∃ (s : State) (ln : Nat) (sy : List Byte), sy.length = 16 ∧ (crc16 ((sy.drop 1).take 13)).toNat ≠ (sy.getD 14 0).toNat *
      256 + (sy.getD 15 0).toNat) ∧
    (∃ (s : State) (ln : Nat) (sy : List Byte) (r : Search) (b : Bool), ln < 64 ∧ sy.length = 16 ∧ (sy.getD 0 0).toNat = 0xBC
      ∧ (crc16 ((sy.drop 1).take 13)).toNat = (sy.getD 14 0).toNat * 256 + (sy.getD 15 0).toNat ∧ (sy.getD 3 0).toNat.testBit 1
      = false ∧ r.cur = ⟨(sy.getD 7 0).toNat % 64, (sy.getD 8 0).toNat % 64, (sy.getD 9 0).toNat % 64⟩ ∧ ln <
      s.lanes.lanes.length ∧ (s.lane ln).phase = .train ∧ (s.lane ln).search = some r ∧ r.step = .asked b) ∧
    (∃ (s : State) (ln : Nat) (r : Search), (s.lane ln).phase = .train ∧ (s.lane ln).search = some r ∧ r.step = .asked false) ∧
    (∃ (s : State) (ln : Nat) (n : Nat) (r : Search), (s.lane ln).phase = .train ∧ (s.lane ln).search = some r ∧ r.step =
      .finalMeasuring) ∧
    (∃ (s : State) (ln : Nat) (r : Search), (s.lane ln).phase = .train ∧ (s.lane ln).search = some r ∧ r.step = .prbs ∧
      (s.lanePort (s.portOf ln)).cfg.fomMin ≤ (s.lane ln).fom ∧ ln < s.lanes.lanes.length) ∧
    (∃ (s : State) (ln : Nat) (n : Nat), (s.lane ln).phase = .loop ∧ (s.lanePort (s.portOf ln)).cfg.loopMode = 1) := by
  refine ⟨?_, ?_, ?_, ?_, ?_, ?_, ?_, ?_, ?_⟩
  · exact
      let ln : Nat := 64
      let s : State := tUp
      let s : State := s.onLane ln fun zz => { zz with phase := .detect }
      ⟨s, ln, by decide +kernel⟩
  · exact
      let ln : Nat := 64
      let s : State := tUp
      let s : State := s.onLane ln fun zz => { zz with phase := .detect }
      ⟨s, ln, by decide +kernel⟩
  · exact
      let ln : Nat := 0
      let s : State := tUp
      let s : State := s.onLane ln fun zz => { zz with phase := .detect }
      let t : Taps := (let g := (s.lanePort (s.portOf ln)).cfg; if g.tapMode = 1 then ⟨g.fixedPre, g.fixedMain, g.fixedPost⟩ else ⟨0, 63, 0⟩)
      ⟨s, ln, t, by decide +kernel, by decide +kernel, by decide +kernel, rfl⟩
  · exact
      let ln : Nat := 0
      let sy : List Byte := List.replicate 15 0 ++ [1]
      let s : State := tUp
      ⟨s, ln, sy, by decide +kernel⟩
  · exact
      let ln : Nat := 0
      let sy : List Byte := tTraining
      let r : Search := { tSearch with cur := ⟨0, 63, 0⟩, step := .asked false }
      let b : Bool := false
      let s : State := tUp
      let s : State := s.onLane ln fun zz => { zz with phase := .train }
      let s : State := s.onLane ln fun zz => { zz with search := some r }
      ⟨s, ln, sy, r, b, by decide +kernel⟩
  · exact
      let ln : Nat := 0
      let r : Search := { (tSearch : Search) with step := .asked false }
      let s : State := tUp
      let s : State := s.onLane ln fun zz => { zz with phase := .train }
      let s : State := s.onLane ln fun zz => { zz with search := some r }
      ⟨s, ln, r, by decide +kernel⟩
  · exact
      let ln : Nat := 0
      let n : Nat := 0
      let r : Search := { (tSearch : Search) with step := .finalMeasuring }
      let s : State := tUp
      let s : State := s.onLane ln fun zz => { zz with phase := .train }
      let s : State := s.onLane ln fun zz => { zz with search := some r }
      ⟨s, ln, n, r, by decide +kernel⟩
  · exact
      let ln : Nat := 0
      let r : Search := { tSearch with step := .prbs }
      let s : State := tUp
      let s : State := s.onLane 0 fun l => { l with fom := 255 }
      let s : State := s.onLane ln fun zz => { zz with phase := .train }
      let s : State := s.onLane ln fun zz => { zz with search := some r }
      ⟨s, ln, r, by decide +kernel⟩
  · exact
      let ln : Nat := 0
      let n : Nat := 0
      let s : State := tUp
      let s : State := s.onLane ln fun zz => { zz with phase := .loop }
      let s : State := s.onLanePort (s.portOf ln) fun zz => { zz with cfg.loopMode := 1 }
      ⟨s, ln, n, by decide +kernel⟩

theorem test_hypotheses_of_LaneStateEvents :
    (∃ (s : State) (ln : Nat) (k : Nat), ln < s.lanes.lanes.length ∧ (s.lane ln).phase = .lock ∧ (s.lane ln).role ≠ 1 ∧ k ≤
      64) ∧
    (∃ (s : State) (ln : Nat) (k : Nat), ln < s.lanes.lanes.length ∧ (s.lane ln).phase = .lock ∧ (s.lane ln).role ≠ 1 ∧ 64 <
      k) ∧
    (∃ (s : State) (ln : Nat), ln < s.lanes.lanes.length ∧ (s.lane ln).phase = .train ∧ (s.lane ln).role ≠ 1) ∧
    (∃ (s : State) (ln : Nat), ln < s.lanes.lanes.length ∧ (s.lane ln).phase = .lock ∧ (s.lane ln).role ≠ 1) ∧
    (∃ (s : State) (ln : Nat), (s.lane ln).phase = .failed ∧ (s.lane ln).fails < 3) ∧
    (∃ (s : State) (ln : Nat) (n : Nat), n < (s.lanePort (s.portOf ln)).cfg.errLimit) ∧
    (∃ (s : State) (ln : Nat) (n : Nat), (s.lane ln).phase = .active) ∧
    (∃ (s : State) (ln : Nat) (n : Nat), ln < s.lanes.lanes.length ∧ (s.lane ln).phase = .retrain ∧ (s.lanePort (s.portOf
      ln)).cfg.fomMin ≤ min 255 (n / 16)) ∧
    (∃ (s : State) (p : Nat), (s.lanePort p).takeovers = []) ∧
    (∃ (s : State) (p : Nat) (a : Nat) (b : Nat), a ≠ b ∧ a < s.lanes.lanes.length ∧ b < s.lanes.lanes.length ∧ p <
      s.lanes.ports.length ∧ (s.lanePort p).takeovers = [(a, b)]) ∧
    (∃ (s : State) (ln : Nat), 64 ≤ ln ∧ (s.lane ln).phase ≠ .disabled ∧ (s.lane ln).phase ≠ .loop) ∧
    (∃ (s : State) (ln : Nat), (s.lane ln).phase = .standby) ∧
    (∃ (s : State) (ln : Nat), (s.lane ln).phase ≠ .active ∧ (s.lane ln).phase ≠ .standby) := by
  refine ⟨?_, ?_, ?_, ?_, ?_, ?_, ?_, ?_, ?_, ?_, ?_, ?_, ?_⟩
  · exact
      let ln : Nat := 0
      let k : Nat := 0
      let s : State := tUp
      let s : State := s.onLane ln fun zz => { zz with phase := .lock }
      ⟨s, ln, k, by decide +kernel⟩
  · exact
      let ln : Nat := 0
      let k : Nat := 65
      let s : State := tUp
      let s : State := s.onLane ln fun zz => { zz with phase := .lock }
      ⟨s, ln, k, by decide +kernel⟩
  · exact
      let ln : Nat := 0
      let s : State := tUp
      let s : State := s.onLane ln fun zz => { zz with phase := .train }
      ⟨s, ln, by decide +kernel⟩
  · exact
      let ln : Nat := 0
      let s : State := tUp
      let s : State := s.onLane ln fun zz => { zz with phase := .lock }
      ⟨s, ln, by decide +kernel⟩
  · exact
      let ln : Nat := 0
      let s : State := tUp
      let s : State := s.onLane ln fun zz => { zz with phase := .failed }
      ⟨s, ln, by decide +kernel⟩
  · exact
      let ln : Nat := 0
      let n : Nat := 0
      let s : State := tUp
      ⟨s, ln, n, by decide +kernel⟩
  · exact
      let ln : Nat := 0
      let n : Nat := 0
      let s : State := tUp
      let s : State := s.onLane ln fun zz => { zz with phase := .active }
      ⟨s, ln, n, by decide +kernel⟩
  · exact
      let ln : Nat := 0
      let n : Nat := 4096
      let s : State := tUp
      let s : State := s.onLane ln fun zz => { zz with phase := .retrain }
      ⟨s, ln, n, by decide +kernel⟩
  · exact
      let p : Nat := 0
      let s : State := tUp
      let s : State := s.onLanePort p fun zz => { zz with takeovers := [] }
      ⟨s, p, by decide +kernel⟩
  · exact
      let p : Nat := 0
      let a : Nat := 0
      let b : Nat := 1
      let s : State := tUp
      let s : State := s.onLanePort p fun zz => { zz with takeovers := [(a, b)] }
      ⟨s, p, a, b, by decide +kernel⟩
  · exact
      let ln : Nat := 64
      let s : State := tUp
      let s : State := s.onLane 64 fun l => { l with phase := .active }
      ⟨s, ln, by decide +kernel⟩
  · exact
      let ln : Nat := 0
      let s : State := tUp
      let s : State := s.onLane ln fun zz => { zz with phase := .standby }
      ⟨s, ln, by decide +kernel⟩
  · exact
      let ln : Nat := 0
      let s : State := tUp
      ⟨s, ln, by decide +kernel⟩

theorem test_hypotheses_of_IntakeFrameEvents :
    (∃ (s : State) (p : Nat) (lo : Nat), (s.hasPort p = false ∨ (s.unit p).portState ≠ 3)) ∧
    (∃ (s : State) (p : Nat) (lo : Nat), p < 2 ∧ p < s.intake.units.length ∧ s.hasPort p = true ∧ (s.unit p).portState = 3 ∧
      (s.unit p).running = true ∧ (s.unit p).stopping = false ∧ (s.unit p).inFrame = false ∧ (s.unit p).gotFrame = false) ∧
    (∃ (s : State) (p : Nat) (lo : Nat), p < 2 ∧ p < s.intake.units.length ∧ s.hasPort p = true ∧ (s.unit p).portState = 3 ∧
      (s.unit p).running = true ∧ (s.unit p).stopping = false ∧ (s.unit p).inFrame = false ∧ (s.unit p).gotFrame = true) ∧
    (∃ (s : State) (p : Nat) (bs : List Byte) (a : Bool) (b : Bool), (s.unit p).running = false) ∧
    (∃ (s : State) (p : Nat) (bs : List Byte) (f : FrameIn) (x : Row), s.hasPort p = true ∧ (s.unit p).running = true ∧
      (s.unit p).portState = 3 ∧ (s.unit p).flight.find? (fun f => !f.ended) = some f ∧ f.rateDrop = false ∧ f.closed = false ∧
      (readPacket bs).crcGood = true ∧ (readPacket bs).resend = false ∧ (readPacket bs).sensorBad = false ∧ (readPacket
      bs).length = packetLength f.width f.bits ∧ (readPacket bs).frameLo = f.frameLo ∧ (readPacket bs).line < f.lines ∧
      (readPacket bs).exp < f.exposures ∧ f.ended = false ∧ f.row (readPacket bs).line (readPacket bs).exp = some x ∧ x.status =
      .missing ∧ (((f.lastRow.getD (readPacket bs).exp none).map (· + 1)).getD 0) = (readPacket bs).line) ∧
    (∃ (s : State) (p : Nat) (bs : List Byte) (f : FrameIn), s.hasPort p = true ∧ (s.unit p).running = true ∧ (s.unit
      p).portState = 3 ∧ (s.unit p).flight.find? (fun f => !f.ended) = some f ∧ f.rateDrop = false ∧ (readPacket bs).crcGood =
      true ∧ (readPacket bs).resend = false ∧ (readPacket bs).sensorBad = false ∧ (readPacket bs).length = packetLength f.width
      f.bits ∧ (readPacket bs).frameLo = f.frameLo ∧ f.lines ≤ (readPacket bs).line) ∧
    (∃ (s : State) (p : Nat), s.hasPort p = true ∧ (s.unit p).inFrame = true ∧ (s.unit p).portState = 3) ∧
    (∃ (s : State) (p : Nat), (s.unit p).inFrame = false) ∧
    (∃ (s : State) (p : Nat) (r : Nat) (e : Nat), s.damagedIn p r e .damaged = none) ∧
    (∃ (s : State) (p : Nat) (r : Nat) (e : Nat) (f : FrameIn), s.damagedIn p r e .damaged = some f) ∧
    (∃ (s : State) (p r e : Nat) (f : FrameIn) (look : Nat → Option Row), s.damagedIn p r e .toConceal = some f ∧ look = (fun
      r => if r < f.height then f.row r e else none) ∧ searchRow look (fun r => if phaseStep f.cfa ≤ r then some (r - phaseStep
      f.cfa) else none) 8 r ≠ .notYet ∧ searchRow look (fun r => some (r + phaseStep f.cfa)) 8 r ≠ .notYet) ∧
    (∃ (s : State), s.intake.replay.ready = none ∧ (s.unit 2).stopping = false ∧ (s.unit 2).armed = false) ∧
    (∃ (s : State) (x : ReplayFrame), s.intake.replay.ready = some x ∧ (s.unit 2).running = true ∧ (s.unit 2).stopping = false
      ∧ s.intake.replay.inFrame = false) := by
  refine ⟨?_, ?_, ?_, ?_, ?_, ?_, ?_, ?_, ?_, ?_, ?_, ?_, ?_⟩
  · exact
      let p : Nat := 0
      let lo : Nat := 0
      let s : State := tUp
      ⟨s, p, lo, by decide +kernel⟩
  · exact
      let p : Nat := 0
      let lo : Nat := 0
      let s : State := tUp
      let s : State := s.onUnit p fun zz => { zz with portState := 3 }
      let s : State := s.onUnit p fun zz => { zz with running := true }
      let s : State := s.onUnit p fun zz => { zz with stopping := false }
      let s : State := s.onUnit p fun zz => { zz with inFrame := false }
      let s : State := s.onUnit p fun zz => { zz with gotFrame := false }
      ⟨s, p, lo, by decide +kernel⟩
  · exact
      let p : Nat := 0
      let lo : Nat := 0
      let s : State := tUp
      let s : State := s.onUnit p fun zz => { zz with portState := 3 }
      let s : State := s.onUnit p fun zz => { zz with running := true }
      let s : State := s.onUnit p fun zz => { zz with stopping := false }
      let s : State := s.onUnit p fun zz => { zz with inFrame := false }
      let s : State := s.onUnit p fun zz => { zz with gotFrame := true }
      ⟨s, p, lo, by decide +kernel⟩
  · exact
      let p : Nat := 0
      let bs : List Byte := []
      let a : Bool := false
      let b : Bool := false
      let s : State := tUp
      let s : State := s.onUnit p fun zz => { zz with running := false }
      ⟨s, p, bs, a, b, by decide +kernel⟩
  · exact
      let p : Nat := 0
      let bs : List Byte := tPacket 0
      let f : FrameIn := { tFrameIn with width := 4, rows := [tRow] }
      let x : Row := tRow
      let s : State := tUp
      let s : State := s.onUnit 0 fun u => { u with flight := [{ tFrameIn with width := 4, rows := [tRow] }] }
      let s : State := s.onUnit p fun zz => { zz with running := true }
      let s : State := s.onUnit p fun zz => { zz with portState := 3 }
      ⟨s, p, bs, f, x, by decide +kernel⟩
  · exact
      let p : Nat := 0
      let bs : List Byte := tPacket 4
      let f : FrameIn := { tFrameIn with width := 4 }
      let s : State := tUp
      let s : State := s.onUnit 0 fun u => { u with flight := [{ tFrameIn with width := 4 }] }
      let s : State := s.onUnit p fun zz => { zz with running := true }
      let s : State := s.onUnit p fun zz => { zz with portState := 3 }
      ⟨s, p, bs, f, by decide +kernel⟩
  · exact
      let p : Nat := 0
      let s : State := tUp
      let s : State := s.onUnit p fun zz => { zz with inFrame := true }
      let s : State := s.onUnit p fun zz => { zz with portState := 3 }
      ⟨s, p, by decide +kernel⟩
  · exact
      let p : Nat := 0
      let s : State := tUp
      let s : State := s.onUnit p fun zz => { zz with inFrame := false }
      ⟨s, p, by decide +kernel⟩
  · exact
      let p : Nat := 0
      let r : Nat := 0
      let e : Nat := 0
      let s : State := tUp
      ⟨s, p, r, e, by decide +kernel⟩
  · exact
      let p : Nat := 0
      let r : Nat := 0
      let e : Nat := 0
      let s : State := tUp
      let s : State := s.onUnit 0 fun u => { u with flight := [{ tFrameIn with rows := [{ tRow with status := .damaged }] }] }
      let f : FrameIn := Option.get (s.damagedIn p r e .damaged) (by decide +kernel)
      ⟨s, p, r, e, f, (Option.some_get _).symm⟩
  · exact
      let f : FrameIn := { tFrameIn with rows := (List.range 4).map fun k => { tRow with row := k, status := if k = 0 then .toConceal else .received } }
      let s : State := tUp.onUnit 0 fun u => { u with flight := [f] }
      ⟨s, 0, 0, 0, f, _, by decide +kernel, rfl, by decide +kernel, by decide +kernel⟩
  · exact
      let s : State := tUp
      let s : State := s.onUnit 2 fun zz => { zz with stopping := false }
      let s : State := s.onUnit 2 fun zz => { zz with armed := false }
      ⟨s, by decide +kernel⟩
  · exact
      let x : ReplayFrame := tReplayFrame
      let s : State := tUp
      let s : State := { s with intake.replay.ready := some tReplayFrame }
      let s : State := s.onUnit 2 fun zz => { zz with running := true }
      let s : State := s.onUnit 2 fun zz => { zz with stopping := false }
      let s : State := { s with intake.replay.inFrame := false }
      ⟨s, x, by decide +kernel⟩

theorem test_hypotheses_of_SidebandEvents :
    (∃ (s : State) (p : Nat), s.hasPort p = true ∧ (s.unit p).sbOut = none ∧ (s.unit p).sbQueue = []) ∧
    (∃ (s : State) (p : Nat) (r : SbRequest), (s.unit p).sbOut = some r ∧ r.resent = false) ∧
    (∃ (s : State) (p : Nat) (r : SbRequest), (s.unit p).sbOut = some r ∧ r.resent = true ∧ r.ask = .poll ∧ (s.unit p).sbQueue
      = []) ∧
    (∃ (s : State) (p : Nat) (h : SbHead) (r : SbRequest) (i : Instr), h.ok = false ∧ (s.unit p).sbOut = some r ∧ i ∈
      [Instr.burstAck p h, .mapAck p h, .loopAck p h, .sbEmpty p h, .configAck p h 0, .regAck p h 0, .tapReport p h [], .prbsAck
      p h 0, .resendAck p h 0, .regData p h 0 [], .alert p h 0 0]) ∧
    (∃ (s : State) (p : Nat) (h : SbHead) (r : SbRequest) (t : _), h.ok = true ∧ (s.unit p).sbOut = some r ∧ r.seq = h.seq ∧
      (s.unit p).sbQueue = [] ∧ t = (s.onUnit p fun u => { u with sbOut := none, answering := true })) ∧
    (∃ (s : State) (p : Nat) (h : SbHead) (r : SbRequest) (t : _), h.ok = true ∧ (s.unit p).sbOut = some r ∧ r.seq = h.seq ∧ t
      = (s.onUnit p fun u => { u with sbOut := none, answering := true })) ∧
    (∀ ty ∈ [4, 5, 6, 9, 10, 11], ∃ (s : State) (p : Nat) (h : SbHead) (r : SbRequest), h.ok = true ∧ (s.unit p).sbOut = some
      r ∧ r.seq = h.seq ∧ (s.unit p).sbQueue = [] ∧ r.ty = ty) ∧
    (∀ x ∈ [(3, Ask.taps [0]), (11, .prbs [0]), (6, .resend 0 0 0), (7, .regWrite 0), (8, .regRead 0)], ∃ (s : State) (p :
      Nat) (h : SbHead) (r : SbRequest), h.ok = true ∧ (s.unit p).sbOut = some r ∧ r.seq = h.seq ∧ r.ty = x.1 ∧ r.ask = x.2) := by
  refine ⟨?_, ?_, ?_, ?_, ?_, ?_, ?_, ?_⟩
  · exact
      let p : Nat := 0
      let s : State := tUp
      let s : State := s.onUnit p fun zz => { zz with sbOut := none }
      let s : State := s.onUnit p fun zz => { zz with sbQueue := [] }
      ⟨s, p, by decide +kernel⟩
  · exact
      let p : Nat := 0
      let r : SbRequest := { (tSbRequest : SbRequest) with resent := false }
      let s : State := tUp
      let s : State := s.onUnit p fun zz => { zz with sbOut := some r }
      ⟨s, p, r, by decide +kernel⟩
  · exact
      let p : Nat := 0
      let r : SbRequest := { ({ (tSbRequest : SbRequest) with resent := true } : SbRequest) with ask := .poll }
      let s : State := tUp
      let s : State := s.onUnit p fun zz => { zz with sbOut := some r }
      let s : State := s.onUnit p fun zz => { zz with sbQueue := [] }
      ⟨s, p, r, by decide +kernel⟩
  · exact
      let p : Nat := 0
      let h : SbHead := { seq := 0, ok := false }
      let r : SbRequest := tSbRequest
      let i : Instr := .burstAck 0 { seq := 0, ok := false }
      let s : State := tUp
      let s : State := s.onUnit p fun zz => { zz with sbOut := some r }
      ⟨s, p, h, r, i, by decide +kernel⟩
  · exact
      let p : Nat := 0
      let h : SbHead := { (tSbHead : SbHead) with ok := true }
      let r : SbRequest := { (tSbRequest : SbRequest) with seq := h.seq }
      let s : State := tUp
      let s : State := s.onUnit p fun zz => { zz with sbOut := some r }
      let s : State := s.onUnit p fun zz => { zz with sbQueue := [] }
      let t := (s.onUnit p fun u => { u with sbOut := none, answering := true })
      ⟨s, p, h, r, t, by decide +kernel, by decide +kernel, by decide +kernel, by decide +kernel, rfl⟩
  · exact
      let p : Nat := 0
      let h : SbHead := { (tSbHead : SbHead) with ok := true }
      let r : SbRequest := { (tSbRequest : SbRequest) with seq := h.seq }
      let s : State := tUp
      let s : State := s.onUnit p fun zz => { zz with sbOut := some r }
      let t := (s.onUnit p fun u => { u with sbOut := none, answering := true })
      ⟨s, p, h, r, t, by decide +kernel, by decide +kernel, by decide +kernel, rfl⟩
  · exact
      fun ty _ => ⟨tAsked { ty, ask := .poll, payload := [] }, 0, tSbHead, { ty, ask := .poll, payload := [] }, rfl, rfl, rfl,
        rfl, rfl⟩
  · exact
      fun x _ => ⟨tAsked { ty := x.1, ask := x.2, payload := [] }, 0, tSbHead, { ty := x.1, ask := x.2, payload := [] }, rfl,
        rfl, rfl, rfl, rfl⟩

theorem test_hypotheses_of_IntakeConfigurationCommands :
    (∃ (c : Call) (gs : List Got) (s : State) (p : _), Accepts cmdIntakePortSet c gs s ∧ p = gotN gs 1 ∧ writesAbove 2 gs =
      true ∧ movesLanes gs = false ∧ (putPlain 2 portFlds gs (s.unit p).cfg).mode = (s.unit p).cfg.mode ∧ judgeLanes gs
      (s.lanesWith gs) 2 (putPlain 0x100 laneFlds gs (s.lanePort p).cfg) = none) ∧
    (∃ (c : Call) (gs : List Got) (s : State) (e : _), Accepts cmdIntakePortSet c gs s ∧ judgeLanes gs (s.lanesWith gs) 2
      (putPlain 0x100 laneFlds gs (s.lanePort (gotN gs 1)).cfg) = some e) ∧
    (∃ (c : Call) (gs : List Got) (s : State), Accepts cmdIntakePortGet c gs s) ∧
    (∃ (c : Call) (gs : List Got) (s : State), Accepts cmdIntakeLineariseSet c gs s) ∧
    (∃ (c : Call) (gs : List Got) (s : State), Accepts cmdIntakeMergeSet c gs s) ∧
    (∃ (c : Call) (gs : List Got) (s : State), Accepts cmdIntakeDefectSet c gs s ∧ emptyList c 2 s = false) ∧
    (∃ (c : Call) (gs : List Got) (s : State), Accepts cmdIntakeTapSet c gs s) := by
  refine ⟨?_, ?_, ?_, ?_, ?_, ?_, ?_⟩
  · exact
      let c : Call := tCall [tItem 1 1 0, tItem 5 1 2]
      let s : State := tUp
      let gs : List Got := tGot cmdIntakePortSet c s
      let p := gotN gs 1
      ⟨c, gs, s, p, tAcc (by decide +kernel), rfl, by decide +kernel⟩
  · exact
      let c : Call := tCall [tItem 1 4 0, tItem 257 4 3, tItem 258 4 1]
      let s : State := tUp
      let gs : List Got := tGot cmdIntakePortSet c s
      let e := Option.get (judgeLanes gs (s.lanesWith gs) 2 (putPlain 0x100 laneFlds gs (s.lanePort (gotN gs 1)).cfg)) (by decide +kernel)
      ⟨c, gs, s, e, tAcc (by decide +kernel), (Option.some_get _).symm⟩
  · exact
      let c : Call := tCall [tItem 1 4 0]
      let s : State := tUp
      let gs : List Got := tGot cmdIntakePortGet c s
      ⟨c, gs, s, tAcc (by decide +kernel)⟩
  · exact
      let c : Call := tCall [tItem 1 4 0, tItem 2 4 0, tItem 3 4 0]
      let s : State := tUp
      let gs : List Got := tGot cmdIntakeLineariseSet c s
      ⟨c, gs, s, tAcc (by decide +kernel)⟩
  · exact
      let c : Call := tCall [tItem 1 4 0]
      let s : State := tUp
      let gs : List Got := tGot cmdIntakeMergeSet c s
      ⟨c, gs, s, tAcc (by decide +kernel)⟩
  · exact
      let c : Call := tCall [tItem 1 4 0]
      let s : State := tUp
      let gs : List Got := tGot cmdIntakeDefectSet c s
      ⟨c, gs, s, tAcc (by decide +kernel), by decide +kernel⟩
  · exact
      let c : Call := tCall [tItem 1 4 0, tItem 2 4 0]
      let s : State := tUp
      let gs : List Got := tGot cmdIntakeTapSet c s
      ⟨c, gs, s, tAcc (by decide +kernel)⟩

theorem test_hypotheses_of_IntakeRunAndStatusCommands :
    (∃ (c : Call) (gs : List Got) (s : State) (f : _), Accepts cmdIntakeStart c gs s ∧ gotF? gs 2 = some f) ∧
    (∃ (c : Call) (gs : List Got) (s : State), Accepts cmdIntakeStart c gs s ∧ gotF? gs 2 = none ∧ gotN gs 1 = 0 ∧ (s.unit
      0).running = false) ∧
    (∃ (c : Call) (gs : List Got) (s : State) (f : _), Accepts cmdIntakeStop c gs s ∧ gotF? gs 2 = some f) ∧
    (∃ (c : Call) (gs : List Got) (s : State), Accepts cmdIntakeStop c gs s ∧ gotF? gs 2 = none ∧ gotN gs 1 = 0 ∧ (s.unit
      0).inFrame = false) ∧
    (∃ (c : Call) (gs : List Got) (s : State), Accepts cmdIntakeSensorWrite c gs s) ∧
    (∃ (c : Call) (gs : List Got) (s : State), Accepts cmdIntakeSensorRead c gs s) ∧
    (∃ (c : Call) (gs : List Got) (s : State), Accepts cmdIntakeStatusGet c gs s) ∧
    (∃ (c : Call) (gs : List Got) (s : State), Accepts cmdIntakeCountersClear c gs s ∧ gotN gs 1 < 2) ∧
    (∃ (c : Call) (gs : List Got) (s : State) (n : _), Accepts cmdReplaySet c gs s ∧ n = putPlain 1 replayFlds gs
      s.intake.replay.cfg ∧ n.source = s.intake.replay.cfg.source ∧ s.replayFits n = true) ∧
    (∃ (c : Call) (gs : List Got) (s : State), Accepts cmdReplayStatusGet c gs s) := by
  refine ⟨?_, ?_, ?_, ?_, ?_, ?_, ?_, ?_, ?_, ?_⟩
  · exact
      let c : Call := tCall [tItem 1 4 0, tItem 2 4 5]
      let s : State := tUp
      let gs : List Got := tGot cmdIntakeStart c s
      let f := Option.get (gotF? gs 2) (by decide +kernel)
      ⟨c, gs, s, f, tAcc (by decide +kernel), (Option.some_get _).symm⟩
  · exact
      let c : Call := tCall [tItem 1 4 0]
      let s : State := tUp
      let s : State := s.onUnit 0 fun zz => { zz with running := false }
      let gs : List Got := tGot cmdIntakeStart c s
      ⟨c, gs, s, tAcc (by decide +kernel), by decide +kernel⟩
  · exact
      let c : Call := tCall [tItem 1 4 0, tItem 2 4 5]
      let s : State := tUp
      let gs : List Got := tGot cmdIntakeStop c s
      let f := Option.get (gotF? gs 2) (by decide +kernel)
      ⟨c, gs, s, f, tAcc (by decide +kernel), (Option.some_get _).symm⟩
  · exact
      let c : Call := tCall [tItem 1 4 0]
      let s : State := tUp
      let s : State := s.onUnit 0 fun zz => { zz with inFrame := false }
      let gs : List Got := tGot cmdIntakeStop c s
      ⟨c, gs, s, tAcc (by decide +kernel), by decide +kernel⟩
  · exact
      let c : Call := tCall [tItem 1 1 0, tItem 2 4 0, tItem 3 4 0]
      let s : State := tUp
      let s : State := s.onUnit 0 fun u => { u with answering := true }
      let gs : List Got := tGot cmdIntakeSensorWrite c s
      ⟨c, gs, s, tAcc (by decide +kernel)⟩
  · exact
      let c : Call := tCall [tItem 1 1 0, tItem 2 4 0, tItem 3 1 1]
      let s : State := tUp
      let s : State := s.onUnit 0 fun u => { u with answering := true }
      let gs : List Got := tGot cmdIntakeSensorRead c s
      ⟨c, gs, s, tAcc (by decide +kernel)⟩
  · exact
      let c : Call := tCall [tItem 1 4 0]
      let s : State := tUp
      let gs : List Got := tGot cmdIntakeStatusGet c s
      ⟨c, gs, s, tAcc (by decide +kernel)⟩
  · exact
      let c : Call := tCall [tItem 1 4 0, tItem 2 4 0]
      let s : State := tUp
      let gs : List Got := tGot cmdIntakeCountersClear c s
      ⟨c, gs, s, tAcc (by decide +kernel), by decide +kernel⟩
  · exact
      let c : Call := tCall []
      let s : State := tUp
      let gs : List Got := tGot cmdReplaySet c s
      let n := putPlain 1 replayFlds gs s.intake.replay.cfg
      ⟨c, gs, s, n, tAcc (by decide +kernel), rfl, by decide +kernel⟩
  · exact
      let c : Call := tCall []
      let s : State := tUp
      let gs : List Got := tGot cmdReplayStatusGet c s
      ⟨c, gs, s, tAcc (by decide +kernel)⟩

theorem test_hypotheses_of_MillEventsAndStatus :
    (∃ (s : State), s.grantPort = none) ∧
    (∃ (s : State) (x : Pair) (rest : List Pair) (m : MillFrame), (s.unit 0).buffer = x :: rest ∧ (s.unit 1).buffer = [] ∧
      x.index ≠ 0 ∧ x.last = false ∧ (s.ctx 0).taking = some m ∧ s.mill.out = none) ∧
    (∃ (s : State) (k : Nat), (s.ctx k).records = []) ∧
    (∃ (s : State) (k : Nat) (r : StatsRecord) (rest : List StatsRecord) (p : Nat × State), (s.ctx k).records = r :: rest ∧ p
      = (s.onCtx k fun c => { c with records := rest }).ringPlace r.ring r.id (0x0300 + k) r.bytes) ∧
    (∃ (c : Call) (gs : List Got) (s : State), Accepts cmdMillTnrReset c gs s) ∧
    (∃ (c : Call) (gs : List Got) (s : State), Accepts cmdMillConfigGet c gs s) ∧
    (∃ (c : Call) (gs : List Got) (s : State), Accepts cmdMillStatusGet c gs s) ∧
    (∃ (c : Call) (gs : List Got) (s : State), Accepts cmdMillCountersClear c gs s ∧ gotN gs 1 ≠ 0) ∧
    (∃ (c : Call) (gs : List Got) (s : State), Accepts cmdMillCountersClear c gs s ∧ gotN gs 1 = 0 ∧ gotN gs 2 ≠ 0) ∧
    (∃ (s : State) (k : Nat), k ≠ 0) := by
  refine ⟨?_, ?_, ?_, ?_, ?_, ?_, ?_, ?_, ?_, ?_⟩
  · exact
      let s : State := tUp
      ⟨s, by decide +kernel⟩
  · exact
      let x : Pair := { tPair with index := 1 }
      let rest : List Pair := []
      let m : MillFrame := tMillFrame
      let s : State := tUp
      let s : State := s.onUnit 0 fun zz => { zz with buffer := x :: rest }
      let s : State := s.onUnit 1 fun zz => { zz with buffer := [] }
      let s : State := s.onCtx 0 fun zz => { zz with taking := some m }
      let s : State := { s with mill.out := none }
      ⟨s, x, rest, m, by decide +kernel⟩
  · exact
      let k : Nat := 0
      let s : State := tUp
      let s : State := s.onCtx k fun zz => { zz with records := [] }
      ⟨s, k, by decide +kernel⟩
  · exact
      let k : Nat := 0
      let r : StatsRecord := tStatsRecord
      let rest : List StatsRecord := []
      let s : State := tUp
      let s : State := s.onCtx k fun zz => { zz with records := r :: rest }
      let p : Nat × State := (s.onCtx k fun c => { c with records := rest }).ringPlace r.ring r.id (0x0300 + k) r.bytes
      ⟨s, k, r, rest, p, by decide +kernel, rfl⟩
  · exact
      let c : Call := tCall [tItem 1 4 0]
      let s : State := tUp
      let gs : List Got := tGot cmdMillTnrReset c s
      ⟨c, gs, s, tAcc (by decide +kernel)⟩
  · exact
      let c : Call := tCall [tItem 1 4 0]
      let s : State := tUp
      let gs : List Got := tGot cmdMillConfigGet c s
      ⟨c, gs, s, tAcc (by decide +kernel)⟩
  · exact
      let c : Call := tCall [tItem 1 4 0]
      let s : State := tUp
      let gs : List Got := tGot cmdMillStatusGet c s
      ⟨c, gs, s, tAcc (by decide +kernel)⟩
  · exact
      let c : Call := tCall [tItem 1 1 1, tItem 2 4 1]
      let s : State := tUp
      let gs : List Got := tGot cmdMillCountersClear c s
      ⟨c, gs, s, tAcc (by decide +kernel), by decide +kernel⟩
  · exact
      let c : Call := tCall [tItem 1 1 0, tItem 2 4 1]
      let s : State := tUp
      let gs : List Got := tGot cmdMillCountersClear c s
      ⟨c, gs, s, tAcc (by decide +kernel), by decide +kernel⟩
  · exact
      let k : Nat := 1
      let s : State := tUp
      ⟨s, k, by decide +kernel⟩

theorem test_hypotheses_of_MillFieldCommands :
    (∃ (c : Call) (gs : List Got) (s : State), Accepts cmdMillNoiseSet c gs s) ∧
    (∃ (c : Call) (gs : List Got) (s : State), Accepts cmdMillSnrSet c gs s) ∧
    (∃ (c : Call) (gs : List Got) (s : State), Accepts cmdMillTnrSet c gs s) ∧
    (∃ (c : Call) (gs : List Got) (s : State), Accepts cmdMillWbSet c gs s) ∧
    (∃ (c : Call) (gs : List Got) (s : State), Accepts cmdMillReconSet c gs s) ∧
    (∃ (c : Call) (gs : List Got) (s : State), Accepts cmdMillMatrixSet c gs s) ∧
    (∃ (c : Call) (gs : List Got) (s : State) (n : _), Accepts cmdMillStatsSet c gs s ∧ n = (millPut 36 7 gs s).ctx (gotN gs
      1)) ∧
    (∃ lo n : Nat, ∀ f ∈ millPart lo n, f.cls = .frame) := by
  refine ⟨?_, ?_, ?_, ?_, ?_, ?_, ?_, ?_⟩
  · exact
      let c : Call := tCall [tItem 1 4 0]
      let s : State := tUp
      let gs : List Got := tGot cmdMillNoiseSet c s
      ⟨c, gs, s, tAcc (by decide +kernel)⟩
  · exact
      let c : Call := tCall [tItem 1 1 0, tItem 2 1 1]
      let s : State := tUp
      let gs : List Got := tGot cmdMillSnrSet c s
      ⟨c, gs, s, tAcc (by decide +kernel)⟩
  · exact
      let c : Call := tCall [tItem 1 4 0]
      let s : State := tUp
      let gs : List Got := tGot cmdMillTnrSet c s
      ⟨c, gs, s, tAcc (by decide +kernel)⟩
  · exact
      let c : Call := tCall [tItem 1 1 0, tItem 2 4 65536]
      let s : State := tUp
      let gs : List Got := tGot cmdMillWbSet c s
      ⟨c, gs, s, tAcc (by decide +kernel)⟩
  · exact
      let c : Call := tCall [tItem 1 1 0, tItem 2 1 1]
      let s : State := tUp
      let gs : List Got := tGot cmdMillReconSet c s
      ⟨c, gs, s, tAcc (by decide +kernel)⟩
  · exact
      let c : Call := tCall [tItem 1 1 0, tItem 2 4 65536]
      let s : State := tUp
      let gs : List Got := tGot cmdMillMatrixSet c s
      ⟨c, gs, s, tAcc (by decide +kernel)⟩
  · exact
      let c : Call := tCall [tItem 1 4 0]
      let s : State := tUp
      let gs : List Got := tGot cmdMillStatsSet c s
      let n := (millPut 36 7 gs s).ctx (gotN gs 1)
      ⟨c, gs, s, n, tAcc (by decide +kernel), rfl⟩
  · exact
      ⟨8, 3, by decide +kernel⟩

theorem test_hypotheses_of_LookAndSlotCommands :
    (∃ (c : Call) (gs : List Got) (s : State) (n : _), Accepts cmdLookSet c gs s ∧ n = putFields 0x100 lookFlds gs (s.look
      (gotN gs 1)).cfg ∧ n.shadow.lo < n.shadow.hi) ∧
    (∃ (c : Call) (gs : List Got) (s : State), Accepts cmdLookTablesLoad c gs s ∧ s.tablesOk (gotH gs 2) (gotN gs 3) = true) ∧
    (∃ (c : Call) (gs : List Got) (s : State), Accepts cmdLookTablesLoad c gs s ∧ s.tablesOk (gotH gs 2) (gotN gs 3) = false) ∧
    (∃ (s : State) (k : Nat), (s.look k).loading = none) ∧
    (∃ (s : State) (k : Nat) (t : TableLoad) (v : State), (s.look k).loading = some t ∧ v = (s.onLook k fun l => { l with loading := none, cntLoads := l.cntLoads + 1, banks := setAt l.banks t.bank t.content, cfg := { l.cfg with shadow := { l.cfg.shadow with tableBank := t.bank } } })) ∧
    (∃ (c : Call) (gs : List Got) (s : State), Accepts cmdLookGet c gs s) ∧
    (∃ (c : Call) (gs : List Got) (s : State), Accepts cmdLksStatusGet c gs s) ∧
    (∃ (c : Call) (gs : List Got) (s : State), Accepts cmdLksCountersClear c gs s) := by
  refine ⟨?_, ?_, ?_, ?_, ?_, ?_, ?_, ?_⟩
  · exact
      let c : Call := tCall [tItem 1 4 0]
      let s : State := tUp
      let gs : List Got := tGot cmdLookSet c s
      let n := putFields 0x100 lookFlds gs (s.look (gotN gs 1)).cfg
      ⟨c, gs, s, n, tAcc (by decide +kernel), rfl, by decide +kernel⟩
  · exact
      let c : Call := tCall [tItem 1 4 0, tItem 2 4 5, tItem 3 4 0]
      let s : State := tUp
      let gs : List Got := tGot cmdLookTablesLoad c s
      ⟨c, gs, s, tAcc (by decide +kernel), by decide +kernel⟩
  · exact
      let c : Call := tCall [tItem 1 1 0, tItem 2 4 5, tItem 3 1 1]
      let s : State := tUp
      let s : State := s.putBytes 5 0 [255, 255, 255, 255]
      let gs : List Got := tGot cmdLookTablesLoad c s
      ⟨c, gs, s, tAcc (by decide +kernel), by decide +kernel⟩
  · exact
      let k : Nat := 0
      let s : State := tUp
      let s : State := s.onLook k fun zz => { zz with loading := none }
      ⟨s, k, by decide +kernel⟩
  · exact
      let k : Nat := 0
      let t : TableLoad := tTableLoad
      let s : State := tUp
      let s : State := s.onLook k fun zz => { zz with loading := some t }
      let v : State := (s.onLook k fun l => { l with loading := none, cntLoads := l.cntLoads + 1, banks := setAt l.banks t.bank t.content, cfg := { l.cfg with shadow := { l.cfg.shadow with tableBank := t.bank } } })
      ⟨s, k, t, v, by decide +kernel, rfl⟩
  · exact
      let c : Call := tCall [tItem 1 4 0]
      let s : State := tUp
      let gs : List Got := tGot cmdLookGet c s
      ⟨c, gs, s, tAcc (by decide +kernel)⟩
  · exact
      let c : Call := tCall []
      let s : State := tUp
      let gs : List Got := tGot cmdLksStatusGet c s
      ⟨c, gs, s, tAcc (by decide +kernel)⟩
  · exact
      let c : Call := tCall [tItem 1 4 0, tItem 2 4 0]
      let s : State := tUp
      let gs : List Got := tGot cmdLksCountersClear c s
      ⟨c, gs, s, tAcc (by decide +kernel)⟩

theorem test_hypotheses_of_RenditionCommands :
    (∃ (c : Call) (gs : List Got) (s : State) (n : _), Accepts cmdRendSet c gs s ∧ n = putFields 0x100 rendFlds gs (s.rend
      (gotN gs 1)).cfg ∧ judgeRend gs n.shadow = none ∧ ((n.shadow.dest = 0 → ∀ ky ∈ indexed s.looks.rends, ky.1 ≠ gotN gs 1 →
      ky.2.cfg.force.dest = 0 → ky.2.cfg.force.target ≠ n.shadow.target)) ∧ ((n.shadow.planes = 0 ∨ ∃ b, s.buffer? (BitVec.ofNat
      32 n.shadow.planes) = some b ∧ if n.shadow.dest = 3 then b.role = 12 else b.role = 6 ∧ n.shadow.nslots * s.slotBytes
      n.shadow ≤ b.size))) ∧
    (∃ (c : Call) (gs : List Got) (s : State) (h : _), Accepts cmdRendFilterSet c gs s ∧ has gs 2 = true ∧ has gs 3 = false ∧
      h = putFront ((gotAll gs 2).map Val.int) ((s.rend (gotN gs 1)).filters.shadow.h.getD (List.replicate 512 0)) ∧ phasesOk 8
      h = true) ∧
    (∃ (c : Call) (gs : List Got) (s : State) (v : _), Accepts cmdRendFilterSet c gs s ∧ has gs 2 = false ∧ has gs 3 = true ∧
      v = putFront ((gotAll gs 3).map Val.int) ((s.rend (gotN gs 1)).filters.shadow.v.getD (List.replicate 384 0)) ∧ phasesOk 6
      v = true) ∧
    (∃ (c : Call) (gs : List Got) (s : State) (f : _), Accepts cmdRendStart c gs s ∧ gotF? gs 2 = some f) ∧
    (∃ (c : Call) (gs : List Got) (s : State), Accepts cmdRendStart c gs s ∧ gotF? gs 2 = none) ∧
    (∃ (c : Call) (gs : List Got) (s : State) (f : _), Accepts cmdRendStop c gs s ∧ gotF? gs 2 = some f) ∧
    (∃ (c : Call) (gs : List Got) (s : State), Accepts cmdRendStop c gs s ∧ gotF? gs 2 = none ∧ (s.rend (gotN gs 1)).jobs = []
      ∧ gotN gs 1 < s.looks.rends.length) ∧
    (∃ (c : Call) (gs : List Got) (s : State), Accepts cmdRendGet c gs s) ∧
    (∃ (c : Call) (gs : List Got) (s : State), Accepts cmdRendSlotRelease c gs s) ∧
    (∃ (c : Call) (gs : List Got) (s : State), Accepts cmdRendCapture c gs s) ∧
    (∃ (s : State) (r : Nat), (s.rend r).jobs.find? (fun j => j.done.isSome) = none) ∧
    (∃ (s : State) (r : Nat) (j : RendJob), (s.rend r).jobs.find? (fun j => j.done.isSome) = some j ∧ j.cfg.dest = 2 ∧ r <
      s.looks.rends.length ∧ j.slot < (s.rend r).slots.length) := by
  refine ⟨?_, ?_, ?_, ?_, ?_, ?_, ?_, ?_, ?_, ?_, ?_, ?_⟩
  · exact
      let c : Call := tCall [tItem 1 4 0]
      let s : State := tUp
      let gs : List Got := tGot cmdRendSet c s
      let n := putFields 0x100 rendFlds gs (s.rend (gotN gs 1)).cfg
      ⟨c, gs, s, n, tAcc (by decide +kernel), rfl, by decide +kernel⟩
  · exact
      let c : Call := tCall [tItem 1 1 0, tItem 2 1024 (16384 * ((2 ^ 8192 - 1) / (2 ^ 128 - 1)))]
      let s : State := tUp
      let gs : List Got := tGot cmdRendFilterSet c s
      let h := putFront ((gotAll gs 2).map Val.int) ((s.rend (gotN gs 1)).filters.shadow.h.getD (List.replicate 512 0))
      ⟨c, gs, s, h, tAcc (by decide +kernel), by decide +kernel, by decide +kernel, rfl, by decide +kernel⟩
  · exact
      let c : Call := tCall [tItem 1 1 0, tItem 3 768 (16384 * ((2 ^ 6144 - 1) / (2 ^ 96 - 1)))]
      let s : State := tUp
      let gs : List Got := tGot cmdRendFilterSet c s
      let v := putFront ((gotAll gs 3).map Val.int) ((s.rend (gotN gs 1)).filters.shadow.v.getD (List.replicate 384 0))
      ⟨c, gs, s, v, tAcc (by decide +kernel), by decide +kernel, by decide +kernel, rfl, by decide +kernel⟩
  · exact
      let c : Call := tCall [tItem 1 4 0, tItem 2 4 5]
      let s : State := tUp
      let gs : List Got := tGot cmdRendStart c s
      let f := Option.get (gotF? gs 2) (by decide +kernel)
      ⟨c, gs, s, f, tAcc (by decide +kernel), (Option.some_get _).symm⟩
  · exact
      let c : Call := tCall [tItem 1 4 0]
      let s : State := tUp
      let gs : List Got := tGot cmdRendStart c s
      ⟨c, gs, s, tAcc (by decide +kernel), by decide +kernel⟩
  · exact
      let c : Call := tCall [tItem 1 4 0, tItem 2 4 5]
      let s : State := tUp
      let gs : List Got := tGot cmdRendStop c s
      let f := Option.get (gotF? gs 2) (by decide +kernel)
      ⟨c, gs, s, f, tAcc (by decide +kernel), (Option.some_get _).symm⟩
  · exact
      let c : Call := tCall [tItem 1 4 0]
      let s : State := tUp
      let s : State := s.onRend 0 fun zz => { zz with jobs := [] }
      let gs : List Got := tGot cmdRendStop c s
      ⟨c, gs, s, tAcc (by decide +kernel), by decide +kernel⟩
  · exact
      let c : Call := tCall [tItem 1 4 0]
      let s : State := tUp
      let gs : List Got := tGot cmdRendGet c s
      ⟨c, gs, s, tAcc (by decide +kernel)⟩
  · exact
      let c : Call := tCall [tItem 1 1 0, tItem 2 1 0]
      let s : State := tUp
      let s : State := s.onRend 0 fun x => { x with cfg := { x.cfg with force := { x.cfg.force with nslots := 1 } }, slots := [{ st := .held }] }
      let gs : List Got := tGot cmdRendSlotRelease c s
      ⟨c, gs, s, tAcc (by decide +kernel)⟩
  · exact
      let c : Call := tCall [tItem 1 1 0, tItem 3 1 1]
      let s : State := tUp
      let s : State := s.onRend 0 fun x => { x with cfg := { x.cfg with force := { x.cfg.force with captureMode := 2 } } }
      let gs : List Got := tGot cmdRendCapture c s
      ⟨c, gs, s, tAcc (by decide +kernel)⟩
  · exact
      let r : Nat := 0
      let s : State := tUp
      ⟨s, r, by decide +kernel⟩
  · exact
      let r : Nat := 0
      let j : RendJob := { tRendJob with cfg := { tRendJob.cfg with dest := 2 }, done := some ([], []) }
      let s : State := tUp
      let s : State := s.onRend 0 fun x => { x with slots := [{}], jobs := [{ tRendJob with cfg := { tRendJob.cfg with dest := 2 }, done := some ([], []) }] }
      ⟨s, r, j, by decide +kernel⟩

theorem test_hypotheses_of_SheafCoreEvents :
    (∃ (s : State) (k : Nat) (b : Bool), (s.sheaf.plan = none ∨ (s.core k).cur.isSome = true)) ∧
    (∃ (s : State) (k : Nat) (b : Bool) (i : FrameInfo), s.sheaf.plan = some i ∧ (s.core k).cur = none ∧ (∀ it ∈ (s.core
      k).list, s.sheaf.pics.any (fun p => p.ctx == it.ctx) = false ∧ s.shfSlot it.ctx i.frame = (none, false))) ∧
    (∃ (s : State) (k : Nat) (i : FrameInfo) (it : ShfItem) (rest : List ShfItem), s.sheaf.plan = some i ∧ (s.core k).cur =
      none ∧ (s.core k).list = it :: rest ∧ ((s.shfSlot it.ctx i.frame).1).isSome = true) ∧
    (∃ (s : State) (k : Nat), (s.core k).cur = none) ∧
    (∃ (s : State) (k : Nat) (it : ShfItem) (p : ShfPic) (v : State), (s.core k).cur = some it ∧ s.sheaf.pics.find? (fun p =>
      p.ctx == it.ctx) = some p ∧ v = (s.onCore k fun k => { k with cur := none, st := .idle, pictures := (k.pictures + 1) % 256 })) ∧
    (∃ (s : State) (k : Nat) (it : ShfItem), (s.core k).cur = some it) ∧
    (∃ (s : State) (m : Nat) (u : MotionUnit), s.sheaf.motion[m]? = some u ∧ u.pending = none) ∧
    (∃ (s : State) (m : Nat) (u : MotionUnit) (f : Frame) (ok : Bool) (bs : List Byte) (b : Buffer), s.sheaf.motion[m]? = some
      u ∧ u.pending = some (f, ok, bs) ∧ s.buffer? u.field = some b ∧ 2 * bs.length ≤ b.size) := by
  refine ⟨?_, ?_, ?_, ?_, ?_, ?_, ?_, ?_⟩
  · exact
      let k : Nat := 0
      let b : Bool := false
      let s : State := tUp
      ⟨s, k, b, by decide +kernel⟩
  · exact
      let k : Nat := 0
      let b : Bool := false
      let i : FrameInfo := tFrameInfo
      let s : State := tUp
      let s : State := { s with sheaf.plan := some i }
      let s : State := s.onCore k fun zz => { zz with cur := none }
      ⟨s, k, b, i, by decide +kernel⟩
  · exact
      let k : Nat := 0
      let i : FrameInfo := { tFrameInfo with frame := 1 }
      let it : ShfItem := tShfItem
      let rest : List ShfItem := []
      let s : State := tUp
      let s : State := { s with looks.rends := modAt s.looks.rends 0 fun x => { x with running := true, cfg := { x.cfg with force := { x.cfg.force with dest := 0, target := 0 } } } }
      let s : State := s.onRend 0 fun x => { x with slots := [{ st := .ready, frame := 1 }] }
      let s : State := s.onCore 0 fun k => { k with list := [tShfItem] }
      let s : State := { s with sheaf.plan := some i }
      let s : State := s.onCore k fun zz => { zz with cur := none }
      let s : State := s.onCore k fun zz => { zz with list := it :: rest }
      ⟨s, k, i, it, rest, by decide +kernel⟩
  · exact
      let k : Nat := 0
      let s : State := tUp
      let s : State := s.onCore k fun zz => { zz with cur := none }
      ⟨s, k, by decide +kernel⟩
  · exact
      let k : Nat := 0
      let it : ShfItem := tShfItem
      let p : ShfPic := tShfPic
      let s : State := tUp
      let s : State := s.onCore 0 fun k => { k with cur := some tShfItem }
      let s : State := { s with sheaf.pics := [tShfPic] }
      let s : State := s.onCore k fun zz => { zz with cur := some it }
      let v : State := (s.onCore k fun k => { k with cur := none, st := .idle, pictures := (k.pictures + 1) % 256 })
      ⟨s, k, it, p, v, by decide +kernel, by decide +kernel, rfl⟩
  · exact
      let k : Nat := 0
      let it : ShfItem := tShfItem
      let s : State := tUp
      let s : State := s.onCore k fun zz => { zz with cur := some it }
      ⟨s, k, it, by decide +kernel⟩
  · exact
      let m : Nat := 0
      let s : State := tUp
      let u : MotionUnit := Option.get (s.sheaf.motion[m]?) (by decide +kernel)
      ⟨s, m, u, (Option.some_get _).symm, by decide +kernel⟩
  · exact
      let m : Nat := 0
      let u : MotionUnit := { pending := some (5, true, []), field := 7 }
      let f : Frame := 5
      let ok : Bool := true
      let bs : List Byte := []
      let b : Buffer := tBuf 7 7 false
      let s : State := tUp
      let s : State := { s with sheaf.motion := [{ pending := some (5, true, []), field := 7 }] }
      ⟨s, m, u, f, ok, bs, b, by decide +kernel⟩

theorem test_hypotheses_of_SheafCommands :
    (∃ (c : Call) (gs : List Got) (s : State) (n : _), Accepts cmdShfContextSet c gs s ∧ n = putFields 0x100 shfFlds gs (s.shf
      (gotN gs 1)).cfg ∧ judgeShf gs n.shadow = none) ∧
    (∃ (c : Call) (gs : List Got) (s : State), Accepts cmdShfContextGet c gs s) ∧
    (∃ (c : Call) (gs : List Got) (s : State) (f : _) (v : _), Accepts cmdShfContextStart c gs s ∧ s.shfStart (gotN gs 1)
      (s.frameOr gs 2) = .inr (f, v) ∧ gotN gs 1 < s.sheaf.ctxs.length) ∧
    (∃ (c : Call) (gs : List Got) (s : State) (f : _), Accepts cmdShfContextStop c gs s ∧ gotF? gs 2 = some f ∧ (s.shf (gotN
      gs 1)).running = true ∧ (s.shf (gotN gs 1)).stopFrame = none ∧ (s.shf (gotN gs 1)).stopAt = none) ∧
    (∃ (c : Call) (gs : List Got) (s : State), Accepts cmdShfContextStop c gs s ∧ (s.shf (gotN gs 1)).running = false) ∧
    (∃ (c : Call) (gs : List Got) (s : State) (ks : _), Accepts cmdShfPoolSet c gs s ∧ ks = (gotAll gs 1).map poolClassOf ∧
      s.sheaf.ctxs.any (·.running) = false) ∧
    (∃ (c : Call) (gs : List Got) (s : State), Accepts cmdShfMotionSet c gs s) ∧
    (∃ (c : Call) (gs : List Got) (s : State), Accepts cmdShfLadderSet c gs s) ∧
    (∃ (c : Call) (gs : List Got) (s : State), Accepts cmdShfIrapRequest c gs s ∧ gotN gs 2 = 1) ∧
    (∃ (c : Call) (gs : List Got) (s : State), Accepts cmdShfIrapRequest c gs s ∧ gotN gs 2 = 0 ∧ has gs 1 = true) ∧
    (∃ (c : Call) (gs : List Got) (s : State), Accepts cmdShfStatusGet c gs s) ∧
    (∃ (c : Call) (gs : List Got) (s : State), Accepts cmdShfCountersClear c gs s) := by
  refine ⟨?_, ?_, ?_, ?_, ?_, ?_, ?_, ?_, ?_, ?_, ?_, ?_⟩
  · exact
      let c : Call := tCall [tItem 1 4 0]
      let s : State := tUp
      let gs : List Got := tGot cmdShfContextSet c s
      let n := putFields 0x100 shfFlds gs (s.shf (gotN gs 1)).cfg
      ⟨c, gs, s, n, tAcc (by decide +kernel), rfl, by decide +kernel⟩
  · exact
      let c : Call := tCall [tItem 1 4 0]
      let s : State := tUp
      let gs : List Got := tGot cmdShfContextGet c s
      ⟨c, gs, s, tAcc (by decide +kernel)⟩
  · exact
      let c : Call := tCall [tItem 1 1 0]
      let s : State := tUp
      let s : State := { s with looks.rends := modAt s.looks.rends 0 fun x => { x with running := true, cfg := { x.cfg with force := { x.cfg.force with dest := 0, target := 0 } } } }
      let s : State := s.onShf 0 fun x => { x with cfg := { x.cfg with force := { x.cfg.force with queue := 8, cpbSize := 8 } } }
      let s : State := { s with sheaf.pool := [{ handle := 7, size := 65536, count := 8 }] }
      let s : State := s.onLook 0 fun x => { x with cfg := { x.cfg with force := { x.cfg.force with encoding := 1 } } }
      let gs : List Got := tGot cmdShfContextStart c s
      let f := (Sum.getRight (s.shfStart (gotN gs 1) (s.frameOr gs 2)) (by decide +kernel)).1
      let v := (Sum.getRight (s.shfStart (gotN gs 1) (s.frameOr gs 2)) (by decide +kernel)).2
      ⟨c, gs, s, f, v, tAcc (by decide +kernel), (Sum.inr_getRight _ _).symm, by decide +kernel⟩
  · exact
      let c : Call := tCall [tItem 1 4 0, tItem 2 4 5]
      let s : State := tUp
      let s : State := s.onShf 0 fun zz => { zz with running := true }
      let s : State := s.onShf 0 fun zz => { zz with stopFrame := none }
      let s : State := s.onShf 0 fun zz => { zz with stopAt := none }
      let gs : List Got := tGot cmdShfContextStop c s
      let f := Option.get (gotF? gs 2) (by decide +kernel)
      ⟨c, gs, s, f, tAcc (by decide +kernel), (Option.some_get _).symm, by decide +kernel⟩
  · exact
      let c : Call := tCall [tItem 1 4 0]
      let s : State := tUp
      let s : State := s.onShf 0 fun zz => { zz with running := false }
      let gs : List Got := tGot cmdShfContextStop c s
      ⟨c, gs, s, tAcc (by decide +kernel), by decide +kernel⟩
  · exact
      let c : Call := tCall []
      let s : State := tUp
      let gs : List Got := tGot cmdShfPoolSet c s
      let ks := (gotAll gs 1).map poolClassOf
      ⟨c, gs, s, ks, tAcc (by decide +kernel), rfl, by decide +kernel⟩
  · exact
      let c : Call := tCall [tItem 1 4 0, tItem 2 4 0]
      let s : State := tUp
      let gs : List Got := tGot cmdShfMotionSet c s
      ⟨c, gs, s, tAcc (by decide +kernel)⟩
  · exact
      let c : Call := tCall []
      let s : State := tUp
      let gs : List Got := tGot cmdShfLadderSet c s
      ⟨c, gs, s, tAcc (by decide +kernel)⟩
  · exact
      let c : Call := tCall [tItem 1 4 0, tItem 2 1 1]
      let s : State := tUp
      let s : State := s.onShf 0 fun x => { x with running := true, cfg := { x.cfg with force := { x.cfg.force with ladder := 1 } } }
      let gs : List Got := tGot cmdShfIrapRequest c s
      ⟨c, gs, s, tAcc (by decide +kernel), by decide +kernel⟩
  · exact
      let c : Call := tCall [tItem 1 4 5, tItem 2 4 0]
      let s : State := tUp
      let gs : List Got := tGot cmdShfIrapRequest c s
      ⟨c, gs, s, tAcc (by decide +kernel), by decide +kernel⟩
  · exact
      let c : Call := tCall []
      let s : State := tUp
      let gs : List Got := tGot cmdShfStatusGet c s
      ⟨c, gs, s, tAcc (by decide +kernel)⟩
  · exact
      let c : Call := tCall [tItem 1 4 0, tItem 2 4 0]
      let s : State := tUp
      let gs : List Got := tGot cmdShfCountersClear c s
      ⟨c, gs, s, tAcc (by decide +kernel)⟩

theorem test_hypotheses_of_DecoderEvents :
    (∃ (s : State), s.decoder.job.isSome = true) ∧
    (∃ (s : State), s.decoder.job = none ∧ ((∀ c, c < 8 → (s.dec c).running = false ∧ (s.dec c).chunks = []))) ∧
    (∃ (s : State) (v : State) (c : Nat), s.decoder.job = none ∧ v = (List.range 8).foldl (fun s c => s.decRead c) s ∧ c < 8 ∧
      ((∀ d, d < 8 → d ≠ c → (v.dec d).running = false))) ∧
    (∃ (s : State), s.decoder.job = none) ∧
    (∃ (s : State) (j : DecJob), s.decoder.job = some j ∧ j.ctx < s.decoder.ctxs.length ∧ j.slot < (s.dec j.ctx).slots.length) ∧
    (∃ (s : State) (j : DecJob) (n : Nat), s.decoder.job = some j ∧ n = ceilDiv j.pic.width j.pic.ctb * ceilDiv j.pic.height
      j.pic.ctb) := by
  refine ⟨?_, ?_, ?_, ?_, ?_, ?_⟩
  · exact
      let s : State := tUp
      let s : State := { s with decoder.job := some tDecJob }
      ⟨s, by decide +kernel⟩
  · exact
      let s : State := tUp
      let s : State := { s with decoder.job := none }
      ⟨s, by decide +kernel⟩
  · exact
      let c : Nat := 0
      let s : State := tUp
      let s : State := s.onDec 0 fun x => { x with running := true }
      let s : State := { s with decoder.job := none }
      let v : State := (List.range 8).foldl (fun s c => s.decRead c) s
      ⟨s, v, c, by decide +kernel, rfl, by decide +kernel⟩
  · exact
      let s : State := tUp
      let s : State := { s with decoder.job := none }
      ⟨s, by decide +kernel⟩
  · exact
      let j : DecJob := tDecJob
      let s : State := tUp
      let s : State := { s with decoder.job := some j }
      ⟨s, j, by decide +kernel⟩
  · exact
      let j : DecJob := tDecJob
      let n : Nat := ceilDiv j.pic.width j.pic.ctb * ceilDiv j.pic.height j.pic.ctb
      let s : State := tUp
      let s : State := { s with decoder.job := some j }
      ⟨s, j, n, by decide +kernel, rfl⟩

theorem test_hypotheses_of_DecoderCommands :
    (∃ (c : Call) (gs : List Got) (s : State) (n : _), Accepts cmdDecContextSet c gs s ∧ n = putPlain 0x100 decFlds gs (s.dec
      (gotN gs 1)).cfg ∧ s.decPoolFits n = true) ∧
    (∃ (c : Call) (gs : List Got) (s : State), Accepts cmdDecContextGet c gs s) ∧
    (∃ (c : Call) (gs : List Got) (s : State), Accepts cmdDecStart c gs s ∧ (s.dec (gotN gs 1)).running = false) ∧
    (∃ (c : Call) (gs : List Got) (s : State), Accepts cmdDecStart c gs s ∧ (s.dec (gotN gs 1)).running = true) ∧
    (∃ (c : Call) (gs : List Got) (s : State), Accepts cmdDecStop c gs s ∧ (s.dec (gotN gs 1)).running = false) ∧
    (∃ (c : Call) (gs : List Got) (s : State), Accepts cmdDecStop c gs s ∧ (s.dec (gotN gs 1)).running = true ∧
      s.decoder.job.any (fun j => j.ctx == gotN gs 1) = false) ∧
    (∃ (c : Call) (gs : List Got) (s : State), Accepts cmdDecFeed c gs s) ∧
    (∃ (c : Call) (gs : List Got) (s : State), Accepts cmdDecSlotRelease c gs s) ∧
    (∃ (c : Call) (gs : List Got) (s : State), Accepts cmdDecStatusGet c gs s) ∧
    (∃ (c : Call) (gs : List Got) (s : State), Accepts cmdDecCountersClear c gs s) := by
  refine ⟨?_, ?_, ?_, ?_, ?_, ?_, ?_, ?_, ?_, ?_⟩
  · exact
      let c : Call := tCall [tItem 1 4 0]
      let s : State := tUp
      let gs : List Got := tGot cmdDecContextSet c s
      let n := putPlain 0x100 decFlds gs (s.dec (gotN gs 1)).cfg
      ⟨c, gs, s, n, tAcc (by decide +kernel), rfl, by decide +kernel⟩
  · exact
      let c : Call := tCall [tItem 1 4 0]
      let s : State := tUp
      let gs : List Got := tGot cmdDecContextGet c s
      ⟨c, gs, s, tAcc (by decide +kernel)⟩
  · exact
      let c : Call := tCall [tItem 1 1 0]
      let s : State := tUp
      let s : State := s.onDec 0 fun x => { x with cfg := { maxW := 64, maxH := 64, nbuf := 3, pool := 9 } }
      let s : State := s.onDec 0 fun zz => { zz with running := false }
      let gs : List Got := tGot cmdDecStart c s
      ⟨c, gs, s, tAcc (by decide +kernel), by decide +kernel⟩
  · exact
      let c : Call := tCall [tItem 1 1 0]
      let s : State := tUp
      let s : State := s.onDec 0 fun x => { x with cfg := { maxW := 64, maxH := 64, nbuf := 3, pool := 9 } }
      let s : State := s.onDec 0 fun zz => { zz with running := true }
      let gs : List Got := tGot cmdDecStart c s
      ⟨c, gs, s, tAcc (by decide +kernel), by decide +kernel⟩
  · exact
      let c : Call := tCall [tItem 1 4 0]
      let s : State := tUp
      let s : State := s.onDec 0 fun zz => { zz with running := false }
      let gs : List Got := tGot cmdDecStop c s
      ⟨c, gs, s, tAcc (by decide +kernel), by decide +kernel⟩
  · exact
      let c : Call := tCall [tItem 1 4 0]
      let s : State := tUp
      let s : State := s.onDec 0 fun zz => { zz with running := true }
      let gs : List Got := tGot cmdDecStop c s
      ⟨c, gs, s, tAcc (by decide +kernel), by decide +kernel⟩
  · exact
      let c : Call := tCall [tItem 1 1 0, tItem 2 4 8, tItem 3 4 0, tItem 4 4 64, tItem 5 1 0]
      let s : State := tUp
      let s : State := s.onDec 0 fun x => { x with running := true }
      let gs : List Got := tGot cmdDecFeed c s
      ⟨c, gs, s, tAcc (by decide +kernel)⟩
  · exact
      let c : Call := tCall [tItem 1 1 0, tItem 2 1 0]
      let s : State := tUp
      let s : State := s.onDec 0 fun x => { x with slots := [{ st := .ready }] }
      let gs : List Got := tGot cmdDecSlotRelease c s
      ⟨c, gs, s, tAcc (by decide +kernel)⟩
  · exact
      let c : Call := tCall []
      let s : State := tUp
      let gs : List Got := tGot cmdDecStatusGet c s
      ⟨c, gs, s, tAcc (by decide +kernel)⟩
  · exact
      let c : Call := tCall [tItem 1 4 0]
      let s : State := tUp
      let gs : List Got := tGot cmdDecCountersClear c s
      ⟨c, gs, s, tAcc (by decide +kernel)⟩

theorem test_hypotheses_of_CompressionEvents :
    (∃ (s : State) (k : Nat), (∀ e ∈ s.unread ((s.cmp k).reads.getD 0) (0x0700 + k), (s.cmp k).taken.any (fun t => t.1 ==
      e.id) = true)) ∧
    (∃ (s : State) (v : State) (k : Nat) (e : Entry) (i : TapFrame) (bs : List Byte) (id : Nat × Nat), k <
      v.compress.sessions.length ∧ (s.unread ((s.cmp k).reads.getD 0) (0x0700 + k)).find? (fun e => !((s.cmp k).taken.any fun t
      => t.1 == e.id)) = some e ∧ (s.unit (s.cmp k).cfg.source).tapped.find? (fun t => t.id == e.id && t.tap == (s.cmp
      k).cfg.tap) = some i ∧ e.unit = 0x0200 + (s.cmp k).cfg.source ∧ s.recordOf (s.cmp k).cfg.source i.frame = some bs ∧ (s.cmp
      k).running = true ∧ Frame.passed i.frame (s.cmp k).startAt = false ∧ (s.cmp k).stopAt = none ∧ s.ringClaim (BitVec.ofNat
      32 (s.cmp k).cfg.outRing) (chunkMax (frameHead (s.cmp k).cfg i bs) bs.length) (0x0700 + k) = (some id, v)) ∧
    (∃ (s : State), s.freeEngines = []) ∧
    (∃ (s : State) (e : Nat) (k : Nat) (st : Nat) (rest : List Nat) (f : CmpFrame), s.freeEngines = e :: rest ∧ s.firstJob =
      some (k, f, st)) ∧
    (∃ (s : State) (e : Nat), (s.compress.engines[e]?).bind (·.job) = none) ∧
    (∃ (s : State) (e : Nat) (k : Nat) (id : Nat) (st : Nat) (b : Bool), (s.compress.engines[e]?).bind (·.job) = some (.comp k
      id st b) ∧ (s.cmp k).frames.find? (fun f => f.entry == id) = none) ∧
    (∃ (s : State) (e : Nat) (k : Nat) (id : Nat) (st : Nat) (b : Bool) (f : CmpFrame), (s.compress.engines[e]?).bind (·.job)
      = some (.comp k id st b) ∧ (s.cmp k).frames.find? (fun f => f.entry == id) = some f ∧ f.key ≠ b) ∧
    (∃ (s : State) (e : Nat) (k : Nat) (id : Nat) (st : Nat) (b : Bool), s.compress.engines[e]? = some { job := some (.comp k id st b), retried := false }) ∧
    (∃ (s : State) (v : State) (e : Nat) (k : Nat) (id : Nat) (st : Nat) (b : Bool) (f : CmpFrame), v = s.faultLog 0x0A
      (0x0700 + e) (e * 256 + st) ∧ s.compress.engines[e]? = some { job := some (.comp k id st b), retried := true } ∧ (v.cmp
      k).frames.find? (fun f => f.entry == id) = some f) ∧
    (∃ (s : State), s.replayWants = false) ∧
    (∃ (s : State) (b : Buffer) (i : Nat) (off : Nat) (y : Bool), s.freeEngines.length = 32 ∧ s.compress.engines.length = 32 ∧
      s.firstJob = none ∧ s.replayWants = true ∧ s.buffer? (BitVec.ofNat 32 s.intake.replay.cfg.source) = some b ∧ s.replayNext
      = some (i, off, y)) ∧
    (∃ (s : State) (v : State) (e : Nat) (st : Nat) (cause : Nat) (c : DecompChunk) (out : List Byte),
      (s.compress.engines[e]?).bind (·.job) = some (.replay st) ∧ v = s.onEngine e (fun _ => {}) ∧ s.compress.replay = some c ∧
      decompress c st (s.intake.replay.cfg.accepts (chunkHead c.bytes)) (if (chunkHead c.bytes).flags / 2 % 2 = 1 then some
      (s.compress.history.getD (128 + st) []) else some []) = (cause, out) ∧ cause ≠ 0) := by
  refine ⟨?_, ?_, ?_, ?_, ?_, ?_, ?_, ?_, ?_, ?_, ?_, ?_⟩
  · exact
      let k : Nat := 0
      let s : State := tUp
      let s : State := s.onCmp 0 fun x => { x with reads := some 17 }
      ⟨s, k, by decide +kernel⟩
  · exact
      let k : Nat := 0
      let e : Entry := tEntry
      let i : TapFrame := tTapFrame
      let bs : List Byte := List.replicate 48 0
      let s : State := tUp
      let s : State := s.onCmp 0 fun x => { x with cfg := { x.cfg with source := 0, tap := 0, outRing := 17 }, reads := some 18 }
      let s : State := s.onRing 18 fun r => { r with head := 16, entries := [tEntry], readers := [some { unit := 0x0700, pos := 0 }, none, none, none] }
      let s : State := s.onUnit 0 fun u => { u with tapped := [tTapFrame], records := [List.replicate 48 0] }
      let s : State := s.onCmp 0 fun x => { x with running := true, startAt := 0, stopAt := none }
      let s : State := s.onCmp k fun zz => { zz with running := true }
      let s : State := s.onCmp k fun zz => { zz with stopAt := none }
      let id : Nat × Nat := Option.get (s.ringClaim (BitVec.ofNat 32 (s.cmp k).cfg.outRing) (chunkMax (frameHead (s.cmp k).cfg i bs) bs.length) (0x0700 + k)).1 (by decide +kernel)
      let v : State := (s.ringClaim (BitVec.ofNat 32 (s.cmp k).cfg.outRing) (chunkMax (frameHead (s.cmp k).cfg i bs) bs.length) (0x0700 + k)).2
      ⟨s, v, k, e, i, bs, id, by decide +kernel, by decide +kernel, by decide +kernel, by decide +kernel, by decide +kernel,
        by decide +kernel, by decide +kernel, by decide +kernel, tSome1 _⟩
  · exact
      let s : State := tUp
      let s : State := { s with compress.engines := s.compress.engines.map fun e => { e with job := some (.replay 0) } }
      ⟨s, by decide +kernel⟩
  · exact
      let e : Nat := 0
      let k : Nat := 0
      let st : Nat := 0
      let f : CmpFrame := tCmpFrame
      let s : State := tUp
      let s : State := s.onCmp 0 fun x => { x with running := true, frames := [tCmpFrame] }
      let rest : List Nat := (s.freeEngines).drop 1
      ⟨s, e, k, st, rest, f, by decide +kernel⟩
  · exact
      let e : Nat := 0
      let s : State := tUp
      ⟨s, e, by decide +kernel⟩
  · exact
      let e : Nat := 0
      let k : Nat := 0
      let id : Nat := 0
      let st : Nat := 0
      let b : Bool := false
      let s : State := tUp
      let s : State := { s with compress.engines := [{ job := some (.comp 0 0 0 false) }] }
      ⟨s, e, k, id, st, b, by decide +kernel⟩
  · exact
      let e : Nat := 0
      let k : Nat := 0
      let id : Nat := 0
      let st : Nat := 0
      let b : Bool := false
      let f : CmpFrame := tCmpFrame
      let s : State := tUp
      let s : State := { s with compress.engines := [{ job := some (.comp 0 0 0 false) }] }
      let s : State := s.onCmp 0 fun x => { x with frames := [tCmpFrame] }
      ⟨s, e, k, id, st, b, f, by decide +kernel⟩
  · exact
      let e : Nat := 0
      let k : Nat := 0
      let id : Nat := 0
      let st : Nat := 0
      let b : Bool := false
      let s : State := tUp
      let s : State := { s with compress.engines := [{ job := some (.comp 0 0 0 false) }] }
      ⟨s, e, k, id, st, b, by decide +kernel⟩
  · exact
      let e : Nat := 0
      let k : Nat := 0
      let id : Nat := 0
      let st : Nat := 0
      let b : Bool := false
      let f : CmpFrame := tCmpFrame
      let s : State := tUp
      let s : State := { s with compress.engines := [{ job := some (.comp 0 0 0 false), retried := true }] }
      let s : State := s.onCmp 0 fun x => { x with frames := [tCmpFrame] }
      let v : State := s.faultLog 0x0A (0x0700 + e) (e * 256 + st)
      ⟨s, v, e, k, id, st, b, f, rfl, by decide +kernel⟩
  · exact
      let s : State := tUp
      ⟨s, by decide +kernel⟩
  · exact
      let b : Buffer := { tBuf 13 13 false with size := 64, data := Mem.writeN [] 0 tChunk }
      let i : Nat := 0
      let off : Nat := 0
      let y : Bool := true
      let s : State := tUp
      let s : State := { s with intake.replay := { s.intake.replay with cfg := { s.intake.replay.cfg with source := 13 }, next := 0 } }
      let s : State := s.onBuffer 13 fun b => { b with size := 64 }
      let s : State := s.onUnit 2 fun u => { u with running := true }
      let s : State := s.putBytes 13 0 tChunk
      ⟨s, b, i, off, y, by decide +kernel⟩
  · exact
      let e : Nat := 0
      let st : Nat := 0
      let cause : Nat := 7
      let c : DecompChunk := tDecompChunk
      let out : List Byte := []
      let s : State := tUp
      let s : State := { s with compress := { s.compress with engines := [{ job := some (.replay 0) }], replay := some tDecompChunk } }
      let s : State := { s with compress.replay := some c }
      let v : State := s.onEngine e (fun _ => {})
      ⟨s, v, e, st, cause, c, out, by decide +kernel, rfl, by decide +kernel⟩

theorem test_hypotheses_of_CompressionCommands :
    (∃ (c : Call) (gs : List Got) (s : State), Accepts cmdCmpSessionSet c gs s) ∧
    (∃ (c : Call) (gs : List Got) (s : State), Accepts cmdCmpSessionStart c gs s ∧ (s.cmp (gotN gs 1)).running = false) ∧
    (∃ (c : Call) (gs : List Got) (s : State), Accepts cmdCmpSessionStop c gs s ∧ (s.cmp (gotN gs 1)).running = false) ∧
    (∃ (c : Call) (gs : List Got) (s : State) (f : _), Accepts cmdCmpSessionStop c gs s ∧ (s.cmp (gotN gs 1)).running = true ∧
      gotF? gs 2 = some f) ∧
    (∃ (c : Call) (gs : List Got) (s : State), Accepts cmdCmpKeyRequest c gs s) ∧
    (∃ (c : Call) (gs : List Got) (s : State), Accepts cmdCmpSessionGet c gs s) ∧
    (∃ (c : Call) (gs : List Got) (s : State) (b : _), Accepts cmdCmpVerify c gs s ∧ s.buffer? (gotH gs 1) = some b) ∧
    (∃ (c : Call) (gs : List Got) (s : State), Accepts cmdCmpStatusGet c gs s) ∧
    (∃ (c : Call) (gs : List Got) (s : State), Accepts cmdCmpCountersClear c gs s) := by
  refine ⟨?_, ?_, ?_, ?_, ?_, ?_, ?_, ?_, ?_⟩
  · exact
      let c : Call := tCall [tItem 1 4 0]
      let s : State := tUp
      let gs : List Got := tGot cmdCmpSessionSet c s
      ⟨c, gs, s, tAcc (by decide +kernel)⟩
  · exact
      let c : Call := tCall [tItem 1 1 0]
      let s : State := tUp
      let s : State := s.onUnit 0 fun u => { u with taps := modAt u.taps 0 fun t => { t with ring := 17 } }
      let s : State := s.onCmp 0 fun x => { x with cfg := { x.cfg with source := 0, tap := 0, outRing := 17 }, reads := some 18 }
      let s : State := s.onCmp 0 fun zz => { zz with running := false }
      let gs : List Got := tGot cmdCmpSessionStart c s
      ⟨c, gs, s, tAcc (by decide +kernel), by decide +kernel⟩
  · exact
      let c : Call := tCall [tItem 1 4 0]
      let s : State := tUp
      let s : State := s.onCmp 0 fun zz => { zz with running := false }
      let gs : List Got := tGot cmdCmpSessionStop c s
      ⟨c, gs, s, tAcc (by decide +kernel), by decide +kernel⟩
  · exact
      let c : Call := tCall [tItem 1 4 0, tItem 2 4 5]
      let s : State := tUp
      let s : State := s.onCmp 0 fun zz => { zz with running := true }
      let gs : List Got := tGot cmdCmpSessionStop c s
      let f := Option.get (gotF? gs 2) (by decide +kernel)
      ⟨c, gs, s, f, tAcc (by decide +kernel), by decide +kernel, (Option.some_get _).symm⟩
  · exact
      let c : Call := tCall [tItem 1 4 0]
      let s : State := tUp
      let gs : List Got := tGot cmdCmpKeyRequest c s
      ⟨c, gs, s, tAcc (by decide +kernel)⟩
  · exact
      let c : Call := tCall [tItem 1 4 0]
      let s : State := tUp
      let gs : List Got := tGot cmdCmpSessionGet c s
      ⟨c, gs, s, tAcc (by decide +kernel)⟩
  · exact
      let c : Call := tCall [tItem 1 4 13, tItem 2 4 0]
      let b := { tBuf 13 13 false with size := 64, data := Mem.writeN [] 0 tChunk }
      let s : State := tUp
      let s : State := s.onBuffer 13 fun b => { b with size := 64 }
      let s : State := s.putBytes 13 0 tChunk
      let gs : List Got := tGot cmdCmpVerify c s
      ⟨c, gs, s, b, tAcc (by decide +kernel), by decide +kernel⟩
  · exact
      let c : Call := tCall []
      let s : State := tUp
      let gs : List Got := tGot cmdCmpStatusGet c s
      ⟨c, gs, s, tAcc (by decide +kernel)⟩
  · exact
      let c : Call := tCall [tItem 1 4 0, tItem 2 4 0]
      let s : State := tUp
      let gs : List Got := tGot cmdCmpCountersClear c s
      ⟨c, gs, s, tAcc (by decide +kernel)⟩

theorem test_hypotheses_of_LosslessResidualIsExact :
    ∃ x p : Nat, x < 65536 ∧ p < 65536 := by
  exact
    ⟨65535, 0, by decide +kernel⟩

theorem test_hypotheses_of_StripesRestore :
    (∃ (q top sv st width rows : Nat) (planes : List (List (List Nat))), q = 1 ∧ 1 ≤ q ∧ q ≤ 255 ∧ top < 65536 ∧ sv ≤ top ∧
      (st = 1 ∨ st = 2) ∧ (∀ p ∈ planes, p.length = rows ∧ ∀ row ∈ p, row.length = width ∧ ∀ x ∈ row, x ≤ top)) ∧ (∃ (q top sv
      st width rows : Nat) (planes : List (List (List Nat))), q = 255 ∧ 1 ≤ q ∧ q ≤ 255 ∧ top < 65536 ∧ sv ≤ top ∧ (st = 1 ∨ st
      = 2) ∧ (∀ p ∈ planes, p.length = rows ∧ ∀ row ∈ p, row.length = width ∧ ∀ x ∈ row, x ≤ top)) := by
  exact
    let p : List (List Nat) := [[0, 65535, 7], [1, 2, 65535], [9, 0, 0]]
    ⟨⟨1, 65535, 32768, 2, 3, 3, [p], by decide +kernel⟩, ⟨255, 65535, 32768, 1, 3, 3, [p, p], by decide +kernel⟩⟩

theorem test_hypotheses_of_SampleArithmetic :
    (∃ (n : Int) (d : Nat), 0 < d) ∧
    (∃ (k : Curve) (bits : Nat) (c : Nat), 10 ≤ bits) ∧
    (∃ (c : LookConfig) (b : Bank) (x : Int) (y : Int) (z : Int) (u : Int) (v : Int) (w : Int), u = satL40 (roundDiv (c.m00 *
      x + c.m01 * y + c.m02 * z + c.o0 * 2 ^ 20) (2 ^ 20)) ∧ v = satL40 (roundDiv (c.m10 * x + c.m11 * y + c.m12 * z + c.o1 * 2
      ^ 20) (2 ^ 20)) ∧ w = satL40 (roundDiv (c.m20 * x + c.m21 * y + c.m22 * z + c.o2 * 2 ^ 20) (2 ^ 20))) ∧
    (∃ (e : Nat → Int) (t : Nat), t < 65536) := by
  refine ⟨?_, ?_, ?_, ?_⟩
  · exact
      let n : Int := (5 : Int)
      let d : Nat := 2
      ⟨n, d, by decide +kernel⟩
  · exact
      let k : Curve := {}
      let bits : Nat := 12
      let c : Nat := 4095
      ⟨k, bits, c, by decide +kernel⟩
  · exact
      let c : LookConfig := {}
      let b : Bank := {}
      let x : Int := 0
      let y : Int := 0
      let z : Int := 0
      let u : Int := satL40 (roundDiv (c.m00 * x + c.m01 * y + c.m02 * z + c.o0 * 2 ^ 20) (2 ^ 20))
      let v : Int := satL40 (roundDiv (c.m10 * x + c.m11 * y + c.m12 * z + c.o1 * 2 ^ 20) (2 ^ 20))
      let w : Int := satL40 (roundDiv (c.m20 * x + c.m21 * y + c.m22 * z + c.o2 * 2 ^ 20) (2 ^ 20))
      ⟨c, b, x, y, z, u, v, w, rfl, rfl, rfl⟩
  · exact
      let e : Nat → Int := fun k : Nat => (k : Int)
      let t : Nat := 65535
      ⟨e, t, by decide +kernel⟩

theorem test_hypotheses_of_GranaryEvents :
    (∃ (s : State) (h : Handle), s.buffer? h = none) ∧
    (∃ (s : State) (h : Handle) (b : Buffer), s.buffer? h = some b ∧ b.clearing = true) ∧
    (∃ (s : State), (s.migrating = true ∨ s.granary.cfg.migrateEnable = 0 ∨ s.nextMigration = none)) ∧
    (∃ (s : State) (m : Migration) (rs : List Run), s.migrating = false ∧ s.granary.cfg.migrateEnable ≠ 0 ∧ s.nextMigration =
      some (m, rs)) ∧
    (∃ (s : State), s.granary.migrations.find? (fun m => m.stage == .switched) = none) ∧
    (∃ (s : State) (m : Migration), s.granary.migrations.find? (fun m => m.stage == .switched) = some m ∧ m.kind =
      .retirement) ∧
    (∃ (s : State) (h : Handle) (k : Nat) (b : Buffer), s.buffer? h = some b ∧ b.poison.contains k = false ∧ k * 64 < b.size ∧
      b.place ≠ .sram) ∧
    (∃ (s : State) (h : Handle) (k : Nat) (b : Buffer), s.buffer? h = some b ∧ b.poison.contains k = false ∧ k * 64 < b.size) ∧
    (∃ (s : State) (bs : List Nat), (∀ kb ∈ indexed bs, (s.channel kb.1).band = kb.2 % 4)) ∧
    (∃ (s : State) (b : Nat), (s.channel 0).up = true ∧ (s.channel 0).band ≠ b % 4) ∧
    (∃ (s : State) (c : Nat) (k : Nat) (r : Rank), c < s.granary.channels.length ∧ (s.channel c).up = true ∧ (s.channel
      c).window = 0 ∧ (s.channel c).ranks[k]? = some r ∧ -8 ≤ r.balance) ∧
    (∃ (s : State) (c : Nat), (s.channel c).up = true) ∧
    (∃ (s : State) (c : Nat), (s.channel c).retrainDue = true) ∧
    (∃ (s : State) (c : Nat), (s.channel c).retrainDue = false) ∧
    (∃ (s : State) (c : Nat) (k : Nat), (s.channel c).up = true ∧ (s.channel c).window = 0 ∧ (s.granary.cfg.privChannels ≤ c ∨
      s.granary.cfg.pdPriv ≠ 0)) ∧
    (∃ (s : State) (o : Nat) (n : Nat) (a : Aperture) (b : Buffer), s.control.pcie0Ep = true ∧ s.granary.apertures.getD (o / 2
      ^ 34) {} = a ∧ a.handle ≠ 0 ∧ s.buffer? a.handle = some b) ∧
    (∃ (s : State) (o : Nat) (n : Nat), s.control.pcie0Ep = true ∧ (s.granary.apertures.getD (o / 2 ^ 34) {}).handle = 0) ∧
    (∃ (s : State) (o : Nat) (n : Nat) (w : Option (List Byte)), s.control.pcie0Ep = false) := by
  refine ⟨?_, ?_, ?_, ?_, ?_, ?_, ?_, ?_, ?_, ?_, ?_, ?_, ?_, ?_, ?_, ?_, ?_, ?_⟩
  · exact
      let h : Handle := 99
      let s : State := tUp
      ⟨s, h, by decide +kernel⟩
  · exact
      let h : Handle := 5
      let b : Buffer := { tBuf 5 5 false with clearing := true }
      let s : State := tUp
      let s : State := s.onBuffer 5 fun b => { b with clearing := true }
      ⟨s, h, b, by decide +kernel⟩
  · exact
      let s : State := tUp
      let s : State := { s with granary.cfg.migrateEnable := 0 }
      ⟨s, by decide +kernel⟩
  · exact
      let s : State := tUp
      let s : State := s.onGranary fun g => { g with channels := g.channels.map fun c => { c with up := true, capacity := 1000000, ranks := [{}] } }
      let s : State := s.onGranary fun g => { g with migrations := [{ tMigration with stage := .waiting, handle := 5 }] }
      let m : Migration := (s.nextMigration.map (·.1)).getD tMigration
      let rs : List Run := (s.nextMigration.map (·.2)).getD []
      ⟨s, m, rs, by decide +kernel⟩
  · exact
      let s : State := tUp
      ⟨s, by decide +kernel⟩
  · exact
      let m : Migration := { tMigration with stage := .switched, kind := .retirement }
      let s : State := tUp
      let s : State := s.onGranary fun g => { g with migrations := [{ tMigration with stage := .switched, kind := .retirement }] }
      ⟨s, m, by decide +kernel⟩
  · exact
      let h : Handle := 5
      let k : Nat := 3
      let b : Buffer := tBuf 5 5 false
      let s : State := tUp
      ⟨s, h, k, b, by decide +kernel⟩
  · exact
      let h : Handle := 5
      let k : Nat := 3
      let b : Buffer := tBuf 5 5 false
      let s : State := tUp
      ⟨s, h, k, b, by decide +kernel⟩
  · exact
      let bs : List Nat := []
      let s : State := tUp
      ⟨s, bs, by decide +kernel⟩
  · exact
      let b : Nat := 3
      let s : State := tUp
      let s : State := s.onGranary fun g => { g with channels := modAt g.channels 0 fun c => { c with up := true, ranks := [{}] } }
      ⟨s, b, by decide +kernel⟩
  · exact
      let c : Nat := 0
      let k : Nat := 0
      let r : Rank := ({} : Rank)
      let s : State := tUp
      let s : State := s.onGranary fun g => { g with channels := modAt g.channels 0 fun c => { c with up := true, ranks := [{}] } }
      ⟨s, c, k, r, by decide +kernel⟩
  · exact
      let c : Nat := 0
      let s : State := tUp
      let s : State := s.onGranary fun g => { g with channels := modAt g.channels 0 fun c => { c with up := true, ranks := [{}] } }
      ⟨s, c, by decide +kernel⟩
  · exact
      let c : Nat := 0
      let s : State := tUp
      let s : State := s.onChannel 0 fun c => { c with retrainDue := true }
      ⟨s, c, by decide +kernel⟩
  · exact
      let c : Nat := 0
      let s : State := tUp
      ⟨s, c, by decide +kernel⟩
  · exact
      let c : Nat := 0
      let k : Nat := 0
      let s : State := tUp
      let s : State := s.onGranary fun g => { g with channels := modAt g.channels 0 fun c => { c with up := true, ranks := [{}] } }
      ⟨s, c, k, by decide +kernel⟩
  · exact
      let o : Nat := 0
      let n : Nat := 0
      let a : Aperture := { handle := 5, offset := 0, length := 4096 }
      let b : Buffer := tBuf 5 5 false
      let s : State := tUp
      let s : State := { s with control.pcie0Ep := true }
      let s : State := s.onGranary fun g => { g with apertures := [{ handle := 5, offset := 0, length := 4096 }] }
      let s : State := { s with control.pcie0Ep := true }
      ⟨s, o, n, a, b, by decide +kernel⟩
  · exact
      let o : Nat := 0
      let n : Nat := 0
      let s : State := tUp
      let s : State := { s with control.pcie0Ep := true }
      ⟨s, o, n, by decide +kernel⟩
  · exact
      let o : Nat := 0
      let n : Nat := 0
      let w : Option (List Byte) := none
      let s : State := tUp
      let s : State := { s with control.pcie0Ep := false }
      ⟨s, o, n, w, by decide +kernel⟩

theorem test_hypotheses_of_GranaryBufferCommands :
    (∃ (c : Call) (gs : List Got) (s : State) (b : _) (v : _), Accepts cmdGrnAlloc c gs s ∧ s.alloc (gotN gs 1) (roundUp (gotN
      gs 2) 4096) (gotN gs 3) (gotN gs 4 == 1) = (some b, v)) ∧
    (∃ (c : Call) (gs : List Got) (s : State), Accepts cmdGrnAlloc c gs s ∧ (s.alloc (gotN gs 1) (roundUp (gotN gs 2) 4096)
      (gotN gs 3) (gotN gs 4 == 1)).1 = none) ∧
    (∃ (c : Call) (gs : List Got) (s : State), Accepts cmdGrnFree c gs s) ∧
    (∃ (c : Call) (gs : List Got) (s : State) (b : _), Accepts cmdGrnInfo c gs s ∧ s.buffer? (gotH gs 1) = some b) ∧
    (∃ (c : Call) (gs : List Got) (s : State), Accepts cmdGrnPin c gs s) ∧
    (∃ (c : Call) (gs : List Got) (s : State) (b : _), Accepts cmdGrnRead c gs s ∧ s.buffer? (gotH gs 1) = some b) ∧
    (∃ (c : Call) (gs : List Got) (s : State), Accepts cmdGrnWrite c gs s) ∧
    (∃ (c : Call) (gs : List Got) (s : State), Accepts cmdGrnApertureMap c gs s) ∧
    (∃ (c : Call) (gs : List Got) (s : State), Accepts cmdGrnDramSet c gs s) ∧
    (∃ (c : Call) (gs : List Got) (s : State), Accepts cmdGrnStatusGet c gs s) ∧
    (∃ (c : Call) (gs : List Got) (s : State), Accepts cmdGrnCountersClear c gs s) := by
  refine ⟨?_, ?_, ?_, ?_, ?_, ?_, ?_, ?_, ?_, ?_, ?_⟩
  · exact
      let c : Call := tCall [tItem 1 1 5, tItem 2 8 4096, tItem 3 1 0, tItem 4 1 1]
      let s : State := tUp
      let s : State := s.onGranary fun g => { g with channels := g.channels.map fun c => { c with up := true, capacity := 1000000, ranks := [{}] } }
      let gs : List Got := tGot cmdGrnAlloc c s
      let b := Option.get (s.alloc (gotN gs 1) (roundUp (gotN gs 2) 4096) (gotN gs 3) (gotN gs 4 == 1)).1 (by decide +kernel)
      let v := (s.alloc (gotN gs 1) (roundUp (gotN gs 2) 4096) (gotN gs 3) (gotN gs 4 == 1)).2
      ⟨c, gs, s, b, v, tAcc (by decide +kernel), tSome1 _⟩
  · exact
      let c : Call := tCall [tItem 1 1 1, tItem 2 8 4096, tItem 3 1 2, tItem 4 1 0]
      let s : State := tUp
      let gs : List Got := tGot cmdGrnAlloc c s
      ⟨c, gs, s, tAcc (by decide +kernel), by decide +kernel⟩
  · exact
      let c : Call := tCall [tItem 1 4 1]
      let s : State := tUp
      let gs : List Got := tGot cmdGrnFree c s
      ⟨c, gs, s, tAcc (by decide +kernel)⟩
  · exact
      let c : Call := tCall [tItem 1 4 1]
      let s : State := tUp
      let gs : List Got := tGot cmdGrnInfo c s
      let b := Option.get (s.buffer? (gotH gs 1)) (by decide +kernel)
      ⟨c, gs, s, b, tAcc (by decide +kernel), (Option.some_get _).symm⟩
  · exact
      let c : Call := tCall [tItem 1 4 1]
      let s : State := tUp
      let gs : List Got := tGot cmdGrnPin c s
      ⟨c, gs, s, tAcc (by decide +kernel)⟩
  · exact
      let c : Call := tCall [tItem 1 4 1, tItem 2 4 0, tItem 3 4 0]
      let s : State := tUp
      let gs : List Got := tGot cmdGrnRead c s
      let b := Option.get (s.buffer? (gotH gs 1)) (by decide +kernel)
      ⟨c, gs, s, b, tAcc (by decide +kernel), (Option.some_get _).symm⟩
  · exact
      let c : Call := tCall [tItem 1 4 1, tItem 2 4 0, tItem 3 0 0]
      let s : State := tUp
      let gs : List Got := tGot cmdGrnWrite c s
      ⟨c, gs, s, tAcc (by decide +kernel)⟩
  · exact
      let c : Call := tCall [tItem 1 1 1, tItem 2 4 5, tItem 3 8 0, tItem 4 8 4096]
      let s : State := tUp
      let s : State := { s with control.pcie0Ep := true }
      let gs : List Got := tGot cmdGrnApertureMap c s
      ⟨c, gs, s, tAcc (by decide +kernel)⟩
  · exact
      let c : Call := tCall []
      let s : State := tUp
      let gs : List Got := tGot cmdGrnDramSet c s
      ⟨c, gs, s, tAcc (by decide +kernel)⟩
  · exact
      let c : Call := tCall []
      let s : State := tUp
      let gs : List Got := tGot cmdGrnStatusGet c s
      ⟨c, gs, s, tAcc (by decide +kernel)⟩
  · exact
      let c : Call := tCall [tItem 1 4 0, tItem 2 4 0]
      let s : State := tUp
      let gs : List Got := tGot cmdGrnCountersClear c s
      ⟨c, gs, s, tAcc (by decide +kernel)⟩

theorem test_hypotheses_of_RingCommands :
    (∃ (c : Call) (gs : List Got) (s : State) (b : _) (r : _) (k : _), Accepts cmdGrnRingAttach c gs s ∧ s.ring? (gotH gs 1) =
      some (b, r) ∧ r.readers.findIdx? (·.isNone) = some k) ∧
    (∃ (c : Call) (gs : List Got) (s : State), Accepts cmdGrnRingDetach c gs s) ∧
    (∃ (c : Call) (gs : List Got) (s : State) (b : _) (r : _) (p : _), Accepts cmdGrnRingRelease c gs s ∧ s.ring? (gotH gs 1)
      = some (b, r) ∧ (r.readers.getD (gotN gs 2) none).map (·.pos) = some p) ∧
    (∃ (c : Call) (gs : List Got) (s : State) (b : _) (r : _), Accepts cmdGrnRingStatus c gs s ∧ s.ring? (gotH gs 1) = some
      (b, r)) ∧
    (∃ (c : Call) (gs : List Got) (s : State) (v : _) (id : _) (p : _), Accepts cmdGrnRingPublish c gs s ∧ s.ringClaim (gotH
      gs 1) (gotN gs 2) 0x0800 = (some (id, p), v)) ∧
    (∃ (c : Call) (gs : List Got) (s : State) (b : _) (r : _), Accepts cmdGrnRingPublish c gs s ∧ s.ring? (gotH gs 1) = some
      (b, r) ∧ b.size < gotN gs 2 + r.used + r.reserved) ∧
    (∃ (s : State) (h : Handle) (n : Nat) (m : Nat) (b : Buffer) (r : Ring), s.ring? h = some (b, r)) := by
  refine ⟨?_, ?_, ?_, ?_, ?_, ?_, ?_⟩
  · exact
      let c : Call := tCall [tItem 1 4 17]
      let b := tBuf 17 1 true
      let r := ({} : Ring)
      let k := 0
      let s : State := tUp
      let gs : List Got := tGot cmdGrnRingAttach c s
      ⟨c, gs, s, b, r, k, tAcc (by decide +kernel), by decide +kernel⟩
  · exact
      let c : Call := tCall [tItem 1 4 17, tItem 2 1 0]
      let s : State := tUp
      let s : State := s.onRing 17 fun r => ({ head := 0, entries := [], readers := [some { unit := 0x08F0, pos := 0 }, none, none, none] } : Ring)
      let gs : List Got := tGot cmdGrnRingDetach c s
      ⟨c, gs, s, tAcc (by decide +kernel)⟩
  · exact
      let c : Call := tCall [tItem 1 4 17, tItem 2 1 0, tItem 3 4 0]
      let b := { tBuf 17 1 true with ring := some ({ head := 0, entries := [], readers := [some { unit := 0x08F0, pos := 0 }, none, none, none] } : Ring) }
      let r := ({ head := 0, entries := [], readers := [some { unit := 0x08F0, pos := 0 }, none, none, none] } : Ring)
      let p := 0
      let s : State := tUp
      let s : State := s.onRing 17 fun r => ({ head := 0, entries := [], readers := [some { unit := 0x08F0, pos := 0 }, none, none, none] } : Ring)
      let gs : List Got := tGot cmdGrnRingRelease c s
      ⟨c, gs, s, b, r, p, tAcc (by decide +kernel), by decide +kernel⟩
  · exact
      let c : Call := tCall [tItem 1 4 17]
      let b := tBuf 17 1 true
      let r := ({} : Ring)
      let s : State := tUp
      let gs : List Got := tGot cmdGrnRingStatus c s
      ⟨c, gs, s, b, r, tAcc (by decide +kernel), by decide +kernel⟩
  · exact
      let c : Call := tCall [tItem 1 4 26, tItem 2 8 64]
      let s : State := tUp
      let gs : List Got := tGot cmdGrnRingPublish c s
      let id := (Option.get (s.ringClaim (gotH gs 1) (gotN gs 2) 0x0800).1 (by decide +kernel)).1
      let p := (Option.get (s.ringClaim (gotH gs 1) (gotN gs 2) 0x0800).1 (by decide +kernel)).2
      let v := (s.ringClaim (gotH gs 1) (gotN gs 2) 0x0800).2
      ⟨c, gs, s, v, id, p, tAcc (by decide +kernel), tSome2 _⟩
  · exact
      let c : Call := tCall [tItem 1 4 26, tItem 2 8 16777217]
      let b := tBuf 26 10 true
      let r := ({} : Ring)
      let s : State := tUp
      let gs : List Got := tGot cmdGrnRingPublish c s
      ⟨c, gs, s, b, r, tAcc (by decide +kernel), by decide +kernel⟩
  · exact
      let h : Handle := 17
      let n : Nat := 0
      let m : Nat := 0
      let b : Buffer := tBuf 17 1 true
      let r : Ring := ({} : Ring)
      let s : State := tUp
      ⟨s, h, n, m, b, r, by decide +kernel⟩

theorem test_hypotheses_of_DriveEvents :
    (∃ (s : State) (d : Nat) (i : Nat) (st : Nat), (s.drive d).out.find? (fun o => o.1 == i) = none) ∧
    (∃ (s : State) (d : Nat) (i : Nat) (j : Nat) (c : NvmeCmd), (s.drive d).out.find? (fun o => o.1 == i) = some (j, c) ∧
      c.tries = 0) ∧
    (∃ (s : State) (d : Nat) (i : Nat) (j : Nat) (st : Nat) (c : NvmeCmd), (s.drive d).out.find? (fun o => o.1 == i) = some
      (j, c) ∧ st ≠ 0 ∧ st ≠ 2 ∧ c.tries < s.record.retryLimit) ∧
    (∃ (s : State) (d : Nat) (i : Nat) (j : Nat) (c : NvmeCmd), (s.drive d).out.find? (fun o => o.1 == i) = some (j, c)) ∧
    (∃ (s : State) (v : State) (d : Nat) (i : Nat), (s.drive d).out.any (fun o => o.1 == i) = true ∧ v = (s.onDrive d fun x =>
      { x with cnt := bumpAt x.cnt 2 }).send (.nvmeAbort d i)) ∧
    (∃ (s : State) (d : Nat) (i : DriveInfo), s.rootPort d = true) ∧
    (∃ (s : State) (d : Nat) (i : DriveInfo), s.rootPort d = false) ∧
    (∃ (s : State) (k : Nat) (n : Nat), (s.record.volume = none ∨ s.clip? k = none ∨ (s.clip? k).map (·.isOpen) = some false)) ∧
    (∃ (s : State) (v : Volume) (c : Clip) (e : Extent) (y : Copy) (k : Nat) (n : Nat), s.record.volume = some v ∧ s.clip? k =
      some c ∧ c.isOpen = true ∧ c.extents.find? (fun x => x.ordinal == n) = some e ∧ e.copies = [y] ∧ y.lost = false ∧
      y.recorded < s.doneBytes k n y) := by
  refine ⟨?_, ?_, ?_, ?_, ?_, ?_, ?_, ?_, ?_⟩
  · exact
      let d : Nat := 0
      let i : Nat := 0
      let st : Nat := 0
      let s : State := tUp
      ⟨s, d, i, st, by decide +kernel⟩
  · exact
      let d : Nat := 0
      let i : Nat := 0
      let j : Nat := 0
      let c : NvmeCmd := tNvmeCmd
      let s : State := tUp
      let s : State := s.onDrive 0 fun x => { x with out := [(0, tNvmeCmd)] }
      ⟨s, d, i, j, c, by decide +kernel⟩
  · exact
      let d : Nat := 0
      let i : Nat := 0
      let j : Nat := 0
      let st : Nat := 1
      let c : NvmeCmd := tNvmeCmd
      let s : State := tUp
      let s : State := s.onDrive 0 fun x => { x with out := [(0, tNvmeCmd)] }
      ⟨s, d, i, j, st, c, by decide +kernel⟩
  · exact
      let d : Nat := 0
      let i : Nat := 0
      let j : Nat := 0
      let c : NvmeCmd := tNvmeCmd
      let s : State := tUp
      let s : State := s.onDrive 0 fun x => { x with out := [(0, tNvmeCmd)] }
      ⟨s, d, i, j, c, by decide +kernel⟩
  · exact
      let d : Nat := 0
      let i : Nat := 0
      let s : State := tUp
      let s : State := s.onDrive 0 fun x => { x with out := [(0, tNvmeCmd)] }
      let v : State := (s.onDrive d fun x => { x with cnt := bumpAt x.cnt 2 }).send (.nvmeAbort d i)
      ⟨s, v, d, i, by decide +kernel, rfl⟩
  · exact
      let d : Nat := 0
      let i : DriveInfo := tDriveInfo
      let s : State := tUp
      ⟨s, d, i, by decide +kernel⟩
  · exact
      let d : Nat := 9
      let i : DriveInfo := tDriveInfo
      let s : State := tUp
      ⟨s, d, i, by decide +kernel⟩
  · exact
      let k : Nat := 0
      let n : Nat := 0
      let s : State := tUp
      ⟨s, k, n, by decide +kernel⟩
  · exact
      let v : Volume := { tVolume with clips := [{ tClip with extents := [{ ordinal := 0, copies := [{ tCopy with issued := 5 }] }] }] }
      let c : Clip := { tClip with extents := [{ ordinal := 0, copies := [{ tCopy with issued := 5 }] }] }
      let e : Extent := { ordinal := 0, copies := [{ tCopy with issued := 5 }] }
      let y : Copy := { tCopy with issued := 5 }
      let k : Nat := 0
      let n : Nat := 0
      let s : State := tUp
      let s : State := { s with record.volume := some { tVolume with clips := [{ tClip with extents := [{ ordinal := 0, copies := [{ tCopy with issued := 5 }] }] }] } }
      let s : State := { s with record.volume := some v }
      ⟨s, v, c, e, y, k, n, by decide +kernel⟩

theorem test_hypotheses_of_VolumeCommands :
    (∃ (c : Call) (gs : List Got) (s : State) (r : _), Accepts cmdRecVolumeFormat c gs s ∧ r = s.volumeFormat (gotN gs 1)
      (gotN gs 2) (gotN gs 3) (gotN gs 4)) ∧
    (∃ (c : Call) (gs : List Got) (s : State) (v : _) (n : _) (t : _), Accepts cmdRecVolumeMount c gs s ∧ s.volumeMount (gotN
      gs 1) = (some (v, n), t)) ∧
    (∃ (c : Call) (gs : List Got) (s : State) (v : _), Accepts cmdRecVolumeUnmount c gs s ∧ s.recRuns = false ∧
      s.record.volume = some v) ∧
    (∃ (c : Call) (gs : List Got) (s : State), Accepts cmdRecVolumeUnmount c gs s ∧ s.recRuns = true) ∧
    (∃ (c : Call) (gs : List Got) (s : State), Accepts cmdRecVolumeUnmount c gs s ∧ s.recRuns = false ∧ s.record.volume =
      none) ∧
    (∃ (c : Call) (gs : List Got) (s : State) (v : _) (d : _), Accepts cmdRecVolumeInfo c gs s ∧ s.record.volume = some v ∧ d
      = (membersOf v.members).headD 0) ∧
    (∃ (c : Call) (gs : List Got) (s : State) (v : _), Accepts cmdRecClipList c gs s ∧ s.record.volume = some v) ∧
    (∃ (c : Call) (gs : List Got) (s : State) (x : _) (n : _), Accepts cmdRecClipRead c gs s ∧ s.clip? (gotN gs 1) = some x ∧
      n = min (gotN gs 3) (s.clipSize x - gotN gs 2)) ∧
    (∃ (c : Call) (gs : List Got) (s : State), Accepts cmdRecDriveInfo c gs s) := by
  refine ⟨?_, ?_, ?_, ?_, ?_, ?_, ?_, ?_, ?_⟩
  · exact
      let c : Call := tCall [tItem 1 1 1, tItem 2 1 0, tItem 3 1 24, tItem 4 4 1024]
      let s : State := tUp
      let s : State := s.onDrive 0 fun x => { x with info := some { tDriveInfo with bytes := 1000000000000 } }
      let gs : List Got := tGot cmdRecVolumeFormat c s
      let r := s.volumeFormat (gotN gs 1) (gotN gs 2) (gotN gs 3) (gotN gs 4)
      ⟨c, gs, s, r, tAcc (by decide +kernel), rfl⟩
  · exact
      let c : Call := tCall [tItem 1 1 1]
      let s : State := tUp
      let s : State := s.onDrive 0 fun x => { x with info := some { tDriveInfo with bytes := 1000000000000, super := some { good := true, verMajor := 1, volumeId := [], members := 1, layout := 0, extentShift := 24, journalBlocks := 1024, memberSn := [[]], driveIndex := 0, extents := 10 } } }
      let gs : List Got := tGot cmdRecVolumeMount c s
      let v := (Option.get (s.volumeMount (gotN gs 1)).1 (by decide +kernel)).1
      let n := (Option.get (s.volumeMount (gotN gs 1)).1 (by decide +kernel)).2
      let t := (s.volumeMount (gotN gs 1)).2
      ⟨c, gs, s, v, n, t, tAcc (by decide +kernel), tSome2 _⟩
  · exact
      let c : Call := tCall []
      let v := tVolume
      let s : State := tUp
      let s : State := { s with record.volume := some tVolume }
      let s : State := { s with record.volume := some v }
      let gs : List Got := tGot cmdRecVolumeUnmount c s
      ⟨c, gs, s, v, tAcc (by decide +kernel), by decide +kernel⟩
  · exact
      let c : Call := tCall []
      let s : State := tUp
      let s : State := s.onRec 0 fun x => { x with running := true }
      let gs : List Got := tGot cmdRecVolumeUnmount c s
      ⟨c, gs, s, tAcc (by decide +kernel), by decide +kernel⟩
  · exact
      let c : Call := tCall []
      let s : State := tUp
      let s : State := { s with record.volume := none }
      let gs : List Got := tGot cmdRecVolumeUnmount c s
      ⟨c, gs, s, tAcc (by decide +kernel), by decide +kernel⟩
  · exact
      let c : Call := tCall []
      let v := tVolume
      let d := 0
      let s : State := tUp
      let s : State := { s with record.volume := some tVolume }
      let s : State := { s with record.volume := some v }
      let gs : List Got := tGot cmdRecVolumeInfo c s
      ⟨c, gs, s, v, d, tAcc (by decide +kernel), by decide +kernel⟩
  · exact
      let c : Call := tCall [tItem 1 4 0, tItem 2 1 1]
      let v := tVolume
      let s : State := tUp
      let s : State := { s with record.volume := some tVolume }
      let s : State := { s with record.volume := some v }
      let gs : List Got := tGot cmdRecClipList c s
      ⟨c, gs, s, v, tAcc (by decide +kernel), by decide +kernel⟩
  · exact
      let c : Call := tCall [tItem 1 4 0, tItem 2 8 0, tItem 3 4 0, tItem 4 4 10, tItem 5 8 0]
      let x := { tClip with isOpen := false }
      let n := 0
      let s : State := tUp
      let s : State := { s with record.volume := some { tVolume with clips := [{ tClip with isOpen := false }] } }
      let gs : List Got := tGot cmdRecClipRead c s
      ⟨c, gs, s, x, n, tAcc (by decide +kernel), by decide +kernel⟩
  · exact
      let c : Call := tCall [tItem 1 4 0]
      let s : State := tUp
      let gs : List Got := tGot cmdRecDriveInfo c s
      ⟨c, gs, s, tAcc (by decide +kernel)⟩

theorem test_hypotheses_of_RecordingSessionCommands :
    (∃ (c : Call) (gs : List Got) (s : State) (n : _) (v : _), Accepts cmdRecSessionSet c gs s ∧ n = putPlain 0x100 recFlds gs
      (s.recSession (gotN gs 1)).cfg ∧ s.namedOnce (gotN gs 1) n = true ∧ v = (s.onRec (gotN gs 1) fun x => { x with cfg := n })
      ∧ (s.recSession (gotN gs 1)).startAt = none) ∧
    (∃ (c : Call) (gs : List Got) (s : State) (r : _) (f : _), Accepts cmdRecStart c gs s ∧ (s.recSession (gotN gs 1)).startAt
      = none ∧ r = s.reserveClips (gotN gs 1) ∧ gotF? gs 2 = some f ∧ has gs 2 = true) ∧
    (∃ (c : Call) (gs : List Got) (s : State) (r : _) (v : _), Accepts cmdRecStart c gs s ∧ (s.recSession (gotN gs 1)).startAt
      = none ∧ r = s.reserveClips (gotN gs 1) ∧ gotF? gs 2 = none ∧ has gs 2 = false ∧ gotN gs 1 < s.record.sessions.length ∧
      (s.recSession (gotN gs 1)).running = false ∧ s.record.volume = some v ∧ v.full = false) ∧
    (∃ (c : Call) (gs : List Got) (s : State) (f : _), Accepts cmdRecStop c gs s ∧ gotF? gs 2 = some f ∧ (s.recSession (gotN
      gs 1)).running = true) ∧
    (∃ (c : Call) (gs : List Got) (s : State), Accepts cmdRecStop c gs s ∧ gotF? gs 2 = none ∧ (s.recSession (gotN gs
      1)).running = true ∧ (s.recSession (gotN gs 1)).stop = none) ∧
    (∃ (c : Call) (gs : List Got) (s : State), Accepts cmdRecMetadataAdd c gs s ∧ (payloadBytes (hostItems c s)).length ≤ 4096
      ∧ (payloadBytes ((s.recSession (gotN gs 1)).host ++ hostItems c s)).length ≤ 4096) ∧
    (∃ (c : Call) (gs : List Got) (s : State), Accepts cmdRecStatusGet c gs s) ∧
    (∃ (c : Call) (gs : List Got) (s : State), Accepts cmdRecCountersClear c gs s) := by
  refine ⟨?_, ?_, ?_, ?_, ?_, ?_, ?_, ?_⟩
  · exact
      let c : Call := tCall [tItem 1 4 0]
      let s : State := tUp
      let s : State := s.onRec 0 fun zz => { zz with startAt := none }
      let gs : List Got := tGot cmdRecSessionSet c s
      let n := putPlain 0x100 recFlds gs (s.recSession (gotN gs 1)).cfg
      let v := (s.onRec (gotN gs 1) fun x => { x with cfg := n })
      ⟨c, gs, s, n, v, tAcc (by decide +kernel), rfl, by decide +kernel, rfl, by decide +kernel⟩
  · exact
      let c : Call := tCall [tItem 1 1 0, tItem 2 4 5]
      let s : State := tUp
      let s : State := { s with record.volume := some { tVolume with journalBlocks := 4096 } }
      let s : State := s.onDrive 0 fun x => { x with info := some tDriveInfo, member := true, extents := 100 }
      let s : State := s.onRec 0 fun zz => { zz with startAt := none }
      let gs : List Got := tGot cmdRecStart c s
      let r := s.reserveClips (gotN gs 1)
      let f := Option.get (gotF? gs 2) (by decide +kernel)
      ⟨c, gs, s, r, f, tAcc (by decide +kernel), by decide +kernel, rfl, (Option.some_get _).symm, by decide +kernel⟩
  · exact
      let c : Call := tCall [tItem 1 1 0]
      let v := { tVolume with journalBlocks := 4096 }
      let s : State := tUp
      let s : State := { s with record.volume := some { tVolume with journalBlocks := 4096 } }
      let s : State := s.onDrive 0 fun x => { x with info := some tDriveInfo, member := true, extents := 100 }
      let s : State := s.onRec 0 fun zz => { zz with startAt := none }
      let s : State := s.onRec 0 fun zz => { zz with running := false }
      let s : State := { s with record.volume := some v }
      let gs : List Got := tGot cmdRecStart c s
      let r := s.reserveClips (gotN gs 1)
      ⟨c, gs, s, r, v, tAcc (by decide +kernel), by decide +kernel, rfl, by decide +kernel⟩
  · exact
      let c : Call := tCall [tItem 1 4 0, tItem 2 4 5]
      let s : State := tUp
      let s : State := s.onRec 0 fun zz => { zz with running := true }
      let gs : List Got := tGot cmdRecStop c s
      let f := Option.get (gotF? gs 2) (by decide +kernel)
      ⟨c, gs, s, f, tAcc (by decide +kernel), (Option.some_get _).symm, by decide +kernel⟩
  · exact
      let c : Call := tCall [tItem 1 4 0]
      let s : State := tUp
      let s : State := s.onRec 0 fun zz => { zz with running := true }
      let s : State := s.onRec 0 fun zz => { zz with stop := none }
      let gs : List Got := tGot cmdRecStop c s
      ⟨c, gs, s, tAcc (by decide +kernel), by decide +kernel⟩
  · exact
      let c : Call := tCall [tItem 1 4 0]
      let s : State := tUp
      let gs : List Got := tGot cmdRecMetadataAdd c s
      ⟨c, gs, s, tAcc (by decide +kernel), by decide +kernel⟩
  · exact
      let c : Call := tCall []
      let s : State := tUp
      let gs : List Got := tGot cmdRecStatusGet c s
      ⟨c, gs, s, tAcc (by decide +kernel)⟩
  · exact
      let c : Call := tCall [tItem 1 4 0, tItem 2 4 0]
      let s : State := tUp
      let gs : List Got := tGot cmdRecCountersClear c s
      ⟨c, gs, s, tAcc (by decide +kernel)⟩

theorem test_hypotheses_of_ControlDatagramsAndIp :
    (∃ (s : State) (d : Datagram), s.portIp d.port = false) ∧
    (∃ (s : State) (d : Datagram), s.portIp d.port = true ∧ datagramSound d = false) ∧
    (∃ (s : State) (d : Datagram) (x : NetPort) (k : Nat), s.portIp d.port = true ∧ datagramSound d = true ∧ s.ready = true ∧
      k = d.mailbox - 8 ∧ s.netPort? d.port = some x ∧ (s.transport k).client = none ∧ (s.transport k).rx = none ∧ d.flags = 1 ∧
      1 ≤ d.fill.length ∧ d.fill.length ≤ x.cfg.fill ∧ d.fillNo = 0) ∧
    (∃ (s : State) (d : Datagram) (k : Nat) (f : OutFill), s.portIp d.port = true ∧ datagramSound d = true ∧ s.ready = true ∧
      k = d.mailbox - 8 ∧ (s.transport k).client = some (d.port, d.srcIp, d.srcPort) ∧ (s.transport k).out = some f ∧ d.flags =
      2 ∧ d.fill = [] ∧ f.msgSeq = d.msgSeq ∧ f.fillNo = d.fillNo ∧ (s.control.mailboxes[8 + k]?).any (fun m => m.resetOnAck) =
      false) ∧
    (∃ (s : State) (d : Datagram) (k : Nat), s.portIp d.port = true ∧ datagramSound d = true ∧ s.ready = true ∧ k = d.mailbox
      - 8 ∧ d.flags = 4 ∧ d.fill = []) ∧
    (∃ (s : State) (k : Nat) (f : OutFill), k < 4 ∧ (s.transport k).out = some f ∧ f.resends < 5) ∧
    (∃ (s : State) (k : Nat) (f : OutFill), k < 4 ∧ (s.transport k).out = some f ∧ 5 ≤ f.resends) ∧
    (∃ (s : State) (k : Nat), k < 4 ∧ (s.transport k).client.isSome = true) ∧
    (∃ (s : State) (k : Nat), k < 4 ∧ (s.transport k).client = none) ∧
    (∃ (s : State) (p : Nat) (a : ArpPacket) (x : NetPort), s.portOpen p = true ∧ s.netPort? p = some x ∧ x.cfg.ipAddr ≠ 0 ∧
      a.targetIp.toNat = x.cfg.ipAddr ∧ a.request = true) ∧
    (∃ (s : State) (p : Nat) (a : ArpPacket), s.portOpen p = false) ∧
    (∃ (s : State) (p : Nat) (i : Word) (x : NetPort), s.netPort? p = some x) ∧
    (∃ (s : State) (p : Nat) (a : Word) (b : Word) (bs : List Byte) (x : NetPort), s.portOpen p = true ∧ s.netPort? p = some
      x) ∧
    (∃ (s : State) (p : Nat) (b : Bool) (x : NetPort), s.netPort? p = some x ∧ x.linkUp ≠ b ∧ (b = false ∨ x.cfg.portEnable ≠
      0)) ∧
    (∃ (s : State) (p : Nat) (x : NetPort), s.netPort? p = some x) := by
  refine ⟨?_, ?_, ?_, ?_, ?_, ?_, ?_, ?_, ?_, ?_, ?_, ?_, ?_, ?_, ?_⟩
  · exact
      let d : Datagram := tDatagram
      let s : State := tUp
      ⟨s, d, by decide +kernel⟩
  · exact
      let d : Datagram := { tDatagram with ver := 2 }
      let s : State := tUp
      let s : State := s.onNetPort 0 fun x => { x with linkUp := true, cfg := { x.cfg with portEnable := 1, ipAddr := 1 } }
      ⟨s, d, by decide +kernel⟩
  · exact
      let d : Datagram := { tDatagram with flags := 1, fill := [0] }
      let k : Nat := d.mailbox - 8
      let s : State := tUp
      let s : State := s.onNetPort 0 fun x => { x with linkUp := true, cfg := { x.cfg with portEnable := 1, ipAddr := 1 } }
      let s : State := s.onTransport k fun zz => { zz with client := none }
      let s : State := s.onTransport k fun zz => { zz with rx := none }
      let x : NetPort := Option.get (s.netPort? d.port) (by decide +kernel)
      ⟨s, d, x, k, by decide +kernel, by decide +kernel, by decide +kernel, rfl, (Option.some_get _).symm, by decide +kernel⟩
  · exact
      let d : Datagram := { tDatagram with flags := 2 }
      let k : Nat := d.mailbox - 8
      let f : OutFill := { ({ (tOutFill : OutFill) with msgSeq := d.msgSeq } : OutFill) with fillNo := d.fillNo }
      let s : State := tUp
      let s : State := s.onNetPort 0 fun x => { x with linkUp := true, cfg := { x.cfg with portEnable := 1, ipAddr := 1 } }
      let s : State := s.onTransport k fun zz => { zz with client := some (d.port, d.srcIp, d.srcPort) }
      let s : State := s.onTransport k fun zz => { zz with out := some f }
      ⟨s, d, k, f, by decide +kernel, by decide +kernel, by decide +kernel, rfl, by decide +kernel⟩
  · exact
      let d : Datagram := { tDatagram with flags := 4 }
      let k : Nat := d.mailbox - 8
      let s : State := tUp
      let s : State := s.onNetPort 0 fun x => { x with linkUp := true, cfg := { x.cfg with portEnable := 1, ipAddr := 1 } }
      ⟨s, d, k, by decide +kernel, by decide +kernel, by decide +kernel, rfl, by decide +kernel⟩
  · exact
      let k : Nat := 0
      let f : OutFill := tOutFill
      let s : State := tUp
      let s : State := s.onTransport k fun zz => { zz with out := some f }
      ⟨s, k, f, by decide +kernel⟩
  · exact
      let k : Nat := 0
      let f : OutFill := { tOutFill with resends := 5 }
      let s : State := tUp
      let s : State := s.onTransport k fun zz => { zz with out := some f }
      ⟨s, k, f, by decide +kernel⟩
  · exact
      let k : Nat := 0
      let s : State := tUp
      let s : State := s.onTransport 0 fun t => { t with client := some (0, 1, 1) }
      ⟨s, k, by decide +kernel⟩
  · exact
      let k : Nat := 0
      let s : State := tUp
      let s : State := s.onTransport k fun zz => { zz with client := none }
      ⟨s, k, by decide +kernel⟩
  · exact
      let p : Nat := 0
      let a : ArpPacket := { tArp with targetIp := 1 }
      let s : State := tUp
      let s : State := s.onNetPort 0 fun x => { x with linkUp := true, cfg := { x.cfg with portEnable := 1, ipAddr := 1 } }
      let x : NetPort := Option.get (s.netPort? p) (by decide +kernel)
      ⟨s, p, a, x, by decide +kernel, (Option.some_get _).symm, by decide +kernel⟩
  · exact
      let p : Nat := 0
      let a : ArpPacket := tArp
      let s : State := tUp
      ⟨s, p, a, by decide +kernel⟩
  · exact
      let p : Nat := 0
      let i : Word := 0
      let s : State := tUp
      let x : NetPort := Option.get (s.netPort? p) (by decide +kernel)
      ⟨s, p, i, x, (Option.some_get _).symm⟩
  · exact
      let p : Nat := 0
      let a : Word := 0
      let b : Word := 0
      let bs : List Byte := []
      let s : State := tUp
      let s : State := s.onNetPort 0 fun x => { x with linkUp := true, cfg := { x.cfg with portEnable := 1, ipAddr := 1 } }
      let x : NetPort := Option.get (s.netPort? p) (by decide +kernel)
      ⟨s, p, a, b, bs, x, by decide +kernel, (Option.some_get _).symm⟩
  · exact
      let p : Nat := 0
      let b : Bool := true
      let s : State := tUp
      let s : State := s.onNetPort 0 fun x => { x with cfg := { x.cfg with portEnable := 1 } }
      let x : NetPort := Option.get (s.netPort? p) (by decide +kernel)
      ⟨s, p, b, x, (Option.some_get _).symm, by decide +kernel⟩
  · exact
      let p : Nat := 0
      let s : State := tUp
      let x : NetPort := Option.get (s.netPort? p) (by decide +kernel)
      ⟨s, p, x, (Option.some_get _).symm⟩

theorem test_hypotheses_of_PtpEventsAndCommands :
    (∃ (s : State) (p : Nat) (m : PtpSync), s.portIp p = true ∧ s.net.ptp.cfg.enable ≠ 0 ∧ p ≠ s.net.ptp.cfg.port) ∧
    (∃ (s : State) (p : Nat) (m : PtpSync), s.portIp p = true ∧ s.net.ptp.cfg.enable ≠ 0 ∧ p = s.net.ptp.cfg.port ∧
      s.net.ptp.master.map (·.source) ≠ some m.source) ∧
    (∃ (s : State) (p : Nat) (m : PtpSync), s.portIp p = true ∧ s.net.ptp.cfg.enable ≠ 0 ∧ p = s.net.ptp.cfg.port ∧
      s.net.ptp.master.map (·.source) = some m.source ∧ s.net.ptp.pathDelay = none) ∧
    (∃ (s : State) (p : Nat) (m : PtpSync) (y : PtpSync), s.portIp p = true ∧ s.net.ptp.cfg.enable ≠ 0 ∧ p =
      s.net.ptp.cfg.port ∧ s.net.ptp.pendingSync = some y ∧ y.source = m.source ∧ y.seq = m.seq) ∧
    (∃ (s : State) (p : Nat) (m : PtpDelayResp) (t : Int) (f : Int), s.portIp p = true ∧ s.net.ptp.cfg.enable ≠ 0 ∧ p =
      s.net.ptp.cfg.port ∧ s.net.ptp.delayReq = some (m.seq, t) ∧ s.net.ptp.lastForward = some f ∧ s.net.ptp.master.map
      (·.source) = some m.source) ∧
    (∃ (s : State) (w : State) (p : Nat) (a : PtpAnnounce), s.portIp p = true ∧ s.net.ptp.cfg.enable ≠ 0 ∧ p =
      s.net.ptp.cfg.port ∧ a.source ≠ clockIdentity ∧ a.grandmaster ≠ clockIdentity ∧ w = ((s.countPort p 0).onPtp fun x => { x with foreign := (x.foreign.filter fun f => f.1.source != a.source) ++ [(a, min 2 (((x.foreign.find? fun f => f.1.source == a.source).map (·.2)).getD 0 + 1))] }).bmca
      false) ∧
    (∃ (s : State) (a : PtpAnnounce), s.net.ptp.cfg.enable ≠ 0 ∧ s.net.ptp.master = some a) ∧
    (∃ (s : State), s.net.ptp.cfg.enable = 0) ∧
    (∃ (s : State), s.net.ptp.cfg.enable ≠ 0 ∧ s.net.ptp.master.isSome = true ∧ s.portIp s.net.ptp.cfg.port = true) ∧
    (∃ (s : State), s.net.ptp.mode = .master) ∧
    (∃ (s : State), s.net.ptp.mode ≠ .master) ∧
    (∃ (s : State) (p : Nat) (a : Nat) (q : Nat), s.portIp p = true ∧ s.net.ptp.cfg.enable ≠ 0 ∧ p = s.net.ptp.cfg.port ∧
      s.net.ptp.mode = .master) ∧
    (∃ (c : Call) (gs : List Got) (s : State), Accepts cmdPtpConfigSet c gs s) ∧
    (∃ (c : Call) (gs : List Got) (s : State), Accepts cmdPtpStatusGet c gs s) ∧
    (∃ (c : Call) (gs : List Got) (s : State), Accepts cmdPtpRestep c gs s ∧ (s.net.ptp.mode = .tracking ∨ s.net.ptp.mode =
      .locked)) ∧
    (∃ (c : Call) (gs : List Got) (s : State), Accepts cmdPtpRestep c gs s ∧ s.net.ptp.mode ≠ .tracking ∧ s.net.ptp.mode ≠
      .locked) := by
  refine ⟨?_, ?_, ?_, ?_, ?_, ?_, ?_, ?_, ?_, ?_, ?_, ?_, ?_, ?_, ?_, ?_⟩
  · exact
      let p : Nat := 0
      let m : PtpSync := tSync
      let s : State := tUp
      let s : State := s.onNetPort 0 fun x => { x with linkUp := true, cfg := { x.cfg with portEnable := 1, ipAddr := 1 } }
      let s : State := { s with net.ptp.cfg := { s.net.ptp.cfg with enable := 1, port := 1 } }
      ⟨s, p, m, by decide +kernel⟩
  · exact
      let p : Nat := 0
      let m : PtpSync := tSync
      let s : State := tUp
      let s : State := s.onNetPort 0 fun x => { x with linkUp := true, cfg := { x.cfg with portEnable := 1, ipAddr := 1 } }
      let s : State := { s with net.ptp.cfg := { s.net.ptp.cfg with enable := 1, port := 0 } }
      ⟨s, p, m, by decide +kernel⟩
  · exact
      let p : Nat := 0
      let m : PtpSync := tSync
      let s : State := tUp
      let s : State := s.onNetPort 0 fun x => { x with linkUp := true, cfg := { x.cfg with portEnable := 1, ipAddr := 1 } }
      let s : State := { s with net.ptp.cfg := { s.net.ptp.cfg with enable := 1, port := 0 } }
      let s : State := { s with net.ptp.master := some tAnnounce }
      let s : State := { s with net.ptp.pathDelay := none }
      ⟨s, p, m, by decide +kernel⟩
  · exact
      let p : Nat := 0
      let m : PtpSync := tSync
      let y : PtpSync := { ({ (tSync : PtpSync) with source := m.source } : PtpSync) with seq := m.seq }
      let s : State := tUp
      let s : State := s.onNetPort 0 fun x => { x with linkUp := true, cfg := { x.cfg with portEnable := 1, ipAddr := 1 } }
      let s : State := { s with net.ptp.cfg := { s.net.ptp.cfg with enable := 1, port := 0 } }
      let s : State := { s with net.ptp.pendingSync := some y }
      ⟨s, p, m, y, by decide +kernel⟩
  · exact
      let p : Nat := 0
      let m : PtpDelayResp := tDelayResp
      let t : Int := 0
      let f : Int := 0
      let s : State := tUp
      let s : State := s.onNetPort 0 fun x => { x with linkUp := true, cfg := { x.cfg with portEnable := 1, ipAddr := 1 } }
      let s : State := { s with net.ptp.cfg := { s.net.ptp.cfg with enable := 1, port := 0 } }
      let s : State := { s with net.ptp.master := some tAnnounce }
      let s : State := { s with net.ptp.delayReq := some (0, 0) }
      let s : State := { s with net.ptp.lastForward := some f }
      ⟨s, p, m, t, f, by decide +kernel⟩
  · exact
      let p : Nat := 0
      let a : PtpAnnounce := { tAnnounce with source := clockIdentity + 1, grandmaster := clockIdentity + 1 }
      let s : State := tUp
      let s : State := s.onNetPort 0 fun x => { x with linkUp := true, cfg := { x.cfg with portEnable := 1, ipAddr := 1 } }
      let s : State := { s with net.ptp.cfg := { s.net.ptp.cfg with enable := 1, port := 0 } }
      let w : State := ((s.countPort p 0).onPtp fun x => { x with foreign := (x.foreign.filter fun f => f.1.source != a.source) ++ [(a, min 2 (((x.foreign.find? fun f => f.1.source == a.source).map (·.2)).getD 0 + 1))] }).bmca false
      ⟨s, w, p, a, by decide +kernel, by decide +kernel, by decide +kernel, tClockId, tClockId, rfl⟩
  · exact
      let a : PtpAnnounce := tAnnounce
      let s : State := tUp
      let s : State := s.onNetPort 0 fun x => { x with linkUp := true, cfg := { x.cfg with portEnable := 1, ipAddr := 1 } }
      let s : State := { s with net.ptp.cfg := { s.net.ptp.cfg with enable := 1, port := 0 } }
      let s : State := { s with net.ptp.master := some a }
      ⟨s, a, by decide +kernel⟩
  · exact
      let s : State := tUp
      let s : State := { s with net.ptp.cfg.enable := 0 }
      ⟨s, by decide +kernel⟩
  · exact
      let s : State := tUp
      let s : State := s.onNetPort 0 fun x => { x with linkUp := true, cfg := { x.cfg with portEnable := 1, ipAddr := 1 } }
      let s : State := { s with net.ptp.cfg := { s.net.ptp.cfg with enable := 1, port := 0 } }
      let s : State := { s with net.ptp.master := some tAnnounce }
      ⟨s, by decide +kernel⟩
  · exact
      let s : State := tUp
      let s : State := { s with net.ptp.mode := .master }
      ⟨s, by decide +kernel⟩
  · exact
      let s : State := tUp
      ⟨s, by decide +kernel⟩
  · exact
      let p : Nat := 0
      let a : Nat := 0
      let q : Nat := 0
      let s : State := tUp
      let s : State := s.onNetPort 0 fun x => { x with linkUp := true, cfg := { x.cfg with portEnable := 1, ipAddr := 1 } }
      let s : State := { s with net.ptp.cfg := { s.net.ptp.cfg with enable := 1, port := 0 } }
      let s : State := { s with net.ptp.mode := .master }
      ⟨s, p, a, q, by decide +kernel⟩
  · exact
      let c : Call := tCall []
      let s : State := tUp
      let gs : List Got := tGot cmdPtpConfigSet c s
      ⟨c, gs, s, tAcc (by decide +kernel)⟩
  · exact
      let c : Call := tCall []
      let s : State := tUp
      let gs : List Got := tGot cmdPtpStatusGet c s
      ⟨c, gs, s, tAcc (by decide +kernel)⟩
  · exact
      let c : Call := tCall []
      let s : State := tUp
      let s : State := { s with net.ptp.mode := .tracking }
      let gs : List Got := tGot cmdPtpRestep c s
      ⟨c, gs, s, tAcc (by decide +kernel), by decide +kernel⟩
  · exact
      let c : Call := tCall []
      let s : State := tUp
      let gs : List Got := tGot cmdPtpRestep c s
      ⟨c, gs, s, tAcc (by decide +kernel), by decide +kernel⟩

theorem test_hypotheses_of_RtpAndNetworkCommands :
    (∃ (s : State) (n : Nat) (x : RtpStream), s.net.streams[n]? = some x ∧ x.aus = []) ∧
    (∃ (s : State) (n : Nat) (x : RtpStream) (a : RtpAu) (rest : List RtpAu) (p : List Byte × Bool) (q : List Byte × Bool) (ps
      : List (List Byte × Bool)), s.net.streams[n]? = some x ∧ x.aus = a :: rest ∧ a.payloads = p :: q :: ps) ∧
    (∃ (s : State) (n : Nat) (x : RtpStream) (a : RtpAu) (rest : List RtpAu), s.net.streams[n]? = some x ∧ x.aus = a :: rest) ∧
    (∃ (s : State) (n : Nat) (x : RtpStream), s.net.streams[n]? = some x ∧ x.running = true) ∧
    (∃ (s : State) (n : Nat) (x : RtpStream), s.net.streams[n]? = some x ∧ x.running = false) ∧
    (∃ (c : Call) (gs : List Got) (s : State) (n : _), Accepts cmdNetPortSet c gs s ∧ n = putPlain 0x100 netPortFlds gs
      (netPortCfg gs s) ∧ (n.fec ≠ 2 ∨ n.speed = 1)) ∧
    (∃ (c : Call) (gs : List Got) (s : State) (x : _), Accepts cmdNetPortGet c gs s ∧ s.netPort? (gotN gs 1) = some x) ∧
    (∃ (c : Call) (gs : List Got) (s : State), Accepts cmdNetControlSet c gs s) ∧
    (∃ (c : Call) (gs : List Got) (s : State) (x : _) (n : _), Accepts cmdRtpStreamSet c gs s ∧ s.net.streams[gotN gs 1]? =
      some x ∧ n = putPlain 0x100 rtpFlds gs x.cfg ∧ writesAbove 0x100 gs = true ∧ s.hasQueue n.context = true) ∧
    (∃ (c : Call) (gs : List Got) (s : State) (x : _), Accepts cmdRtpStart c gs s ∧ s.net.streams[gotN gs 1]? = some x ∧
      x.running = false) ∧
    (∃ (c : Call) (gs : List Got) (s : State) (x : _) (f : _), Accepts cmdRtpStop c gs s ∧ s.net.streams[gotN gs 1]? = some x
      ∧ gotF? gs 2 = some f) ∧
    (∃ (c : Call) (gs : List Got) (s : State), Accepts cmdNetStatusGet c gs s) ∧
    (∃ (c : Call) (gs : List Got) (s : State), Accepts cmdNetCountersClear c gs s) := by
  refine ⟨?_, ?_, ?_, ?_, ?_, ?_, ?_, ?_, ?_, ?_, ?_, ?_, ?_⟩
  · exact
      let n : Nat := 0
      let x : RtpStream := ({ cfg := {} } : RtpStream)
      let s : State := tUp
      let s : State := s.onNet fun n => { n with streams := [{ cfg := {} }] }
      ⟨s, n, x, by decide +kernel⟩
  · exact
      let n : Nat := 0
      let x : RtpStream := ({ cfg := {}, aus := [{ tRtpAu with payloads := [([], false), ([], true)] }] } : RtpStream)
      let a : RtpAu := { tRtpAu with payloads := [([], false), ([], true)] }
      let rest : List RtpAu := []
      let p : List Byte × Bool := ([], false)
      let q : List Byte × Bool := ([], true)
      let ps : List (List Byte × Bool) := []
      let s : State := tUp
      let s : State := s.onNet fun n => { n with streams := [({ cfg := {}, aus := [{ tRtpAu with payloads := [([], false), ([], true)] }] } : RtpStream)] }
      ⟨s, n, x, a, rest, p, q, ps, by decide +kernel⟩
  · exact
      let n : Nat := 0
      let x : RtpStream := ({ cfg := {}, aus := [{ tRtpAu with payloads := [([], false), ([], true)] }] } : RtpStream)
      let a : RtpAu := { tRtpAu with payloads := [([], false), ([], true)] }
      let rest : List RtpAu := []
      let s : State := tUp
      let s : State := s.onNet fun n => { n with streams := [({ cfg := {}, aus := [{ tRtpAu with payloads := [([], false), ([], true)] }] } : RtpStream)] }
      ⟨s, n, x, a, rest, by decide +kernel⟩
  · exact
      let n : Nat := 0
      let x : RtpStream := { cfg := {}, running := true }
      let s : State := tUp
      let s : State := s.onNet fun n => { n with streams := [{ cfg := {}, running := true }] }
      ⟨s, n, x, by decide +kernel⟩
  · exact
      let n : Nat := 0
      let x : RtpStream := ({ cfg := {} } : RtpStream)
      let s : State := tUp
      let s : State := s.onNet fun n => { n with streams := [{ cfg := {} }] }
      ⟨s, n, x, by decide +kernel⟩
  · exact
      let c : Call := tCall [tItem 1 4 0]
      let s : State := tUp
      let gs : List Got := tGot cmdNetPortSet c s
      let n := putPlain 0x100 netPortFlds gs (netPortCfg gs s)
      ⟨c, gs, s, n, tAcc (by decide +kernel), rfl, by decide +kernel⟩
  · exact
      let c : Call := tCall [tItem 1 4 0]
      let s : State := tUp
      let gs : List Got := tGot cmdNetPortGet c s
      let x := Option.get (s.netPort? (gotN gs 1)) (by decide +kernel)
      ⟨c, gs, s, x, tAcc (by decide +kernel), (Option.some_get _).symm⟩
  · exact
      let c : Call := tCall []
      let s : State := tUp
      let gs : List Got := tGot cmdNetControlSet c s
      ⟨c, gs, s, tAcc (by decide +kernel)⟩
  · exact
      let c : Call := tCall [tItem 1 4 0, tItem 257 4 1]
      let x := ({ cfg := {} } : RtpStream)
      let s : State := tUp
      let s : State := s.onNet fun n => { n with streams := [{ cfg := {} }] }
      let s : State := s.onShf 0 fun x => { x with cfg := { x.cfg with force := { x.cfg.force with queue := 8 } } }
      let gs : List Got := tGot cmdRtpStreamSet c s
      let n := putPlain 0x100 rtpFlds gs x.cfg
      ⟨c, gs, s, x, n, tAcc (by decide +kernel), by decide +kernel, rfl, by decide +kernel⟩
  · exact
      let c : Call := tCall [tItem 1 1 0]
      let x := ({ cfg := {} } : RtpStream)
      let s : State := tUp
      let s : State := s.onShf 0 fun x => { x with cfg := { x.cfg with force := { x.cfg.force with queue := 8 } } }
      let s : State := s.onNet fun n => { n with streams := [{ cfg := {} }] }
      let gs : List Got := tGot cmdRtpStart c s
      ⟨c, gs, s, x, tAcc (by decide +kernel), by decide +kernel⟩
  · exact
      let c : Call := tCall [tItem 1 4 0, tItem 2 4 5]
      let x := ({ cfg := {} } : RtpStream)
      let s : State := tUp
      let s : State := s.onNet fun n => { n with streams := [{ cfg := {} }] }
      let gs : List Got := tGot cmdRtpStop c s
      let f := Option.get (gotF? gs 2) (by decide +kernel)
      ⟨c, gs, s, x, f, tAcc (by decide +kernel), by decide +kernel, (Option.some_get _).symm⟩
  · exact
      let c : Call := tCall []
      let s : State := tUp
      let gs : List Got := tGot cmdNetStatusGet c s
      ⟨c, gs, s, tAcc (by decide +kernel)⟩
  · exact
      let c : Call := tCall [tItem 1 4 0, tItem 2 4 0, tItem 3 4 0]
      let s : State := tUp
      let gs : List Got := tGot cmdNetCountersClear c s
      ⟨c, gs, s, tAcc (by decide +kernel)⟩

theorem test_hypotheses_of_MonitorOutput :
    (∃ (s : State), s.monitor.running = false ∧ s.monitor.startAt = none) ∧
    (∃ (s : State), s.monitor.running = true ∧ s.monitor.stopAt = none ∧ s.monitor.unlocked = true) ∧
    (∃ (s : State), s.monitor.running = true ∧ s.monitor.stopAt = none ∧ s.monitor.unlocked = false ∧ s.monRend = none ∧
      s.monitor.cfg.flipNotify = 0) ∧
    (∃ (s : State) (r : Nat) (k : Nat) (x : Slot), s.monitor.running = true ∧ s.monitor.stopAt = none ∧ s.monitor.unlocked =
      false ∧ s.monRend = some r ∧ s.monReady r = (some (k, x), []) ∧ monFits s.monitor.cfg.format x.fmt = true ∧ s.monitor.held
      = none ∧ s.monitor.cfg.flipNotify = 0) ∧
    (∃ (s : State) (r : Nat), s.monitor.running = true ∧ s.monitor.stopAt = none ∧ s.monitor.unlocked = false ∧ s.monRend =
      some r ∧ s.monReady r = (none, []) ∧ (s.rend r).running = true ∧ s.monitor.held.isSome = true ∧ s.monitor.cfg.flipNotify =
      0) ∧
    (∃ (s : State), (s.monitor.running = false ∨ s.monitor.cut = true ∨ s.monitor.unlocked = true)) ∧
    (∃ (s : State), s.monitor.running = true ∧ s.monitor.cut = false ∧ s.monitor.unlocked = false ∧ s.monitor.lastFlip.isSome
      = true ∧ s.monitor.rectsNow = []) ∧
    (∃ (c : Call) (gs : List Got) (s : State), Accepts cmdMonSet c gs s ∧ ((has gs 2 = true → (putPlain 1 monFlds gs
      s.monitor.cfg).outLine < s.raster.cfg.force.totalLines))) ∧
    (∃ (c : Call) (gs : List Got) (s : State), Accepts cmdMonStart c gs s ∧ s.monListed = true ∧ s.monitor.running = false) ∧
    (∃ (c : Call) (gs : List Got) (s : State), Accepts cmdMonStart c gs s ∧ s.monListed = false) ∧
    (∃ (c : Call) (gs : List Got) (s : State), Accepts cmdMonStop c gs s ∧ gotF? gs 1 = none) ∧
    (∃ (c : Call) (gs : List Got) (s : State), Accepts cmdMonOverlaySet c gs s ∧ (gotNs gs 4).all (fun v => decide (v /
      16777216 ≤ 128)) = true ∧ s.overlayFits (putFields 1 ovlFlds gs s.monitor.ovl).shadow = true) ∧
    (∃ (c : Call) (gs : List Got) (s : State) (new : RectConfig), Accepts cmdMonCheckSet c gs s ∧ new = (putFields 2 rectFlds
      gs { force := s.monitor.rects.force.getD (gotN gs 1) {}, shadow := s.monitor.rects.shadow.getD (gotN gs 1) {} }).shadow ∧
      new.x + new.w ≤ (monSize s.monitor.cfg.format).1 ∧ new.y + new.h ≤ (monSize s.monitor.cfg.format).2) ∧
    (∃ (c : Call) (gs : List Got) (s : State), Accepts cmdMonStatusGet c gs s) ∧
    (∃ (c : Call) (gs : List Got) (s : State), Accepts cmdMonCountersClear c gs s) := by
  refine ⟨?_, ?_, ?_, ?_, ?_, ?_, ?_, ?_, ?_, ?_, ?_, ?_, ?_, ?_, ?_⟩
  · exact
      let s : State := tUp
      let s : State := { s with monitor.running := false }
      let s : State := { s with monitor.startAt := none }
      ⟨s, by decide +kernel⟩
  · exact
      let s : State := tUp
      let s : State := { s with monitor.running := true }
      let s : State := { s with monitor.stopAt := none }
      let s : State := { s with monitor.unlocked := true }
      ⟨s, by decide +kernel⟩
  · exact
      let s : State := tUp
      let s : State := { s with monitor.running := true }
      let s : State := { s with monitor.stopAt := none }
      let s : State := { s with monitor.unlocked := false }
      let s : State := { s with monitor.cfg.flipNotify := 0 }
      ⟨s, by decide +kernel⟩
  · exact
      let r : Nat := 0
      let k : Nat := 0
      let x : Slot := { st := .ready, fmt := [1280, 720, 1, 10, 1, 0, 1] }
      let s : State := tUp
      let s : State := s.onMonitor fun m => { m with running := true, stopAt := none, unlocked := false, held := none, cfg := { m.cfg with format := 0, flipNotify := 0 } }
      let s : State := { s with looks.rends := modAt s.looks.rends 0 fun x => { x with running := true, cfg := { x.cfg with force := { x.cfg.force with dest := 1 } } } }
      let s : State := s.onRend 0 fun x => { x with slots := [{ st := .ready, fmt := [1280, 720, 1, 10, 1, 0, 1] }] }
      let s : State := { s with raster.clock := { sec := 1, ns := 0, frac := 0 } }
      let s : State := { s with monitor.running := true }
      let s : State := { s with monitor.stopAt := none }
      let s : State := { s with monitor.unlocked := false }
      let s : State := { s with monitor.held := none }
      let s : State := { s with monitor.cfg.flipNotify := 0 }
      ⟨s, r, k, x, by decide +kernel⟩
  · exact
      let r : Nat := 0
      let s : State := tUp
      let s : State := s.onMonitor fun m => { m with running := true, stopAt := none, unlocked := false, held := none, cfg := { m.cfg with format := 0, flipNotify := 0 } }
      let s : State := { s with looks.rends := modAt s.looks.rends 0 fun x => { x with running := true, cfg := { x.cfg with force := { x.cfg.force with dest := 1 } } } }
      let s : State := { s with monitor.held := some { rend := 0, slot := 0, frame := 0, fmt := [] } }
      let s : State := { s with monitor.running := true }
      let s : State := { s with monitor.stopAt := none }
      let s : State := { s with monitor.unlocked := false }
      let s : State := s.onRend r fun zz => { zz with running := true }
      let s : State := { s with monitor.cfg.flipNotify := 0 }
      ⟨s, r, by decide +kernel⟩
  · exact
      let s : State := tUp
      ⟨s, by decide +kernel⟩
  · exact
      let s : State := tUp
      let s : State := { s with monitor.lastFlip := some 0 }
      let s : State := { s with monitor.running := true }
      let s : State := { s with monitor.cut := false }
      let s : State := { s with monitor.unlocked := false }
      let s : State := { s with monitor.rectsNow := [] }
      ⟨s, by decide +kernel⟩
  · exact
      let c : Call := tCall []
      let s : State := tUp
      let gs : List Got := tGot cmdMonSet c s
      ⟨c, gs, s, tAcc (by decide +kernel), by decide +kernel⟩
  · exact
      let c : Call := tCall []
      let s : State := tUp
      let s : State := { s with monitor.running := false }
      let gs : List Got := tGot cmdMonStart c s
      ⟨c, gs, s, tAcc (by decide +kernel), by decide +kernel⟩
  · exact
      let c : Call := tCall []
      let s : State := tUp
      let s : State := { s with raster.cfg.force := { s.raster.cfg.force with rateNum := 7, rateDen := 1 } }
      let gs : List Got := tGot cmdMonStart c s
      ⟨c, gs, s, tAcc (by decide +kernel), by decide +kernel⟩
  · exact
      let c : Call := tCall []
      let s : State := tUp
      let gs : List Got := tGot cmdMonStop c s
      ⟨c, gs, s, tAcc (by decide +kernel), by decide +kernel⟩
  · exact
      let c : Call := tCall []
      let s : State := tUp
      let gs : List Got := tGot cmdMonOverlaySet c s
      ⟨c, gs, s, tAcc (by decide +kernel), by decide +kernel⟩
  · exact
      let c : Call := tCall [tItem 1 4 0]
      let s : State := tUp
      let gs : List Got := tGot cmdMonCheckSet c s
      let new : RectConfig := (putFields 2 rectFlds gs { force := s.monitor.rects.force.getD (gotN gs 1) {}, shadow := s.monitor.rects.shadow.getD (gotN gs 1) {} }).shadow
      ⟨c, gs, s, new, tAcc (by decide +kernel), rfl, by decide +kernel⟩
  · exact
      let c : Call := tCall []
      let s : State := tUp
      let gs : List Got := tGot cmdMonStatusGet c s
      ⟨c, gs, s, tAcc (by decide +kernel)⟩
  · exact
      let c : Call := tCall [tItem 1 4 0]
      let s : State := tUp
      let gs : List Got := tGot cmdMonCountersClear c s
      ⟨c, gs, s, tAcc (by decide +kernel)⟩

theorem test_hypotheses_of_AudioEvents :
    (∃ (s : State) (c : Nat) (xs : List (List Int)), (s.capture c).running = true) ∧
    (∃ (s : State) (c : Nat) (xs : List (List Int)), (s.capture c).running = false ∧ (s.capture c).ending = false) ∧
    (∃ (s : State) (v : State) (c : Nat) (xs : List (List Int)), (s.capture c).running = true ∧ (s.capture c).masks ≠
      (s.capture c).maskShadow ∧ v = s.blockEnd c xs ∧ c < v.audio.captures.length) ∧
    (∃ (s : State) (p : Nat) (n : Nat), s.retimed p = false) ∧
    (∃ (s : State) (p : Nat) (n : Nat), s.retimed p = true) ∧
    (∃ (s : State) (p : Nat) (k : Nat) (g : Gate), (s.audPort p).running = true ∧ (s.audPort p).gates[k]? = some g ∧ g.waits =
      true) ∧
    (∃ (s : State) (c : Nat) (k : Nat) (g : Gate), (s.capture c).gates[k]? = some g ∧ g.waits = true ∧ g.phase ≠ .starting) ∧
    (∃ (s : State) (c : Nat) (k : Nat), ((s.capture c).gates[k]?).any Gate.waits = false) ∧
    (∃ (n : Nat) (k : Nat) (g : Gate), g.phase = .passing ∧ g.pendGain = some k) ∧
    (∃ (s : State) (p : Nat), s.isInput p = true ∧ (s.audPort p).cfg.clock = 2 ∧ (s.audPort p).locked = true ∧
      s.audio.captures = [] ∧ p < s.audio.ports.length) ∧
    (∃ (s : State) (p : Nat), s.isInput p = true ∧ (s.audPort p).cfg.clock = 2 ∧ (s.audPort p).locked = false ∧
      s.audio.captures = [] ∧ p < s.audio.ports.length) ∧
    (∃ (s : State) (p : Nat), (s.audPort p).cfg.clock ≠ 2) ∧
    (∃ (s : State) (p : Nat) (n : Nat) (bs : List Byte), (p = 4 ∨ p = 5) ∧ bs.length = 24 ∧ crcc (bs.take 23) = bs.getD 23 0) ∧
    (∃ (s : State) (p : Nat) (n : Nat) (bs : List Byte), (p = 4 ∨ p = 5) ∧ bs.length = 24 ∧ crcc (bs.take 23) ≠ bs.getD 23 0) ∧
    (∃ (s : State) (p : Nat), ((s.audPort p).running = false ∨ (s.audPort p).cfg.outSource ≠ 4)) ∧
    (∃ (s : State) (p : Nat), s.isOutput p = true ∧ (s.audPort p).running = true ∧ (s.audPort p).cfg.outSource = 4 ∧ s.unread
      (BitVec.ofNat 32 (s.audPort p).cfg.playout) (0x0C00 + p) = []) := by
  refine ⟨?_, ?_, ?_, ?_, ?_, ?_, ?_, ?_, ?_, ?_, ?_, ?_, ?_, ?_, ?_, ?_⟩
  · exact
      let c : Nat := 0
      let xs : List (List Int) := []
      let s : State := tUp
      let s : State := s.onCapture c fun zz => { zz with running := true }
      ⟨s, c, xs, by decide +kernel⟩
  · exact
      let c : Nat := 0
      let xs : List (List Int) := []
      let s : State := tUp
      let s : State := s.onCapture c fun zz => { zz with running := false }
      let s : State := s.onCapture c fun zz => { zz with ending := false }
      ⟨s, c, xs, by decide +kernel⟩
  · exact
      let c : Nat := 0
      let xs : List (List Int) := []
      let s : State := tUp
      let s : State := s.onCapture 0 fun x => { x with running := true, maskShadow := [1, 0, 0, 0, 0, 0] }
      let s : State := s.onCapture c fun zz => { zz with running := true }
      let v : State := s.blockEnd c xs
      ⟨s, v, c, xs, by decide +kernel, by decide +kernel, rfl, by decide +kernel⟩
  · exact
      let p : Nat := 0
      let n : Nat := 0
      let s : State := tUp
      ⟨s, p, n, by decide +kernel⟩
  · exact
      let p : Nat := 0
      let n : Nat := 0
      let s : State := tUp
      let s : State := s.onCapture 0 fun x => { x with running := true, lead := 255, masks := [1, 0, 0, 0, 0, 0] }
      let s : State := s.onAudPort 0 fun x => { x with cfg := { x.cfg with clock := 2 } }
      ⟨s, p, n, by decide +kernel⟩
  · exact
      let p : Nat := 0
      let k : Nat := 0
      let g : Gate := { phase := .starting }
      let s : State := tUp
      let s : State := s.onAudPort 0 fun x => { x with gates := [{ phase := .starting }] }
      let s : State := s.onAudPort p fun zz => { zz with running := true }
      ⟨s, p, k, g, by decide +kernel⟩
  · exact
      let c : Nat := 0
      let k : Nat := 0
      let g : Gate := { phase := .stopping }
      let s : State := tUp
      let s : State := s.onCapture 0 fun x => { x with gates := [{ phase := .stopping }] }
      ⟨s, c, k, g, by decide +kernel⟩
  · exact
      let c : Nat := 0
      let k : Nat := 0
      let s : State := tUp
      ⟨s, c, k, by decide +kernel⟩
  · exact
      let n : Nat := 0
      let k : Nat := 0
      let g : Gate := { ({ ({} : Gate) with phase := .passing } : Gate) with pendGain := some k }
      ⟨n, k, g, by decide +kernel⟩
  · exact
      let p : Nat := 0
      let s : State := tUp
      let s : State := s.onAudPort p fun zz => { zz with cfg.clock := 2 }
      let s : State := s.onAudPort p fun zz => { zz with locked := true }
      let s : State := { s with audio.captures := [] }
      ⟨s, p, by decide +kernel⟩
  · exact
      let p : Nat := 0
      let s : State := tUp
      let s : State := s.onAudPort p fun zz => { zz with cfg.clock := 2 }
      let s : State := s.onAudPort p fun zz => { zz with locked := false }
      let s : State := { s with audio.captures := [] }
      ⟨s, p, by decide +kernel⟩
  · exact
      let p : Nat := 0
      let s : State := tUp
      ⟨s, p, by decide +kernel⟩
  · exact
      let p : Nat := 4
      let n : Nat := 0
      let bs : List Byte := List.replicate 23 0 ++ [crcc (List.replicate 23 0)]
      let s : State := tUp
      ⟨s, p, n, bs, by decide +kernel⟩
  · exact
      let p : Nat := 4
      let n : Nat := 0
      let bs : List Byte := List.replicate 23 0 ++ [crcc (List.replicate 23 0) + 1]
      let s : State := tUp
      ⟨s, p, n, bs, by decide +kernel⟩
  · exact
      let p : Nat := 0
      let s : State := tUp
      ⟨s, p, by decide +kernel⟩
  · exact
      let p : Nat := 6
      let s : State := tUp
      let s : State := s.onAudPort 6 fun x => { x with running := true, cfg := { x.cfg with outSource := 4 } }
      let s : State := s.onAudPort p fun zz => { zz with running := true }
      let s : State := s.onAudPort p fun zz => { zz with cfg.outSource := 4 }
      ⟨s, p, by decide +kernel⟩

theorem test_hypotheses_of_AudioCommands :
    (∃ (c : Call) (gs : List Got) (s : State) (cfg : AudPortConfig), Accepts cmdAudPortSet c gs s ∧ cfg = putPlain 0x100
      audPortFlds gs (s.audPort (gotN gs 1)).cfg ∧ judgeAudPort (gotN gs 1) gs cfg s = none) ∧
    (∃ (c : Call) (gs : List Got) (s : State), Accepts cmdAudPortGet c gs s) ∧
    (∃ (c : Call) (gs : List Got) (s : State) (masks : List Nat), Accepts cmdAudCaptureSet c gs s ∧ masks = ((indexed
      (s.capture (gotN gs 1)).maskShadow).map fun pm => (gotN? gs (5 + pm.1)).getD pm.2) ∧ s.captureRefusal (gotN gs 1) ((gotN?
      gs 2).getD (s.capture (gotN gs 1)).lead) masks = none) ∧
    (∃ (c : Call) (gs : List Got) (s : State), Accepts cmdAudCaptureStart c gs s ∧ gotF? gs 2 = none) ∧
    (∃ (c : Call) (gs : List Got) (s : State) (f : _), Accepts cmdAudCaptureStart c gs s ∧ gotF? gs 2 = some f ∧ (s.capture
      (gotN gs 1)).running = false) ∧
    (∃ (c : Call) (gs : List Got) (s : State), Accepts cmdAudCaptureStop c gs s ∧ gotF? gs 2 = none) ∧
    (∃ (c : Call) (gs : List Got) (s : State) (f : _), Accepts cmdAudCaptureStop c gs s ∧ gotF? gs 2 = some f ∧ (s.capture
      (gotN gs 1)).running = true) ∧
    (∃ (c : Call) (gs : List Got) (s : State), Accepts cmdAudMaskSet c gs s ∧ has gs 3 = true) ∧
    (∃ (c : Call) (gs : List Got) (s : State) (v : _), Accepts cmdAudGainSet c gs s ∧ gotAll gs 3 = [v] ∧ gotN gs 1 = 0) ∧
    (∃ (c : Call) (gs : List Got) (s : State) (v : _), Accepts cmdAudGainSet c gs s ∧ gotAll gs 3 = [v] ∧ gotN gs 1 ≠ 0) ∧
    (∃ (c : Call) (gs : List Got) (s : State), Accepts cmdAudOutputStart c gs s ∧ gotF? gs 2 = none) ∧
    (∃ (c : Call) (gs : List Got) (s : State) (f : _), Accepts cmdAudOutputStart c gs s ∧ gotF? gs 2 = some f ∧ (s.audPort
      (gotN gs 1)).running = false) ∧
    (∃ (c : Call) (gs : List Got) (s : State), Accepts cmdAudOutputStop c gs s ∧ gotF? gs 2 = none) ∧
    (∃ (c : Call) (gs : List Got) (s : State), Accepts cmdAudStatusGet c gs s) ∧
    (∃ (c : Call) (gs : List Got) (s : State), Accepts cmdAudCountersClear c gs s) := by
  refine ⟨?_, ?_, ?_, ?_, ?_, ?_, ?_, ?_, ?_, ?_, ?_, ?_, ?_, ?_, ?_⟩
  · exact
      let c : Call := tCall [tItem 1 4 0]
      let s : State := tUp
      let gs : List Got := tGot cmdAudPortSet c s
      let cfg : AudPortConfig := putPlain 0x100 audPortFlds gs (s.audPort (gotN gs 1)).cfg
      ⟨c, gs, s, cfg, tAcc (by decide +kernel), rfl, by decide +kernel⟩
  · exact
      let c : Call := tCall [tItem 1 4 0]
      let s : State := tUp
      let gs : List Got := tGot cmdAudPortGet c s
      ⟨c, gs, s, tAcc (by decide +kernel)⟩
  · exact
      let c : Call := tCall [tItem 1 4 0]
      let s : State := tUp
      let gs : List Got := tGot cmdAudCaptureSet c s
      let masks : List Nat := ((indexed (s.capture (gotN gs 1)).maskShadow).map fun pm => (gotN? gs (5 + pm.1)).getD pm.2)
      ⟨c, gs, s, masks, tAcc (by decide +kernel), rfl, by decide +kernel⟩
  · exact
      let c : Call := tCall [tItem 1 1 0]
      let s : State := tUp
      let s : State := s.onCapture 0 fun x => { x with ring := 27 }
      let gs : List Got := tGot cmdAudCaptureStart c s
      ⟨c, gs, s, tAcc (by decide +kernel), by decide +kernel⟩
  · exact
      let c : Call := tCall [tItem 1 1 0, tItem 2 4 5]
      let s : State := tUp
      let s : State := s.onCapture 0 fun x => { x with ring := 27 }
      let s : State := s.onCapture 0 fun zz => { zz with running := false }
      let gs : List Got := tGot cmdAudCaptureStart c s
      let f := Option.get (gotF? gs 2) (by decide +kernel)
      ⟨c, gs, s, f, tAcc (by decide +kernel), (Option.some_get _).symm, by decide +kernel⟩
  · exact
      let c : Call := tCall [tItem 1 4 0]
      let s : State := tUp
      let gs : List Got := tGot cmdAudCaptureStop c s
      ⟨c, gs, s, tAcc (by decide +kernel), by decide +kernel⟩
  · exact
      let c : Call := tCall [tItem 1 4 0, tItem 2 4 5]
      let s : State := tUp
      let s : State := s.onCapture 0 fun zz => { zz with running := true }
      let gs : List Got := tGot cmdAudCaptureStop c s
      let f := Option.get (gotF? gs 2) (by decide +kernel)
      ⟨c, gs, s, f, tAcc (by decide +kernel), (Option.some_get _).symm, by decide +kernel⟩
  · exact
      let c : Call := tCall [tItem 1 4 0, tItem 2 4 0, tItem 3 4 5]
      let s : State := tUp
      let gs : List Got := tGot cmdAudMaskSet c s
      ⟨c, gs, s, tAcc (by decide +kernel), by decide +kernel⟩
  · exact
      let c : Call := tCall [tItem 1 4 0, tItem 2 4 0, tItem 3 3 0]
      let s : State := tUp
      let gs : List Got := tGot cmdAudGainSet c s
      let v := List.head (gotAll gs 3) (by decide +kernel)
      ⟨c, gs, s, v, tAcc (by decide +kernel), by decide +kernel⟩
  · exact
      let c : Call := tCall [tItem 1 1 1, tItem 2 1 6, tItem 3 3 0]
      let s : State := tUp
      let gs : List Got := tGot cmdAudGainSet c s
      let v := List.head (gotAll gs 3) (by decide +kernel)
      ⟨c, gs, s, v, tAcc (by decide +kernel), by decide +kernel⟩
  · exact
      let c : Call := tCall [tItem 1 4 6]
      let s : State := tUp
      let gs : List Got := tGot cmdAudOutputStart c s
      ⟨c, gs, s, tAcc (by decide +kernel), by decide +kernel⟩
  · exact
      let c : Call := tCall [tItem 1 4 6, tItem 2 4 5]
      let s : State := tUp
      let s : State := s.onAudPort 6 fun zz => { zz with running := false }
      let gs : List Got := tGot cmdAudOutputStart c s
      let f := Option.get (gotF? gs 2) (by decide +kernel)
      ⟨c, gs, s, f, tAcc (by decide +kernel), (Option.some_get _).symm, by decide +kernel⟩
  · exact
      let c : Call := tCall [tItem 1 4 6]
      let s : State := tUp
      let gs : List Got := tGot cmdAudOutputStop c s
      ⟨c, gs, s, tAcc (by decide +kernel), by decide +kernel⟩
  · exact
      let c : Call := tCall []
      let s : State := tUp
      let gs : List Got := tGot cmdAudStatusGet c s
      ⟨c, gs, s, tAcc (by decide +kernel)⟩
  · exact
      let c : Call := tCall [tItem 1 4 0, tItem 2 4 0]
      let s : State := tUp
      let gs : List Got := tGot cmdAudCountersClear c s
      ⟨c, gs, s, tAcc (by decide +kernel)⟩

theorem test_hypotheses_of_EventsAndBell :
    (∃ (s : State) (n : Nat), n < 512) ∧
    (∃ (s : State) (n : Nat), 512 ≤ n) ∧
    (∃ (s : State) (n : Nat) (e : Ev) (b : Bool), e.originNode = s.node ∧ e.originSource = n ∧ e.originFrame = s.raster.frame
      ∧ e.originLine = s.raster.line) ∧
    (∃ (s : State) (n : Nat) (e : Ev) (b : Bool), e.originSource ≠ n ∧ 7 ≤ e.gen) ∧
    (∃ (v : EventState) (g : BitVec 16) (e : Ev) (cs : List Nat), v.targets g e = .ok cs ∧ v.channelMode = true ∧
      (v.routes.getD e.source {}).publish < 128) ∧
    (∃ (v : EventState) (g : BitVec 16) (e : Ev) (cs : List Nat), v.targets g e = .ok cs ∧ v.channelMode = false ∧
      ((secureSource e.source = true → (v.routes.getD e.source {}).secure ≠ 0) ∧ ∀ c ∈ cs, (v.routes.getD e.source {}).secure =
      1)) ∧
    (∃ (s : State) (g : Nat) (e : Ev) (f : Ev), g < 16) ∧
    (∃ (s : State) (k : Nat) (t : Option Word) (e : Option Ev), s.events.bell.srcEn.testBit k = false) ∧
    (∃ (s : State) (k : Nat) (t : Option Word) (e : Option Ev), s.events.bell.srcEn.testBit k = true ∧ s.events.bell.hold = 1) ∧
    (∃ (s : State) (k : Nat) (e : Option Ev), s.events.bell.srcEn.testBit k = true ∧ s.events.bell.hold ≠ 1 ∧ s.events.bellNow
      = true) ∧
    (∃ (s : State) (k : Nat), s.events.bell.srcEn.testBit k = true ∧ s.events.bell.hold ≠ 1 ∧ s.events.bellNow = false ∧ ((k =
      1 ∨ k = 5) ∨ s.heldOff = false) ∧ s.events.bell.notify ≠ 1) ∧
    (∃ (s : State) (k : Nat), s.pulsing k = false) ∧
    (∃ (s : State) (k : Nat) (e : Ev), s.events.pulses = [(k, e, false)] ∧ ((s.pin k).pulseLevel == 1) = s.pinOut k) ∧
    (∃ (s : State) (t : Nat) (f : BellFlit), s.isMember = false) ∧
    (∃ (s : State) (t : Nat) (f : BellFlit), s.isMember = true ∧ s.tree.upstream = some t ∧ (s.treePort t).up = true ∧
      (s.tree.quarantined || s.tree.outOfStep) = true) ∧
    (∃ (s : State) (t : Nat) (f : BellFlit) (p : Pos), s.isMember = true ∧ s.tree.upstream = some t ∧ (s.treePort t).up = true
      ∧ (s.tree.quarantined || s.tree.outOfStep) = false ∧ p = { frame := f.frame, line := f.line, phase := f.phase }) := by
  refine ⟨?_, ?_, ?_, ?_, ?_, ?_, ?_, ?_, ?_, ?_, ?_, ?_, ?_, ?_, ?_, ?_⟩
  · exact
      let n : Nat := 0
      let s : State := tUp
      ⟨s, n, by decide +kernel⟩
  · exact
      let n : Nat := 512
      let s : State := tUp
      ⟨s, n, by decide +kernel⟩
  · exact
      let n : Nat := 0
      let b : Bool := false
      let s : State := tUp
      let e : Ev := { ({ ({ ({ (tEv : Ev) with originNode := s.node } : Ev) with originSource := n } : Ev) with originFrame := s.raster.frame } : Ev) with originLine := s.raster.line }
      ⟨s, n, e, b, by decide +kernel⟩
  · exact
      let n : Nat := 0
      let e : Ev := { tEv with gen := 7 }
      let b : Bool := false
      let s : State := tUp
      ⟨s, n, e, b, by decide +kernel⟩
  · exact
      let v : EventState := { State.reset.events with channelMode := true, routes := State.reset.events.routes.map fun r => { r with publish := 20 }, channels := List.replicate 128 {}, subscribe := 20 :: State.reset.events.subscribe.drop 1 }
      let g : BitVec 16 := 0xFFFF
      let e : Ev := tEv
      let cs : List Nat := [0]
      ⟨v, g, e, cs, tOkOf (by decide +kernel), by decide +kernel⟩
  · exact
      let v : EventState := { ({} : EventState) with channelMode := false }
      let g : BitVec 16 := 0
      let e : Ev := tEv
      let cs : List Nat := match v.targets g e with | .ok cs => cs | _ => []
      ⟨v, g, e, cs, tOkOf (by decide +kernel), by decide +kernel⟩
  · exact
      let g : Nat := 0
      let e : Ev := tEv
      let f : Ev := tEv
      let s : State := tUp
      ⟨s, g, e, f, by decide +kernel⟩
  · exact
      let k : Nat := 7
      let t : Option Word := none
      let e : Option Ev := none
      let s : State := tUp
      ⟨s, k, t, e, by decide +kernel⟩
  · exact
      let k : Nat := 0
      let t : Option Word := none
      let e : Option Ev := none
      let s : State := tUp
      let s : State := { s with events.bell.hold := 1 }
      ⟨s, k, t, e, by decide +kernel⟩
  · exact
      let k : Nat := 0
      let e : Option Ev := none
      let s : State := tUp
      let s : State := { s with events.bellNow := true }
      ⟨s, k, e, by decide +kernel⟩
  · exact
      let k : Nat := 0
      let s : State := tUp
      let s : State := { s with events.bellNow := false }
      ⟨s, k, by decide +kernel⟩
  · exact
      let k : Nat := 0
      let s : State := tUp
      ⟨s, k, by decide +kernel⟩
  · exact
      let k : Nat := 0
      let e : Ev := tEv
      let s : State := tUp
      let s : State := { s with events.pulses := [(0, tEv, false)] }
      let s : State := { s with bus := s.bus }
      ⟨s, k, e, by decide +kernel⟩
  · exact
      let t : Nat := 0
      let f : BellFlit := { frame := 1, line := 0, phase := 0, seq := 1 }
      let s : State := tUp
      ⟨s, t, f, by decide +kernel⟩
  · exact
      let t : Nat := 0
      let f : BellFlit := { frame := 1, line := 0, phase := 0, seq := 1 }
      let s : State := tUp
      let s : State := { s with tree.cfg := { s.tree.cfg with role := 2 } }
      let s : State := { s with tree.quarantined := true }
      let s : State := { s with tree.upstream := some t }
      let s : State := s.onTreePort t fun zz => { zz with up := true }
      ⟨s, t, f, by decide +kernel⟩
  · exact
      let t : Nat := 0
      let f : BellFlit := { frame := 1, line := 0, phase := 0, seq := 1 }
      let p : Pos := { frame := f.frame, line := f.line, phase := f.phase }
      let s : State := tUp
      let s : State := { s with tree.cfg := { s.tree.cfg with role := 2 } }
      let s : State := { s with tree.upstream := some t }
      let s : State := s.onTreePort t fun zz => { zz with up := true }
      ⟨s, t, f, p, by decide +kernel, by decide +kernel, by decide +kernel, by decide +kernel, rfl⟩

theorem test_hypotheses_of_EventCommands :
    (∃ (c : Call) (gs : List Got) (s : State) (m : _), Accepts cmdEvtModeSet c gs s ∧ gotN? gs 1 = some m) ∧
    (∃ (c : Call) (gs : List Got) (s : State), Accepts cmdEvtRouteSet c gs s ∧ (denied gs 1 fun v => s.mayWrite (s.routeOwner
      v.nat) c) = none) ∧
    (∃ (c : Call) (gs : List Got) (s : State) (p : _), Accepts cmdEvtRouteSet c gs s ∧ (denied gs 1 fun v => s.mayWrite
      (s.routeOwner v.nat) c) = some (stDenied, p, 1)) ∧
    (∃ (c : Call) (gs : List Got) (s : State), Accepts cmdEvtRouteGet c gs s) ∧
    (∃ (c : Call) (gs : List Got) (s : State) (b : _), Accepts cmdEvtChannelSet c gs s ∧ (denied gs 1 fun v => s.mayWrite
      (s.channelOwner v.nat) c) = none ∧ gotN? gs 2 = some b) ∧
    (∃ (c : Call) (gs : List Got) (s : State), Accepts cmdEvtSubscribeSet c gs s ∧ (denied gs 1 fun v => s.mayWrite
      (s.channelOwner (s.events.subscribe.getD (subPair v).1 255)) c && s.mayWrite (s.channelOwner (subPair v).2) c) = none) ∧
    (∃ (c : Call) (gs : List Got) (s : State), Accepts cmdEvtGroupSet c gs s) ∧
    (∃ (c : Call) (gs : List Got) (s : State), Accepts cmdEvtOwnerSet c gs s ∧ gotN gs 1 = 0 ∧ s.mayWrite (s.routeOwner (gotN
      gs 2)) c = true) ∧
    (∃ (c : Call) (gs : List Got) (s : State), Accepts cmdEvtOwnerSet c gs s ∧ gotN gs 1 ≠ 0 ∧ s.mayWrite (s.channelOwner
      (gotN gs 2)) c = true) ∧
    (∃ (c : Call) (gs : List Got) (s : State), Accepts cmdEvtRaise c gs s) ∧
    (∃ (c : Call) (gs : List Got) (s : State), Accepts cmdEvtLogSet c gs s) ∧
    (∃ (c : Call) (gs : List Got) (s : State), Accepts cmdBellConfigSet c gs s) ∧
    (∃ (c : Call) (gs : List Got) (s : State), Accepts cmdBellRing c gs s ∧ gotN gs 1 = 0 ∧ has gs 2 = false ∧ has gs 3 =
      false ∧ has gs 4 = false ∧ s.events.bell.srcEn.testBit 2 = false) ∧
    (∃ (c : Call) (gs : List Got) (s : State) (p : Pos), Accepts cmdBellRing c gs s ∧ gotN gs 1 = 0 ∧ has gs 2 = true ∧ has gs
      3 = true ∧ has gs 4 = true ∧ p = { frame := gotF gs 2, line := gotN gs 3, phase := gotN gs 4 } ∧ s.posExpired p = false) ∧
    (∃ (c : Call) (gs : List Got) (s : State) (p : Pos), Accepts cmdBellRing c gs s ∧ gotN gs 1 = 0 ∧ has gs 2 = true ∧ has gs
      3 = true ∧ has gs 4 = true ∧ p = { frame := gotF gs 2, line := gotN gs 3, phase := gotN gs 4 } ∧ s.posExpired p = true) ∧
    (∃ (c : Call) (s : State) (p : _), Refuses cmdBellRing c 0x1D00 p 1 s) ∧
    (∃ (c : Call) (gs : List Got) (s : State), Accepts cmdEvtStatusGet c gs s) ∧
    (∃ (c : Call) (gs : List Got) (s : State), Accepts cmdEvtCountersClear c gs s) := by
  refine ⟨?_, ?_, ?_, ?_, ?_, ?_, ?_, ?_, ?_, ?_, ?_, ?_, ?_, ?_, ?_, ?_, ?_, ?_⟩
  · exact
      let c : Call := tCall [tItem 1 4 1]
      let s : State := tUp
      let gs : List Got := tGot cmdEvtModeSet c s
      let m := Option.get (gotN? gs 1) (by decide +kernel)
      ⟨c, gs, s, m, tAcc (by decide +kernel), (Option.some_get _).symm⟩
  · exact
      let c : Call := tCall [tItem 1 4 0]
      let s : State := tUp
      let gs : List Got := tGot cmdEvtRouteSet c s
      ⟨c, gs, s, tAcc (by decide +kernel), by decide +kernel⟩
  · exact
      let c : Call := tCall [tItem 1 2 8]
      let p := 0
      let s : State := tUp
      let gs : List Got := tGot cmdEvtRouteSet c s
      ⟨c, gs, s, p, tAcc (by decide +kernel), by decide +kernel⟩
  · exact
      let c : Call := tCall [tItem 1 4 0]
      let s : State := tUp
      let gs : List Got := tGot cmdEvtRouteGet c s
      ⟨c, gs, s, tAcc (by decide +kernel)⟩
  · exact
      let c : Call := tCall [tItem 1 1 20, tItem 2 1 1]
      let s : State := tUp
      let gs : List Got := tGot cmdEvtChannelSet c s
      let b := Option.get (gotN? gs 2) (by decide +kernel)
      ⟨c, gs, s, b, tAcc (by decide +kernel), by decide +kernel, (Option.some_get _).symm⟩
  · exact
      let c : Call := tCall [tItem 1 2 5140]
      let s : State := tUp
      let s : State := s.onEvents fun v => { v with subscribe := v.subscribe.map fun _ => 20 }
      let gs : List Got := tGot cmdEvtSubscribeSet c s
      ⟨c, gs, s, tAcc (by decide +kernel), by decide +kernel⟩
  · exact
      let c : Call := tCall [tItem 1 4 0, tItem 2 4 0]
      let s : State := tUp
      let gs : List Got := tGot cmdEvtGroupSet c s
      ⟨c, gs, s, tAcc (by decide +kernel)⟩
  · exact
      let c : Call := tCall [tItem 1 4 0, tItem 2 4 0, tItem 3 4 1]
      let s : State := tUp
      let gs : List Got := tGot cmdEvtOwnerSet c s
      ⟨c, gs, s, tAcc (by decide +kernel), by decide +kernel⟩
  · exact
      let c : Call := tCall [tItem 1 1 1, tItem 2 2 20, tItem 3 1 1]
      let s : State := tUp
      let gs : List Got := tGot cmdEvtOwnerSet c s
      ⟨c, gs, s, tAcc (by decide +kernel), by decide +kernel⟩
  · exact
      let c : Call := tCall [tItem 1 4 176]
      let s : State := tUp
      let gs : List Got := tGot cmdEvtRaise c s
      ⟨c, gs, s, tAcc (by decide +kernel)⟩
  · exact
      let c : Call := tCall []
      let s : State := tUp
      let gs : List Got := tGot cmdEvtLogSet c s
      ⟨c, gs, s, tAcc (by decide +kernel)⟩
  · exact
      let c : Call := tCall []
      let s : State := tUp
      let gs : List Got := tGot cmdBellConfigSet c s
      ⟨c, gs, s, tAcc (by decide +kernel)⟩
  · exact
      let c : Call := tCall [tItem 1 4 0]
      let s : State := tUp
      let s : State := s.onEvents fun v => { v with bell := { v.bell with srcEn := 0 } }
      let gs : List Got := tGot cmdBellRing c s
      ⟨c, gs, s, tAcc (by decide +kernel), by decide +kernel⟩
  · exact
      let c : Call := tCall [tItem 1 4 0, tItem 2 4 5, tItem 3 4 5, tItem 4 4 5]
      let s : State := tUp
      let gs : List Got := tGot cmdBellRing c s
      let p : Pos := { frame := gotF gs 2, line := gotN gs 3, phase := gotN gs 4 }
      ⟨c, gs, s, p, tAcc (by decide +kernel), by decide +kernel, by decide +kernel, by decide +kernel, by decide +kernel, rfl,
        by decide +kernel⟩
  · exact
      let c : Call := tCall [tItem 1 4 0, tItem 2 4 0, tItem 3 2 0, tItem 4 1 0]
      let s : State := tUp
      let s : State := { s with raster.frame := 5 }
      let gs : List Got := tGot cmdBellRing c s
      let p : Pos := { frame := gotF gs 2, line := gotN gs 3, phase := gotN gs 4 }
      ⟨c, gs, s, p, tAcc (by decide +kernel), by decide +kernel, by decide +kernel, by decide +kernel, by decide +kernel, rfl,
        by decide +kernel⟩
  · exact
      let c := tCall [tItem 1 1 1]
      let p := 0
      let s : State := tUp
      ⟨c, s, p, tRef (by decide +kernel)⟩
  · exact
      let c : Call := tCall []
      let s : State := tUp
      let gs : List Got := tGot cmdEvtStatusGet c s
      ⟨c, gs, s, tAcc (by decide +kernel)⟩
  · exact
      let c : Call := tCall [tItem 1 4 0]
      let s : State := tUp
      let gs : List Got := tGot cmdEvtCountersClear c s
      ⟨c, gs, s, tAcc (by decide +kernel)⟩

theorem test_hypotheses_of_TreeLinkEvents :
    (∃ (s : State) (t : Nat) (n : Nat) (bs : List Byte), (s.treePort t).up = false) ∧
    (∃ (s : State) (t n : Nat) (bs : List Byte), t < s.tree.ports.length ∧ (s.treePort t).up = true ∧ (s.treePort t).unacked =
      [] ∧ n = leNat (bs.take 2) % 4096 ∧ bs.length = 256 ∧ crc32c (bs.take 252) = BitVec.ofNat 32 (leNat (bs.drop 252)) ∧ n =
      ((s.treePort t).rxSeq + 1).toNat) ∧
    (∃ (s : State) (t : Nat) (bs : List Byte), (s.treePort t).up = true ∧ bs.length ≠ 256 ∧ (s.treePort t).nakSent = true) ∧
    (∃ (s : State) (v : State) (t : Nat) (bs : List Byte), (s.treePort t).up = true ∧ bs.length ≠ 256 ∧ (s.treePort t).nakSent
      = false ∧ v = s.countLink t 0 1) ∧
    (∃ (s : State) (t : Nat) (i : Nat) (n : Nat), (s.treePort t).up = true ∧ (s.treePort t).waiting = [] ∧ (s.treePort
      t).unacked.findIdx? (fun sf => sf.1.toNat == n) = some i ∧ t < s.tree.ports.length) ∧
    (∃ (s : State) (t : Nat) (n : Nat), (s.treePort t).up = true ∧ (s.treePort t).unacked.findIdx? (fun sf => sf.1.toNat == n)
      = none) ∧
    (∃ (s : State) (t : Nat) (f : BitVec 12 × Flit), (s.treePort t).up = true ∧ (s.treePort t).unacked = [f] ∧ (s.treePort
      t).fruitless < 8) ∧
    (∃ (s : State) (t : Nat), (s.treePort t).up = true ∧ (s.treePort t).unacked ≠ [] ∧ 8 ≤ (s.treePort t).fruitless) ∧
    (∃ (s : State) (t : Nat), (s.treePort t).up = true) ∧
    (∃ (s : State) (t : Nat), (s.treePort t).exchanging = true) ∧
    (∃ (s : State) (t : Nat) (x : ExchangeInfo), (s.treePort t).exchanging = false) ∧
    (∃ (s : State) (t : Nat) (x : ExchangeInfo), (s.treePort t).exchanging = true ∧ (s.tree.cfg.role = 0 ∨ linkVersions.filter
      (fun v => x.versions.contains v) = [])) ∧
    (∃ (s : State) (w : State) (t : Nat) (v : Nat) (x : ExchangeInfo), (s.treePort t).exchanging = true ∧ s.tree.cfg.role = 1
      ∧ (linkVersions.filter fun v => x.versions.contains v).getLast? = some v ∧ w = (s.sendUnseq t s.exchangeFlit).portToActive
      (2 + t) ∧ t < w.tree.ports.length) ∧
    (∃ (s : State) (t : Nat) (bs : List Byte) (m : Mailbox) (c : Call), t < 4 ∧ (s.treePort t).up = true ∧ s.isMember = false
      ∧ s.control.mailboxes[12 + t]? = some m ∧ m.partialMsg = [] ∧ c = { mb := 12 + t, major := if (bs.headD 0).toNat = 2 then 2 else 3, minor := 0, tag := leNat ((bs.drop 4).take 2), byHandle := false, items := [] }) ∧
    (∃ (s : State) (t : Nat), (s.treePort t).up = true ∧ (s.treePort t).ackDue = true) := by
  refine ⟨?_, ?_, ?_, ?_, ?_, ?_, ?_, ?_, ?_, ?_, ?_, ?_, ?_, ?_, ?_⟩
  · exact
      let t : Nat := 0
      let n : Nat := 0
      let bs : List Byte := []
      let s : State := tUp
      let s : State := s.onTreePort t fun zz => { zz with up := false }
      ⟨s, t, n, bs, by decide +kernel⟩
  · exact
      let b : List Byte := List.replicate 252 0
      let s : State := tUp.onTreePort 0 fun p => { p with up := true, unacked := [], rxSeq := 4095 }
      ⟨s, 0, 0, b ++ toLe 4 (crc32c b).toNat, by decide +kernel, by decide +kernel, by decide +kernel, by decide +kernel, by
        decide +kernel, tCrc b List.length_replicate, by decide +kernel⟩
  · exact
      let t : Nat := 0
      let bs : List Byte := []
      let s : State := tUp
      let s : State := s.onTreePort t fun zz => { zz with up := true }
      let s : State := s.onTreePort t fun zz => { zz with nakSent := true }
      ⟨s, t, bs, by decide +kernel⟩
  · exact
      let t : Nat := 0
      let bs : List Byte := []
      let s : State := tUp
      let s : State := s.onTreePort t fun zz => { zz with up := true }
      let s : State := s.onTreePort t fun zz => { zz with nakSent := false }
      let v : State := s.countLink t 0 1
      ⟨s, v, t, bs, by decide +kernel, by decide +kernel, by decide +kernel, rfl⟩
  · exact
      let t : Nat := 0
      let i : Nat := 0
      let n : Nat := 5
      let s : State := tUp
      let s : State := s.onTreePort 0 fun p => { p with unacked := [(5, tUp.ownFlit .link .link 0 .idle)] }
      let s : State := s.onTreePort t fun zz => { zz with up := true }
      let s : State := s.onTreePort t fun zz => { zz with waiting := [] }
      ⟨s, t, i, n, by decide +kernel⟩
  · exact
      let t : Nat := 0
      let n : Nat := 0
      let s : State := tUp
      let s : State := s.onTreePort t fun zz => { zz with up := true }
      ⟨s, t, n, by decide +kernel⟩
  · exact
      let t : Nat := 0
      let f : BitVec 12 × Flit := (0, tUp.ownFlit .link .link 0 .idle)
      let s : State := tUp
      let s : State := s.onTreePort t fun zz => { zz with up := true }
      let s : State := s.onTreePort t fun zz => { zz with unacked := [f] }
      ⟨s, t, f, by decide +kernel⟩
  · exact
      let t : Nat := 0
      let s : State := tUp
      let s : State := s.onTreePort 0 fun p => { p with unacked := [(5, tUp.ownFlit .link .link 0 .idle)], fruitless := 8 }
      let s : State := s.onTreePort t fun zz => { zz with up := true }
      ⟨s, t, by decide +kernel⟩
  · exact
      let t : Nat := 0
      let s : State := tUp
      let s : State := s.onTreePort t fun zz => { zz with up := true }
      ⟨s, t, by decide +kernel⟩
  · exact
      let t : Nat := 0
      let s : State := tUp
      let s : State := s.onTreePort t fun zz => { zz with exchanging := true }
      ⟨s, t, by decide +kernel⟩
  · exact
      let t : Nat := 0
      let x : ExchangeInfo := tExchange
      let s : State := tUp
      let s : State := s.onTreePort t fun zz => { zz with exchanging := false }
      ⟨s, t, x, by decide +kernel⟩
  · exact
      let t : Nat := 0
      let x : ExchangeInfo := tExchange
      let s : State := tUp
      let s : State := s.onTreePort t fun zz => { zz with exchanging := true }
      ⟨s, t, x, by decide +kernel⟩
  · exact
      let t : Nat := 0
      let v : Nat := 0x0100
      let x : ExchangeInfo := { tExchange with versions := [0x0100] }
      let s : State := tUp
      let s : State := s.onTreePort t fun zz => { zz with exchanging := true }
      let s : State := { s with tree.cfg.role := 1 }
      let w : State := (s.sendUnseq t s.exchangeFlit).portToActive (2 + t)
      ⟨s, w, t, v, x, by decide +kernel, by decide +kernel, by decide +kernel, rfl, by decide +kernel⟩
  · exact
      let t : Nat := 0
      let bs : List Byte := []
      let c : Call := { mb := 12 + t, major := if (bs.headD 0).toNat = 2 then 2 else 3, minor := 0, tag := leNat ((bs.drop 4).take 2), byHandle := false, items := [] }
      let s : State := tUp
      let s : State := s.onTreePort t fun zz => { zz with up := true }
      let m : Mailbox := (s.control.mailboxes.getD 12 {})
      ⟨s, t, bs, m, c, by decide +kernel⟩
  · exact
      let s : State := tUp.onTreePort 3 fun p => { p with up := true, ackDue := true }
      ⟨s, 3, by decide +kernel⟩

theorem test_hypotheses_of_TreeServiceEvents :
    (∃ (s : State) (t : Nat) (x : TimeFlit), s.isMember = false) ∧
    (∃ (s : State) (t : Nat) (x : TimeFlit), s.isMember = true ∧ (s.treePort t).up = true ∧ s.tree.upstream = some t ∧
      s.raster.inUse ≠ 5) ∧
    (∃ (s : State) (t : Nat) (e : TreeEvent), (s.treePort t).up = true ∧ s.isHead = true) ∧
    (∃ (s : State) (t : Nat) (e : TreeEvent), (s.treePort t).up = true ∧ s.isMember = true ∧ s.isHead = false ∧
      s.tree.upstream = some t) ∧
    (∃ (s : State) (t : Nat) (u : Nat), (s.treePort t).up = true ∧ s.isHead = false ∧ s.isMember = true ∧ s.tree.upstream =
      some u ∧ u ≠ t ∧ s.tree.cfg.topology = 0) ∧
    (∃ (s : State) (t : Nat) (n : Nat), (s.treePort t).called = false) ∧
    (∃ (s : State), s.tree.ports.all (fun p => !p.called) = true) ∧
    (∃ (s : State) (t : Nat) (a : AssignInfo), s.tree.upstream ≠ some t) ∧
    (∃ (s : State) (t : Nat) (a : AssignInfo), s.isMember = true ∧ s.tree.upstream = some t) ∧
    (∃ (s : State) (x : NodeReport), s.tree.awaited.contains x.node = false) ∧
    (∃ (s : State) (x : NodeReport) (k : Nat), s.isHead = true ∧ s.tree.awaited = [x.node, k] ∧ k ≠ x.node ∧ s.tree.nodes =
      []) ∧
    (∃ (s : State) (t : Nat) (n : Nat), s.isHead = true ∧ s.tree.rollCall = false ∧ s.tree.nodes.find? (fun x => x.serial ==
      n) = none) ∧
    (∃ (s : State), s.isMember = false) ∧
    (∃ (s : State) (t : Nat), s.isMember = true ∧ s.tree.quarantined = true ∧ s.tree.upstream = some t) ∧
    (∃ (s : State) (i : Nat) (e : Word) (o : Int) (m : BitVec 128), s.isHead = false) ∧
    (∃ (s : State) (i : Nat) (n : NodeRec), s.isHead = true ∧ s.tree.nodes = [n] ∧ n.id = i ∧ n.badEpoch = false ∧ n.outOfStep
      = false) ∧
    (∃ (s : State) (m : BitVec 128) (bs : List Byte) (e : Word), (s.isMember = false ∨ s.tree.upstream = none)) ∧
    (∃ (s : State), s.isMember = true ∧ s.tree.upstream.isSome = true) ∧
    (∃ (s : State) (bs : List Byte) (e : Word), s.isMember = true ∧ s.tree.upstream.isSome = true) ∧
    (∃ (s : State) (i : Nat) (e : Word), s.isHead = false) ∧
    (∃ (s : State) (i : Nat) (n : NodeRec), s.isHead = true ∧ s.tree.bundle = none ∧ s.tree.nodes = [n] ∧ n.id = i ∧
      n.badEpoch = true ∧ s.tree.pushWaiting = []) ∧
    (∃ (s : State), s.tree.pushWaiting = []) ∧
    (∃ (s : State) (i : Nat), s.tree.pushWaiting = [i] ∧ s.tree.nodes = []) ∧
    (∃ (s : State) (i : Nat) (n : NodeRec), s.isHead = true ∧ s.node? i = some n ∧ n.badEpoch = true) ∧
    (∃ (s : State) (t : Nat) (n : Nat), s.tree.cfg.topology = 0) ∧
    (∃ (s : State) (n : Nat) (bs : List Byte), (s.control.mailboxes.all fun m => m.waiting.isNone) = true) := by
  refine ⟨?_, ?_, ?_, ?_, ?_, ?_, ?_, ?_, ?_, ?_, ?_, ?_, ?_, ?_, ?_, ?_, ?_, ?_, ?_, ?_, ?_, ?_, ?_, ?_, ?_, ?_⟩
  · exact
      let t : Nat := 0
      let x : TimeFlit := tTime
      let s : State := tUp
      ⟨s, t, x, by decide +kernel⟩
  · exact
      let t : Nat := 0
      let x : TimeFlit := tTime
      let s : State := tUp
      let s : State := { s with tree.cfg := { s.tree.cfg with role := 2 } }
      let s : State := s.onTreePort t fun zz => { zz with up := true }
      let s : State := { s with tree.upstream := some t }
      ⟨s, t, x, by decide +kernel⟩
  · exact
      let t : Nat := 0
      let e : TreeEvent := tTreeEvent
      let s : State := tUp
      let s : State := { s with tree.cfg := { s.tree.cfg with role := 1 } }
      let s : State := s.onTreePort t fun zz => { zz with up := true }
      ⟨s, t, e, by decide +kernel⟩
  · exact
      let t : Nat := 0
      let e : TreeEvent := tTreeEvent
      let s : State := tUp
      let s : State := { s with tree.cfg := { s.tree.cfg with role := 2 } }
      let s : State := s.onTreePort t fun zz => { zz with up := true }
      let s : State := { s with tree.upstream := some t }
      ⟨s, t, e, by decide +kernel⟩
  · exact
      let t : Nat := 0
      let u : Nat := 1
      let s : State := tUp
      let s : State := { s with tree.cfg := { s.tree.cfg with role := 2 } }
      let s : State := s.onTreePort t fun zz => { zz with up := true }
      let s : State := { s with tree.upstream := some u }
      let s : State := { s with tree.cfg.topology := 0 }
      ⟨s, t, u, by decide +kernel⟩
  · exact
      let t : Nat := 0
      let n : Nat := 0
      let s : State := tUp
      let s : State := s.onTreePort t fun zz => { zz with called := false }
      ⟨s, t, n, by decide +kernel⟩
  · exact
      let s : State := tUp
      ⟨s, by decide +kernel⟩
  · exact
      let t : Nat := 0
      let a : AssignInfo := tAssign
      let s : State := tUp
      ⟨s, t, a, by decide +kernel⟩
  · exact
      let t : Nat := 0
      let a : AssignInfo := tAssign
      let s : State := tUp
      let s : State := { s with tree.cfg := { s.tree.cfg with role := 2 } }
      let s : State := { s with tree.upstream := some t }
      ⟨s, t, a, by decide +kernel⟩
  · exact
      let x : NodeReport := tReport
      let s : State := tUp
      ⟨s, x, by decide +kernel⟩
  · exact
      let x : NodeReport := tReport
      let k : Nat := 2
      let s : State := tUp
      let s : State := { s with tree.cfg := { s.tree.cfg with role := 1 } }
      let s : State := { s with tree.awaited := [1, 2] }
      ⟨s, x, k, by decide +kernel⟩
  · exact
      let t : Nat := 0
      let n : Nat := 0
      let s : State := tUp
      let s : State := { s with tree.cfg := { s.tree.cfg with role := 1 } }
      let s : State := { s with tree.rollCall := false }
      ⟨s, t, n, by decide +kernel⟩
  · exact
      let s : State := tUp
      ⟨s, by decide +kernel⟩
  · exact
      let t : Nat := 0
      let s : State := tUp
      let s : State := { s with tree.cfg := { s.tree.cfg with role := 2 } }
      let s : State := { s with tree.quarantined := true }
      let s : State := { s with tree.upstream := some t }
      ⟨s, t, by decide +kernel⟩
  · exact
      let i : Nat := 0
      let e : Word := 0
      let o : Int := 0
      let m : BitVec 128 := 0
      let s : State := tUp
      ⟨s, i, e, o, m, by decide +kernel⟩
  · exact
      let i : Nat := 1
      let n : NodeRec := tNode
      let s : State := tUp
      let s : State := { s with tree.cfg := { s.tree.cfg with role := 1 } }
      let s : State := { s with tree.nodes := [tNode] }
      ⟨s, i, n, by decide +kernel⟩
  · exact
      let m : BitVec 128 := 0
      let bs : List Byte := []
      let e : Word := 0
      let s : State := tUp
      ⟨s, m, bs, e, by decide +kernel⟩
  · exact
      let s : State := tUp
      let s : State := { s with tree.cfg := { s.tree.cfg with role := 2 } }
      let s : State := { s with tree.upstream := some 1 }
      ⟨s, by decide +kernel⟩
  · exact
      let bs : List Byte := []
      let e : Word := 0
      let s : State := tUp
      let s : State := { s with tree.cfg := { s.tree.cfg with role := 2 } }
      let s : State := { s with tree.upstream := some 1 }
      ⟨s, bs, e, by decide +kernel⟩
  · exact
      let i : Nat := 0
      let e : Word := 0
      let s : State := tUp
      ⟨s, i, e, by decide +kernel⟩
  · exact
      let i : Nat := 1
      let n : NodeRec := { tNode with badEpoch := true }
      let s : State := tUp
      let s : State := { s with tree.cfg := { s.tree.cfg with role := 1 } }
      let s : State := { s with tree.nodes := [{ tNode with badEpoch := true }] }
      let s : State := { s with tree.bundle := none }
      let s : State := { s with tree.pushWaiting := [] }
      ⟨s, i, n, by decide +kernel⟩
  · exact
      let s : State := tUp
      let s : State := { s with tree.pushWaiting := [] }
      ⟨s, by decide +kernel⟩
  · exact
      let i : Nat := 1
      let s : State := tUp
      let s : State := { s with tree.pushWaiting := [1] }
      ⟨s, i, by decide +kernel⟩
  · exact
      let i : Nat := 1
      let n : NodeRec := { tNode with badEpoch := true }
      let s : State := tUp
      let s : State := { s with tree.cfg := { s.tree.cfg with role := 1 } }
      let s : State := { s with tree.nodes := [{ tNode with badEpoch := true }] }
      ⟨s, i, n, by decide +kernel⟩
  · exact
      let t : Nat := 0
      let n : Nat := 0
      let s : State := tUp
      let s : State := { s with tree.cfg.topology := 0 }
      ⟨s, t, n, by decide +kernel⟩
  · exact
      let n : Nat := 0
      let bs : List Byte := []
      let s : State := tUp
      ⟨s, n, bs, by decide +kernel⟩

theorem test_hypotheses_of_TreeCommands :
    (∃ (c : Call) (gs : List Got) (s : State) (t : Nat) (cfg : LaneConfig) (v : State), Accepts cmdTblPortSet c gs s ∧ t =
      gotN gs 1 ∧ cfg = putPlain 0x100 laneFlds gs (s.lanePort (2 + t)).cfg ∧ judgeLanes gs (s.laneCount (2 + t)) 0x101 cfg =
      none ∧ v = (s.onTreePort t fun p => { p with asym := (gotI? gs 2).getD p.asym }).onLanePort (2 + t) (fun q => { q with cfg := cfg })) ∧
    (∃ (c : Call) (gs : List Got) (s : State) (cfg : TreeConfig), Accepts cmdTblTreeSet c gs s ∧ cfg = putPlain 0x100 treeFlds
      gs s.tree.cfg ∧ (cfg.role ≠ 2 ∨ s.tree.cfg.role = 2)) ∧
    (∃ (c : Call) (gs : List Got) (s : State) (cfg : TreeConfig), Accepts cmdTblTreeSet c gs s ∧ cfg = putPlain 0x100 treeFlds
      gs s.tree.cfg ∧ cfg.role = 2 ∧ s.tree.cfg.role ≠ 2) ∧
    (∃ (c : Call) (gs : List Got) (s : State) (st : _), Accepts cmdTblRollCall c gs s ∧ headRefusal true s = some st) ∧
    (∃ (c : Call) (gs : List Got) (s : State) (v : _), Accepts cmdTblRollCall c gs s ∧ headRefusal true s = none ∧
      s.rollCallStart none = (none, v)) ∧
    (∃ (c : Call) (gs : List Got) (s : State) (v : _) (its : _), Accepts cmdTblRollCall c gs s ∧ headRefusal true s = none ∧
      s.rollCallStart none = (some its, v)) ∧
    (∃ (s : State), s.isHead = false) ∧
    (∃ (s : State), s.isHead = true) ∧
    (∃ (c : Call) (gs : List Got) (s : State), Accepts cmdTblNodeList c gs s) ∧
    (∃ (c : Call) (gs : List Got) (s : State), Accepts cmdTblConfigPush c gs s) ∧
    (∃ (c : Call) (gs : List Got) (s : State), Accepts cmdTblForward c gs s) ∧
    (∃ (c : Call) (gs : List Got) (s : State), Accepts cmdTblStateSet c gs s) ∧
    (∃ (c : Call) (gs : List Got) (s : State), Accepts cmdTblStatusGet c gs s) ∧
    (∃ (c : Call) (gs : List Got) (s : State), Accepts cmdTblCountersClear c gs s) := by
  refine ⟨?_, ?_, ?_, ?_, ?_, ?_, ?_, ?_, ?_, ?_, ?_, ?_, ?_, ?_⟩
  · exact
      let c : Call := tCall [tItem 1 4 0]
      let s : State := tUp
      let gs : List Got := tGot cmdTblPortSet c s
      let t : Nat := gotN gs 1
      let cfg : LaneConfig := putPlain 0x100 laneFlds gs (s.lanePort (2 + t)).cfg
      let v : State := (s.onTreePort t fun p => { p with asym := (gotI? gs 2).getD p.asym }).onLanePort (2 + t) (fun q => { q with cfg := cfg })
      ⟨c, gs, s, t, cfg, v, tAcc (by decide +kernel), rfl, rfl, by decide +kernel, rfl⟩
  · exact
      let c : Call := tCall []
      let s : State := tUp
      let gs : List Got := tGot cmdTblTreeSet c s
      let cfg : TreeConfig := putPlain 0x100 treeFlds gs s.tree.cfg
      ⟨c, gs, s, cfg, tAcc (by decide +kernel), rfl, by decide +kernel⟩
  · exact
      let c : Call := tCall [tItem 256 1 2]
      let s : State := tUp
      let gs : List Got := tGot cmdTblTreeSet c s
      let cfg : TreeConfig := putPlain 0x100 treeFlds gs s.tree.cfg
      ⟨c, gs, s, cfg, tAcc (by decide +kernel), rfl, by decide +kernel⟩
  · exact
      let c : Call := tCall []
      let s : State := tUp
      let gs : List Got := tGot cmdTblRollCall c s
      let st := Option.get (headRefusal true s) (by decide +kernel)
      ⟨c, gs, s, st, tAcc (by decide +kernel), (Option.some_get _).symm⟩
  · exact
      let c : Call := tCall []
      let s : State := tUp
      let s : State := { s with tree.cfg := { s.tree.cfg with role := 1 } }
      let s : State := s.onTreePort 0 fun p => { p with up := true }
      let gs : List Got := tGot cmdTblRollCall c s
      let v := (s.rollCallStart none).2
      ⟨c, gs, s, v, tAcc (by decide +kernel), by decide +kernel, tNone1 (by decide +kernel)⟩
  · exact
      let c : Call := tCall []
      let s : State := tUp
      let s : State := { s with tree.cfg := { s.tree.cfg with role := 1 } }
      let gs : List Got := tGot cmdTblRollCall c s
      let its := Option.get (s.rollCallStart none).1 (by decide +kernel)
      let v := (s.rollCallStart none).2
      ⟨c, gs, s, v, its, tAcc (by decide +kernel), by decide +kernel, tSome1 _⟩
  · exact
      let s : State := tUp
      ⟨s, by decide +kernel⟩
  · exact
      let s : State := tUp
      let s : State := { s with tree.cfg := { s.tree.cfg with role := 1 } }
      ⟨s, by decide +kernel⟩
  · exact
      let c : Call := tCall [tItem 1 4 0, tItem 2 1 1]
      let s : State := tUp
      let s : State := { s with tree.cfg := { s.tree.cfg with role := 1 } }
      let gs : List Got := tGot cmdTblNodeList c s
      ⟨c, gs, s, tAcc (by decide +kernel)⟩
  · exact
      let c : Call := tCall [tItem 1 4 13, tItem 2 4 0, tItem 3 4 1]
      let s : State := tUp
      let s : State := { s with tree.cfg := { s.tree.cfg with role := 1 } }
      let gs : List Got := tGot cmdTblConfigPush c s
      ⟨c, gs, s, tAcc (by decide +kernel)⟩
  · exact
      let c : Call := tCall [tItem 1 4 1, tItem 2 0 0]
      let s : State := tUp
      let s : State := { s with tree.cfg := { s.tree.cfg with role := 1 } }
      let s : State := { s with tree.nodes := [tNode] }
      let gs : List Got := tGot cmdTblForward c s
      ⟨c, gs, s, tAcc (by decide +kernel)⟩
  · exact
      let c : Call := tCall [tItem 1 4 1, tItem 2 16 0]
      let s : State := tUp
      let s : State := { s with tree.cfg := { s.tree.cfg with role := 1 } }
      let s : State := { s with tree.nodes := [tNode] }
      let gs : List Got := tGot cmdTblStateSet c s
      ⟨c, gs, s, tAcc (by decide +kernel)⟩
  · exact
      let c : Call := tCall []
      let s : State := tUp
      let gs : List Got := tGot cmdTblStatusGet c s
      ⟨c, gs, s, tAcc (by decide +kernel)⟩
  · exact
      let c : Call := tCall [tItem 1 4 0, tItem 2 4 0]
      let s : State := tUp
      let gs : List Got := tGot cmdTblCountersClear c s
      ⟨c, gs, s, tAcc (by decide +kernel)⟩

theorem test_hypotheses_of_BoardBusEvents :
    (∃ (s : State) (c : Nat) (a : Bool) (b : Bool), ((s.twi c).active.isSome = true ∨ (s.twi c).queue = [])) ∧
    (∃ (s : State) (c : Nat) (t : Transfer) (rest : List Transfer), (s.twi c).active = none ∧ (s.twi c).queue = t :: rest ∧
      t.segments ≠ []) ∧
    (∃ (s : State) (c : Nat) (t : Transfer) (rest : List Transfer), (s.twi c).active = none ∧ (s.twi c).queue = t :: rest ∧
      t.segments ≠ []) ∧
    (∃ (s : State) (c : Nat) (r : I2cResult), (s.twi c).active = none) ∧
    (∃ (s : State) (c : Nat) (r : I2cResult) (t : Transfer), (s.twi c).active = some t ∧ (s.twi c).waitsStop = false ∧
      (r.status = 3 ∨ r.status = 4) ∧ t.losses < (s.twi c).cfg.retries ∧ c < s.bus.i2c.length) ∧
    (∃ (s : State) (c : Nat) (n : Nat) (r : I2cResult) (t : Transfer), (s.twi c).active = some t ∧ (s.twi c).waitsStop = false
      ∧ r.status ≠ 3 ∧ r.status ≠ 4 ∧ t.for_ = .mailbox n) ∧
    (∃ (s : State) (a : Nat) (n : Nat) (bs : List Byte), s.bus.target.matches a = false) ∧
    (∃ (s : State) (a : Nat) (bs : List Byte), s.bus.target.matches a = true ∧ bs.length = 4) ∧
    (∃ (s : State) (a : Nat) (bs : List Byte), s.bus.target.matches a = true ∧ 4 < bs.length) ∧
    (∃ (s : State) (a : Nat) (n : Nat), s.bus.target.matches a = true) ∧
    (∃ (s : State) (n : Nat) (b : Byte) (x : Bool) (y : Bool) (z : Bool), s.uartRuns n = false) ∧
    (∃ (s : State) (n : Nat) (b : Byte), n < s.bus.uarts.length ∧ s.uartRuns n = true ∧ s.lensUart n = false ∧ (s.uart
      n).cfg.data = 8 ∧ (s.uart n).rx.length < 255) ∧
    (∃ (s : State) (k : Nat) (b : Bool), (32 ≤ k ∨ s.bus.gpioIn.getLsbD k = b)) ∧
    (∃ (s : State) (k : Nat) (b : Bool), k < 32 ∧ s.bus.gpioIn.getLsbD k ≠ b ∧ s.events.pulses = []) ∧
    (∃ (s : State) (v : Word), ((∀ i, i < 16 → v.getLsbD (16 + i) = false))) := by
  refine ⟨?_, ?_, ?_, ?_, ?_, ?_, ?_, ?_, ?_, ?_, ?_, ?_, ?_, ?_, ?_⟩
  · exact
      let c : Nat := 0
      let a : Bool := false
      let b : Bool := false
      let s : State := tUp
      ⟨s, c, a, b, by decide +kernel⟩
  · exact
      let c : Nat := 0
      let t : Transfer := tTransfer
      let rest : List Transfer := []
      let s : State := tUp
      let s : State := s.onTwi c fun zz => { zz with active := none }
      let s : State := s.onTwi c fun zz => { zz with queue := t :: rest }
      ⟨s, c, t, rest, by decide +kernel⟩
  · exact
      let c : Nat := 0
      let t : Transfer := tTransfer
      let rest : List Transfer := []
      let s : State := tUp
      let s : State := s.onTwi c fun zz => { zz with active := none }
      let s : State := s.onTwi c fun zz => { zz with queue := t :: rest }
      ⟨s, c, t, rest, by decide +kernel⟩
  · exact
      let c : Nat := 0
      let r : I2cResult := tI2cResult
      let s : State := tUp
      let s : State := s.onTwi c fun zz => { zz with active := none }
      ⟨s, c, r, by decide +kernel⟩
  · exact
      let c : Nat := 0
      let r : I2cResult := { tI2cResult with status := 3 }
      let t : Transfer := tTransfer
      let s : State := tUp
      let s : State := s.onTwi 0 fun x => { x with cfg := { x.cfg with retries := 1 } }
      let s : State := s.onTwi c fun zz => { zz with active := some t }
      let s : State := s.onTwi c fun zz => { zz with waitsStop := false }
      ⟨s, c, r, t, by decide +kernel⟩
  · exact
      let c : Nat := 0
      let n : Nat := 0
      let r : I2cResult := tI2cResult
      let t : Transfer := { (tTransfer : Transfer) with for_ := .mailbox n }
      let s : State := tUp
      let s : State := s.onTwi c fun zz => { zz with active := some t }
      let s : State := s.onTwi c fun zz => { zz with waitsStop := false }
      ⟨s, c, n, r, t, by decide +kernel⟩
  · exact
      let a : Nat := 0
      let n : Nat := 0
      let bs : List Byte := []
      let s : State := tUp
      ⟨s, a, n, bs, by decide +kernel⟩
  · exact
      let a : Nat := 88
      let bs : List Byte := [0, 0, 0, 0]
      let s : State := tUp
      let s : State := s.onBus fun b => { b with target := { b.target with addrs := [88] } }
      ⟨s, a, bs, by decide +kernel⟩
  · exact
      let a : Nat := 88
      let bs : List Byte := [0, 0, 0, 0, 0]
      let s : State := tUp
      let s : State := s.onBus fun b => { b with target := { b.target with addrs := [88] } }
      ⟨s, a, bs, by decide +kernel⟩
  · exact
      let a : Nat := 88
      let n : Nat := 0
      let s : State := tUp
      let s : State := s.onBus fun b => { b with target := { b.target with addrs := [88] } }
      ⟨s, a, n, by decide +kernel⟩
  · exact
      let n : Nat := 0
      let b : Byte := 0
      let x : Bool := false
      let y : Bool := false
      let z : Bool := false
      let s : State := tUp
      ⟨s, n, b, x, y, z, by decide +kernel⟩
  · exact
      let n : Nat := 0
      let b : Byte := 0
      let s : State := tUp
      let s : State := s.onUart 0 fun x => { x with cfg := { x.cfg with rxRing := 17 } }
      let s : State := s.onUart n fun zz => { zz with cfg.data := 8 }
      ⟨s, n, b, by decide +kernel⟩
  · exact
      let k : Nat := 0
      let b : Bool := false
      let s : State := tUp
      ⟨s, k, b, by decide +kernel⟩
  · exact
      let k : Nat := 0
      let b : Bool := true
      let s : State := tUp
      let s : State := { s with events.pulses := [] }
      ⟨s, k, b, by decide +kernel⟩
  · exact
      let v : Word := 0
      let s : State := tUp
      ⟨s, v, by decide +kernel⟩

theorem test_hypotheses_of_BoardBusCommands :
    (∃ (c : Call) (gs : List Got) (s : State), Accepts cmdBusI2cSet c gs s) ∧
    (∃ (c : Call) (gs : List Got) (s : State), Accepts cmdBusI2cXfer c gs s) ∧
    (∃ (c : Call) (gs : List Got) (s : State), Accepts cmdBusI2cClear c gs s) ∧
    (∃ (c : Call) (gs : List Got) (s : State), Accepts cmdBusTargetSet c gs s) ∧
    (∃ (c : Call) (gs : List Got) (s : State), Accepts cmdBusUartSet c gs s) ∧
    (∃ (c : Call) (gs : List Got) (s : State), Accepts cmdBusUartSend c gs s) ∧
    (∃ (c : Call) (gs : List Got) (s : State), Accepts cmdBusLensSet c gs s) ∧
    (∃ (c : Call) (gs : List Got) (s : State), Accepts cmdBusGpioSet c gs s) ∧
    (∃ (c : Call) (gs : List Got) (s : State), Accepts cmdBusStatusGet c gs s) ∧
    (∃ (c : Call) (gs : List Got) (s : State), Accepts cmdBusCountersClear c gs s) := by
  refine ⟨?_, ?_, ?_, ?_, ?_, ?_, ?_, ?_, ?_, ?_⟩
  · exact
      let c : Call := tCall [tItem 1 4 0]
      let s : State := tUp
      let gs : List Got := tGot cmdBusI2cSet c s
      ⟨c, gs, s, tAcc (by decide +kernel)⟩
  · exact
      let c : Call := tCall [tItem 1 1 0, tItem 2 5 65544]
      let s : State := tUp
      let gs : List Got := tGot cmdBusI2cXfer c s
      ⟨c, gs, s, tAcc (by decide +kernel)⟩
  · exact
      let c : Call := tCall [tItem 1 4 0]
      let s : State := tUp
      let gs : List Got := tGot cmdBusI2cClear c s
      ⟨c, gs, s, tAcc (by decide +kernel)⟩
  · exact
      let c : Call := tCall [tItem 1 4 8]
      let s : State := tUp
      let gs : List Got := tGot cmdBusTargetSet c s
      ⟨c, gs, s, tAcc (by decide +kernel)⟩
  · exact
      let c : Call := tCall [tItem 1 4 0]
      let s : State := tUp
      let gs : List Got := tGot cmdBusUartSet c s
      ⟨c, gs, s, tAcc (by decide +kernel)⟩
  · exact
      let c : Call := tCall [tItem 1 4 0, tItem 2 0 0]
      let s : State := tUp
      let gs : List Got := tGot cmdBusUartSend c s
      ⟨c, gs, s, tAcc (by decide +kernel)⟩
  · exact
      let c : Call := tCall []
      let s : State := tUp
      let gs : List Got := tGot cmdBusLensSet c s
      ⟨c, gs, s, tAcc (by decide +kernel)⟩
  · exact
      let c : Call := tCall [tItem 1 4 0]
      let s : State := tUp
      let gs : List Got := tGot cmdBusGpioSet c s
      ⟨c, gs, s, tAcc (by decide +kernel)⟩
  · exact
      let c : Call := tCall []
      let s : State := tUp
      let gs : List Got := tGot cmdBusStatusGet c s
      ⟨c, gs, s, tAcc (by decide +kernel)⟩
  · exact
      let c : Call := tCall [tItem 1 4 0]
      let s : State := tUp
      let gs : List Got := tGot cmdBusCountersClear c s
      ⟨c, gs, s, tAcc (by decide +kernel)⟩

theorem test_hypotheses_of_SecurityEventsAndCommands :
    (∃ (s : State), s.sec.signing = none) ∧
    (∃ (s : State) (a : Attest), s.sec.signing = some a ∧ a.durable = true) ∧
    (∃ (s : State) (a : Attest), s.sec.signing = some a ∧ a.durable = false) ∧
    (∃ (s : State) (a : Attest), s.sec.signing = some a ∧ a.durable = true) ∧
    (∃ (s : State), s.sec.installs = []) ∧
    (∃ (s : State) (v : State) (n : Nat) (k : Nat) (bs : List Byte), s.sec.installs = [(n, k, bs)] ∧ v = (s.onSec fun x => { x with installs := [], flash := setAt x.flash k bs })) ∧
    (∃ (c : Call) (gs : List Got) (s : State), Accepts cmdSecInfoGet c gs s) ∧
    (∃ (c : Call) (gs : List Got) (s : State), Accepts cmdSecCertGet c gs s) ∧
    (∃ (c : Call) (gs : List Got) (s : State), Accepts cmdSecKeyStatus c gs s) ∧
    (∃ (c : Call) (gs : List Got) (s : State), Accepts cmdSecAttest c gs s) ∧
    (∃ (c : Call) (gs : List Got) (s : State), Accepts cmdSecImageInstall c gs s ∧ Call.fromHost c = false) ∧
    (∃ (c : Call) (gs : List Got) (s : State), Accepts cmdSecBootSlotSet c gs s ∧ Call.fromHost c = false) ∧
    (∃ (c : Call) (gs : List Got) (s : State), Accepts cmdSecRollbackAdvance c gs s ∧ Call.fromHost c = false) ∧
    (∃ (c : Call) (gs : List Got) (s : State), Accepts cmdSecDebugChallenge c gs s ∧ Call.fromHost c = false) ∧
    (∃ (c : Call) (gs : List Got) (s : State), Accepts cmdSecDebugUnlock c gs s ∧ Call.fromHost c = false) ∧
    (∃ (c : Call) (gs : List Got) (s : State), Accepts cmdSecImageInstall c gs s ∧ Call.fromHost c = true ∧ s.sec.installs ≠
      []) ∧
    (∃ (c : Call) (gs : List Got) (s : State), Accepts cmdSecBootSlotSet c gs s ∧ Call.fromHost c = true) ∧
    (∃ (c : Call) (gs : List Got) (s : State), Accepts cmdSecRollbackAdvance c gs s ∧ Call.fromHost c = true) ∧
    (∃ (c : Call) (gs : List Got) (s : State), Accepts cmdSecDebugChallenge c gs s ∧ Call.fromHost c = true) ∧
    (∃ (c : Call) (gs : List Got) (s : State), Accepts cmdSecDebugUnlock c gs s ∧ Call.fromHost c = true ∧ s.sec.challenge =
      none) ∧
    (∃ (c : Call) (gs : List Got) (s : State), Accepts cmdSecCountersClear c gs s) := by
  refine ⟨?_, ?_, ?_, ?_, ?_, ?_, ?_, ?_, ?_, ?_, ?_, ?_, ?_, ?_, ?_, ?_, ?_, ?_, ?_, ?_, ?_⟩
  · exact
      let s : State := tUp
      let s : State := { s with sec.signing := none }
      ⟨s, by decide +kernel⟩
  · exact
      let a : Attest := { (tAttest : Attest) with durable := true }
      let s : State := tUp
      let s : State := { s with sec.signing := some a }
      ⟨s, a, by decide +kernel⟩
  · exact
      let a : Attest := { (tAttest : Attest) with durable := false }
      let s : State := tUp
      let s : State := { s with sec.signing := some a }
      ⟨s, a, by decide +kernel⟩
  · exact
      let a : Attest := { (tAttest : Attest) with durable := true }
      let s : State := tUp
      let s : State := { s with sec.signing := some a }
      ⟨s, a, by decide +kernel⟩
  · exact
      let s : State := tUp
      let s : State := { s with sec.installs := [] }
      ⟨s, by decide +kernel⟩
  · exact
      let n : Nat := 0
      let k : Nat := 0
      let bs : List Byte := []
      let s : State := tUp
      let s : State := { s with sec.installs := [(0, 0, [])] }
      let v : State := (s.onSec fun x => { x with installs := [], flash := setAt x.flash k bs })
      ⟨s, v, n, k, bs, by decide +kernel, rfl⟩
  · exact
      let c : Call := tCall []
      let s : State := tUp
      let gs : List Got := tGot cmdSecInfoGet c s
      ⟨c, gs, s, tAcc (by decide +kernel)⟩
  · exact
      let c : Call := tCall []
      let s : State := tUp
      let gs : List Got := tGot cmdSecCertGet c s
      ⟨c, gs, s, tAcc (by decide +kernel)⟩
  · exact
      let c : Call := tCall []
      let s : State := tUp
      let gs : List Got := tGot cmdSecKeyStatus c s
      ⟨c, gs, s, tAcc (by decide +kernel)⟩
  · exact
      let c : Call := tCall [tItem 1 16 0]
      let s : State := tUp
      let gs : List Got := tGot cmdSecAttest c s
      ⟨c, gs, s, tAcc (by decide +kernel)⟩
  · exact
      let c := { tCall [tItem 1 4 13, tItem 2 1 1] with mb := 12 }
      let s : State := tUp
      let s : State := { s with tree.cfg := { s.tree.cfg with role := 2 } }
      let s : State := { s with tree.upstream := some 0 }
      let gs : List Got := tGot cmdSecImageInstall c s
      ⟨c, gs, s, tAcc (by decide +kernel), by decide +kernel⟩
  · exact
      let c := { tCall [tItem 1 1 0] with mb := 12 }
      let s : State := tUp
      let s : State := { s with tree.cfg := { s.tree.cfg with role := 2 } }
      let s : State := { s with tree.upstream := some 0 }
      let gs : List Got := tGot cmdSecBootSlotSet c s
      ⟨c, gs, s, tAcc (by decide +kernel), by decide +kernel⟩
  · exact
      let c := { tCall [tItem 1 2 1] with mb := 12 }
      let s : State := tUp
      let s : State := { s with sec.svn := 5 }
      let s : State := { s with tree.cfg := { s.tree.cfg with role := 2 } }
      let s : State := { s with tree.upstream := some 0 }
      let s : State := { s with sec.svn := 5 }
      let gs : List Got := tGot cmdSecRollbackAdvance c s
      ⟨c, gs, s, tAcc (by decide +kernel), by decide +kernel⟩
  · exact
      let c := { tCall [] with mb := 12 }
      let s : State := tUp
      let s : State := { s with tree.cfg := { s.tree.cfg with role := 2 } }
      let s : State := { s with tree.upstream := some 0 }
      let gs : List Got := tGot cmdSecDebugChallenge c s
      ⟨c, gs, s, tAcc (by decide +kernel), by decide +kernel⟩
  · exact
      let c := { tCall [tItem 1 2884 0] with mb := 12 }
      let s : State := tUp
      let s : State := { s with tree.cfg := { s.tree.cfg with role := 2 } }
      let s : State := { s with tree.upstream := some 0 }
      let gs : List Got := tGot cmdSecDebugUnlock c s
      ⟨c, gs, s, tAcc (by decide +kernel), by decide +kernel⟩
  · exact
      let c : Call := tCall [tItem 1 4 13, tItem 2 4 1]
      let s : State := { tUp with sec.installs := [(0, 0, [])] }
      ⟨c, tGot cmdSecImageInstall c s, s, tAcc (by decide +kernel), by decide +kernel⟩
  · exact
      let c : Call := tCall [tItem 1 4 0]
      let s : State := tUp
      let gs : List Got := tGot cmdSecBootSlotSet c s
      ⟨c, gs, s, tAcc (by decide +kernel), by decide +kernel⟩
  · exact
      let c : Call := tCall [tItem 1 2 1]
      let s : State := tUp
      let s : State := { s with sec.svn := 5 }
      let gs : List Got := tGot cmdSecRollbackAdvance c s
      ⟨c, gs, s, tAcc (by decide +kernel), by decide +kernel⟩
  · exact
      let c : Call := tCall []
      let s : State := tUp
      let gs : List Got := tGot cmdSecDebugChallenge c s
      ⟨c, gs, s, tAcc (by decide +kernel), by decide +kernel⟩
  · exact
      let c : Call := tCall [tItem 1 2884 0]
      let s : State := tUp
      let s : State := { s with sec.challenge := none }
      let gs : List Got := tGot cmdSecDebugUnlock c s
      ⟨c, gs, s, tAcc (by decide +kernel), by decide +kernel⟩
  · exact
      let c : Call := tCall [tItem 1 4 0]
      let s : State := tUp
      let gs : List Got := tGot cmdSecCountersClear c s
      ⟨c, gs, s, tAcc (by decide +kernel)⟩

theorem test_hypotheses_of_ResetAndBootEvents :
    (∃ (s : State), (s.power.held = .thermal ∨ s.power.held = .hardStop)) ∧
    (∃ (s : State), s.power.held ≠ .thermal ∧ s.power.held ≠ .hardStop) ∧
    (∃ (s : State), s.power.held ≠ .hardStop) ∧
    (∃ (s : State), s.power.held = .hardStop) ∧
    (∃ (s : State) (a : Nat) (b : Nat), (s.power.inReset = false ∨ s.power.held ≠ .no)) ∧
    (∃ (s : State) (a : Nat) (b : Nat), s.power.inReset = true ∧ s.power.held = .no) ∧
    (∃ (s : State) (a : Bool) (b : Bool), (s.power.inReset = true ∨ s.control.stage ≠ 0)) ∧
    (∃ (s : State) (b : Bool), s.power.inReset = false ∧ s.control.stage = 0) ∧
    (∃ (s : State), (s.power.inReset = true ∨ s.control.stage ≠ 1)) ∧
    (∃ (s : State), s.power.inReset = false ∧ s.control.stage = 1) ∧
    (∃ (s : State) (x : ChannelInfo), s.power.inReset = false ∧ s.control.stage ≤ 2 ∧ s.granary.dramReady = false ∧ x.trained
      = true) ∧
    (∃ (s : State), s.power.inReset = false ∧ s.control.stage ≤ 2 ∧ s.granary.dramReady = false) ∧
    (∃ (s : State), s.granary.dramReady = true) ∧
    (∃ (s : State), (s.power.inReset = true ∨ s.control.stage ≠ 2 ∨ s.granary.dramReady = false)) ∧
    (∃ (s : State), s.power.inReset = false ∧ s.control.stage < 3) ∧
    (∃ (s : State), 3 ≤ s.control.stage) := by
  refine ⟨?_, ?_, ?_, ?_, ?_, ?_, ?_, ?_, ?_, ?_, ?_, ?_, ?_, ?_, ?_, ?_⟩
  · exact
      let s : State := tUp
      let s : State := { s with power.held := .thermal }
      ⟨s, by decide +kernel⟩
  · exact
      let s : State := tUp
      ⟨s, by decide +kernel⟩
  · exact
      let s : State := tUp
      ⟨s, by decide +kernel⟩
  · exact
      let s : State := tUp
      let s : State := { s with power.held := .hardStop }
      ⟨s, by decide +kernel⟩
  · exact
      let a : Nat := 0
      let b : Nat := 0
      let s : State := tUp
      ⟨s, a, b, by decide +kernel⟩
  · exact
      let a : Nat := 0
      let b : Nat := 0
      let s : State := tUp
      let s : State := { s with power.inReset := true }
      let s : State := { s with power.held := .no }
      ⟨s, a, b, by decide +kernel⟩
  · exact
      let a : Bool := false
      let b : Bool := false
      let s : State := tUp
      ⟨s, a, b, by decide +kernel⟩
  · exact
      let b : Bool := false
      let s : State := tUp
      let s : State := { s with power.inReset := false }
      let s : State := { s with control.stage := 0 }
      ⟨s, b, by decide +kernel⟩
  · exact
      let s : State := tUp
      ⟨s, by decide +kernel⟩
  · exact
      let s : State := tUp
      let s : State := { s with power.inReset := false }
      let s : State := { s with control.stage := 1 }
      ⟨s, by decide +kernel⟩
  · exact
      let x : ChannelInfo := { ({ trained := true, capacity := 0, ranks := 1 } : ChannelInfo) with trained := true }
      let s : State := tUp
      let s : State := { s with control.stage := 0 }
      let s : State := { s with power.inReset := false }
      let s : State := { s with granary.dramReady := false }
      ⟨s, x, by decide +kernel⟩
  · exact
      let s : State := tUp
      let s : State := { s with control.stage := 0 }
      let s : State := { s with power.inReset := false }
      let s : State := { s with granary.dramReady := false }
      ⟨s, by decide +kernel⟩
  · exact
      let s : State := tUp
      let s : State := { s with granary.dramReady := true }
      ⟨s, by decide +kernel⟩
  · exact
      let s : State := tUp
      ⟨s, by decide +kernel⟩
  · exact
      let s : State := tUp
      let s : State := { s with control.stage := 0 }
      let s : State := { s with power.inReset := false }
      ⟨s, by decide +kernel⟩
  · exact
      let s : State := tUp
      ⟨s, by decide +kernel⟩

theorem test_hypotheses_of_PowerEventsAndCommands :
    (∃ (s : State) (j : Int), s.power.inReset = false ∧ j < 2000 ∧ s.power.warning = false ∧ s.power.throttle = false ∧
      s.power.shutdown = false) ∧
    (∃ (s : State) (j : Int), s.power.inReset = false ∧ 2000 ≤ j ∧ j < 2240 ∧ s.power.warning = false ∧ s.power.throttle =
      false ∧ s.power.shutdown = false) ∧
    (∃ (s : State) (j : Int), s.power.inReset = true ∧ s.power.held = .thermal) ∧
    (∃ (s : State), s.power.shuttingDown = none) ∧
    (∃ (s : State), s.power.shuttingDown = some 1) ∧
    (∃ (s : State), s.power.shuttingDown = some 2) ∧
    (∃ (s : State), (s.power.inReset = true ∨ s.power.takeover.isSome = true)) ∧
    (∃ (s : State), s.power.inReset = false ∧ s.power.takeover = none ∧ s.power.pairOk.getD (1 - s.power.activePair) false =
      true) ∧
    (∃ (s : State), s.power.inReset = false ∧ s.power.takeover = none ∧ s.power.pairOk.getD (1 - s.power.activePair) false =
      false) ∧
    (∃ (s : State), s.power.inReset = false ∧ s.power.takeover = none) ∧
    (∃ (s : State), s.power.takeover = none) ∧
    (∃ (s : State) (a : Nat), s.power.takeover = some a) ∧
    (∃ (c : Call) (gs : List Got) (s : State), Accepts cmdPwrStatusGet c gs s) ∧
    (∃ (c : Call) (gs : List Got) (s : State), Accepts cmdPwrThermalSet c gs s) ∧
    (∃ (c : Call) (gs : List Got) (s : State), Accepts cmdPwrFaultLogGet c gs s) ∧
    (∃ (c : Call) (gs : List Got) (s : State), Accepts cmdPwrPowerDown c gs s ∧ Call.fromHost c = true) ∧
    (∃ (c : Call) (gs : List Got) (s : State), Accepts cmdPwrPowerDown c gs s ∧ Call.fromHost c = false) ∧
    (∃ (c : Call) (gs : List Got) (s : State), Accepts cmdPwrCountersClear c gs s) ∧
    ((∃ s : State, s.power.avs < s.power.avsTarget) ∧ (∃ s : State, s.power.avsTarget < s.power.avs)) := by
  refine ⟨?_, ?_, ?_, ?_, ?_, ?_, ?_, ?_, ?_, ?_, ?_, ?_, ?_, ?_, ?_, ?_, ?_, ?_, ?_⟩
  · exact
      let j : Int := 0
      let s : State := tUp
      let s : State := { s with power.inReset := false }
      let s : State := { s with power.warning := false }
      let s : State := { s with power.throttle := false }
      let s : State := { s with power.shutdown := false }
      ⟨s, j, by decide +kernel⟩
  · exact
      let j : Int := 2000
      let s : State := tUp
      let s : State := { s with power.inReset := false }
      let s : State := { s with power.warning := false }
      let s : State := { s with power.throttle := false }
      let s : State := { s with power.shutdown := false }
      ⟨s, j, by decide +kernel⟩
  · exact
      let j : Int := 0
      let s : State := tUp
      let s : State := { s with power.inReset := true }
      let s : State := { s with power.held := .thermal }
      ⟨s, j, by decide +kernel⟩
  · exact
      let s : State := tUp
      let s : State := { s with power.shuttingDown := none }
      ⟨s, by decide +kernel⟩
  · exact
      let s : State := tUp
      let s : State := { s with power.shuttingDown := some 1 }
      ⟨s, by decide +kernel⟩
  · exact
      let s : State := tUp
      let s : State := { s with power.shuttingDown := some 2 }
      ⟨s, by decide +kernel⟩
  · exact
      let s : State := tUp
      let s : State := { s with power.inReset := true }
      ⟨s, by decide +kernel⟩
  · exact
      let s : State := tUp
      let s : State := { s with power.inReset := false }
      let s : State := { s with power.takeover := none }
      ⟨s, by decide +kernel⟩
  · exact
      let s : State := tUp
      let s : State := { s with power.pairOk := [false, false] }
      let s : State := { s with power.inReset := false }
      let s : State := { s with power.takeover := none }
      ⟨s, by decide +kernel⟩
  · exact
      let s : State := tUp
      let s : State := { s with power.inReset := false }
      let s : State := { s with power.takeover := none }
      ⟨s, by decide +kernel⟩
  · exact
      let s : State := tUp
      let s : State := { s with power.takeover := none }
      ⟨s, by decide +kernel⟩
  · exact
      let a : Nat := 0
      let s : State := tUp
      let s : State := { s with power.takeover := some a }
      ⟨s, a, by decide +kernel⟩
  · exact
      let c : Call := tCall []
      let s : State := tUp
      let gs : List Got := tGot cmdPwrStatusGet c s
      ⟨c, gs, s, tAcc (by decide +kernel)⟩
  · exact
      let c : Call := tCall []
      let s : State := tUp
      let gs : List Got := tGot cmdPwrThermalSet c s
      ⟨c, gs, s, tAcc (by decide +kernel)⟩
  · exact
      let c : Call := tCall [tItem 1 4 0, tItem 2 4 1]
      let s : State := tUp
      let gs : List Got := tGot cmdPwrFaultLogGet c s
      ⟨c, gs, s, tAcc (by decide +kernel)⟩
  · exact
      let c : Call := tCall []
      let s : State := tUp
      let gs : List Got := tGot cmdPwrPowerDown c s
      ⟨c, gs, s, tAcc (by decide +kernel), by decide +kernel⟩
  · exact
      let c := { tCall [] with mb := 12 }
      let s : State := tUp
      let s : State := { s with tree.cfg := { s.tree.cfg with role := 2 } }
      let s : State := { s with tree.upstream := some 0 }
      let gs : List Got := tGot cmdPwrPowerDown c s
      ⟨c, gs, s, tAcc (by decide +kernel), by decide +kernel⟩
  · exact
      let c : Call := tCall [tItem 1 4 0]
      let s : State := tUp
      let gs : List Got := tGot cmdPwrCountersClear c s
      ⟨c, gs, s, tAcc (by decide +kernel)⟩
  · exact
      let a : State := { tUp with power.avs := 1, power.avsTarget := 2 }
      let b : State := { tUp with power.avs := 2, power.avsTarget := 1 }
      ⟨⟨a, by decide +kernel⟩, ⟨b, by decide +kernel⟩⟩

end Sys2Proof.Tests
end

