-- ==== Sys2Proof/Tests/Slice0.lean ====
section
/-!
SUPPORT. Small tests: an ill-formed term for each check of WellFormed.lean, values that the spec itself prints, and single steps of a
small state. The expected values come from the rules named in the comments.
-/

namespace Sys2Proof.Tests

open Sys2Proof Sys2Proof.Machine

set_option Elab.async false

/-! ## Ill-formed commands are refused -/

def call : Call := tCall []

theorem test_ill_formed_events_1 : (([
    .rasterPositionReached (65536) 0, .rasterPositionReached 0 (256), .refFrameSync (65536) 0, .refFrameSync 0 (256),
    .ltcCodeword true ({ tTc with hours := 24 }) 0, .ltcCodeword true ({ tTc with minutes := 60 }) 0,
    .ltcCodeword true ({ tTc with seconds := 60 }) 0, .mbxInDoorbell .pcie (8) 0, .fillTaken (8), .mbxOutAck .pcie (8),
    .sessionReset .pcie (8), .outFillPlaced (8), .laneDetectRetry (80), .receiverDetected (80), .trainingSetReceived (80) [],
    .tapRequestTimeout (80), .eqMeasureDone (80) 0, .prbsRunDone (80) 0, .symbolLockAcquired (80) 0, .laneStateTimeout (80),
    .failedLaneRetrain (80), .laneFault (80) true 0, .fastRetrainDone (80) true 0, .k284Received (6), .fullRetrain (80),
    .fastRetrain (80), .laneCtrlCntClear (80), .sensorFrameStart (2) 0, .sensorFrameStart 0 (65536),
    .linePacketReceived (2) [] true true, .sensorFrameEnd (2), .frameStall (2), .resendDeadline (2) 0 0,
    .resendDeadline 0 (65536) 0, .resendDeadline 0 0 (4), .rowConceal (2) 0 0, .rowConceal 0 (65536) 0, .rowConceal 0 0 (4),
    .sidebandPoll (2), .sidebandTimeout (2)] : List Instr).all fun i => !i.wf) = true := by
  decide +kernel

theorem test_ill_formed_events_2 : (([
    .capReply (2) tSbHead default, .capReply 0 ({ tSbHead with seq := 256 }) default, .configAck (2) tSbHead 0,
    .configAck 0 ({ tSbHead with seq := 256 }) 0, .configAck 0 tSbHead (256), .tapReport (2) tSbHead [],
    .tapReport 0 ({ tSbHead with seq := 256 }) [], .tapReport 0 tSbHead (List.replicate 41 default), .prbsAck (2) tSbHead 0,
    .prbsAck 0 ({ tSbHead with seq := 256 }) 0, .prbsAck 0 tSbHead (256), .burstAck (2) tSbHead,
    .burstAck 0 ({ tSbHead with seq := 256 }), .mapAck (2) tSbHead, .mapAck 0 ({ tSbHead with seq := 256 }),
    .resendAck (2) tSbHead 0, .resendAck 0 ({ tSbHead with seq := 256 }) 0, .resendAck 0 tSbHead (256),
    .regAck (2) tSbHead 0, .regAck 0 ({ tSbHead with seq := 256 }) 0, .regAck 0 tSbHead (256), .regData (2) tSbHead 0 [],
    .regData 0 ({ tSbHead with seq := 256 }) 0 [], .regData 0 tSbHead (256) [], .sbEmpty (2) tSbHead,
    .sbEmpty 0 ({ tSbHead with seq := 256 }), .alert (2) tSbHead 0 0, .alert 0 ({ tSbHead with seq := 256 }) 0 0,
    .alert 0 tSbHead (256) 0, .loopAck (2) tSbHead, .loopAck 0 ({ tSbHead with seq := 256 }), .inxCtrlCntClear (3),
    .statsRecordComplete (3), .milCtrlCntClear (3), .rendSlotReady (48), .lookTablesLoaded (8), .corePictureStart (4) true,
    .corePictureDone (4), .coreFault (4), .motionFieldComplete (3)] : List Instr).all fun i => !i.wf) = true := by
  decide +kernel

theorem test_ill_formed_events_3 : (([
    .cmpTapFrameWhole (4), .cmpJobDone (32), .engineCheckFailure (32), .decompJobDone (32), .cmpCtrlCntClear (4),
    .mr4Poll (List.replicate 25 0), .refreshInterval (24) 0, .refreshInterval 0 (2), .trainingDue (24), .forcedRetrain (24),
    .rankPowerDown (24) 0, .rankPowerDown 0 (2), .apertureAccess (2 ^ 38) none 0, .nvmeCompletion (4) 0 0,
    .nvmeCompletion 0 (65536) 0, .nvmeCompletion 0 0 (32768), .nvmeCommandTimeout (4) 0, .nvmeCommandTimeout 0 (65536),
    .pcieLinkDown (4), .controlFillDatagram ({ tDatagram with port := 2 }),
    .controlAckDatagram ({ tDatagram with port := 2 }), .controlResetDatagram ({ tDatagram with port := 2 }),
    .controlResendTimer (7), .controlResendTimer (12), .controlBindTimeout (7), .controlBindTimeout (12),
    .arpPacket (2) default, .arpRefresh (2) 0, .icmpEchoRequest (2) 0 0 [], .ethLinkChange (2) true,
    .syncReceived (2) default, .followUpReceived (2) default, .delayRespReceived (2) default, .announceReceived (2) default,
    .rtpPacketSend (16), .rtpAuLate (16), .rtcpSenderReport (16), .rtcpReceived (2), .audioBlockComplete (4) [],
    .maskApply (4) []] : List Instr).all fun i => !i.wf) = true := by
  decide +kernel

theorem test_ill_formed_events_4 : (([
    .slipApply (8) 0, .slipForced (8) 0, .gatedChangeApply (.captureChannel 4 0), .gatedChangeApply (.captureChannel 0 64),
    .gatedChangeApply (.outputSlot 8 0), .gatedChangeApply (.outputSlot 0 16), .gateTimeout (.captureChannel 4 0),
    .gateTimeout (.captureChannel 0 64), .gateTimeout (.outputSlot 8 0), .gateTimeout (.outputSlot 0 16), .audioLockLoss (8),
    .audioRelock (8), .csBlockReceived (8) (List.replicate 24 0) 0, .csBlockReceived 0 (List.replicate 23 0) 0,
    .playoutBlockPlay (8), .eventRaise (512), .gpioPulseEnd (32), .bellFlitReceived (4) default, .evtSwRaise (256),
    .sequencedFlitReceived (4) [], .nakReceived (4) 0, .nakReceived 0 (65536), .replayTimeout (4), .ackFlitTimer (4),
    .idleFlitTimer (4), .linkDownTimeout (4), .exchangeFlitTimer (4), .exchangeFlitReceived (4) default,
    .timeFlitReceived (4) default, .echoReceived (4) 0 0 0 0, .eventFlitReceived (4) default, .callReceived (4),
    .countReceived (4) 0, .assignReceived (4) default, .tblAnnounceReceived (4) 0, .tblAnnounceReceived 0 (2 ^ 64),
    .stateReportReceived (2 ^ 18) 0 0 0, .epochAckReceived (2 ^ 18) 0 none, .epochRepushTimer (2 ^ 18), .healReceived (4) 0] : List Instr).all fun i => !i.wf) = true := by
  decide +kernel

theorem test_ill_formed_events_5 : (([
    .healReceived 0 (2 ^ 18), .controlMessageFlit (4) 0 [] true, .controlMessageFlit 0 (4096) [] true,
    .i2cXferStart (4) true true, .i2cXferDone (4) default, .i2cSclTimeout (4), .i2cArbRetry (4), .twiTAddressWrite (128) [],
    .twiTRead (128) 0, .uartByteReceived (2) 0 true true true, .uartIdleGap (2), .gpioInputEdge (32) true, .resetEnd (32) 0,
    .resetEnd 0 (8), .dramTrainingDone (List.replicate 25 default), .tempSample (List.replicate 15 0),
    .delayReqReceived (2) 0 0, .delayReqReceived 0 0 (65536), .pcieLinkUp (4) default, .linkAckReceived (4) 0,
    .linkAckReceived 0 (65536), .forwardReplyReceived (2 ^ 18) [], .nodeTimeout (2 ^ 18), .msixMaskClear (some 9)] : List Instr).all fun i => !i.wf) = true := by
  decide +kernel

/-- A call whose mailbox, header field or item TYPE does not exist. -/
theorem test_ill_formed_calls : (([
    { call with mb := 16 }, { call with major := 256 }, { call with minor := 256 }, { call with tag := 65536 },
    { call with cut := some 65536 }, { call with items := [{ ty := 65536, val := [] }] }] : List Call).all fun c => !c.wf) = true := by
  decide +kernel

theorem test_ill_formed_item_length : Item.wf { ty := 0, val := List.replicate 65536 0 } = false := by
  simp only [Item.wf, List.length_replicate]
  decide

theorem test_commands_check_their_call_1 : (([
    .rasConfigSet, .rasConfigGet, .rasSourceSet, .rasStatusGet, .rasFramePreset, .rasClockSet, .rasCountersClear,
    .ttPeriodSet, .ttPeriodGet, .ttPeriodClear, .tcConfigSet, .tcPreset, .tcGet, .hello, .sysInfoGet, .sysNoticeSubscribe,
    .sysGroupBind, .sysGroupStatus, .sysCommit, .sysReset, .sysEcho, .intakePortSet, .intakePortGet, .intakeLineariseSet,
    .intakeMergeSet, .intakeDefectSet, .intakeTapSet, .intakeStart, .intakeStop, .intakeSensorWrite, .intakeSensorRead,
    .intakeStatusGet, .intakeCountersClear, .replaySet, .replayStatusGet, .millNoiseSet, .millSnrSet, .millTnrSet,
    .millTnrReset, .millWbSet, .millReconSet, .millMatrixSet, .millStatsSet, .millConfigGet, .millStatusGet,
    .millCountersClear, .lookSet, .lookTablesLoad, .lookGet, .rendSet, .rendFilterSet, .rendStart, .rendStop, .rendGet,
    .rendSlotRelease, .rendCapture, .lksStatusGet, .lksCountersClear, .shfContextSet, .shfContextGet] : List (Call → Instr)).all
    fun f => !(f { call with mb := 16 }).wf && (f call).wf) = true := by
  decide +kernel

theorem test_commands_check_their_call_2 : (([
    .shfContextStart, .shfContextStop, .shfPoolSet, .shfMotionSet, .shfLadderSet, .shfIrapRequest, .shfStatusGet,
    .shfCountersClear, .decContextSet, .decContextGet, .decStart, .decStop, .decFeed, .decSlotRelease, .decStatusGet,
    .decCountersClear, .cmpSessionSet, .cmpSessionStart, .cmpSessionStop, .cmpKeyRequest, .cmpSessionGet, .cmpVerify,
    .cmpStatusGet, .cmpCountersClear, .grnAlloc, .grnFree, .grnInfo, .grnPin, .grnRead, .grnWrite, .grnApertureMap,
    .grnRingAttach, .grnRingDetach, .grnRingRelease, .grnRingStatus, .grnRingPublish, .grnDramSet, .grnStatusGet,
    .grnCountersClear, .recVolumeFormat, .recVolumeMount, .recVolumeUnmount, .recVolumeInfo, .recSessionSet, .recStart,
    .recStop, .recMetadataAdd, .recClipList, .recClipRead, .recDriveInfo, .recStatusGet, .recCountersClear, .netPortSet,
    .netPortGet, .netControlSet, .ptpConfigSet, .ptpStatusGet, .ptpRestep, .rtpStreamSet, .rtpStart] : List (Call → Instr)).all
    fun f => !(f { call with mb := 16 }).wf && (f call).wf) = true := by
  decide +kernel

theorem test_commands_check_their_call_3 : (([
    .rtpStop, .netStatusGet, .netCountersClear, .monSet, .monStart, .monStop, .monOverlaySet, .monCheckSet, .monStatusGet,
    .monCountersClear, .audPortSet, .audPortGet, .audCaptureSet, .audCaptureStart, .audCaptureStop, .audMaskSet, .audGainSet,
    .audOutputStart, .audOutputStop, .audStatusGet, .audCountersClear, .evtModeSet, .evtRouteSet, .evtRouteGet,
    .evtChannelSet, .evtSubscribeSet, .evtGroupSet, .evtOwnerSet, .evtRaise, .evtLogSet, .bellConfigSet, .bellRing,
    .evtStatusGet, .evtCountersClear, .tblPortSet, .tblTreeSet, .tblRollCall, .tblNodeList, .tblConfigPush, .tblForward,
    .tblStateSet, .tblStatusGet, .tblCountersClear, .busI2cSet, .busI2cXfer, .busI2cClear, .busTargetSet, .busUartSet,
    .busUartSend, .busLensSet, .busGpioSet, .busStatusGet, .busCountersClear, .secInfoGet, .secCertGet, .secKeyStatus,
    .secAttest, .secImageInstall, .secBootSlotSet, .secRollbackAdvance] : List (Call → Instr)).all
    fun f => !(f { call with mb := 16 }).wf && (f call).wf) = true := by
  decide +kernel

theorem test_commands_check_their_call_4 : (([
    .secDebugChallenge, .secDebugUnlock, .secCountersClear, .pwrStatusGet, .pwrThermalSet, .pwrFaultLogGet, .pwrPowerDown,
    .pwrCountersClear] : List (Call → Instr)).all
    fun f => !(f { call with mb := 16 }).wf && (f call).wf) = true := by
  decide +kernel

/-! ## Values that the spec prints -/

/-- R109: the check value of CRC-32C. -/
theorem test_crc32c_check_value :
    crc32c ([0x31, 0x32, 0x33, 0x34, 0x35, 0x36, 0x37, 0x38, 0x39].map (BitVec.ofNat 8)) = 0xE3069283 := by decide +kernel

/-- The worked example of a W1 line packet: its header under R107 and R108. -/
theorem test_line_packet_header :
    (fun p : LinePacket => (p.frameLo, p.line, p.length, p.exp))
      (readPacket [0x7C, 0x3A, 0xA0, 0x0F, 0x00, 0x70, 0x01, 0x00]) = (0x3A7C, 4000, 0x7000, 1) ∧
    packetLength 16384 14 = 0x7000 := by decide +kernel

/-- The worked example of a two-exposure merge (R128). -/
theorem test_two_exposure_merge :
    mergePixel { gain := [65536, 0x00100000], knee := [6291456], ws := [20] } [6815744, 419430] = 6763312 := by decide +kernel

/-- The worked example of 18 % grey in P20 (R143). -/
theorem test_grey_in_p20 : toP20 1509949 = 0x35C29 ∧ ofP20 0x35C29 = 1509952 := by decide +kernel

/-- The worked example of one sample of a T1 plane, lossless and with Q = 5 (R248 to R250). -/
theorem test_residual_example :
    predict 0x8000 (some 46531) (some 46561) (some 46528) = 46561 ∧ residual 1 65535 46544 46561 = (33, 46544) ∧
    residual 5 65535 46544 46561 = (5, 46546) ∧ restore 5 65535 5 46561 = 46546 := by decide +kernel

/-- 0.18 in RC16 and its ordered code (R130, R247). -/
theorem test_rc16_of_grey : toRc16 1509949 = 13 * 1024 + 451 ∧ toOrdered (13 * 1024 + 451) = 0xB5C3 := by decide +kernel

/-- Drop-frame counting skips two numbers at each minute but every tenth (R44). -/
theorem test_drop_frame :
    tcSucc 30 ⟨0, 0, 59, 29, true⟩ = ⟨0, 1, 0, 2, true⟩ ∧ tcSucc 30 ⟨0, 9, 59, 29, true⟩ = ⟨0, 10, 0, 0, true⟩ ∧
    tcSucc 24 ⟨23, 59, 59, 23, false⟩ = ⟨0, 0, 0, 0, false⟩ := by decide +kernel

/-! ## Single steps -/

/-- The state that a command leaves. -/
def sAfter (i : Instr) (s : State) : State := match exec i s with | .next t => t | _ => s

/-- R65, R68, R74: SYS_ECHO answers OK with the item that it was given, under the call's opcode and TAG. -/
theorem test_sys_echo_replies :
    ((sAfter (.sysEcho (tCall [tItem 1 4 0xCAFE])) tUp).control.mailboxes.head?.map fun m =>
      m.posts.map fun p => (p.op, p.tag, p.items.map fun i => leNat i.val)) =
    some [(0x0007, 7, [0xCAFE])] := by decide +kernel

/-- R68: a missing required item is named one past the last item present. -/
theorem test_missing_item_is_named :
    ((sAfter (.sysEcho (tCall [])) tUp).control.mailboxes.head?.map fun m =>
      m.posts.map fun p => (p.status, p.items.map fun i => (i.ty, leNat i.val))) = some [(3, [(0xC002, 65536)])] := by decide +kernel

/-- R62: before mailbox-ready a doorbell is ignored and counted. -/
theorem test_doorbell_before_ready :
    ((sAfter (.mbxInDoorbell .pcie 0 0x2010) { State.reset with power.inReset := false }).control.mailboxes.head?.map fun m =>
      (m.cntErr, m.path)) = some (1, none) := by decide +kernel

/-- R392: EVT_SW_RAISE raises the software events that it names. -/
theorem test_software_events_are_raised :
    (sAfter (.evtSwRaise 3) tUp).events.cnt.head? = some 2 := by decide +kernel

/-- R385, R387: EVT_CTRL.RING rings the Bell with cause SOFTWARE and the next number. -/
theorem test_bell_rings :
    (fun v : EventState => (v.seq, v.cause)) (sAfter .evtCtrlRing tUp).events = (1, 4) := by decide +kernel

/-- R386: a trigger while HOLD is 1 is ignored and counted. -/
theorem test_bell_held :
    (fun v : EventState => (v.seq, v.cnt[6]?)) (sAfter .evtCtrlRing { tUp with events.bell.hold := 1 }).events = (0, some 1) := by
  decide +kernel

/-- R449: AVS steps by one towards its target. -/
theorem test_avs_step : (sAfter .avsStep { tUp with power.avs := 40, power.avsTarget := 20 }).power.avs = 39 := by decide +kernel

/-- R451: BIFURCATION 3 ends the boot with FAIL_CODE 0x0020. -/
theorem test_invalid_straps :
    (fun c : ControlState => (c.stage, c.failCode)) (sAfter (.resetEnd 3 0) State.reset).control = (15, 0x20) := by decide +kernel

/-- R459: the hard stop resets all but the always-on domain, and is recorded. -/
theorem test_hard_stop : (sAfter .hardStop tUp).power.inReset = true ∧ (sAfter .hardStop tUp).control.mailboxes.head?.map (·.subs) = some 0 := by
  decide +kernel

/-- A step takes the front of the queue and leaves the rest. -/
theorem test_queue_order :
    (match step { tUp with pending := [.evtCtrlRing, .flip] } with | .next t => t.pending | _ => []) = [.flip] := by decide +kernel

/-- R399: a link that goes down discards what is unacknowledged and counts it. -/
theorem test_link_down :
    (fun p : TreePort => (p.up, p.cnt[2]?)) ((sAfter (.linkDownTimeout 1) (tUp.onTreePort 1 fun p => { p with up := true })).treePort 1) =
      (false, some 1) := by decide +kernel

/-- R428: an output pulse of the pin ends with its level at OUT. -/
theorem test_gpio_out_write : (sAfter (.gpioOutWrite false 0x00050005) tUp).bus.gpioOut = 5 := by decide +kernel

/-- R392: EVT_CTRL.CNT_CLEAR clears every event counter. -/
theorem test_counters_clear :
    (sAfter .evtCtrlCntClear { tUp with events.cnt := List.replicate 11 9 }).events.cnt = List.replicate 11 0 := by decide +kernel

end Sys2Proof.Tests
end

/-! # Commands: what an accepted row does -/

namespace Sys2Proof.Machine

/-- A row whose command accepts does its own part and replies. -/
theorem runs_accepted {i : Instr} {k : Cmd} {c : Call} {gs : List Got} {s s' : State} {items its : List Item}
    {cs : List (Nat × Word)} (hi : exec i s = command k c s) (h : Accepts k c gs s) (hr : k.run c gs s = .ok its cs s')
    (he : its ++ commitItems cs = items) : Runs i s (· = s'.accepted k c gs items) :=
  runs_command hi (by rw [runCommand_ok h hr, he])

/-- A command that accepts without result items does its own part and replies. -/
theorem does_of_done {i : Call → Instr} {k : Cmd} {effect : List Got → State → State}
    (hi : ∀ c s, exec (i c) s = command k c s) (hr : ∀ c gs s, k.run c gs s = .done (effect gs s)) :
    Does i k (fun _ _ => []) effect :=
  does_of_run hi fun c gs s => ⟨[], [], hr c gs s, rfl⟩

/-- A command that only returns items reads them off the state. -/
theorem reads_of_items {i : Call → Instr} {k : Cmd} {items : List Got → State → List Item}
    (hi : ∀ c s, exec (i c) s = command k c s) (hr : ∀ c gs s, k.run c gs s = .items (items gs s) s) : Reads i k items :=
  does_of_run hi fun c gs s => ⟨items gs s, [], hr c gs s, List.append_nil _⟩

/-- A relation that holds refuses nothing. -/
@[simp] theorem refuseFirst_holds (gs : List Got) (tys : List Nat) (st : Nat) : refuseFirst gs tys st true = none := rfl

/-- Without a refusal the command goes on to its own part. -/
@[simp] theorem orElse_none (k : Ans) : Ans.orElse none k = k := rfl

/-- The Timetable commits with group 1 (R38). -/
theorem commitAt_timetable (s : State) : s.commitAt 0x0101 true = [(1, s.commitSeq 1 + 1)] := rfl

@[simp] theorem digested_raster (k : Cmd) (c : Call) (gs : List Got) (s : State) : (s.digested k c gs).raster = s.raster := by
  unfold State.digested; split <;> rfl

@[simp] theorem digested_mailboxes (k : Cmd) (c : Call) (gs : List Got) (s : State) :
    (s.digested k c gs).control.mailboxes = s.control.mailboxes := by
  unfold State.digested; split <;> rfl

@[simp] theorem answer_raster (op : Nat) (c : Call) (items : List Item) (s : State) :
    (s.answer op c items).raster = s.raster := by
  unfold State.answer
  split
  · rfl
  · split
    · split <;> rfl
    · rfl

@[simp] theorem accepted_raster (k : Cmd) (c : Call) (gs : List Got) (items : List Item) (s : State) :
    (s.accepted k c gs items).raster = s.raster := by
  rw [State.accepted, answer_raster, digested_raster]

/-- Result items that fit the message go out in one reply (R68). -/
theorem answer_fits {op : Nat} {c : Call} {items : List Item} {s : State}
    (h : (payloadBytes items).length ≤ payloadLimit c.major) : s.answer op c items = s.post c.mb (replyPost op c stOk items s) :=
  if_pos h

/-- A reply whose items fit is the newest post of its mailbox. -/
theorem accepted_replied {k : Cmd} {c : Call} {gs : List Got} {items : List Item} {s : State} {m : Mailbox}
    (hfit : (payloadBytes items).length ≤ payloadLimit c.major) (hm : s.control.mailboxes[c.mb]? = some m) :
    (s.accepted k c gs items).replied k.op c stOk items := by
  rw [State.accepted, answer_fits hfit]
  exact ⟨{ m with posts := m.posts ++ [replyPost k.op c stOk items (s.digested k c gs)] }, m.posts, _,
    by simp only [State.post, State.onMbx, onControl_control, digested_mailboxes, modAt_same, hm, Option.map_some],
    rfl, rfl, rfl, rfl, rfl, rfl⟩

end Sys2Proof.Machine

/-! # The reference cycle -/

namespace Sys2Proof

open Machine

/-- Settles O2: with RATE_ADJ 0 and no rest, a cycle is 1,310,720 units of 2^-16 ns exactly and leaves no rest. -/
theorem idleStepIsOneReferenceCycle : Obligations.IdleStepIsOneReferenceCycle := by
  unfold Obligations.IdleStepIsOneReferenceCycle
  intro s hq
  refine ⟨by simp only [step, hq], fun hr => by simp only [tick, onControl_power, hr, if_true],
    fun hr ha hc hs => ?_⟩
  -- 1310720 * 2 ^ 40 over 2 ^ 40: the quotient is the 20 ns, the rest is the 0 that `hc` gives
  simp only [tick, hr, ha, hc, hs, State.onRaster, onControl_power, onControl_net, onControl_raster, Bool.false_eq_true,
    if_false, if_true, Int.reducePow, Int.add_zero, Int.reduceMul, Int.cast_ofNat_Int, Int.reduceDiv, Int.reduceMod,
    Int.toNat_zero]

end Sys2Proof

/-! # Field tables, the Mill's setters and the intake's configuration -/

namespace Sys2Proof.Machine

/-- Writing FRAME fields alone leaves the copy in force as it was (R76). -/
theorem putField_force_of_frame {α : Type} {f : Fld α} (h : f.cls = .frame) (i : Nat) (v : Val) (c : Shadowed α) :
    (putField f i v c).force = c.force := by
  simp only [putField, h]

/-- A table of FRAME fields is written to the shadow alone (R76). -/
theorem putFields_force_of_frame {α : Type} (base : Nat) {flds : List (Fld α)} (h : ∀ f ∈ flds, f.cls = .frame)
    (gs : List Got) (c : Shadowed α) : (putFields base flds gs c).force = c.force := by
  induction gs generalizing c with
  | nil => rfl
  | cons g gs ih =>
    rw [putFields, List.foldl_cons, ← putFields, ih]
    split
    · split
      · next f hf => exact putField_force_of_frame (h f (List.mem_of_getElem? hf)) ..
      · rfl
    · rfl

/-- SHOT and READ read as fields of R162 leave CONTEXT as it was. -/
theorem gotN_noiseItems (gs : List Got) : gotN (noiseItems gs) 1 = gotN gs 1 := by
  have hf : (noiseItems gs).find? (fun g => g.ty == 1) = gs.find? fun g => g.ty == 1 := by
    induction gs with
    | nil => rfl
    | cons g gs ih =>
      simp only [noiseItems, List.map_cons, List.find?_cons] at ih ⊢
      rw [ih]
      by_cases h2 : g.ty = 2
      · rw [if_pos h2, h2, beq_false_of_ne (by omega : 2 + g.idx ≠ 1)]
        rfl
      · by_cases h3 : g.ty = 3
        · rw [if_neg h2, if_pos h3, h3, beq_false_of_ne (by omega : 6 + g.idx ≠ 1)]
          rfl
        · rw [if_neg h2, if_neg h3]
  rw [gotN, gotVal, hf]
  rfl

/-- Every command built by `millSetter` writes its run of fields and names the commit of its FRAME writes (R79, R162). -/
theorem does_millSetter {i : Call → Instr} {op lo n : Nat}
    (hi : ∀ c s, exec (i c) s = command (millSetter op lo n) c s) : Does i (millSetter op lo n)
      (fun gs s => commitItems (s.commitAt (0x0300 + gotN gs 1) (writesFrame 2 (millPart lo n) gs)))
      (fun gs s => s.onCtx (gotN gs 1) fun x => { x with cfg := putFields 2 (millPart lo n) gs x.cfg }) :=
  does_of_run hi fun _ _ _ => ⟨[], _, rfl, rfl⟩

end Sys2Proof.Machine

namespace Sys2Proof

open Machine

/-- Settles O27: the setters have only an accepted part; a FRAME table leaves the copy in force by induction on the items. -/
theorem millFieldCommands : Obligations.MillFieldCommands := by
  unfold Obligations.MillFieldCommands
  refine ⟨?_, ?_, ?_, ?_, ?_, ?_, ?_, fun _ _ gs x h => putFields_force_of_frame 2 h gs x⟩
  · -- MILL_NOISE_SET
    refine does_of_run (fun _ _ => rfl) fun _ gs s => ⟨[], _, ?_, rfl⟩
    simp only [cmdMillNoiseSet, millPut, gotN_noiseItems]
  · exact does_millSetter fun _ _ => rfl
  · -- MILL_TNR_SET
    exact does_of_run (fun _ _ => rfl) fun _ _ _ => ⟨[], _, rfl, rfl⟩
  · exact does_millSetter fun _ _ => rfl
  · exact does_millSetter fun _ _ => rfl
  · exact does_millSetter fun _ _ => rfl
  · -- MILL_STATS_SET
    rintro c gs s n h rfl
    exact runs_accepted rfl h rfl rfl

/-- Settles O24: each clause is the branch of the command that its hypotheses select. -/
theorem intakeConfigurationCommands : Obligations.IntakeConfigurationCommands := by
  unfold Obligations.IntakeConfigurationCommands
  refine ⟨?_, ?_, ?_, ?_, ?_, ?_, ?_⟩
  · -- INTAKE_PORT_SET
    rintro c gs s p h rfl hw hm hmode hj
    refine runs_accepted rfl h (its := []) (cs := []) ?_ rfl
    simp only [cmdIntakePortSet, hw, hm, hmode, hj, Ans.done, orElse_none, bne_self_eq_false, Bool.not_true, Bool.or_self,
      Bool.false_and, Bool.false_eq_true, if_false]
  · -- INTAKE_PORT_SET with lane fields that do not fit
    intro c gs s e h hj
    refine runs_command rfl (runCommand_err h ?_)
    simp only [cmdIntakePortSet, hj, Ans.orElse]
  · -- INTAKE_PORT_GET
    exact reads_of_items (fun _ _ => rfl) fun _ _ _ => rfl
  · -- INTAKE_LINEARISE_SET
    exact does_of_done (fun _ _ => rfl) fun _ _ _ => rfl
  · -- INTAKE_MERGE_SET
    exact does_of_done (fun _ _ => rfl) fun _ _ _ => rfl
  · -- INTAKE_DEFECT_SET
    intro c gs s h he
    refine runs_accepted rfl h (its := []) (cs := []) ?_ rfl
    simp only [cmdIntakeDefectSet, he, Ans.done, Bool.false_and, Bool.false_eq_true, if_false]
  · -- INTAKE_TAP_SET
    exact does_of_done (fun _ _ => rfl) fun _ _ _ => rfl

end Sys2Proof

/-! # The raster: marks, holdover, sources -/

namespace Sys2Proof.Machine

/-- A mark changes the frame mark word, and the count of holdover frames at the first HOLDOVER of a frame (R29, R30). -/
theorem setMark_raster (b : Nat) (s : State) : (s.setMark b).raster =
    { s.raster with
      mark := putBit s.raster.mark b true
      cnt := if b = markHoldover && !s.raster.mark.getLsbD b then addAt s.raster.cnt 4 1 else s.raster.cnt } := by
  unfold State.setMark
  dsimp only
  split <;> rfl

@[simp] theorem setMark_mode (b : Nat) (s : State) : (s.setMark b).raster.mode = s.raster.mode := by rw [setMark_raster]
@[simp] theorem setMark_inUse (b : Nat) (s : State) : (s.setMark b).raster.inUse = s.raster.inUse := by rw [setMark_raster]
@[simp] theorem setMark_gen (b : Nat) (s : State) : (s.setMark b).raster.gen = s.raster.gen := by rw [setMark_raster]
@[simp] theorem setMark_refPresent (b : Nat) (s : State) : (s.setMark b).raster.refPresent = s.raster.refPresent := by
  rw [setMark_raster]

/-- A mark that is set stands in the frame mark word (R30). -/
theorem setMark_mark {b : Nat} (h : b < 16) (s : State) : (s.setMark b).raster.mark.getLsbD b = true := by
  rw [setMark_raster]; exact putBit_getLsbD _ _ _ h

/-- Of the counters a mark moves at most that of holdover frames. -/
theorem setMark_cnt_other (b : Nat) {i : Nat} (h : i ≠ 4) (s : State) :
    (s.setMark b).raster.cnt[i]? = s.raster.cnt[i]? := by
  rw [setMark_raster]
  dsimp only
  split
  · exact addAt_other _ _ (Ne.symm h)
  · rfl

theorem rasHoldover_of_holdover {s : State} (c : Nat) (h : s.raster.mode = .holdover) : s.rasHoldover c = s := by
  rw [State.rasHoldover, h]; rfl

theorem rasHoldover_enters {s : State} (c : Nat) (h : s.raster.mode ≠ .holdover) : (s.rasHoldover c).raster =
    ((s.onRaster fun r =>
      { r with mode := .holdover, holdRun := 0, lastOutlier := false, noWindow := 0, goodFrames := 0 }).setMark
      markHoldover).raster := by
  rw [State.rasHoldover, if_neg (by simpa using h), notice_raster]

section Holdover
variable (c : Nat) (s : State)

@[simp] theorem rasHoldover_mode : (s.rasHoldover c).raster.mode = .holdover := by
  by_cases h : s.raster.mode = .holdover
  · rw [rasHoldover_of_holdover c h, h]
  · rw [rasHoldover_enters c h, setMark_mode, onRaster_raster]

@[simp] theorem rasHoldover_inUse : (s.rasHoldover c).raster.inUse = s.raster.inUse := by
  by_cases h : s.raster.mode = .holdover
  · rw [rasHoldover_of_holdover c h]
  · rw [rasHoldover_enters c h, setMark_inUse, onRaster_raster]

@[simp] theorem rasHoldover_gen : (s.rasHoldover c).raster.gen = s.raster.gen := by
  by_cases h : s.raster.mode = .holdover
  · rw [rasHoldover_of_holdover c h]
  · rw [rasHoldover_enters c h, setMark_gen, onRaster_raster]

@[simp] theorem rasHoldover_refPresent : (s.rasHoldover c).raster.refPresent = s.raster.refPresent := by
  by_cases h : s.raster.mode = .holdover
  · rw [rasHoldover_of_holdover c h]
  · rw [rasHoldover_enters c h, setMark_refPresent, onRaster_raster]

theorem rasHoldover_cnt_other {i : Nat} (hi : i ≠ 4) : (s.rasHoldover c).raster.cnt[i]? = s.raster.cnt[i]? := by
  by_cases h : s.raster.mode = .holdover
  · rw [rasHoldover_of_holdover c h]
  · rw [rasHoldover_enters c h, setMark_cnt_other _ hi, onRaster_raster]

end Holdover

/-- Re-evaluation marks the frame RELOCK and counts (R25). -/
theorem rasReeval_marks (s : State) : s.rasReeval.raster.mode = .acquire ∧ s.rasReeval.raster.mark.getLsbD 0 = true ∧
    s.rasReeval.raster.refPresent = s.raster.refPresent ∧
    s.rasReeval.raster.cnt[1]? = (s.raster.cnt[1]?).map (· + 1) := by
  refine ⟨setMark_mode .., setMark_mark (by decide) _, setMark_refPresent .., ?_⟩
  rw [State.rasReeval, setMark_cnt_other _ (by decide)]
  exact addAt_same ..

@[simp] theorem rasSource_inUse (p : Nat) (s : State) : (s.rasSource p).raster.inUse = p := by
  by_cases hp : p = s.raster.inUse
  · rw [State.rasSource, if_pos hp, hp]
  · rw [State.rasSource, if_neg hp]
    have relocks (t : State) (ht : t.raster.inUse = p) :
        (if !t.sourcePresent p then t.rasHoldover 0
          else if p = 4 then t.onRaster fun r => { r with mode := .locked }
          else (t.onRaster fun r => { r with mode := .acquire }).setMark markRelock).raster.inUse = p := by
      split
      · rw [rasHoldover_inUse, ht]
      · split
        · exact ht
        · rw [setMark_inUse]; exact ht
    by_cases h0 : p = 0
    · rw [if_pos h0]; rfl
    · rw [if_neg h0]; exact relocks _ rfl

theorem rasSource_zero_mode {s : State} (h : s.raster.inUse ≠ 0) : (s.rasSource 0).raster.mode = .free := by
  rw [State.rasSource, if_neg (Ne.symm h), if_pos rfl]; rfl

/-- The change to free run touches the raster alone, and keeps the count of frames (R21). -/
theorem rasSource_zero_keeps (s : State) :
    (s.rasSource 0).control = s.control ∧ (s.rasSource 0).raster.frame = s.raster.frame := by
  unfold State.rasSource
  split <;> exact ⟨rfl, rfl⟩

/-! ## The raster's events, an equation per case -/

section Events
variable {s : State}

theorem syncWindowOpen_inside (he : s.syncsExpected = true) (e : Bool) : (syncWindowOpen true e s).raster =
    { s.raster with
      cnt := if s.raster.lastOutlier then addAt s.raster.cnt 0 1 else s.raster.cnt
      lastOutlier := false, noWindow := 0 } := by
  rw [syncWindowOpen, if_neg (by rw [he]; decide), if_pos rfl]
  dsimp only
  split <;> rfl

theorem syncWindowOpen_second_outlier (he : s.syncsExpected = true) (ho : s.raster.lastOutlier = true) :
    syncWindowOpen false true s = s.rasReeval := by
  simp only [syncWindowOpen, he, ho]
  rfl

theorem syncWindowOpen_third_missing (he : s.syncsExpected = true) (hw : s.raster.noWindow = 2) :
    syncWindowOpen false false s =
      ((s.countRas 2 1).onRaster fun r => { r with lastOutlier := false, noWindow := r.noWindow + 1 }).rasHoldover 0 := by
  have h3 : 3 ≤ ((s.countRas 2 1).onRaster fun r =>
      { r with lastOutlier := false, noWindow := r.noWindow + 1 }).raster.noWindow := by
    show 3 ≤ s.raster.noWindow + 1
    omega
  simp only [syncWindowOpen, he]
  exact if_pos h3

theorem genlockCalibrate_unused (h : s.raster.inUse ≠ 1) (m : GenlockMeasure) :
    genlockCalibrate m s = s.onRaster fun r => { r with gen := m } := if_pos h

theorem genlockCalibrate_inUse (h : s.raster.inUse = 1) (m : GenlockMeasure) : genlockCalibrate m s =
    let t := s.onRaster fun r => { r with gen := m, refPresent := decide (100 ≤ m.ampl) }
    if m.ampl < 100 then t.rasHoldover 0 else t := if_neg (not_not_intro h)

theorem refFrameSyncAt_here_free (h : s.raster.inUse = 0) : refFrameSyncAt s.raster.line s.raster.phase s =
    (s.onRaster fun r => { r with refStamp := r.clock }).raise 0x01A := by
  have hf : refFrameSync s = (false, (s.onRaster fun r => { r with refStamp := r.clock }).raise 0x01A) :=
    if_pos (.inl h)
  rw [refFrameSyncAt, if_pos rfl, hf]
  rfl

theorem reevalDone_no_sync {m : Reeval} (ha : s.raster.mode = .acquire) (hu : s.raster.inUse = 1)
    (hm : m.syncsFound = false) : reevalDone m s = (s.onRaster fun r => { r with refPresent := false }).rasHoldover 2 := by
  simp only [reevalDone, ha, hu, hm]
  rfl

theorem reevalDone_in_range {m : Reeval} (ha : s.raster.mode = .acquire) (hu : s.raster.inUse = 1)
    (hm : m.syncsFound = true) (hr : m.rateInRange = true) : reevalDone m s =
      (s.onRaster fun r => { r with refPresent := true, linePeriod := m.linePeriod, refMismatch := false }).rasRelock
        (wrapPhase s.refSpan m.phaseErr) := by
  simp only [reevalDone, ha, hu, hm, hr]
  rfl

theorem holdoverFallback_due (hm : s.raster.mode = .holdover) (h0 : s.raster.src.holdFrames ≠ 0)
    (hr : s.raster.src.holdFrames ≤ s.raster.holdRun) (hf : s.raster.src.fallback ≠ 255)
    (hu : s.raster.src.fallback ≠ s.raster.inUse) :
    holdoverFallback s = (s.rasSource s.raster.src.fallback).notice 0x0183
      [itemN 1 1 s.raster.inUse, itemN 2 1 s.raster.src.fallback, itemN 3 4 s.raster.frame.toNat] :=
  if_pos (by
    simp only [hm, h0, hr, hf, hu, BEq.rfl, bne_iff_ne, ne_eq, not_false_eq_true, decide_true, Bool.and_eq_true, and_self])

theorem sourceReturn_holdover (hm : s.raster.mode = .holdover) (hu : s.raster.inUse ≠ 4) :
    sourceReturn s = (s.onRaster fun r => { r with refPresent := true }).rasReeval :=
  if_pos (by simp only [hm, hu, BEq.rfl, Bool.true_and, bne_iff_ne, ne_eq, not_false_eq_true])

/-- With nothing due on the way, the raster goes to the position (R41). -/
theorem runTo_clear {target : Nat × Nat} (n : Nat) (hn : s.nextPos target = none)
    (hb : posBefore (s.raster.line, s.raster.phase) target = true) : State.runTo target (n + 1) s = s.moveTo target := by
  rw [State.runTo, hn]
  exact if_pos hb

theorem rasterPositionReached_clear {line phase : Nat} (hr : s.raster.running = true)
    (hl : line < s.raster.cfg.force.totalLines) (hp : phase < 256)
    (hb : posBefore (s.raster.line, s.raster.phase) (line, phase) = true) (h0 : ¬(line = 0 ∧ phase = 0))
    (hn : s.nextPos (line, phase) = none) : rasterPositionReached line phase s = s.moveTo (line, phase) := by
  have hfuel : s.posFuel = (65536 + 255 + s.events.bellsAt.length) + 1 := by rw [State.posFuel]; omega
  simp only [rasterPositionReached, hr, if_neg h0, if_pos (And.intro hl (And.intro hp hb)), hfuel]
  exact runTo_clear _ hn hb

theorem rasterPositionReached_stopped (hr : s.raster.running = false) (line phase : Nat) :
    rasterPositionReached line phase s = s := if_pos (by rw [hr]; rfl)

@[simp] theorem linesPass_raster (n : Nat) (s : State) : (s.linesPass n).raster = s.raster := by
  unfold State.linesPass; split <;> rfl

@[simp] theorem linesPass_control (n : Nat) (s : State) : (s.linesPass n).control = s.control := by
  unfold State.linesPass; split <;> rfl

/-- Moving to a position of the frame in progress leaves its number and the control block alone. -/
theorem moveTo_stands (p : Nat × Nat) (s : State) : (s.moveTo p).raster.line = p.1 ∧ (s.moveTo p).raster.phase = p.2 ∧
    (s.moveTo p).raster.frame = s.raster.frame ∧ (s.moveTo p).control = s.control := by
  simp only [State.moveTo, onRaster_raster, linesPass_raster, onRaster_control, linesPass_control, and_self]

theorem ltcCodeword_rejected (tc : Timecode) (user : Word) (s : State) : ltcCodeword false tc user s =
    (s.countRas 7 1).onRaster fun r => { r with ltcSeen := true, ltcPrev := none } := rfl

theorem ltcCodeword_continuous (hs : s.raster.tc.force.source = 0) (hl : s.raster.tc.force.ltcMode ≠ 0) (tc : Timecode)
    (user : Word) : ltcCodeword true tc user s = s.onRaster fun r =>
      { r with
        ltcSeen := true, ltcUser := user, ltcPrev := some tc, ltcLocked := true
        tcNext := if r.tcNow = tcSucc s.raster.tc.force.base tc then none
          else some (tcSucc s.raster.tc.force.base (tcSucc s.raster.tc.force.base tc)) } := by
  unfold ltcCodeword
  dsimp only
  rw [if_neg (by decide), if_neg (not_not_intro hs), if_neg hl]
  rfl

theorem tcDailyJam_1001 {m : Nat} (hs : s.raster.tc.force.source = 1) (h1 : s.raster.tc.force.tc1001 = 1)
    (hm : tcRatio s.raster.tc.force s.raster.cfg.force = some m) :
    tcDailyJam s = s.onRaster fun r => { r with tcNext := some (tcSucc r.tc.force.base (s.tcOfClock m).1) } := by
  simp only [tcDailyJam, hs, h1, hm, and_self, if_true]
  rfl

end Events

/-! ## The raster's commands -/

/-- RAS_SOURCE_SET of free run is never refused for an absent source (R21, R48). -/
theorem rasSourceSet_free {gs : List Got} (h1 : gotN? gs 1 = some 0) {c : Call} (s : State) : cmdRasSourceSet.run c gs s =
    .ok [] [] ((s.onRaster fun r => { r with src := putPlain 1 rasSourceFlds gs r.src }).rasSource 0) := by
  simp only [cmdRasSourceSet, h1]
  rfl

/-- R39's relation of a period as TT_PERIOD_SET judges it. -/
theorem selects_of_period {p : Period} (h : p.selector ≠ 1 ∨ p.frameValue < p.n) :
    (p.selector != 1 || decide (p.frameValue < p.n)) = true := by simpa using h

/-- R44's relation of drop-frame counting as TC_CONFIG_SET judges it. -/
theorem drops_of_config {n : TcConfig} (h : n.drop = 0 ∨ (n.base = 30 ∧ n.tc1001 = 1)) :
    (n.drop == 0 || (n.base == 30 && n.tc1001 == 1)) = true := by simpa using h

end Sys2Proof.Machine

namespace Sys2Proof

open Machine

/-- Settles O14: each event's equation for the case that the clause describes gives the fields named. -/
theorem rasterSourceEvents : Obligations.RasterSourceEvents := by
  unfold Obligations.RasterSourceEvents
  refine ⟨?_, ?_, ?_, ?_, ?_, ?_, ?_, ?_, ?_, ?_, ?_, ?_, ?_, ?_, ?_⟩
  · -- SYNC_WINDOW_OPEN
    intro s e he
    refine runs_event rfl ?_
    rw [syncWindowOpen_inside he]
    exact ⟨rfl, rfl, rfl⟩
  · -- SYNC_WINDOW_OPEN: a second outlier
    intro s he ho
    refine runs_event rfl ?_
    rw [syncWindowOpen_second_outlier he ho]
    obtain ⟨hmode, hmark, -, hcnt⟩ := rasReeval_marks s
    exact ⟨hmode, hmark, hcnt⟩
  · -- SYNC_WINDOW_OPEN: a third miss
    intro s he hw
    refine runs_event rfl ?_
    rw [syncWindowOpen_third_missing he hw]
    exact ⟨rasHoldover_mode .., (rasHoldover_cnt_other 0 _ (by decide)).trans (addAt_same ..)⟩
  · -- GENLOCK_CALIBRATE
    intro s m
    refine runs_event rfl ?_
    by_cases hu : s.raster.inUse = 1
    · rw [genlockCalibrate_inUse hu]
      by_cases ha : m.ampl < 100
      · rw [if_pos ha]
        exact ⟨rasHoldover_gen .., fun _ _ => rasHoldover_mode .., fun h => absurd hu h⟩
      · rw [if_neg ha]
        exact ⟨rfl, fun _ h => absurd h ha, fun h => absurd hu h⟩
    · rw [genlockCalibrate_unused hu]
      exact ⟨rfl, fun h => absurd h hu, fun _ => rfl⟩
  · -- REF_FRAME_SYNC
    intro s hu
    refine runs_event rfl ?_
    rw [refFrameSyncAt_here_free hu]
    exact ⟨rfl, rfl, rfl⟩
  · -- REEVAL_DONE without syncs
    intro s m ha hu hm
    refine runs_event rfl ?_
    rw [reevalDone_no_sync ha hu hm]
    exact ⟨rasHoldover_mode .., rasHoldover_refPresent ..⟩
  · -- REEVAL_DONE in range
    intro s m ha hu hm hr
    refine runs_event rfl ?_
    rw [reevalDone_in_range ha hu hm hr]
    exact ⟨rfl, rfl, rfl⟩
  · -- HOLDOVER_FALLBACK
    intro s hm h0 hr hf hu
    refine runs_event rfl ?_
    rw [holdoverFallback_due hm h0 hr hf hu, notice_raster]
    refine ⟨rasSource_inUse .., fun hz => ?_⟩
    rw [hz] at hu ⊢
    exact rasSource_zero_mode hu.symm
  · -- UPSTREAM_TIME_MISSING
    intro s hu
    refine runs_event rfl ?_
    rw [upstreamTimeMissing, if_pos hu]
    exact ⟨rasHoldover_mode .., rasHoldover_refPresent ..⟩
  · -- SOURCE_RETURN
    intro s hm hu
    refine runs_event rfl ?_
    rw [sourceReturn_holdover hm (by omega)]
    obtain ⟨hmode, hmark, href, -⟩ := rasReeval_marks (s.onRaster fun r => { r with refPresent := true })
    exact ⟨hmode, href, hmark⟩
  · -- RASTER_POSITION_REACHED
    intro s line phase hr hl hp hb h0 hn
    refine runs_event rfl ?_
    rw [rasterPositionReached_clear hr hl hp hb h0 hn]
    exact moveTo_stands ..
  · -- a stopped raster
    intro s line phase hr
    exact runs_event rfl (rasterPositionReached_stopped hr ..)
  · -- LTC_CODEWORD rejected
    intro s tc user
    refine runs_event rfl ?_
    rw [ltcCodeword_rejected]
    exact ⟨addAt_same .., rfl, rfl⟩
  · -- LTC_CODEWORD in continuous mode
    intro s tc user hs hl
    refine runs_event rfl ?_
    rw [ltcCodeword_continuous hs hl]
    exact ⟨rfl, rfl, rfl⟩
  · -- TC_DAILY_JAM
    intro s m hs h1 hm
    exact runs_event rfl (tcDailyJam_1001 hs h1 hm)

/-- Settles O16: each clause is the branch of the command that its hypotheses select. -/
theorem rasterCommands : Obligations.RasterCommands := by
  unfold Obligations.RasterCommands
  refine ⟨?_, ?_, ?_, ?_, ?_, ?_, ?_, ?_, ?_, ?_, ?_, ?_, ?_, ?_⟩
  · -- RAS_CONFIG_SET
    intro c gs s h hw hj h5
    refine runs_accepted rfl h (its := [itemN 0x4001 4 (s.frameOr gs 5).toNat]) (cs := [s.nextCommit 0x0100]) ?_ rfl
    simp only [cmdRasConfigSet, hw, hj, h5, orElse_none]
    rfl
  · -- RAS_CONFIG_SET with AT_FRAME
    intro c gs s h hw hj h5
    refine runs_accepted rfl h (its := [itemN 0x4001 4 (s.frameOr gs 5).toNat]) (cs := [(0, _)]) ?_ rfl
    simp only [cmdRasConfigSet, hw, hj, h5, orElse_none]
    rfl
  · -- RAS_CONFIG_GET
    exact reads_of_items (fun _ _ => rfl) fun _ _ _ => rfl
  · -- RAS_SOURCE_SET
    intro c gs s h h1 hu
    obtain ⟨-, m, hm, -⟩ := takesCall_mailbox h.1
    refine runs_command rfl ?_
    rw [runCommand_ok h (rasSourceSet_free h1 s)]
    obtain ⟨hctrl, hframe⟩ := rasSource_zero_keeps (s.onRaster fun r => { r with src := putPlain 1 rasSourceFlds gs r.src })
    rw [commitItems_nil, List.append_nil, accepted_raster]
    refine ⟨rasSource_inUse .., rasSource_zero_mode hu, hframe, accepted_replied (m := m) (Nat.zero_le _) ?_⟩
    rw [hctrl]
    exact hm
  · -- RAS_STATUS_GET
    exact reads_of_items (fun _ _ => rfl) fun _ _ _ => rfl
  · -- RAS_FRAME_PRESET
    exact does_of_done (fun _ _ => rfl) fun _ _ _ => rfl
  · -- RAS_CLOCK_SET
    exact fun c gs s h => runs_command rfl (runCommand_wait h rfl)
  · -- RAS_COUNTERS_CLEAR
    exact does_of_done (fun _ _ => rfl) fun _ _ _ => rfl
  · -- TT_PERIOD_SET
    rintro c gs s p h hw rfl hsel harg
    refine runs_accepted rfl h (its := []) (cs := s.commitAt 0x0101 true) ?_ (by rw [commitAt_timetable]; rfl)
    simp only [cmdTtPeriodSet, hw, selects_of_period hsel, harg, refuseFirst_holds]
    rfl
  · -- TT_PERIOD_GET
    exact does_of_run (fun _ _ => rfl) fun c gs s => ⟨_, [], rfl, List.append_nil _⟩
  · -- TT_PERIOD_CLEAR
    intro c gs s i h hi
    refine runs_accepted rfl h (its := []) (cs := [s.nextCommit 0x0101]) ?_ rfl
    simp only [cmdTtPeriodClear, hi]
    rfl
  · -- TC_CONFIG_SET
    rintro c gs s n h rfl hd hr
    refine runs_accepted rfl h (its := []) (cs := s.commitAt 0x0100 (writesAbove 1 gs)) ?_ rfl
    simp only [cmdTcConfigSet, drops_of_config hd, hr, refuseFirst_holds]
    rfl
  · -- TC_PRESET
    intro c gs s t h ht
    refine runs_accepted rfl h (its := []) (cs := []) ?_ rfl
    simp only [cmdTcPreset, ht, Ans.done]
  · -- TC_GET
    exact reads_of_items (fun _ _ => rfl) fun _ _ _ => rfl

end Sys2Proof

/-! # The control model: how commands are run, refused and answered -/

namespace Sys2Proof.Machine

/-- The consequences of an instant leave the queue that they are given. -/
@[simp] theorem ended_pending (q : List Instr) (s : State) : (ended q s).pending = q := by rw [ended]

/-- Whatever the command, the step's answer is a next state with its consequences and the queue as it was (R64). -/
theorem exec_ended (i : Instr) (s : State) : ∃ u, exec i s = .next (ended s.pending u) := by
  cases i <;> exact ⟨_, rfl⟩

/-- A row that names a mailbox command runs that command (R60). -/
theorem exec_of_commandOf {i : Instr} {k : Cmd} {c : Call} (h : commandOf i = some (k, c)) (s : State) :
    exec i s = command k c s := by
  cases i <;> cases h <;> rfl

/-- The group of a unit that SYS_GROUP_BIND has not moved is 2, but for the raster's own units (R38, R77). -/
theorem groupOf_unbound {u : Nat} {s : State} (h0 : u ≠ 0x0100) (h1 : u ≠ 0x0101) (hb : s.control.bound = []) :
    s.groupOf u = 2 := by
  rw [State.groupOf, if_neg h0, if_neg h1, hb]; rfl

/-! ## Posts -/

theorem onMbx_same {n : Nat} {s : State} {m : Mailbox} (hm : s.control.mailboxes[n]? = some m) (f : Mailbox → Mailbox) :
    (s.onMbx n f).control.mailboxes[n]? = some (f m) := by
  rw [State.onMbx, onControl_control, modAt_same, hm, Option.map_some]

/-- A post is the newest of its mailbox. -/
theorem post_newest {n : Nat} {s : State} {m : Mailbox} (hm : s.control.mailboxes[n]? = some m) (p : Post) :
    (s.post n p).control.mailboxes[n]? = some { m with posts := m.posts ++ [p] } := onMbx_same hm _

/-- A post leaves every other mailbox alone. -/
theorem post_other {n k : Nat} (h : k ≠ n) (p : Post) (s : State) :
    (s.post n p).control.mailboxes[k]? = s.control.mailboxes[k]? := modAt_other _ _ h.symm

@[simp] theorem post_granary (n : Nat) (p : Post) (s : State) : (s.post n p).granary = s.granary := rfl
@[simp] theorem post_configDigest (n : Nat) (p : Post) (s : State) :
    (s.post n p).control.configDigest = s.control.configDigest := rfl

/-- A reply that is posted is the newest post of the call's mailbox. -/
theorem post_replied {op st : Nat} {c : Call} {items : List Item} {s t : State} {m : Mailbox}
    (hm : s.control.mailboxes[c.mb]? = some m) : (s.post c.mb (replyPost op c st items t)).replied op c st items :=
  ⟨_, m.posts, _, post_newest hm _, rfl, rfl, rfl, rfl, rfl, rfl⟩

/-- A refusal is a reply with ERROR_ITEM alone (R68). -/
theorem refuse_replied {op st p ty : Nat} {c : Call} {s : State} {m : Mailbox} (hm : s.control.mailboxes[c.mb]? = some m) :
    (s.refuse op c st p ty).replied op c st (errItems p ty) := post_replied hm

/-! ## Answers -/

/-- CONFIG_DIGEST moves with a command that wrote a field (R440). -/
theorem digested_configDigest (k : Cmd) (c : Call) (gs : List Got) (s : State) : (s.digested k c gs).control.configDigest =
    if k.writes gs then shake256 (s.control.configDigest ++ shake256 (envelopeBytes k.op c)) else s.control.configDigest := by
  unfold State.digested; split <;> rfl

/-- Beside CONFIG_DIGEST the digest changes nothing. -/
theorem digested_keeps (k : Cmd) (c : Call) (gs : List Got) (s : State) (ms : List Mailbox) :
    (s.digested k c gs).onControl (fun x => { x with mailboxes := ms, configDigest := s.control.configDigest }) =
      s.onControl fun x => { x with mailboxes := ms } := by
  unfold State.digested; split <;> rfl

/-- Result items that do not fit go through REPLY_HANDLE in the 3.0 form (R66, R68). -/
theorem answer_byHandle {op : Nat} {c : Call} {items : List Item} {s : State} {it : Item}
    (h : payloadLimit c.major < (payloadBytes items).length)
    (hf : (effItems c s).1.find? (fun x => x.ty == 0xC004) = some it) (h3 : c.major = 3) :
    s.answer op c items =
      let t := s.putBytes (BitVec.ofNat 32 (leNat it.val)) 0 (payloadBytes items)
      t.post c.mb (replyPost op c stOk [] t) := by
  simp only [State.answer, if_neg (Nat.not_le.2 h), hf, if_pos h3]

/-- Result items that fit neither the message nor a buffer are TOO_LARGE (R68). -/
theorem answer_tooLarge {op : Nat} {c : Call} {items : List Item} {s : State}
    (h : payloadLimit c.major < (payloadBytes items).length)
    (hf : (effItems c s).1.find? (fun x => x.ty == 0xC004) = none ∨ c.major ≠ 3) :
    s.answer op c items = s.post c.mb (replyPost op c stTooLarge [] s) := by
  rw [State.answer, if_neg (Nat.not_le.2 h)]
  split
  · next hs => rw [if_neg (hf.resolve_left (hs ▸ Option.some_ne_none _))]
  · rfl

/-! ## Sessions and turns (R62, R64, R72) -/

theorem runCommand_not_ready {s : State} (h : s.ready = false) (k : Cmd) (c : Call) : runCommand k c s = s :=
  if_pos (by rw [h]; rfl)

/-- A free mailbox executes a command at once. -/
theorem runCommand_free {k : Cmd} {c : Call} {s : State} {m : Mailbox} (hr : s.ready = true)
    (hm : s.control.mailboxes[c.mb]? = some m) (hw : m.waiting = none) (hq : m.queue = []) :
    runCommand k c s = execute k c s := by
  simp only [runCommand, hr, hm, hw, hq]; rfl

/-- Behind a command without its reply, another joins the queue. -/
theorem runCommand_queued {k : Cmd} {c : Call} {s : State} {m : Mailbox} (hr : s.ready = true)
    (hm : s.control.mailboxes[c.mb]? = some m) (hw : m.waiting.isSome = true) : runCommand k c s =
      s.onMbx c.mb fun x => { x with queue := x.queue ++ [{ op := k.op, call := c, busy := k.op == 0 }] } := by
  obtain ⟨w, hw⟩ := Option.isSome_iff_exists.1 hw
  simp only [runCommand, hr, hm, hw]; rfl

/-- A session that is not negotiated, or negotiated at 3.0 where the call is in the 2.x form, refuses with VERSION (R72, R73). -/
theorem sessionRefusal_version {op : Nat} {c : Call} {m : Mailbox} (h0 : op ≠ 0)
    (hs : m.session = .unnegotiated ∨ (m.session = .v3 ∧ c.major = 2)) (hv : c.major = 2 ∨ c.major = 3) :
    sessionRefusal op c m = some stVersion := by
  rw [sessionRefusal, if_neg (by omega), if_neg h0]
  rcases hs with hs | ⟨hs, h2⟩ <;> rw [hs]
  exact if_neg (by omega)

/-- A refusal for the session is a reply in the form of its command (R73). -/
theorem execute_sessionRefused {k : Cmd} {c : Call} {s : State} {m : Mailbox} {st : Nat}
    (hm : s.control.mailboxes[c.mb]? = some m) (hs : sessionRefusal k.op c m = some st) (hv : c.major = 2 ∨ c.major = 3) :
    execute k c s = s.post c.mb (replyPost k.op c st [] s) := by
  have hform : (if c.major = 2 then 2 else 3) = c.major := by rcases hv with h | h <;> rw [h] <;> rfl
  simp only [execute, hm, hs, hform]; rfl

end Sys2Proof.Machine

namespace Sys2Proof

open Machine

/-- Settles O1: the step takes the front of the queue. -/
theorem stepRunsTheFrontCommand : Obligations.StepRunsTheFrontCommand := by
  unfold Obligations.StepRunsTheFrontCommand
  intro s c rest h
  simp only [step, h]

/-- Settles O3: every arm of `exec` ends its effect with the queue it found. -/
theorem everyCommandAnswersAndKeepsTheQueue : Obligations.EveryCommandAnswersAndKeepsTheQueue := by
  unfold Obligations.EveryCommandAnswersAndKeepsTheQueue
  refine ⟨fun i s => ?_, fun i k c s h => exec_of_commandOf h s⟩
  obtain ⟨u, hu⟩ := exec_ended i s
  exact ⟨_, hu, ended_pending ..⟩

/-- Settles O4: the fields of `State.reset` are the defaults of their structures. -/
theorem resetValues : Obligations.ResetValues := by
  unfold Obligations.ResetValues
  refine ⟨rfl, rfl, rfl, rfl, List.length_replicate, fun m hm => ?_, List.length_replicate, fun g hg => ?_,
    fun u h0 h1 => groupOf_unbound h0 h1 rfl, rfl, rfl, rfl, rfl, rfl⟩
  · rw [List.eq_of_mem_replicate hm]
    exact ⟨rfl, rfl, rfl, rfl, rfl, rfl⟩
  · rw [List.eq_of_mem_replicate hg]

/-- Settles O7: either refusal posts the reply alone, in a mailbox that took the call. -/
theorem refusedCommandChangesNothing : Obligations.RefusedCommandChangesNothing := by
  unfold Obligations.RefusedCommandChangesNothing
  intro i k c s st p ty hi h
  have hrun : runCommand k c s = s.refuse k.op c st p ty ∧ s.takesCall k.op c = true := by
    rcases h with h | ⟨gs, h, herr⟩
    · exact ⟨runCommand_refuses h, h.1⟩
    · exact ⟨runCommand_err h herr, h.1⟩
  obtain ⟨hrun, htakes⟩ := hrun
  obtain ⟨-, m, hm, -⟩ := takesCall_mailbox htakes
  refine runs_command (exec_of_commandOf hi s) ?_
  rw [hrun]
  exact ⟨rfl, refuse_replied hm⟩

/-- Settles O8: an answer that fits is one post on the digested state. -/
theorem acceptedCommandReplies : Obligations.AcceptedCommandReplies := by
  unfold Obligations.AcceptedCommandReplies
  intro k c gs items s hmb hfit
  refine ⟨accepted_replied hfit (List.getElem?_eq_getElem hmb), ?_, ?_, fun n hn => ?_⟩ <;>
    rw [State.accepted, answer_fits hfit]
  · rw [post_configDigest, digested_configDigest]
  · exact digested_keeps k c gs s s.control.mailboxes
  · rw [post_other hn, digested_mailboxes]

/-- Settles O9: the two ways out of an answer that does not fit. -/
theorem replyTooLargeForItsMessage : Obligations.ReplyTooLargeForItsMessage := by
  unfold Obligations.ReplyTooLargeForItsMessage
  intro op c items s hmb hbig
  have hm := List.getElem?_eq_getElem hmb
  refine ⟨fun it hf h3 => ?_, fun hf => ?_⟩
  · rw [answer_byHandle hbig hf h3]
    exact ⟨post_replied hm, rfl⟩
  · rw [answer_tooLarge hbig hf]
    exact ⟨post_replied hm, rfl⟩

/-- Settles O10: the mailbox is free, refuses for its session, or is taken. -/
theorem sessionGatesCommands : Obligations.SessionGatesCommands := by
  unfold Obligations.SessionGatesCommands
  intro i k c s m hi hm
  refine ⟨fun hr => ?_, fun hr hw hq h0 hs hv => ?_, fun hr hw => ?_⟩ <;>
    refine runs_command (exec_of_commandOf hi s) ?_
  · exact runCommand_not_ready hr k c
  · rw [runCommand_free hr hm hw hq, execute_sessionRefused hm (sessionRefusal_version h0 hs hv) hv]
    rfl
  · exact runCommand_queued hr hm hw

end Sys2Proof

/-! # Sparse memories and the table of opcodes -/

namespace Sys2Proof.Machine

/-- In a canonical list nothing below its first address is listed (R61). -/
theorem mem_read_below {m : Mem} {a : Nat} (h : ∀ x ∈ m, a < x.1) : Mem.read m a = 0 := by
  cases m with
  | nil => rfl
  | cons x t =>
    have hx : a < x.1 := h x List.mem_cons_self
    rw [Mem.read, if_neg (by omega), if_pos hx]

/-- In a canonical list the first entry answers for its own address alone. -/
theorem mem_read_cons {k : Nat} {w : Byte} {t : Mem} (h : Mem.wf ((k, w) :: t) = true) (b : Nat) :
    Mem.read ((k, w) :: t) b = if b = k then w else Mem.read t b := by
  obtain ⟨hk, -⟩ := List.pairwise_cons.1 ((mem_wf_iff _).1 h).1
  rw [Mem.read]
  by_cases hb : b = k
  · rw [if_pos hb.symm, if_pos hb]
  · rw [if_neg (Ne.symm hb), if_neg hb]
    split
    · next hlt => exact (mem_read_below fun x hx => Nat.lt_trans hlt (hk x hx)).symm
    · rfl

theorem mem_wf_tail {x : Host.Cell} {t : Mem} (h : Mem.wf (x :: t) = true) : Mem.wf t = true := by
  obtain ⟨hp, hz⟩ := (mem_wf_iff _).1 h
  exact (mem_wf_iff _).2 ⟨(List.pairwise_cons.1 hp).2, fun y hy => hz y (List.mem_cons_of_mem _ hy)⟩

/-- A byte written reads back, and every other address reads as before (R61, R299). -/
theorem mem_read_write {m : Mem} (h : Mem.wf m = true) (a b : Nat) (v : Byte) :
    Mem.read (Mem.write m a v) b = if b = a then v else Mem.read m b := by
  induction m with
  | nil =>
    by_cases hv : v = 0
    · rw [Mem.write, if_pos hv, hv]
      exact (ite_self _).symm
    · rw [Mem.write, if_neg hv, mem_read_cons (by
        rw [Mem.wf, Mem.wf, bne_iff_ne.2 hv]; rfl)]
  | cons x t ih =>
    obtain ⟨k, w⟩ := x
    obtain ⟨hk, -⟩ := List.pairwise_cons.1 ((mem_wf_iff _).1 h).1
    have hwf : Mem.wf (Mem.write ((k, w) :: t) a v) = true := mem_write_wf h a v
    rw [Mem.write] at hwf ⊢
    by_cases hlt : a < k
    · rw [if_pos hlt] at hwf ⊢
      by_cases hv : v = 0
      · rw [if_pos hv, hv]
        split
        · next hb =>
          rw [hb]
          exact mem_read_below (List.forall_mem_cons.2 ⟨hlt, fun y hy => Nat.lt_trans hlt (hk y hy)⟩)
        · rfl
      · rw [if_neg hv] at hwf ⊢
        exact mem_read_cons hwf b
    · by_cases hak : a = k
      · subst hak
        rw [if_neg hlt, if_pos rfl] at hwf ⊢
        rw [mem_read_cons h]
        by_cases hv : v = 0
        · rw [if_pos hv, hv]
          split
          · next hb => rw [hb]; exact mem_read_below hk
          · rfl
        · rw [if_neg hv] at hwf ⊢
          rw [mem_read_cons hwf]
          split <;> rfl
      · rw [if_neg hlt, if_neg hak] at hwf ⊢
        rw [mem_read_cons hwf, mem_read_cons h, ih (mem_wf_tail h)]
        by_cases hb : b = k
        · rw [if_pos hb, if_neg (by omega), if_pos hb]
        · rw [if_neg hb, if_neg hb]

/-- A run of bytes written reads back, and every other address reads as before. -/
theorem mem_read_writeN {m : Mem} (h : Mem.wf m = true) (a b : Nat) (bs : List Byte) :
    Mem.read (Mem.writeN m a bs) b = if a ≤ b ∧ b < a + bs.length then bs.getD (b - a) 0 else Mem.read m b := by
  induction bs generalizing m a with
  | nil => exact (if_neg (by simp only [List.length_nil]; omega)).symm
  | cons v bs ih =>
    rw [Mem.writeN, ih (mem_write_wf h a v), mem_read_write h, List.length_cons]
    by_cases hb : b = a
    · rw [if_neg (by omega), if_pos hb, if_pos (by omega), hb, Nat.sub_self]
      rfl
    · rw [if_neg hb]
      by_cases hin : a + 1 ≤ b ∧ b < a + 1 + bs.length
      · rw [if_pos hin, if_pos (by omega), show b - a = b - (a + 1) + 1 by omega, List.getD_cons_succ]
      · rw [if_neg hin, if_neg (by omega)]

/-- A run of bytes is read address by address. -/
theorem mem_readN_eq_map (m : Mem) (a n : Nat) : Mem.readN m a n = (List.range n).map fun j => Mem.read m (a + j) := by
  induction n generalizing a with
  | zero => rfl
  | succ n ih =>
    rw [Mem.readN, ih, List.range_succ_eq_map, List.map_cons, List.map_map]
    refine congrArg _ (List.map_congr_left fun j _ => ?_)
    rw [Function.comp_apply, Nat.succ_eq_add_one, Nat.add_assoc, Nat.add_comm 1 j]

/-- The opcode of a command finds a command of that opcode. -/
theorem commandTable_of_mem {k : Cmd} (h : k ∈ commands) : (commandTable k.op).map (·.op) = some k.op := by
  have hfind : (commands.find? fun x => x.op == k.op).isSome = true := List.find?_isSome.2 ⟨k, h, beq_self_eq_true _⟩
  obtain ⟨x, hx⟩ := Option.isSome_iff_exists.1 hfind
  have hop : (x.op == k.op) = true := List.find?_some (p := fun y : Cmd => y.op == k.op) hx
  rw [commandTable, hx, Option.map_some, eq_of_beq hop]

end Sys2Proof.Machine

namespace Sys2Proof

open Machine

/-- Settles O12: by induction on the bytes, each read back against the canonical form. -/
theorem sparseMemoryReadsBackWhatWasWritten : Obligations.SparseMemoryReadsBackWhatWasWritten := by
  unfold Obligations.SparseMemoryReadsBackWhatWasWritten
  exact fun m a b bs h => ⟨mem_writeN_wf bs h a, mem_read_writeN h a b bs, mem_readN_eq_map m a bs.length⟩

/-- Settles O11: the two lists of numbers are the table's own; the lookup finds what is listed. -/
theorem opcodes : Obligations.Opcodes := by
  unfold Obligations.Opcodes
  exact ⟨by decide +kernel, by decide +kernel, fun k h => commandTable_of_mem h⟩

end Sys2Proof

/-! # A state at rest -/

namespace Sys2Proof.Machine

/-- Nothing due: the instant has been settled already (R374, R386). -/
theorem settle_settled {s : State} (h : s.settled = true) : settle s = s := if_pos h

/-! ## Mailboxes, attestations and bundles -/

theorem drain_idle {s : State} {n : Nat} (h : ∀ m, s.control.mailboxes[n]? = some m → m.idle = true)
    (table : Nat → Option Cmd) (fuel : Nat) : drain table n fuel s = s := by
  cases fuel with
  | zero => rfl
  | succ fuel =>
    rw [drain]
    split
    · rfl
    · next m hm =>
      split
      · rfl
      · next hw =>
        have hq : m.queue = [] := by
          have hidle := h m hm
          rw [Mailbox.idle, eq_false_of_ne_true hw, Bool.false_or] at hidle
          exact List.isEmpty_iff.1 hidle
        rw [hq]

theorem drainAll_idle {s : State} (h : ∀ m ∈ s.control.mailboxes, m.idle = true) (table : Nat → Option Cmd) :
    drainAll table s = s :=
  foldl_same _ _ _ fun _ _ => drain_idle (fun m hm => h m (List.mem_of_getElem? hm)) ..

theorem drainTurns_quiet {s : State} (hm : ∀ m ∈ s.control.mailboxes, m.idle = true)
    (ha : (s.sec.attests.isEmpty || s.sec.signing.isSome) = true) (n : Nat) : drainTurns n s = s := by
  cases n with
  | zero => rfl
  | succ n =>
    rw [drainTurns, drainAll_idle hm]
    exact if_pos ha

theorem bundlePump_nil {s : State} (h : s.tree.bundles = []) (n : Nat) : bundlePump n s = s := by
  cases n with
  | zero => rfl
  | succ n => rw [bundlePump, h]

/-! ## Rings, clips and streams -/

/-- No memory holds a ring (R286). -/
def State.noRings (s : State) : Prop := ∀ b ∈ s.granary.buffers, b.ring = none

section NoRings
variable {s : State}

theorem ring?_none (hs : s.noRings) (h : Handle) : s.ring? h = none := by
  rw [State.ring?, State.buffer?]
  cases hb : s.granary.buffers.find? fun b => b.handle == h with
  | none => rfl
  | some b => rw [Option.bind_some, hs b (List.mem_of_find?_eq_some hb)]; rfl

theorem readerOf_none (hs : s.noRings) (h : Handle) (u : Nat) : s.readerOf h u = none := by
  rw [State.readerOf, ring?_none hs]; rfl

theorem ringLeave_none (hs : s.noRings) (h : Handle) (u : Nat) : s.ringLeave h u = s := by
  rw [State.ringLeave, readerOf_none hs]

theorem ringAttach_none (hs : s.noRings) (h : Handle) (u : Nat) : (s.ringAttach h u).2 = s := by
  rw [State.ringAttach, ring?_none hs]

theorem recUnread_nil (hs : s.noRings) (h : Handle) (n : Nat) : s.recUnread h n = [] := by
  rw [State.recUnread, State.unread, ring?_none hs]
  exact ite_self _

theorem recAttach_none (hs : s.noRings) : s.recAttach = s := by
  refine foldl_same _ _ _ fun n _ => ?_
  dsimp only
  rw [foldl_same _ s _ fun h _ => ringLeave_none hs h _]
  exact foldl_same _ _ _ fun h _ => ringAttach_none hs h _

theorem recIdle_none (hs : s.noRings) (n : Nat) : s.recIdle n = s := by
  simp only [State.recIdle, recUnread_nil hs, List.foldl_nil]
  rw [foldl_same _ s _ fun k _ => by rw [recUnread_nil hs, List.foldl_nil]]
  simp only [recUnread_nil hs, List.foldl_nil]

theorem rtpDetach_none (hs : s.noRings) (n : Nat) : s.rtpDetach n = s := by
  rw [State.rtpDetach]
  split
  · rfl
  · exact foldl_same _ _ _ fun b _ => ringLeave_none hs b.handle _

end NoRings

theorem writeClips_none {s : State} (h : s.record.volume = none) : s.writeClips = s := by
  rw [State.writeClips, State.openClips, h]; rfl

theorem recFinish_unstopped {s : State} {n : Nat} (h : (s.recSession n).stop = none) : s.recFinish n = s := by
  rw [State.recFinish, h]

/-- Without rings, a mounted volume or a session that runs, the recording service has nothing to move (R304 to R316). -/
theorem recWork_none {s : State} (hs : s.noRings) (hv : s.record.volume = none)
    (hx : ∀ n, (s.recSession n).running = false ∧ (s.recSession n).stop = none) : s.recWork = s := by
  rw [State.recWork, recAttach_none hs]
  have finishes : (List.range 16).foldl (fun s n => s.recFinish n) s.writeClips = s := by
    rw [writeClips_none hv]
    exact foldl_same _ _ _ fun n _ => recFinish_unstopped (hx n).2
  refine Eq.trans (congrArg (fun t : State => (List.range 16).foldl (fun s n => s.recFinish n) t.writeClips)
    (foldl_same _ s _ fun n _ => ?_)) finishes
  dsimp only
  rw [if_pos (by rw [(hx n).1]; rfl), recIdle_none hs]

theorem rtpTake_unset {s : State} {n : Nat} (h : ∀ x, s.net.streams[n]? = some x → x.set = false) : s.rtpTake n = s := by
  rw [State.rtpTake]
  split
  · rfl
  · next x hx => exact if_pos (by rw [h x hx]; rfl)

theorem rtpWork_none {s : State} (hs : s.noRings) (h : ∀ x ∈ s.net.streams, x.set = false) : s.rtpWork = s :=
  foldl_same _ _ _ fun n _ => by
    rw [rtpDetach_none hs, rtpTake_unset fun x hx => h x (List.mem_of_getElem? hx)]

/-! ## Messages, PTP and shutdown -/

theorem treePump_none {s : State} (h : ∀ t < 4, ∀ m, s.control.mailboxes[12 + t]? = some m → m.posts = []) :
    s.treePump = s :=
  foldl_same _ _ _ fun t ht => by
    dsimp only
    split
    · rfl
    · next m hm => exact if_pos (by rw [h t (List.mem_range.1 ht) m hm]; rfl)

theorem netPump_none {s : State} (h : ∀ k, (s.transport k).client = none) : s.netPump = s :=
  foldl_same _ _ _ fun k _ => by
    dsimp only
    rw [h k]

theorem shutdownClips_none {s : State} (h : s.power.awaitClips = false) : s.shutdownClips = s :=
  if_neg (by rw [h]; exact Bool.false_ne_true)

/-- What `State.quiet` says, part by part. -/
structure State.AtRest (s : State) : Prop where
  settled : s.settled = true
  mailboxes : ∀ m ∈ s.control.mailboxes, m.idle = true
  attests : (s.sec.attests.isEmpty || s.sec.signing.isSome) = true
  bundles : s.tree.bundles = []
  rings : s.noRings
  volume : s.record.volume = none
  sessions : ∀ x ∈ s.record.sessions, x.running = false ∧ x.stop = none
  streams : ∀ x ∈ s.net.streams, x.set = false
  clients : ∀ t ∈ s.net.transports, t.client = none
  tree : ∀ t < 4, ∀ m, s.control.mailboxes[12 + t]? = some m → m.posts = []
  raster : s.raster.inUse ≠ 4
  clips : s.power.awaitClips = false

theorem quiet_atRest {s : State} (h : s.quiet = true) : s.AtRest := by
  simp only [State.quiet, Bool.and_eq_true, List.all_eq_true, List.isEmpty_iff, Option.isNone_iff_eq_none, Bool.not_eq_true',
    List.mem_range, Option.all_eq_true, bne_iff_ne] at h
  obtain ⟨⟨⟨⟨⟨⟨⟨⟨⟨⟨⟨h1, h2⟩, h3⟩, h4⟩, h5⟩, h6⟩, h7⟩, h8⟩, h9⟩, h10⟩, h11⟩, h12⟩ := h
  exact ⟨h1, h2, h3, h4, h5, h6, h7, h8, h9, h10, h11, h12⟩

/-- What holds of every element of a list and of the default holds at every index. -/
theorem getD_of_forall {α : Type} {P : α → Prop} {l : List α} {d : α} (hl : ∀ x ∈ l, P x) (hd : P d) (n : Nat) :
    P (l.getD n d) := by
  rw [List.getD_eq_getElem?_getD]
  cases h : l[n]? with
  | none => exact hd
  | some x => exact hl x (List.mem_of_getElem? h)

theorem finish_atRest {s : State} (h : s.AtRest) : finish s = s := by
  have hsess (n : Nat) : (s.recSession n).running = false ∧ (s.recSession n).stop = none :=
    getD_of_forall h.sessions ⟨rfl, rfl⟩ n
  have hclient (k : Nat) : (s.transport k).client = none := getD_of_forall (P := fun t : Transport => t.client = none) h.clients rfl k
  have hptp : s.rasFollowPtp = s := if_pos h.raster
  unfold finish
  dsimp only
  rw [settle_settled h.settled, drainTurns_quiet h.mailboxes h.attests, bundlePump_nil h.bundles, settle_settled h.settled,
    recWork_none h.rings h.volume hsess, rtpWork_none h.rings h.streams, treePump_none h.tree, netPump_none hclient, hptp,
    shutdownClips_none h.clips, settle_settled h.settled]

end Sys2Proof.Machine

namespace Sys2Proof

open Machine

/-- Settles O13: each part of what ends a step finds nothing to do. -/
theorem quietStateHasNoConsequences : Obligations.QuietStateHasNoConsequences := by
  unfold Obligations.QuietStateHasNoConsequences
  intro q s h
  rw [ended, finish_atRest (quiet_atRest h)]

end Sys2Proof

/-! # Register paths, mailbox fills and sessions -/

namespace Sys2Proof.Machine

/-! ## Interrupts: what they leave in the control block (R54) -/

/-- A vector that is sent or kept pending moves MSI-X state alone. -/
theorem msixSend_control (v : Nat) (s : State) : ∃ x, (s.msixSend v).control = { s.control with msix := x } := by
  unfold State.msixSend
  split
  · exact ⟨_, rfl⟩
  · split
    · exact ⟨_, rfl⟩
    · exact ⟨_, rfl⟩

theorem setSystemIrq_control (b : Nat) (s : State) :
    ∃ x, (s.setSystemIrq b).control = { s.control with irq := putBit s.control.irq b true, msix := x } := by
  unfold State.setSystemIrq
  dsimp only
  split
  · exact ⟨_, rfl⟩
  · exact msixSend_control ..

theorem setInEmptyIrq_control (n : Nat) (s : State) :
    ∃ x, (s.setInEmptyIrq n).control = { s.control with irq := putBit s.control.irq (8 + n) true, msix := x } := by
  unfold State.setInEmptyIrq
  dsimp only
  split
  · exact ⟨_, rfl⟩
  · split
    · exact msixSend_control ..
    · exact ⟨_, rfl⟩

@[simp] theorem msixSend_mailboxes (v : Nat) (s : State) : (s.msixSend v).control.mailboxes = s.control.mailboxes := by
  obtain ⟨x, hx⟩ := msixSend_control v s
  rw [hx]

@[simp] theorem msixSend_slots (v : Nat) (s : State) : (s.msixSend v).control.slots = s.control.slots := by
  obtain ⟨x, hx⟩ := msixSend_control v s
  rw [hx]

@[simp] theorem setInEmptyIrq_mailboxes (n : Nat) (s : State) :
    (s.setInEmptyIrq n).control.mailboxes = s.control.mailboxes := by
  obtain ⟨x, hx⟩ := setInEmptyIrq_control n s
  rw [hx]

/-! ## Register writes (R53, R57, R81) -/

/-- The Control Port writes the SYS window at any time (R56, R62). -/
theorem writeReg_sys {a : Nat} (h : a < 0x10000) (v : Word) (s : State) :
    s.writeReg .controlPort a v = writeWindow .controlPort 0 (a / 4 * 4) v s := by
  have hw : windowOf (a / 4 * 4) = some (0, a / 4 * 4) := by
    rw [windowOf, if_pos (by omega), Nat.mod_eq_of_lt (by omega)]
  have hport : (Path.controlPort == .pcie) = false := rfl
  have hlow : decide (0x10000 ≤ a / 4 * 4) = false := decide_eq_false (by omega)
  have hslots : ¬a / 4 * 4 / 0x10000 = 1 := by omega
  simp only [State.writeReg, hport, hlow, hslots, hw, Bool.false_and, Bool.and_false, Bool.false_eq_true, if_false]

/-- Before mailbox-ready only the SYS window answers (R62). -/
theorem writeReg_not_ready {a : Nat} {s : State} (hr : s.ready = false) (ha : 0x10000 ≤ a) (p : Path) (v : Word) :
    s.writeReg p a v = s := by
  have hlate : (!s.ready && decide (0x10000 ≤ a / 4 * 4)) = true := by
    rw [hr, decide_eq_true (by omega : 0x10000 ≤ a / 4 * 4)]; rfl
  rw [State.writeReg]
  dsimp only
  rw [if_pos hlate, ite_self]

/-- A write beyond the last window changes nothing (R57). -/
theorem writeReg_no_window {a : Nat} (h1 : a / 4 * 4 / 0x10000 ≠ 1) (h : windowOf (a / 4 * 4) = none) (p : Path) (v : Word)
    (s : State) : s.writeReg p a v = s := by
  rw [State.writeReg]
  dsimp only
  rw [if_neg h1, h]
  dsimp only
  rw [ite_self, ite_self]

/-- A burst of one whole word writes it; a cut adds the error (R53). -/
theorem cpWrite_single (a v : Word) (cut : Bool) (s : State) : cpWrite a [v] cut s =
    let t := s.writeReg .controlPort (burstAddr a 0) v
    if cut then t.cpError else t.onControl fun c => { c with cpDiscarded := false, cpOut := [] } := by
  rw [cpWrite, show indexed [v] = [(0, v)] from rfl, List.foldl_cons, List.foldl_nil]

/-- The selected window takes the selector and loses VALID; its words are free (R59). -/
theorem wideSelWrite_same {b : Blk} {s : State} (hb : blkIndex b < s.control.wides.length) (v : Word) :
    (wideSelWrite b v s).control.wides[blkIndex b]? = some
      { sel := v.toNat % 4, valid := false, data := (List.range 4).map fun k => wordN (Config.freeNat (s.fresh + k)) } := by
  rw [wideSelWrite, modAt_same, List.getElem?_eq_getElem hb, Option.map_some]

theorem cpError_counts (s : State) : s.cpError.control.cntCpErr = s.control.cntCpErr + 1 ∧
    s.cpError.control.cpDiscarded = true ∧ s.cpError.control.irq.getLsbD 26 = true ∧
    s.cpError.control.mailboxes = s.control.mailboxes := by
  obtain ⟨x, hx⟩ := setSystemIrq_control 26 (s.onControl fun c =>
    { c with cntCpErr := c.cntCpErr + 1, cpDiscarded := true, cpOut := [] })
  rw [State.cpError, hx]
  exact ⟨rfl, rfl, putBit_getLsbD _ _ _ (by decide), rfl⟩

end Sys2Proof.Machine

namespace Sys2Proof

open Machine

/-- Settles O17: each event's effect is the one written out, but for the registers that a write reaches and for CP_ERR. -/
theorem registerPathsAndControlPort : Obligations.RegisterPathsAndControlPort := by
  unfold Obligations.RegisterPathsAndControlPort
  refine ⟨?_, ?_, ?_, ?_, ?_, ?_, ?_, ?_, ?_, ?_, ?_, ?_, ?_⟩
  · -- CP_READ
    exact fun s a n => runs_event rfl rfl
  · -- CP_WRITE
    exact fun s a v => runs_event rfl (cpWrite_single a v false s)
  · -- CP_WRITE that cuts a word
    exact fun s a v => runs_event rfl (cpWrite_single a v true s)
  · -- CP_STATUS
    exact fun s => runs_event rfl rfl
  · -- QUAD_ON
    exact fun s => runs_event rfl rfl
  · -- QUAD_OFF
    exact fun s => runs_event rfl rfl
  · -- CP_UNKNOWN_INSTRUCTION
    exact fun s => runs_event rfl (cpError_counts s)
  · -- SYS_IRQ_ENABLE
    exact fun s v => runs_event rfl (writeReg_sys (by decide) v s)
  · -- an address that no register lists
    exact fun s v => runs_event rfl (writeReg_no_window (by decide) (by decide) _ v s)
  · -- before mailbox-ready
    exact fun s p a v hr ha => runs_event rfl (writeReg_not_ready hr ha p v)
  · -- AO_WRITE_APPLY
    exact fun s => runs_event rfl ⟨rfl, rfl, rfl⟩
  · -- WIDE_SEL_WRITE
    exact fun s b v hb => runs_event rfl ⟨⟨_, wideSelWrite_same hb v, rfl, rfl⟩, fun k hk => modAt_other _ _ hk.symm⟩
  · -- WIDE_VALUE_VALID
    intro s b w hw hv
    refine runs_event rfl ?_
    rw [wideValueValid, onControl_control, modAt_same, hw, Option.map_some, hv]
    rfl

end Sys2Proof

/-! # Mailbox fills, sessions and MSI-X masks -/

namespace Sys2Proof.Machine

section Mailboxes
variable {s : State} {n : Nat} {m : Mailbox} {p : Path}

/-- A doorbell that R63 and the binding accept hands its fill over (R62). -/
theorem doorbell_accepted {v : Word} (hn : n < 8) (hr : s.ready = true) (hm : s.control.mailboxes[n]? = some m)
    (hf : m.foreign p = false) (he : m.inEmpty = true) (h0 : 0 < v.toNat % 8192) (h1 : v.toNat % 8192 ≤ 4096)
    (hl : v.getLsbD 13 = true ∨ v.toNat % 8192 = 4096) : s.doorbell p n v = s.onMbx n fun m =>
      { m with path := some p, inEmpty := false, bellCount := v.toNat % 8192, bellLast := v.getLsbD 13 } := by
  have hcount : (v.toNat % 8192 == 0) = false := beq_false_of_ne (by omega)
  have hlong : decide (4096 < v.toNat % 8192) = false := decide_eq_false (by omega)
  have hcut : (!v.getLsbD 13 && v.toNat % 8192 != 4096) = false := by
    rcases hl with hl | hl <;> rw [hl]
    · rfl
    · exact Bool.and_false _
  rw [State.doorbell, if_neg (by omega), hm]
  dsimp only
  rw [hr, hf, he, hcount, hlong, hcut]
  rfl

/-- Any other doorbell is counted and changes nothing else (R63). -/
theorem doorbell_ignored {v : Word} (hn : n < 8) (hm : s.control.mailboxes[n]? = some m)
    (h : s.ready = false ∨ m.foreign p = true ∨ m.inEmpty = false ∨ v.toNat % 8192 = 0 ∨ 4096 < v.toNat % 8192 ∨
      (v.getLsbD 13 = false ∧ v.toNat % 8192 ≠ 4096)) : s.doorbell p n v = s.mbxErr n := by
  rw [State.doorbell, if_neg (by omega), hm]
  refine if_pos ?_
  simpa only [Bool.or_eq_true, Bool.and_eq_true, Bool.not_eq_true', beq_iff_eq, bne_iff_ne, decide_eq_true_eq, or_assoc] using h

/-- A fill that is not its message's last is kept, and its in-slot is free again (R62). -/
theorem fillTaken_partial (table : Nat → Option Cmd) (hn : n < 8) (hr : s.ready = true) (hm : s.control.mailboxes[n]? = some m)
    (he : m.inEmpty = false) (hl : m.bellLast = false) : (s.fillTaken table n).control.mailboxes[n]? =
      some { m with inEmpty := true, partialMsg := m.partialMsg ++ Mem.readN s.control.slots (n * 0x2000) m.bellCount } := by
  have htaken : ((s.onMbx n fun m => { m with inEmpty := true }).setInEmptyIrq n).control.mailboxes[n]? =
      some { m with inEmpty := true } := by
    rw [setInEmptyIrq_mailboxes, onMbx_same hm]
  have hopen : (decide (n ≥ 8) || !s.ready) = false := by rw [hr, decide_eq_false (by omega)]; rfl
  simp only [State.fillTaken, hopen, hm, he, hl, takeFill, htaken, Bool.false_eq_true, if_false]
  rw [onMbx_same htaken, hl]

/-- An acknowledge that ends no session frees the out-slot (R62). -/
theorem outAck_frees (hn : n < 8) (hr : s.ready = true) (hm : s.control.mailboxes[n]? = some m) (hf : m.foreign p = false)
    (ha : m.resetOnAck = false) :
    s.outAck p n = s.onMbx n fun m => { m with outFull := false, outCount := 0, outLast := false } := by
  rw [State.outAck, if_neg (by omega), hm]
  dsimp only
  rw [hr, hf, ha, Bool.and_false]
  rfl

theorem sessionResetBy_own (hn : n < 8) (hr : s.ready = true) (hm : s.control.mailboxes[n]? = some m)
    (hf : m.foreign p = false) : s.sessionResetBy p n = s.sessionReset n := by
  rw [State.sessionResetBy, if_neg (by omega), hm]
  dsimp only
  rw [hr, hf]
  rfl

theorem sessionReset_same (hm : s.control.mailboxes[n]? = some m) :
    (s.sessionReset n).control.mailboxes[n]? = some m.reset := onMbx_same hm _

/-- A session reset keeps replies and discards notices (R62). -/
theorem reset_posts_replies (m : Mailbox) : ∀ q ∈ m.reset.posts, q.notice = false := by
  intro q hq
  exact Bool.not_eq_true' _ ▸ (List.mem_filter.1 hq).2

/-- A post that fits one fill leaves the queue whole; without lost notices nothing joins it (R62, R71). -/
theorem nextFill_single {q : Post} {rest : List Post} (hs : m.sending = []) (hp : m.posts = q :: rest)
    (hq : q.bytes.length ≤ 4096) (hlost : m.lost = 0) : m.nextFill =
      some (q.bytes, true, { m with sending := [], sendingReset := false, posts := rest, resetOnAck := q.thenReset }) := by
  simp only [Mailbox.nextFill, hs, hp, ne_eq, not_true_eq_false, if_false, List.take_of_length_le hq,
    List.drop_eq_nil_of_le hq, decide_eq_true hq, Bool.not_true, Bool.and_false, Bool.and_true, Mailbox.reportLost, hlost,
    true_or, if_true]

/-- The next message goes whole into a free out-slot (R62, R71). -/
theorem placeFill_single {q : Post} {rest : List Post} (hn : n < 8) (hr : s.ready = true)
    (hm : s.control.mailboxes[n]? = some m) (ho : m.outFull = false) (hs : m.sending = []) (hp : m.posts = q :: rest)
    (hq : q.bytes.length ≤ 4096) (hlost : m.lost = 0) :
    (∃ m', (s.placeFill n).control.mailboxes[n]? = some m' ∧ m'.outFull = true ∧ m'.outCount = q.bytes.length ∧
      m'.outLast = true ∧ m'.posts = rest) ∧
    (s.placeFill n).control.slots = Mem.writeN s.control.slots (n * 0x2000 + 0x1000) q.bytes := by
  have hopen : (decide (n ≥ 8) || !s.ready) = false := by rw [hr, decide_eq_false (by omega)]; rfl
  simp only [State.placeFill, hopen, hm, ho, nextFill_single hs hp hq hlost, Bool.false_eq_true, if_false]
  split <;> simp only [msixSend_mailboxes, msixSend_slots, onControl_control, onMbx_same hm, Option.some.injEq] <;>
    exact ⟨⟨_, rfl, rfl, rfl, rfl, rfl⟩, rfl⟩

end Mailboxes

/-! ## MSI-X -/

/-- A fold of which one element alone acts is that element's step. -/
theorem foldl_single {α β : Type} {f : β → α → β} {l : List α} {v : α} {a b : β} (hd : l.Nodup) (hv : v ∈ l)
    (hb : f a v = b) (before : ∀ k ∈ l, k ≠ v → f a k = a) (later : ∀ k ∈ l, k ≠ v → f b k = b) : l.foldl f a = b := by
  obtain ⟨l₁, l₂, rfl⟩ := List.append_of_mem hv
  obtain ⟨-, hd₂, hdis⟩ := List.nodup_append.1 hd
  rw [List.foldl_append, List.foldl_cons, foldl_same f a l₁ fun k hk =>
    before k (List.mem_append_left _ hk) (hdis k hk v List.mem_cons_self), hb]
  exact foldl_same f b l₂ fun k hk =>
    later k (List.mem_append_right _ (List.mem_cons_of_mem _ hk)) fun h => (List.nodup_cons.1 hd₂).1 (h ▸ hk)

/-- Clearing the one flag of a list that is set clears them all. -/
theorem modAt_indicator (n v : Nat) :
    modAt ((List.range n).map (· == v)) v (fun _ => false) = List.replicate n false := by
  refine List.ext_getElem? fun i => ?_
  rw [modAt_getElem?, List.getElem?_map, List.getElem?_replicate]
  by_cases hi : i < n
  · rw [List.getElem?_range hi, if_pos hi]
    by_cases h : v = i
    · rw [if_pos h]; rfl
    · rw [if_neg h]
      exact congrArg some (beq_false_of_ne (Ne.symm h))
  · rw [List.getElem?_eq_none (by rw [List.length_range]; omega), if_neg hi]
    exact ite_self _

/-- With vector `v` alone pending, clearing its mask sends it and nothing else (R54). -/
theorem msixMaskClear_pending {s : State} {v : Nat} (hv : v < 9) (hf : s.control.msix.functionMask = false)
    (hl : s.control.msix.masks.length = 9) (hp : s.control.msix.pending = (List.range 9).map (· == v)) :
    msixMaskClear (some v) s = (s.onControl fun c => { c with
      msix := { c.msix with
        masks := modAt c.msix.masks v fun _ => false, pending := modAt c.msix.pending v fun _ => false } }).send (.msix v) := by
  have hmask : (modAt s.control.msix.masks v fun _ => false).getD v true = false := by
    rw [List.getD_eq_getElem?_getD, modAt_same, List.getElem?_eq_getElem (by omega)]; rfl
  have hpend (k : Nat) (hk : k < 9) : s.control.msix.pending.getD k false = (k == v) := by
    rw [hp, List.getD_eq_getElem?_getD, List.getElem?_map, List.getElem?_range hk]; rfl
  refine foldl_single List.nodup_range (List.mem_range.2 hv) (if_pos ?_) (fun k hk hne => if_neg ?_)
    fun k hk hne => if_neg ?_
  · show (s.control.msix.pending.getD v false && !s.control.msix.functionMask &&
      !(modAt s.control.msix.masks v fun _ => false).getD v true) = true
    rw [hpend v hv, hf, hmask, beq_self_eq_true]; rfl
  · show ¬(s.control.msix.pending.getD k false && _ && _) = true
    rw [hpend k (List.mem_range.1 hk), beq_false_of_ne hne]; exact Bool.false_ne_true
  · show ¬((modAt s.control.msix.pending v fun _ => false).getD k false && _ && _) = true
    rw [List.getD_eq_getElem?_getD, modAt_other _ _ hne.symm, ← List.getD_eq_getElem?_getD, hpend k (List.mem_range.1 hk),
      beq_false_of_ne hne]
    exact Bool.false_ne_true

end Sys2Proof.Machine

namespace Sys2Proof

open Machine

/-- Settles O18: each event's equation for the case that the clause describes. -/
theorem mailboxFillsAndSessions : Obligations.MailboxFillsAndSessions := by
  unfold Obligations.MailboxFillsAndSessions
  refine ⟨?_, ?_, ?_, ?_, ?_, ?_, ?_⟩
  · -- MBX_IN_DOORBELL
    exact fun s p n v m hn hr hm hf he h0 h1 hl => runs_event rfl (doorbell_accepted hn hr hm hf he h0 h1 hl)
  · -- MBX_IN_DOORBELL that is ignored
    exact fun s p n v m hn hm h => runs_event rfl (doorbell_ignored hn hm h)
  · -- FILL_TAKEN
    exact fun s n m hn hr hm he hl => runs_event rfl ⟨_, fillTaken_partial commandTable hn hr hm he hl, rfl, rfl⟩
  · -- MBX_OUT_ACK
    exact fun s p n m hn hr hm hf ha => runs_event rfl (outAck_frees hn hr hm hf ha)
  · -- SESSION_RESET
    intro s p n m hn hr hm hf
    refine runs_event rfl ?_
    rw [sessionResetBy_own hn hr hm hf]
    exact ⟨_, sessionReset_same hm, rfl, rfl, rfl, rfl, rfl, reset_posts_replies m, rfl⟩
  · -- OUT_FILL_PLACED
    exact fun s n m q rest hn hr hm ho hs hp hq hl => runs_event rfl (placeFill_single hn hr hm ho hs hp hq hl)
  · -- MSIX_MASK_CLEAR
    intro s v hv hf hl hp
    refine runs_event rfl ?_
    rw [msixMaskClear_pending hv hf hl hp]
    refine ⟨rfl, (modAt_same ..).trans ?_, (congrArg (modAt · v fun _ => false) hp).trans (modAt_indicator 9 v)⟩
    rw [List.getElem?_eq_getElem (by omega), Option.map_some]

end Sys2Proof

/-! # System commands, Looks and Sheaf -/

namespace Sys2Proof.Machine

/-! ## System commands -/

theorem hello_chosen {gs : List Got} {v : Nat} (h : chosenVersion (gotNs gs 1) = some v) (c : Call) (s : State) :
    cmdHello.run c gs s = .ok [itemN 0x4001 2 v, itemN 0x4002 4 s.control.fwVersion.toNat,
      itemN 0x4003 4 (if v / 256 = 3 then 65536 else 4096), itemN 0x4004 1 c.mb] []
      (s.onMbx c.mb fun m => { m with session := sessionOf v }) := by
  simp only [cmdHello, h]; rfl

theorem hello_unchosen {gs : List Got} (h : chosenVersion (gotNs gs 1) = none) (c : Call) (s : State) :
    cmdHello.run c gs s = .err stVersion (gotPos gs 1) 1 := by
  simp only [cmdHello, h]

/-- COMMAND_RESET resets all but the always-on domain, with cause COMMAND (R74, R450). -/
theorem commandReset_asked {s : State} (h : s.control.resetAsked = true) :
    commandReset s = s.enterReset (some 2) .no false [] := if_pos h

end Sys2Proof.Machine

namespace Sys2Proof

open Machine

/-- Settles O19: each clause is the accepted or refused part of its command. -/
theorem systemCommands : Obligations.SystemCommands := by
  unfold Obligations.SystemCommands
  refine ⟨?_, ?_, ?_, ?_, ?_, ?_, ?_, ?_, ?_, ?_, ?_⟩
  · -- HELLO with a common version
    exact fun c gs s v h hv => runs_accepted rfl h (hello_chosen hv c s) (List.append_nil _)
  · -- HELLO without one
    exact fun c gs s h hv => runs_command rfl (runCommand_err h (hello_unchosen hv c s))
  · -- SYS_INFO_GET
    exact reads_of_items (fun _ _ => rfl) fun _ _ _ => rfl
  · -- SYS_NOTICE_SUBSCRIBE
    intro c gs s m v h hm hv
    refine runs_accepted rfl h (its := [itemN 0x4001 4 m.subs.toNat]) (cs := []) ?_ (List.append_nil _)
    simp only [cmdSysNoticeSubscribe, hm, hv, Ans.items, Option.map_some, Option.getD_some]
  · -- SYS_GROUP_BIND
    exact does_of_run (fun _ _ => rfl) fun _ _ _ => ⟨_, [], rfl, List.append_nil _⟩
  · -- SYS_GROUP_STATUS
    intro c gs s f h hf
    refine runs_accepted rfl h (cs := []) ?_ (List.append_nil _)
    simp only [cmdSysGroupStatus, hf, Ans.items]
  · -- SYS_COMMIT
    exact does_of_run (fun _ _ => rfl) fun _ _ _ => ⟨_, [], rfl, List.append_nil _⟩
  · -- SYS_RESET with SCOPE 0
    intro c gs s h h0
    exact runs_command rfl (runCommand_wait h (if_pos h0))
  · -- SYS_RESET with SCOPE 1
    intro c gs s h h1
    refine runs_accepted rfl h (its := []) (cs := []) (if_neg ?_) rfl
    rw [h1]; decide
  · -- COMMAND_RESET
    intro s h
    refine runs_event rfl ?_
    rw [commandReset_asked h]
    exact ⟨rfl, rfl, rfl, rfl, rfl⟩
  · -- SYS_ECHO
    exact reads_of_items (fun _ _ => rfl) fun _ _ _ => rfl

end Sys2Proof

namespace Sys2Proof.Machine

/-! ## Looks -/

theorem lookTablesLoaded_idle {s : State} {k : Nat} (h : (s.look k).loading = none) : lookTablesLoaded k s = s := by
  rw [lookTablesLoaded, State.endLoad, h]

theorem lookTablesLoaded_loading {s : State} {k : Nat} {t : TableLoad} (h : (s.look k).loading = some t) :
    lookTablesLoaded k s =
      let v := s.onLook k fun l =>
        { l with
          loading := none, cntLoads := l.cntLoads + 1, banks := setAt l.banks t.bank t.content
          cfg := { l.cfg with shadow := { l.cfg.shadow with tableBank := t.bank } } }
      complete (.lookLoad k) stOk (itemN 0x4001 1 t.bank :: commitItems [v.nextCommit (0x0400 + k)]) v := by
  rw [lookTablesLoaded, State.endLoad, h]

/-- The full mask names every index below 64. -/
theorem allBits_testBit {i : Nat} (h : i < 64) : allBits.testBit i = true := by
  rw [allBits, Nat.testBit_two_pow_sub_one, decide_eq_true h]

theorem mem_clearAll {l : List Word} {w : Word} (h : w ∈ clearAll l) : w = 0 := by
  obtain ⟨-, -, rfl⟩ := List.mem_map.1 h
  rfl

theorem mem_indexed {α : Type} {l : List α} {i : Nat} {x : α} (h : (i, x) ∈ indexed l) : l[i]? = some x := by
  obtain ⟨⟨y, j⟩, hy, he⟩ := List.mem_map.1 h
  cases he
  exact (List.mem_zipIdx_iff_getElem? (x := (y, j))).1 hy

/-- CNT_CLEAR clears the counters of every rendition that the block has (R192, R194). -/
theorem clearLks_all_rends {s : State} (h : s.looks.rends.length ≤ 48) :
    ∀ x ∈ (s.clearLks allBits allBits).looks.rends, ∀ w ∈ x.cnt, w = 0 := by
  intro x hx w hw
  obtain ⟨⟨i, r⟩, hr, rfl⟩ := List.mem_map.1 hx
  have hi : i < s.looks.rends.length := (List.getElem?_eq_some_iff.1 (mem_indexed hr)).1
  dsimp only at hw
  rw [if_pos (allBits_testBit (by omega))] at hw
  exact mem_clearAll hw

end Sys2Proof.Machine

namespace Sys2Proof

open Machine

/-- Settles O28: each clause is the branch of the command that its hypotheses select. -/
theorem lookAndSlotCommands : Obligations.LookAndSlotCommands := by
  unfold Obligations.LookAndSlotCommands
  refine ⟨?_, ?_, ?_, ?_, ?_, ?_, ?_, ?_, ?_⟩
  · -- LOOK_SET
    rintro c gs s n h rfl hlt
    refine runs_accepted rfl h (its := []) (cs := s.commitAt (0x0400 + gotN gs 1) (writesAbove 0x100 gs)) ?_ rfl
    simp only [cmdLookSet, decide_eq_true hlt, refuseFirst_holds, orElse_none]
  · -- LOOK_TABLES_LOAD
    intro c gs s h ht
    refine runs_command rfl (runCommand_wait h ?_)
    simp only [cmdLookTablesLoad, ht]
    rfl
  · -- LOOK_TABLES_LOAD of tables that break their rules
    intro c gs s h ht
    refine runs_command rfl (runCommand_err h ?_)
    simp only [cmdLookTablesLoad, ht]
    rfl
  · -- LOOK_TABLES_LOADED without a load
    exact fun s k h => runs_event rfl (lookTablesLoaded_idle h)
  · -- LOOK_TABLES_LOADED
    rintro s k t v h rfl
    exact runs_event rfl (lookTablesLoaded_loading h)
  · -- LOOK_GET
    exact reads_of_items (fun _ _ => rfl) fun _ _ _ => rfl
  · -- LKS_STATUS_GET
    exact reads_of_items (fun _ _ => rfl) fun _ _ _ => rfl
  · -- LKS_COUNTERS_CLEAR
    exact does_of_done (fun _ _ => rfl) fun _ _ _ => rfl
  · -- LKS_CTRL.CNT_CLEAR
    exact fun s => runs_event rfl ⟨rfl, rfl, clearLks_all_rends⟩

end Sys2Proof

namespace Sys2Proof.Machine

/-! ## The Sheaf -/

theorem onShf_same {n : Nat} {s : State} (hn : n < s.sheaf.ctxs.length) (g : ShfContext → ShfContext) :
    (s.onShf n g).shf n = g (s.shf n) := by
  simp only [State.onShf, State.shf, onSheaf_sheaf, List.getD_eq_getElem?_getD, modAt_same, List.getElem?_eq_getElem hn,
    Option.map_some, Option.getD_some]

theorem onShf_other {n k : Nat} (hk : k ≠ n) (g : ShfContext → ShfContext) (s : State) : (s.onShf n g).shf k = s.shf k := by
  simp only [State.onShf, State.shf, onSheaf_sheaf, List.getD_eq_getElem?_getD, modAt_other _ g hk.symm]

/-- A start that nothing refuses changes its context alone, which then runs from the frame answered (R201). -/
theorem shfStart_inr {n : Nat} {at_ f : Frame} {s v : State} (h : s.shfStart n at_ = .inr (f, v)) :
    ∃ g : ShfContext → ShfContext, v = s.onShf n g ∧ ∀ x, (g x).running = true ∧ (g x).startAt = f := by
  unfold State.shfStart at h
  dsimp only at h
  split at h
  · cases h -- BUSY
  split at h
  · cases h -- no rendition
  split at h
  · cases h -- BAD_HANDLE
  split at h
  · cases h -- NO_RESOURCE
  split at h
  · cases h -- FORMAT
  cases h
  exact ⟨_, rfl, fun _ => ⟨rfl, rfl⟩⟩

theorem shfStart_starts {n : Nat} {at_ f : Frame} {s v : State} (h : s.shfStart n at_ = .inr (f, v))
    (hn : n < s.sheaf.ctxs.length) :
    (v.shf n).running = true ∧ (v.shf n).startAt = f ∧ ∀ k, k ≠ n → v.shf k = s.shf k := by
  obtain ⟨g, rfl, hg⟩ := shfStart_inr h
  rw [onShf_same hn]
  exact ⟨(hg _).1, (hg _).2, fun k hk => onShf_other hk g s⟩

/-- A stop of a context that does not run changes nothing and names its last frame (R201). -/
theorem shfContextStop_stopped {gs : List Got} {s : State} (h : (s.shf (gotN gs 1)).running = false) (c : Call) :
    cmdShfContextStop.run c gs s = .items [itemN 0x4001 4 (s.shf (gotN gs 1)).lastFrame.toNat] s := by
  have hstop : s.shfStop (gotN gs 1) = ((s.shf (gotN gs 1)).lastFrame, s) := if_pos (by rw [h]; rfl)
  simp only [cmdShfContextStop, hstop, h]
  split <;> rfl

end Sys2Proof.Machine

namespace Sys2Proof

open Machine

/-- Settles O31: each clause is the branch of the command that its hypotheses select. -/
theorem sheafCommands : Obligations.SheafCommands := by
  unfold Obligations.SheafCommands
  refine ⟨?_, ?_, ?_, ?_, ?_, ?_, ?_, ?_, ?_, ?_, ?_, ?_⟩
  · -- SHF_CONTEXT_SET
    rintro c gs s n h rfl hj
    refine runs_accepted rfl h (cs := s.commitAt (0x0500 + gotN gs 1) (writesFrame 0x100 shfFlds gs)) ?_ rfl
    simp only [cmdShfContextSet, hj, orElse_none]
  · -- SHF_CONTEXT_GET
    exact reads_of_items (fun _ _ => rfl) fun _ _ _ => rfl
  · -- SHF_CONTEXT_START
    intro c gs s f v h hstart hn
    refine runs_command rfl ⟨?_, shfStart_starts hstart hn⟩
    refine runCommand_ok h (items := [itemN 0x4001 4 f.toNat]) (commits := []) ?_
    simp only [cmdShfContextStart, hstart, Ans.items]
  · -- SHF_CONTEXT_STOP with AT_FRAME
    intro c gs s f h hf hr hs ha
    refine runs_accepted rfl h (its := [itemN 0x4001 4 (f - 1).toNat]) (cs := []) ?_ rfl
    simp only [cmdShfContextStop, hf, hr, hs, ha]
    rfl
  · -- SHF_CONTEXT_STOP of a context that does not run
    exact fun c gs s h hr => runs_accepted rfl h (shfContextStop_stopped hr c) rfl
  · -- SHF_POOL_SET
    rintro c gs s ks h rfl hr
    refine runs_accepted rfl h (its := [itemN 0x4001 2 (((gotAll gs 1).map poolClassOf).map (·.count)).sum]) (cs := []) ?_ rfl
    simp only [cmdShfPoolSet, hr, Bool.and_false, Bool.false_eq_true, if_false, Ans.items]
  · -- SHF_MOTION_SET
    exact does_of_run (fun _ _ => rfl) fun _ _ _ => ⟨_, [], rfl, List.append_nil _⟩
  · -- SHF_LADDER_SET
    exact does_of_run (fun _ _ => rfl) fun _ _ _ => ⟨[], _, rfl, rfl⟩
  · -- SHF_IRAP_REQUEST with LADDER_ALL
    intro c gs s h h1
    exact runs_accepted rfl h (cs := [s.nextCommit 0x0530]) (if_pos h1) rfl
  · -- SHF_IRAP_REQUEST
    intro c gs s h h0 h1
    refine runs_accepted rfl h (its := [itemN 0x4001 4 (s.frameOr gs 3).toNat]) (cs := []) ?_ rfl
    simp only [cmdShfIrapRequest, h0, h1]
    rfl
  · -- SHF_STATUS_GET
    exact reads_of_items (fun _ _ => rfl) fun _ _ _ => rfl
  · -- SHF_COUNTERS_CLEAR
    exact does_of_done (fun _ _ => rfl) fun _ _ _ => rfl

end Sys2Proof

/-! # Lanes and lane ports: what an update of one leaves of the others -/

namespace Sys2Proof.Machine

/-- A change at an index, read back there. -/
theorem modAt_getD_same {α : Type} {l : List α} {i : Nat} (h : i < l.length) (f : α → α) (d : α) :
    (modAt l i f).getD i d = f (l.getD i d) := by
  simp only [List.getD_eq_getElem?_getD, modAt_same, List.getElem?_eq_getElem h, Option.map_some, Option.getD_some]

/-- A change at one index leaves every other. -/
theorem modAt_getD_other {α : Type} {i j : Nat} (h : j ≠ i) (f : α → α) (l : List α) (d : α) :
    (modAt l i f).getD j d = l.getD j d := by
  simp only [List.getD_eq_getElem?_getD, modAt_other l f h.symm]

/-- Two changes at an index are one. -/
theorem modAt_modAt {α : Type} (l : List α) (i : Nat) (f g : α → α) : modAt (modAt l i f) i g = modAt l i fun x => g (f x) :=
  List.modify_modify_eq ..

/-- A change that keeps the element it meets keeps the list. -/
theorem modAt_fixed {α : Type} {l : List α} {i : Nat} {f : α → α} (h : ∀ x, l[i]? = some x → f x = x) : modAt l i f = l := by
  refine List.ext_getElem? fun j => ?_
  rw [modAt_getElem?]
  split
  · next hij =>
    subst hij
    cases hx : l[i]? with
    | none => rfl
    | some x => exact congrArg some (h x hx)
  · rfl

section Lanes
variable {s : State} {ln : Nat}

theorem lane_onLane (h : ln < s.lanes.lanes.length) (f : Lane → Lane) : (s.onLane ln f).lane ln = f (s.lane ln) :=
  modAt_getD_same h ..

theorem lane_onLane_other {k : Nat} (h : k ≠ ln) (f : Lane → Lane) (s : State) : (s.onLane ln f).lane k = s.lane k :=
  modAt_getD_other h ..

theorem onLane_onLane (f g : Lane → Lane) (s : State) : (s.onLane ln f).onLane ln g = s.onLane ln fun l => g (f l) := by
  simp only [State.onLane, State.onLanes, modAt_modAt]

@[simp] theorem onLane_length (f : Lane → Lane) : (s.onLane ln f).lanes.lanes.length = s.lanes.lanes.length := modAt_length ..
@[simp] theorem lane_onLanePort (k p : Nat) (f : LanePort → LanePort) : (s.onLanePort p f).lane k = s.lane k := rfl

@[simp] theorem lane_faultLog (k code unit data : Nat) : (s.faultLog code unit data).lane k = s.lane k := by
  rw [State.lane, faultLog_lanes, State.lane]

theorem lanePort_onLanePort {p : Nat} (h : p < s.lanes.ports.length) (f : LanePort → LanePort) :
    (s.onLanePort p f).lanePort p = f (s.lanePort p) := modAt_getD_same h ..

/-- Only a lane that exists has left DISABLED. -/
theorem lane_exists (h : (s.lane ln).phase ≠ .disabled) : ln < s.lanes.lanes.length := by
  refine Nat.lt_of_not_le fun hn => h ?_
  rw [State.lane, List.getD_eq_getElem?_getD, List.getElem?_eq_none hn]
  rfl

/-- The lanes of the Tabsout ports follow those of the sensor ports (R82). -/
theorem two_le_portOf (h : 64 ≤ ln) (s : State) : 2 ≤ s.portOf ln := by
  rw [State.portOf, if_neg (by omega), if_neg (by omega)]
  omega

theorem transmits_sensor (h : ln < 64) : transmits ln = false := by
  rw [transmits, decide_eq_false (by omega), Bool.false_and]

end Lanes

end Sys2Proof.Machine

/-! # Bring-up of a lane -/

namespace Sys2Proof.Machine

section BringUp
variable {s : State} {ln : Nat}

/-- A lane that senses the termination starts training, but on a port held after failed exchanges (R85, R114). -/
theorem receiverDetected_trains (hd : (s.lane ln).phase = .detect)
    (hp : s.portOf ln < 2 → (s.unit (s.portOf ln)).portState ≠ 4) : receiverDetected ln s = s.startTrain ln := by
  refine if_neg ?_
  simpa only [hd, bne_self_eq_false, Bool.false_or, Bool.and_eq_true, decide_eq_true_eq, beq_iff_eq, not_and] using hp

/-- A transmitting lane only waits in TRAIN. -/
theorem startTrain_transmits (h : transmits ln = true) (s : State) : s.startTrain ln =
    s.onLane ln fun l => { l with phase := .train, locked := false, failCause := .none, search := none } := if_pos h

/-- The setting that a lane's training asks for first (R91, R92). -/
def firstTaps (c : LaneConfig) : Taps := if c.tapMode = 1 then ⟨c.fixedPre, c.fixedMain, c.fixedPost⟩ else ⟨0, 63, 0⟩

/-- A receiving lane asks for its first setting, and its search stands there. -/
theorem startTrain_asks (h : transmits ln = false) (s : State) : ∃ r : Search,
    r.cur = firstTaps (s.lanePort (s.portOf ln)).cfg ∧ s.startTrain ln = (s.onLane ln fun l =>
      { l with phase := .train, locked := false, failCause := .none, search := some r }).askTaps ln
        (firstTaps (s.lanePort (s.portOf ln)).cfg) := by
  by_cases h1 : (s.lanePort (s.portOf ln)).cfg.tapMode = 1
  · refine ⟨{ cur := firstTaps (s.lanePort (s.portOf ln)).cfg, todo := [], step := .finalAsked false }, rfl, ?_⟩
    simp only [State.startTrain, h, h1, firstTaps, if_true, Bool.false_eq_true, if_false, onLane_onLane]
  · refine ⟨{ cur := ⟨0, 63, 0⟩, todo := presets.tail, tried := 1 }, (if_neg h1).symm, ?_⟩
    simp only [State.startTrain, firstTaps, h, h1, Bool.false_eq_true, if_false, State.searchOn, Search.next, presets,
      List.tail_cons, onLane_onLane, if_true, Nat.zero_add]

/-- A training set whose CHECK does not hold is ignored (R88). -/
theorem trainingSetReceived_bad_check {sy : List Byte}
    (h : (crc16 ((sy.drop 1).take 13)).toNat ≠ (sy.getD 14 0).toNat * 256 + (sy.getD 15 0).toNat) :
    trainingSetReceived ln sy s = s := by
  unfold trainingSetReceived
  dsimp only
  split
  · rfl
  · rw [if_pos (.inr h)]

/-- A training set on a sensor port's lane only reports the far transmitter's setting (R88). -/
theorem trainingSetReceived_sensor {sy : List Byte} (hln : ln < 64) (hlen : sy.length = 16) (h0 : (sy.getD 0 0).toNat = 0xBC)
    (hc : (crc16 ((sy.drop 1).take 13)).toNat = (sy.getD 14 0).toNat * 256 + (sy.getD 15 0).toNat) :
    trainingSetReceived ln sy s = s.tapsAnswered ln
      ⟨(sy.getD 7 0).toNat % 64, (sy.getD 8 0).toNat % 64, (sy.getD 9 0).toNat % 64⟩ ((sy.getD 3 0).toNat.testBit 1) := by
  have h80 : (decide (80 ≤ ln) || transmits ln || decide (sy.length ≠ 16)) = false := by
    simp only [transmits_sensor hln, hlen, ne_eq, not_true_eq_false, decide_false, Bool.or_false, decide_eq_false_iff_not]
    omega
  simp only [trainingSetReceived, h80, h0, hc, hln, Bool.false_eq_true, ne_eq, not_true_eq_false, or_self, if_false, if_true]

/-- The far transmitter applies the setting asked for: its measurement starts (R91). -/
theorem tapsAnswered_applied {r : Search} {b : Bool} (hp : (s.lane ln).phase = .train) (hr : (s.lane ln).search = some r)
    (hs : r.step = .asked b) : s.tapsAnswered ln r.cur false = s.onLane ln fun l =>
      { l with farTaps := r.cur, search := some { r with step := .measuring } } := by
  have hln : ln < s.lanes.lanes.length := lane_exists (by rw [hp]; decide)
  simp only [State.tapsAnswered, lane_onLane hln, hp, hr, hs, onLane_onLane, Bool.false_eq_true, if_false, if_true]

theorem tapRequestTimeout_first {r : Search} (hp : (s.lane ln).phase = .train) (hr : (s.lane ln).search = some r)
    (hs : r.step = .asked false) : tapRequestTimeout ln s = (s.onLane ln fun l =>
      { l with search := some { r with step := .asked true } }).askTaps ln r.cur := by
  simp only [tapRequestTimeout, hp, hr, hs]

theorem eqMeasureDone_final {r : Search} (hp : (s.lane ln).phase = .train) (hr : (s.lane ln).search = some r)
    (hs : r.step = .finalMeasuring) (n : Nat) : eqMeasureDone ln n s = (s.onLane ln fun l =>
      { l with fom := fomOf n, search := some { r with step := .prbs } }).askPrbs ln := by
  simp only [eqMeasureDone, hp, hr, hs]

/-- A run without errors at FOM_MIN or above: the lane enters LOCK with its setting stored (R92, R93). -/
theorem prbsRunDone_good {r : Search} (hp : (s.lane ln).phase = .train) (hr : (s.lane ln).search = some r) (hs : r.step = .prbs)
    (hf : (s.lanePort (s.portOf ln)).cfg.fomMin ≤ (s.lane ln).fom) : prbsRunDone ln 0 s = s.onLane ln fun l =>
      { l with
        phase := .lock, locked := false, search := none, stored := l.taps, storedFom := l.fom, cnt := addAt l.cnt 5 0 } := by
  simp only [prbsRunDone, hp, hr, hs, Option.map_some, ne_eq, not_true_eq_false, if_false, if_neg (Nat.not_lt.mpr hf),
    State.countLane, onLane_onLane]

theorem prbsRunDone_loop (hp : (s.lane ln).phase = .loop) (hl : (s.lanePort (s.portOf ln)).cfg.loopMode = 1) (n : Nat) :
    prbsRunDone ln n s = s.countLane ln 5 n := by
  simp only [prbsRunDone, hp, hl, true_or, if_true]

end BringUp

end Sys2Proof.Machine

namespace Sys2Proof

open Machine

/-- Settles O20: each event's equation for the case that the clause describes. -/
theorem laneTrainingEvents : Obligations.LaneTrainingEvents := by
  unfold Obligations.LaneTrainingEvents
  refine ⟨?_, ?_, ?_, ?_, ?_, ?_, ?_, ?_, ?_⟩
  · -- LANE_DETECT_RETRY
    intro s ln hd ht
    exact runs_event rfl (if_pos (by rw [hd, ht]; rfl))
  · -- RECEIVER_DETECTED on a transmitting lane
    intro s ln hd h64 ht
    have htrain := receiverDetected_trains hd fun h => absurd h (Nat.not_lt.mpr (two_le_portOf h64 s))
    exact runs_event rfl (htrain.trans (startTrain_transmits ht s))
  · -- RECEIVER_DETECTED on a sensor lane
    rintro s ln t hd h64 h4 rfl
    obtain ⟨r, hcur, hstart⟩ := startTrain_asks (transmits_sensor h64) s
    refine runs_event rfl ⟨_, (receiverDetected_trains hd fun _ => h4).trans hstart, rfl,
      fun k hk => lane_onLane_other hk .., fun hln => ?_⟩
    rw [lane_onLane hln]
    exact ⟨rfl, congrArg some hcur⟩
  · -- TRAINING_SET_RECEIVED failing CHECK
    exact fun s ln sy _ hc => runs_event rfl (trainingSetReceived_bad_check hc)
  · -- TRAINING_SET_RECEIVED reporting the setting asked for
    intro s ln sy r b h64 hlen h0 hc hrej hcur _ hp hr hs
    refine runs_event rfl ?_
    rw [trainingSetReceived_sensor h64 hlen h0 hc, hrej, ← hcur]
    exact tapsAnswered_applied hp hr hs
  · -- TAP_REQUEST_TIMEOUT
    exact fun s ln r hp hr hs => runs_event rfl (tapRequestTimeout_first hp hr hs)
  · -- EQ_MEASURE_DONE
    exact fun s ln n r hp hr hs => runs_event rfl (eqMeasureDone_final hp hr hs n)
  · -- PRBS_RUN_DONE without errors
    intro s ln r hp hr hs hf hln
    refine runs_event rfl ?_
    rw [prbsRunDone_good hp hr hs hf, lane_onLane hln]
    exact ⟨rfl, rfl, rfl, fun k hk => lane_onLane_other hk .., rfl⟩
  · -- PRBS_RUN_DONE in LOOP
    exact fun s ln n hp hl => runs_event rfl (prbsRunDone_loop hp hl n)

end Sys2Proof

/-! # Lanes that lock, fail, retrain and are taken over -/

namespace Sys2Proof.Machine

section LaneStates
variable {s : State} {ln : Nat}

/-- A failed bring-up of a lane that carries no logical lane changes that lane alone (R85, R87). -/
theorem failBringUp_plain (h : (s.lane ln).role ≠ 1) (c : FailCause) : s.failBringUp ln c = s.onLane ln fun l =>
    { l with phase := .failed, failCause := c, search := none, locked := false, cnt := addAt l.cnt 4 1, fails := l.fails + 1 } := by
  simp only [State.failBringUp, h, not_false_eq_true, if_true, State.failLane, State.countLane, onLane_onLane, ne_eq]

/-- A spare that locks within 64 UI waits in STANDBY (R85, R86). -/
theorem symbolLockAcquired_spare {k : Nat} (hp : (s.lane ln).phase = .lock) (hr : (s.lane ln).role ≠ 1) (hk : k ≤ 64) :
    symbolLockAcquired ln k s = s.onLane ln fun l =>
      { l with phase := .standby, role := 2, locked := false, skew := k, storedSkew := k, fails := 0, failCause := .none } := by
  simp only [symbolLockAcquired, hp, hr, Nat.not_lt.mpr hk, ne_eq, not_true_eq_false, if_false, onLane_onLane]

theorem symbolLockAcquired_skewed {k : Nat} (hp : (s.lane ln).phase = .lock) (hk : 64 < k) :
    symbolLockAcquired ln k s = s.failBringUp ln .skew := by
  simp only [symbolLockAcquired, hp, hk, ne_eq, not_true_eq_false, if_false, if_true]

theorem laneStateTimeout_train (hp : (s.lane ln).phase = .train) : laneStateTimeout ln s = s.failBringUp ln .train := by
  simp only [laneStateTimeout, hp]

theorem laneStateTimeout_lock (hp : (s.lane ln).phase = .lock) : laneStateTimeout ln s = s.failBringUp ln .lock := by
  simp only [laneStateTimeout, hp]

/-- A lane that has failed fewer than three times in a row starts a full retrain (R85). -/
theorem failedLaneRetrain_restarts (hp : (s.lane ln).phase = .failed) (hf : (s.lane ln).fails < 3) :
    failedLaneRetrain ln s = s.onLane ln fun l =>
      { l with phase := .detect, locked := false, search := none, cnt := addAt l.cnt 3 1 } := by
  rw [failedLaneRetrain, if_pos (by simp only [hp, hf, BEq.rfl, decide_true, Bool.and_self]), State.countLane, onLane_onLane]

theorem failedLaneRetrain_not_failed (hp : (s.lane ln).phase ≠ .failed) : failedLaneRetrain ln s = s :=
  if_neg (by simp only [beq_eq_false_iff_ne.mpr hp, Bool.false_and, Bool.false_eq_true, not_false_eq_true])

/-- Fewer violations than ERR_LIMIT, with symbol lock kept, are only counted (R94). -/
theorem laneFault_below_limit {n : Nat} (h : n < (s.lanePort (s.portOf ln)).cfg.errLimit) :
    laneFault ln false n s = s.countLane ln 0 n :=
  if_neg (by simp only [Bool.false_or, Bool.and_eq_true, decide_eq_true_eq, not_and, Nat.not_le.mpr h, not_false_eq_true,
    implies_true])

/-- A loss of symbol lock puts an ACTIVE lane into a fast retrain (R94). -/
theorem laneFault_lockLost (hp : (s.lane ln).phase = .active) (n : Nat) :
    laneFault ln true n s = ((s.countLane ln 0 n).countLane ln 1 1).startFast ln :=
  if_pos (by simp only [hp, BEq.rfl, Bool.true_or, Bool.and_self])

/-- A fast retrain with lock and FOM_MIN returns the lane to the state it left (R95). -/
theorem fastRetrainDone_good {n : Nat} (hp : (s.lane ln).phase = .retrain)
    (hf : (s.lanePort (s.portOf ln)).cfg.fomMin ≤ fomOf n) : fastRetrainDone ln true n s = s.onLane ln fun l =>
      { l with
        phase := l.back, fom := fomOf n, taps := l.stored, storedFom := fomOf n, skew := l.storedSkew
        failCause := .none } := by
  simp only [fastRetrainDone, hp, hf, ne_eq, not_true_eq_false, if_false, decide_true, Bool.and_self, if_true]

theorem fastRetrain_starts (hp : (s.lane ln).phase = .active ∨ (s.lane ln).phase = .standby) :
    fastRetrain ln s = s.startFast ln :=
  if_pos (by simpa only [Bool.or_eq_true, beq_iff_eq] using hp)

theorem fastRetrain_ignored (ha : (s.lane ln).phase ≠ .active) (hs : (s.lane ln).phase ≠ .standby) : fastRetrain ln s = s :=
  if_neg (by simp only [Bool.or_eq_true, beq_iff_eq, ha, hs, or_self, not_false_eq_true])

/-- A full retrain of a Tabsout lane changes that lane alone (R101). -/
theorem fullRetrain_tabsout (h64 : 64 ≤ ln) (hd : (s.lane ln).phase ≠ .disabled) (hl : (s.lane ln).phase ≠ .loop) :
    fullRetrain ln s = s.onLane ln fun l =>
      { l with
        phase := .detect, locked := false, search := none, fails := 0, failCause := .none, cnt := addAt l.cnt 3 1 } := by
  have hp : 2 ≤ s.portOf ln := two_le_portOf h64 s
  have hno : ¬ s.portOf ln < 2 := Nat.not_lt.mpr hp
  simp only [fullRetrain, beq_eq_false_iff_ne.mpr hd, beq_eq_false_iff_ne.mpr hl, Bool.or_self, Bool.false_eq_true, if_false,
    hp, if_true, State.portDown, hno, false_and, ite_self, State.countLane, onLane_onLane]

end LaneStates

/-! ## Takeovers (R96) -/

section Takeovers
variable {s : State} {p : Nat}

/-- A port whose takeovers are done: the map that it asked for is in use, and they are counted (R96). -/
def LanePort.takeoversDone (map : List Nat) (q : LanePort) : LanePort :=
  { q with map := if q.takeovers.isEmpty then q.map else map
           takeovers := [], cntTakeover := q.cntTakeover + BitVec.ofNat 32 q.takeovers.length }

theorem takeoversDone_none {q : LanePort} (h : q.takeovers = []) (map : List Nat) : q.takeoversDone map = q := by
  cases q
  cases h
  exact congrArg (LanePort.mk _ _ · _ _ _ _) (BitVec.add_zero _)

/-- K28.4 without a takeover that waits changes nothing. -/
theorem k284Received_idle (h : (s.lanePort p).takeovers = []) : k284Received p s = s := by
  simp only [k284Received, h, List.foldl_nil]
  refine congrArg (fun ps => { s with lanes := { s.lanes with ports := ps } }) (modAt_fixed fun q hq => ?_)
  refine takeoversDone_none ?_ (s.wantedMap p)
  rwa [State.lanePort, List.getD_eq_getElem?_getD, hq] at h

/-- One takeover: the spare carries the logical lane of the lane that it relieves. -/
theorem k284Received_one {a b : Nat} (hab : a ≠ b) (ha : a < s.lanes.lanes.length) (hb : b < s.lanes.lanes.length)
    (hp : p < s.lanes.ports.length) (h : (s.lanePort p).takeovers = [(a, b)]) :
    (k284Received p s).lane b = { s.lane b with phase := .active, role := 1, logical := (s.lane a).logical } ∧
    (k284Received p s).lane a = { s.lane a with role := 3 } ∧
    (k284Received p s).lanePort p = (s.lanePort p).takeoversDone (s.wantedMap p) := by
  simp only [k284Received, h, List.foldl_cons, List.foldl_nil]
  refine ⟨?_, ?_, ?_⟩
  · rw [lane_onLanePort, lane_faultLog, lane_onLane_other hab.symm, lane_onLane hb]
  · rw [lane_onLanePort, lane_faultLog, lane_onLane (by rwa [onLane_length]), lane_onLane_other hab]
  · rw [lanePort_onLanePort (by rwa [faultLog_lanes]), State.lanePort, faultLog_lanes]
    rfl

end Takeovers
end Sys2Proof.Machine

namespace Sys2Proof

open Machine

/-- Settles O21: each event's equation for the case that the clause describes. -/
theorem laneStateEvents : Obligations.LaneStateEvents := by
  unfold Obligations.LaneStateEvents
  refine ⟨?_, ?_, ?_, ?_, ?_, ?_, ?_, ?_, ?_, ?_, ?_, ?_, ?_, ?_⟩
  · -- SYMBOL_LOCK_ACQUIRED on a spare
    intro s ln k hln hp hr hk
    refine runs_event rfl ?_
    rw [symbolLockAcquired_spare hp hr hk, lane_onLane hln]
    exact ⟨rfl, rfl, rfl, fun m hm => lane_onLane_other hm .., rfl⟩
  · -- SYMBOL_LOCK_ACQUIRED with too much skew
    intro s ln k hln hp hr hk
    refine runs_event rfl ?_
    rw [symbolLockAcquired_skewed hp hk, failBringUp_plain hr, lane_onLane hln]
    exact ⟨rfl, rfl, rfl, fun m hm => lane_onLane_other hm ..⟩
  · -- LANE_STATE_TIMEOUT in TRAIN
    intro s ln hln hp hr
    refine runs_event rfl ?_
    rw [laneStateTimeout_train hp, failBringUp_plain hr, lane_onLane hln]
    exact ⟨rfl, rfl, addAt_same .., fun m hm => lane_onLane_other hm ..⟩
  · -- LANE_STATE_TIMEOUT in LOCK
    intro s ln hln hp hr
    refine runs_event rfl ?_
    rw [laneStateTimeout_lock hp, failBringUp_plain hr, lane_onLane hln]
    exact ⟨rfl, rfl, fun m hm => lane_onLane_other hm ..⟩
  · -- FAILED_LANE_RETRAIN
    exact fun s ln hp hf => runs_event rfl (failedLaneRetrain_restarts hp hf)
  · -- LANE_FAULT below ERR_LIMIT
    exact fun s ln n h => runs_event rfl (laneFault_below_limit h)
  · -- LANE_FAULT with a loss of symbol lock
    exact fun s ln n hp => runs_event rfl (laneFault_lockLost hp n)
  · -- FAST_RETRAIN_DONE
    intro s ln n hln hp hf
    refine runs_event rfl ?_
    rw [fastRetrainDone_good hp hf, lane_onLane hln]
    exact ⟨rfl, rfl, rfl, fun m hm => lane_onLane_other hm ..⟩
  · -- K28_4_RECEIVED without a takeover
    intro s p h
    refine runs_event rfl ?_
    rw [k284Received_idle h]
    exact ⟨rfl, rfl⟩
  · -- K28_4_RECEIVED with a takeover
    intro s p a b hab ha hb hp h
    refine runs_event rfl ?_
    obtain ⟨hspare, hfailed, hport⟩ := k284Received_one hab ha hb hp h
    rw [hspare, hfailed, hport]
    exact ⟨rfl, rfl, rfl, rfl, rfl, by rw [LanePort.takeoversDone, h]; rfl⟩
  · -- FULL_RETRAIN
    intro s ln h64 hd hl
    refine runs_event rfl ?_
    rw [fullRetrain_tabsout h64 hd hl]
    refine ⟨fun hln => ?_, fun m hm => lane_onLane_other hm ..⟩
    rw [lane_onLane hln]
    exact ⟨rfl, rfl, addAt_same ..⟩
  · -- FAST_RETRAIN
    exact fun s ln hp => runs_event rfl (fastRetrain_starts (.inr hp))
  · -- FAST_RETRAIN and FAILED_LANE_RETRAIN in other states
    exact fun s ln ha hs => ⟨runs_event rfl (fastRetrain_ignored ha hs),
      fun hf => runs_event rfl (failedLaneRetrain_not_failed hf)⟩
  · -- LANE_CTRL.CNT_CLEAR
    exact fun s ln => runs_event rfl rfl

end Sys2Proof

/-! # The sideband of a sensor port -/

namespace Sys2Proof.Machine

section Sideband
variable {s : State} {p : Nat}

theorem unit_onUnit (h : p < s.intake.units.length) (f : IntakeUnit → IntakeUnit) : (s.onUnit p f).unit p = f (s.unit p) :=
  modAt_getD_same h ..

theorem onUnit_onUnit (f g : IntakeUnit → IntakeUnit) (s : State) : (s.onUnit p f).onUnit p g = s.onUnit p fun u => g (f u) := by
  simp only [State.onUnit, State.onIntake, modAt_modAt]

/-- Only a port that exists has a request outstanding. -/
theorem unit_exists {r : SbRequest} (h : (s.unit p).sbOut = some r) : p < s.intake.units.length := by
  refine Nat.lt_of_not_le fun hn => ?_
  rw [State.unit, List.getD_eq_getElem?_getD, List.getElem?_eq_none hn] at h
  cases h

/-- With a request outstanding nothing more goes out (R113). -/
theorem sbPump_busy {r : SbRequest} (h : (s.unit p).sbOut = some r) : s.sbPump p = s :=
  if_pos (by rw [h]; rfl)

/-- With nothing waiting nothing goes out. -/
theorem sbPump_empty (h : (s.unit p).sbQueue = []) : s.sbPump p = s := by
  have hn : nextAsk (s.unit p).sbQueue = none := by rw [h]; rfl
  simp only [State.sbPump, hn, ite_self]

/-- The pair is free, and the sensor has answered. -/
def State.sbFreed (p : Nat) (s : State) : State := s.onUnit p fun u => { u with sbOut := none, answering := true }

theorem sbPump_sbFreed {r : SbRequest} (ho : (s.unit p).sbOut = some r) (hq : (s.unit p).sbQueue = []) :
    (s.sbFreed p).sbPump p = s.sbFreed p :=
  sbPump_empty (by rw [State.sbFreed, unit_onUnit (unit_exists ho), hq])

theorem sidebandPoll_idle (hp : s.hasPort p = true) (ho : (s.unit p).sbOut = none) (hq : (s.unit p).sbQueue = []) :
    sidebandPoll p s = s.sbAsk p 0x09 .poll [] :=
  if_pos (by simp only [hp, ho, hq, Option.isNone_none, List.isEmpty_nil, Bool.and_self])

theorem sidebandGivesUp_first {r : SbRequest} (ho : (s.unit p).sbOut = some r) (hr : r.resent = false) : sidebandGivesUp p s =
    (s.onUnit p fun u => { u with sbOut := some { r with resent := true } }).send (.sideband p r.ty r.seq r.payload) := by
  simp only [sidebandGivesUp, sidebandTimeout, ho, hr, Bool.not_false, if_true]

/-- A poll that is not answered a second time only frees the pair and is counted (R113). -/
theorem sidebandGivesUp_poll {r : SbRequest} (ho : (s.unit p).sbOut = some r) (hr : r.resent = true) (ha : r.ask = .poll)
    (hq : (s.unit p).sbQueue = []) : sidebandGivesUp p s =
      s.onUnit p fun u => { u with sbOut := none, answering := false, cnt := addAt u.cnt 15 1 } := by
  simp only [sidebandGivesUp, sidebandTimeout, ho, hr, ha, Bool.not_true, Bool.false_eq_true, if_false, State.sbFailed,
    State.countUnit, onUnit_onUnit]
  exact sbPump_empty (by rw [unit_onUnit (unit_exists ho), hq])

/-! ## Replies that fail CHECK -/

section Outstanding
variable {r : SbRequest} (ho : (s.unit p).sbOut = some r)
include ho

theorem sbPump_countUnit (k n : Nat) : (s.countUnit p k n).sbPump p = s.countUnit p k n :=
  sbPump_busy (r := r) (by rw [State.countUnit, unit_onUnit (unit_exists ho), ho])

/-- A row that only counts a sideband error leaves the request outstanding. -/
theorem runs_sbError {i : Instr} {f : State → State} (hi : exec i s = .next (after f s)) (hf : f s = s.countUnit p 15 1) :
    Runs i s fun u => (u.unit p).sbOut = some r ∧ (u.unit p).cnt[15]? = ((s.unit p).cnt[15]?).map (· + 1) := by
  refine runs_event hi ?_
  rw [hf, State.countUnit, unit_onUnit (unit_exists ho)]
  exact ⟨ho, addAt_same ..⟩

end Outstanding

section BadCheck
variable {h : SbHead} (hok : h.ok = false)
include hok

theorem sbTake_bad (reply : Nat) : s.sbTake p reply h = (none, s.countUnit p 15 1) := by
  rw [State.sbTake, hok]
  rfl

theorem configAck_bad (code : Nat) : configAck p h code s = s.countUnit p 15 1 := by simp only [configAck, sbTake_bad hok]
theorem regAck_bad (code : Nat) : regAck p h code s = s.countUnit p 15 1 := by simp only [regAck, sbTake_bad hok]
theorem tapReport_bad (es : List TapEntry) : tapReport p h es s = s.countUnit p 15 1 := by
  simp only [tapReport, sbTake_bad hok]
theorem prbsAck_bad (code : Nat) : prbsAck p h code s = s.countUnit p 15 1 := by simp only [prbsAck, sbTake_bad hok]
theorem regData_bad (code : Nat) (ws : List Word) : regData p h code ws s = s.countUnit p 15 1 := by
  simp only [regData, sbTake_bad hok]
theorem alert_bad (code : Nat) (data : Word) : alert p h code data s = s.countUnit p 15 1 := by
  simp only [alert, sbTake_bad hok]

variable {r : SbRequest} (ho : (s.unit p).sbOut = some r)
include ho

theorem sbDone_bad (reply : Nat) : sbDone p reply h s = s.countUnit p 15 1 := by
  rw [sbDone, sbTake_bad hok, sbPump_countUnit ho]

theorem resendAck_bad (code : Nat) : resendAck p h code s = s.countUnit p 15 1 := by
  simp only [resendAck, sbTake_bad hok, sbPump_countUnit ho]

end BadCheck

/-! ## Replies to the outstanding request -/

section Answered
variable {h : SbHead} {r : SbRequest} (hok : h.ok = true) (ho : (s.unit p).sbOut = some r) (hseq : r.seq = h.seq)
include hok ho hseq

theorem sbTake_answers {reply : Nat} (hr : (sbReplies r.ty).contains reply = true) :
    s.sbTake p reply h = (some r, s.sbFreed p) := by
  simp only [State.sbTake, hok, ho, hseq, hr, BEq.rfl, Bool.and_self, Bool.not_true, Bool.false_eq_true, if_false, if_true]
  rfl

theorem sbDone_answers {reply : Nat} (hr : (sbReplies r.ty).contains reply = true) :
    sbDone p reply h s = (s.sbFreed p).sbPump p := by
  rw [sbDone, sbTake_answers hok ho hseq hr]

theorem resendAck_willSend (ht : r.ty = 0x06) : resendAck p h 0 s = (s.sbFreed p).sbPump p := by
  rw [resendAck, sbTake_answers hok ho hseq (by rw [ht]; rfl)]
  dsimp only
  split <;> rfl

theorem resendAck_notHeld (ht : r.ty = 0x06) {fr : Frame} {row e : Nat} (ha : r.ask = .resend fr row e) :
    resendAck p h 1 s = ((s.sbFreed p).giveUp p fr row e).sbPump p := by
  rw [resendAck, sbTake_answers hok ho hseq (by rw [ht]; rfl)]
  simp only [ha, Nat.one_ne_zero, if_false]

theorem prbsAck_accepted (ht : r.ty = 0x0B) : prbsAck p h 0 s = (s.sbFreed p).sbPump p := by
  simp only [prbsAck, sbTake_answers hok ho hseq (reply := 0x8C) (by rw [ht]; rfl), if_true]

theorem prbsAck_refused (ht : r.ty = 0x0B) {k : Nat} (ha : r.ask = .prbs [k]) :
    prbsAck p h 1 s = ((s.sbFreed p).failBringUp (macroOf p k) .prbs).sbPump p := by
  simp only [prbsAck, sbTake_answers hok ho hseq (reply := 0x8C) (by rw [ht]; rfl), ha, Nat.one_ne_zero, if_false,
    List.foldl_cons, List.foldl_nil]

theorem tapReport_one (ht : r.ty = 0x03) {e : TapEntry} (ha : r.ask = .taps [e.lane]) : tapReport p h [e] s =
    ((s.sbFreed p).tapsAnswered (macroOf p e.lane) { pre := e.pre, main := e.main, post := e.post } e.reject).sbPump p := by
  simp only [tapReport, sbTake_answers hok ho hseq (reply := 0x83) (by rw [ht]; rfl), ha, List.foldl_cons, List.foldl_nil,
    List.contains_cons, BEq.rfl, Bool.true_or, if_true]

theorem regAck_write (ht : r.ty = 0x07) {id : Nat} (ha : r.ask = .regWrite id) (code : Nat) : regAck p h code s =
    (complete (.sensor id) (if code = 0 then stOk else stSensorNak) [] (s.sbFreed p)).sbPump p := by
  simp only [regAck, sbTake_answers hok ho hseq (reply := 0x87) (by rw [ht]; rfl), ha]

theorem regData_read (ht : r.ty = 0x08) {id : Nat} (ha : r.ask = .regRead id) (ws : List Word) : regData p h 0 ws s =
    (complete (.sensor id) stOk (ws.map fun (w : Word) => itemN 0x4001 4 w.toNat) (s.sbFreed p)).sbPump p := by
  simp only [regData, sbTake_answers hok ho hseq (reply := 0x88) (by rw [ht]; rfl), ha, if_true]

/-- Capabilities of version 2 are taken, and LINK_CONFIG goes out if the port's needs lie within them (R114). -/
theorem capReply_version2 (ht : r.ty = 0x01) {cap : SensorCap} (hv : cap.version / 256 = 2) {v : State}
    (hs : v = ((s.sbFreed p).onUnit p fun u => { u with cap := some cap, version := cap.version }).onLanePort p fun l =>
      { l with spareCapable := cap.flags.testBit 0, loopCapable := cap.flags.testBit 1 }) :
    capReply p h cap s = if v.capable p cap then v.sbAsk p 0x02 .linkConfig (v.linkConfigBytes p)
      else (v.exchangeFailed p 2).sbPump p := by
  have hbad : ¬ (cap.version = 0 ∨ cap.version / 256 ≠ 2) := by omega
  simp only [capReply, sbTake_answers hok ho hseq (reply := 0x81) (by rw [ht]; rfl), ← hs, hbad, if_false]
  cases v.capable p cap <;> rfl

theorem configAck_accepted (ht : r.ty = 0x02) : configAck p h 0 s =
    (((((s.sbFreed p).portToActive p).onUnit p fun u => { u with portState := 3, exchangeFails := 0 }).portUpNotice p).sbPump
      p) := by
  simp only [configAck, sbTake_answers hok ho hseq (reply := 0x82) (by rw [ht]; rfl), ne_eq, not_true_eq_false, if_false]

theorem alert_noticed (ht : r.ty = 0x09) (code : Nat) (data : Word) : alert p h code data s =
    ((s.sbFreed p).noticeOn 0x0285 [itemN 1 1 p, itemN 2 2 code, itemN 3 4 data.toNat] (p == 1)).sbPump p := by
  simp only [alert, sbTake_answers hok ho hseq (reply := 0x8A) (by rw [ht]; rfl)]

end Answered

end Sideband

end Sys2Proof.Machine

namespace Sys2Proof

open Machine

/-- Settles O23: each row's equation for the reply that the clause describes. -/
theorem sidebandEvents : Obligations.SidebandEvents := by
  unfold Obligations.SidebandEvents
  refine ⟨?_, ?_, ?_, ?_, ?_, ?_⟩
  · -- SIDEBAND_POLL
    exact fun s p hp ho hq => runs_event rfl (sidebandPoll_idle hp ho hq)
  · -- SIDEBAND_TIMEOUT: the first silence
    exact fun s p r ho hr => runs_event rfl (sidebandGivesUp_first ho hr)
  · -- SIDEBAND_TIMEOUT: the second silence
    exact fun s p r ho hr ha hq => runs_event rfl (sidebandGivesUp_poll ho hr ha hq)
  · -- replies that fail CHECK
    intro s p h r i hok ho hi
    simp only [List.mem_cons, List.not_mem_nil, or_false] at hi
    rcases hi with rfl | rfl | rfl | rfl | rfl | rfl | rfl | rfl | rfl | rfl | rfl
    · exact runs_sbError ho rfl (sbDone_bad hok ho 0x84)
    · exact runs_sbError ho rfl (sbDone_bad hok ho 0x85)
    · exact runs_sbError ho rfl (sbDone_bad hok ho 0x8B)
    · exact runs_sbError ho rfl (sbDone_bad hok ho 0x89)
    · exact runs_sbError ho rfl (configAck_bad hok 0)
    · exact runs_sbError ho rfl (regAck_bad hok 0)
    · exact runs_sbError ho rfl (tapReport_bad hok [])
    · exact runs_sbError ho rfl (prbsAck_bad hok 0)
    · exact runs_sbError ho rfl (resendAck_bad hok ho 0)
    · exact runs_sbError ho rfl (regData_bad hok 0 [])
    · exact runs_sbError ho rfl (alert_bad hok 0 0)
  · -- replies that only free the pair
    rintro s p h r hok ho hseq hq t rfl
    have hfree := sbPump_sbFreed ho hq
    have hdone {k : Nat} (hr : (sbReplies r.ty).contains k = true) : sbDone p k h s = s.sbFreed p :=
      (sbDone_answers hok ho hseq hr).trans hfree
    refine ⟨fun ht => ?_, fun ht => ?_, fun ht => ?_, fun ht => ?_, fun ht => ?_, fun ht => ?_⟩
    · exact runs_event rfl (hdone (by rw [ht]; rfl))
    · exact runs_event rfl (hdone (by rw [ht]; rfl))
    · exact runs_event rfl (hdone (by rw [ht]; rfl))
    · exact runs_event rfl (hdone (by rw [ht]; rfl))
    · exact runs_event rfl ((resendAck_willSend hok ho hseq ht).trans hfree)
    · exact runs_event rfl ((prbsAck_accepted hok ho hseq ht).trans hfree)
  · -- replies that carry an answer
    rintro s p h r hok ho hseq t rfl
    refine ⟨?_, ?_, ?_, ?_, ?_, ?_, ?_, ?_, ?_⟩
    · exact fun e ht ha => runs_event rfl (tapReport_one hok ho hseq ht ha)
    · exact fun k ht ha => runs_event rfl (prbsAck_refused hok ho hseq ht ha)
    · exact fun fr row e ht ha => runs_event rfl (resendAck_notHeld hok ho hseq ht ha)
    · exact fun id ht ha => runs_event rfl (regAck_write hok ho hseq ht ha 0)
    · exact fun id ht ha => runs_event rfl (regAck_write hok ho hseq ht ha 1)
    · exact fun id ws ht ha => runs_event rfl (regData_read hok ho hseq ht ha ws)
    · exact fun cap v ht hv hs => runs_event rfl (capReply_version2 hok ho hseq ht hv hs)
    · exact fun ht => runs_event rfl (configAck_accepted hok ho hseq ht)
    · exact fun code data ht => runs_event rfl (alert_noticed hok ho hseq ht code data)

end Sys2Proof

/-! # Runs, sensor registers and status of the intake -/

namespace Sys2Proof.Machine

/-- Source 0, port A, is not source 2, Replay. -/
theorem portA_ne_replay : ¬(0 : Nat) = 2 := by decide

section IntakeRuns
variable {s : State}

/-- Port A is its own source, ganged or not (R102). -/
@[simp] theorem gangedSource_zero (s : State) : s.gangedSource 0 = 0 := rfl

/-- A start of port A, when it does not run, arms it (R126). -/
theorem intakeStart_stopped (h : (s.unit 0).running = false) :
    s.intakeStart 0 = s.onUnit 0 fun u => { u with armed := true } := by
  simp only [State.intakeStart, gangedSource_zero, h, Bool.false_and, Bool.false_eq_true, portA_ne_replay, decide_false,
    if_false]

/-- A stop of port A ends it at once when no frame is in progress (R126). -/
theorem intakeStop_between (h : (s.unit 0).inFrame = false) :
    s.intakeStop 0 = s.onUnit 0 fun u => { u with armed := false, running := false, stopping := false } := by
  simp only [State.intakeStop, gangedSource_zero, portA_ne_replay, if_false, h, Bool.and_false]

/-- A start or stop with AT_FRAME waits for that frame (R136). -/
theorem intakeTurnAt_frame {gs : List Got} {f : Frame} (h : gotF? gs 2 = some f) (start : Bool) : intakeTurnAt start gs s =
    .items [itemN 0x4001 4 f.toNat] (s.onUnit (gotN gs 1) fun u => { u with turns := u.turns ++ [(f, start)] }) := by
  simp only [intakeTurnAt, h]

/-- A start or stop without AT_FRAME acts at once and names the raster frame in progress. -/
theorem intakeTurnAt_now {gs : List Got} (h : gotF? gs 2 = none) (start : Bool) : intakeTurnAt start gs s =
    .items [itemN 0x4001 4 s.raster.frame.toNat]
      (if start then s.intakeStart (gotN gs 1) else s.intakeStop (gotN gs 1)) := by
  simp only [intakeTurnAt, h]

/-- REPLAY_SET that keeps SOURCE leaves the rings and their readers as they are (R136). -/
theorem replaySet_keeps {gs : List Got}
    (hs : (putPlain 1 replayFlds gs s.intake.replay.cfg).source = s.intake.replay.cfg.source)
    (hf : s.replayFits (putPlain 1 replayFlds gs s.intake.replay.cfg) = true) (c : Call) : cmdReplaySet.run c gs s =
      .done (s.onIntake fun i =>
        { i with replay := { i.replay with cfg := putPlain 1 replayFlds gs s.intake.replay.cfg } }) := by
  simp only [cmdReplaySet, hs, hf, refuseFirst_holds, orElse_none, if_true]

end IntakeRuns

end Sys2Proof.Machine

namespace Sys2Proof

open Machine

/-- Settles O25: each clause is the branch of the command that its hypotheses select. -/
theorem intakeRunAndStatusCommands : Obligations.IntakeRunAndStatusCommands := by
  unfold Obligations.IntakeRunAndStatusCommands
  refine ⟨?_, ?_, ?_, ?_, ?_, ?_, ?_, ?_, ?_, ?_⟩
  · -- INTAKE_START with AT_FRAME
    exact fun c gs s f h hf => runs_accepted rfl h (intakeTurnAt_frame hf true) rfl
  · -- INTAKE_START at once
    intro c gs s h hf h0 hr
    rw [← intakeStart_stopped hr]
    exact runs_accepted rfl h (h0 ▸ intakeTurnAt_now hf true) rfl
  · -- INTAKE_STOP with AT_FRAME
    exact fun c gs s f h hf => runs_accepted rfl h (intakeTurnAt_frame hf false) rfl
  · -- INTAKE_STOP at once
    intro c gs s h hf h0 hi
    rw [← intakeStop_between hi]
    exact runs_accepted rfl h (h0 ▸ intakeTurnAt_now hf false) rfl
  · -- INTAKE_SENSOR_WRITE
    exact fun c gs s h => runs_command rfl (runCommand_wait h rfl)
  · -- INTAKE_SENSOR_READ
    exact fun c gs s h => runs_command rfl (runCommand_wait h rfl)
  · -- INTAKE_STATUS_GET
    exact reads_of_items (fun _ _ => rfl) fun _ _ _ => rfl
  · -- INTAKE_COUNTERS_CLEAR of a port
    intro c gs s h hp
    refine runs_accepted rfl h (its := []) (cs := []) ?_ rfl
    simp only [cmdIntakeCountersClear, Ans.done, if_pos (Nat.ne_of_lt hp)]
  · -- REPLAY_SET that keeps SOURCE
    rintro c gs s n h rfl hs hf
    exact runs_accepted rfl h (replaySet_keeps hs hf c) rfl
  · -- REPLAY_STATUS_GET
    exact reads_of_items (fun _ _ => rfl) fun _ _ _ => rfl

end Sys2Proof

/-! # The Mill: grants, statistics records and counters -/

namespace Sys2Proof.Machine

section MillGrants
variable {s : State}

theorem ctx_onIntake (f : IntakeState → IntakeState) (k : Nat) : (s.onIntake f).ctx k = s.ctx k := rfl

theorem ctx_onUnit (p : Nat) (f : IntakeUnit → IntakeUnit) (k : Nat) : (s.onUnit p f).ctx k = s.ctx k := rfl

theorem ctx_onMill {f : MillState → MillState} (h : (f s.mill).ctxs = s.mill.ctxs) (k : Nat) : (s.onMill f).ctx k = s.ctx k :=
  congrArg (fun l : List MillContext => l.getD k {}) h

/-- Port A has the grant when it alone has a pair ready (R134). -/
theorem grantPort_a {x : Pair} {rest : List Pair} (ha : (s.unit 0).buffer = x :: rest) (hb : (s.unit 1).buffer = []) :
    s.grantPort = some 0 := by
  simp only [State.grantPort, ha, hb, List.isEmpty_cons, List.isEmpty_nil]

/-- Without a grant the Mill stays free (R134). -/
theorem millGrant_none (h : s.grantPort = none) : millGrant s = s.onMill fun m => { m with granted := 3 } := by
  simp only [millGrant, h]

theorem grantAndRender_none (h : s.grantPort = none) : grantAndRender s = s.onMill fun m => { m with granted := 3 } := by
  simp only [grantAndRender, h, millGrant_none h]

/-- `s` after pair `x` of port A, the first of `x :: rest`, has entered the Mill within its context's frame `m` (R134, R147). -/
def State.pairTaken (x : Pair) (rest : List Pair) (m : MillFrame) (s : State) : State :=
  (((s.onUnit 0 fun u => { u with buffer := rest }).onIntake fun i => { i with lastGrant := 0 }).onMill fun y =>
    { y with granted := 0, clocks := y.clocks + pairClocks x.top.length,
             heldTo := Clk.ofUnits (Clk.units s.raster.clock + (40960 * pairClocks x.top.length : Nat)) }).onCtx 0 fun c =>
    { c with taking := some { m with mark := x.mark, intakeFlags := x.flags, completed := m.completed || x.filler,
                                     rows := m.rows ++ [x.top, x.bottom], tags := m.tags ++ [x.topTags, x.bottomTags] } }

/-- A pair in the middle of its frame only joins the frame that its context is taking. -/
theorem millGrant_middle {x : Pair} {rest : List Pair} {m : MillFrame} (hg : s.grantPort = some 0)
    (ha : (s.unit 0).buffer = x :: rest) (hi : x.index ≠ 0) (hl : x.last = false) (hm : (s.ctx 0).taking = some m) :
    millGrant s = s.pairTaken x rest m := by
  simp only [millGrant, hg, ha, hi, hl, Bool.false_eq_true, if_false, portA_ne_replay, Nat.mul_one, ctx_onMill,
    ctx_onIntake, ctx_onUnit, hm]
  rfl

/-- Admission and rendering have no part in a pair in the middle of its frame. -/
theorem grantAndRender_middle {x : Pair} {rest : List Pair} {m : MillFrame} (ha : (s.unit 0).buffer = x :: rest)
    (hb : (s.unit 1).buffer = []) (hi : x.index ≠ 0) (hl : x.last = false) (hm : (s.ctx 0).taking = some m)
    (ho : s.mill.out = none) : grantAndRender s = s.pairTaken x rest m := by
  have hg := grantPort_a ha hb
  have hout : (s.pairTaken x rest m).mill.out = none := ho
  simp only [grantAndRender, hg, ha, if_neg hi, millGrant_middle hg ha hi hl hm, hout]

end MillGrants

section StatsRecords
variable {s : State} {k : Nat}

theorem statsRecordComplete_none (h : (s.ctx k).records = []) : statsRecordComplete k s = s := by
  simp only [statsRecordComplete, h]

/-- The oldest record of the context goes to its ring, and its notice follows where it is asked for (R161). -/
theorem statsRecordComplete_oldest {r : StatsRecord} {rest : List StatsRecord} (h : (s.ctx k).records = r :: rest) :
    statsRecordComplete k s =
      let p := (s.onCtx k fun c => { c with records := rest }).ringPlace r.ring r.id (0x0300 + k) r.bytes
      if r.notify then p.2.notice 0x0380 [itemN 1 1 k, itemN 2 4 r.frame.toNat, itemN 3 8 p.1, itemN 4 4 r.bytes.length]
      else p.2 := by
  simp only [statsRecordComplete, h]

end StatsRecords

section MillCounters
variable {s : State} {mask : Nat}

/-- A clear of counters of context 0 restarts PEAK (R165). -/
theorem clearMill_zero (h : mask ≠ 0) : s.clearMill 0 mask =
    (s.onCtx 0 fun c => { c with cnt := clearMasked c.cnt mask }).onMill fun m => { m with peak := m.util } :=
  if_pos ⟨rfl, h⟩

/-- A clear of another context's counters leaves PEAK as it is. -/
theorem clearMill_other {k : Nat} (h : k ≠ 0) :
    s.clearMill k mask = s.onCtx k fun c => { c with cnt := clearMasked c.cnt mask } :=
  if_neg fun hk => h hk.1

end MillCounters

end Sys2Proof.Machine

namespace Sys2Proof

open Machine

/-- Settles O26: each clause is the branch of the row that its hypotheses select. -/
theorem millEventsAndStatus : Obligations.MillEventsAndStatus := by
  unfold Obligations.MillEventsAndStatus
  refine ⟨?_, ?_, ?_, ?_, ?_, ?_, ?_, ?_, ?_, ?_, ?_⟩
  · -- MILL_GRANT with no pair ready
    exact fun s h => runs_event rfl (grantAndRender_none h)
  · -- MILL_GRANT of a pair of port A
    exact fun s x rest m ha hb hi hl hm ho => runs_event rfl (grantAndRender_middle ha hb hi hl hm ho)
  · -- STATS_RECORD_COMPLETE without a record
    exact fun s k h => runs_event rfl (statsRecordComplete_none h)
  · -- STATS_RECORD_COMPLETE
    rintro s k r rest p h rfl
    exact runs_event rfl (statsRecordComplete_oldest h)
  · -- MILL_TNR_RESET
    exact does_of_run (fun _ _ => rfl) fun _ _ _ => ⟨_, [], rfl, List.append_nil _⟩
  · -- MILL_CONFIG_GET
    exact reads_of_items (fun _ _ => rfl) fun _ _ _ => rfl
  · -- MILL_STATUS_GET
    exact reads_of_items (fun _ _ => rfl) fun _ _ _ => rfl
  · -- MILL_COUNTERS_CLEAR of context 1 or 2
    intro c gs s h hk
    rw [← clearMill_other hk]
    exact runs_accepted rfl h (its := []) (cs := []) rfl rfl
  · -- MILL_COUNTERS_CLEAR of context 0
    intro c gs s h hk hm
    rw [← clearMill_zero hm, ← hk]
    exact runs_accepted rfl h (its := []) (cs := []) rfl rfl
  · -- MIL_CTRL.CNT_CLEAR of context 0
    exact fun s => runs_event rfl (clearMill_zero (by decide))
  · -- MIL_CTRL.CNT_CLEAR of context 1 or 2
    exact fun s k h => runs_event rfl (clearMill_other h)

end Sys2Proof

/-! # Fixed-point arithmetic: rounding, saturation and what rests on them -/

namespace Sys2Proof.Machine

/-! ## Rounding and saturation (R8) -/

section Rounding
variable (n : Int) (d : Nat)

/-- Rounding takes the quotient below or above, the nearer one, and at a tie the even one. -/
theorem roundDiv_cases :
    roundDiv n d = n / d ∧ (2 * (n % d) < d ∨ 2 * (n % d) = d ∧ n / d % 2 = 0) ∨
    roundDiv n d = n / d + 1 ∧ (d < 2 * (n % d) ∨ 2 * (n % d) = d ∧ n / d % 2 ≠ 0) := by
  unfold roundDiv
  dsimp only
  split
  · next h => exact .inl ⟨rfl, .inl h⟩
  split
  · next h => exact .inr ⟨rfl, .inl h⟩
  have htie : 2 * (n % d) = d := by omega
  split
  · next h => exact .inl ⟨rfl, .inr ⟨htie, h⟩⟩
  · next h => exact .inr ⟨rfl, .inr ⟨htie, h⟩⟩

variable {d}

/-- What is left of a division is at most half the divisor, and half of it only next to an even quotient. -/
theorem roundDiv_nearest (hd : 0 < d) : 2 * (n - d * roundDiv n d).natAbs ≤ d ∧
    (2 * (n - d * roundDiv n d).natAbs = d → roundDiv n d % 2 = 0) := by
  have hdiv := Int.mul_ediv_add_emod n d
  have hlo := Int.emod_nonneg n (b := d) (by omega)
  have hhi := Int.emod_lt_of_pos n (b := d) (by omega)
  rcases roundDiv_cases n d with ⟨hq, hr⟩ | ⟨hq, hr⟩
  · have hrest : n - d * roundDiv n d = n % d := by rw [hq]; omega
    rw [hrest, hq]
    omega
  · have hrest : n - d * roundDiv n d = n % d - d := by rw [hq, Int.mul_add, Int.mul_one]; omega
    rw [hrest, hq]
    omega

/-- A multiple of the divisor is not rounded. -/
theorem roundDiv_mul (hd : 0 < d) : roundDiv (d * n) d = n := by
  have hq : (d * n : Int) / d = n := Int.mul_ediv_cancel_left n (by omega)
  have hr : (d * n : Int) % d = 0 := Int.mul_emod_right ..
  rw [roundDiv, hq, hr]
  exact if_pos (by omega)

end Rounding

theorem satL40_below {v : Int} (h : v < l40Min) : satL40 v = l40Min := if_pos h

theorem satL40_above {v : Int} (h : l40Max < v) : satL40 v = l40Max := by
  have hlo : ¬v < l40Min := by unfold l40Min l40Max at *; omega
  exact (if_neg hlo).trans (if_pos h)

theorem satL40_within {v : Int} (hlo : ¬v < l40Min) (hhi : ¬l40Max < v) : satL40 v = v :=
  (if_neg hlo).trans (if_neg hhi)

/-- A saturated value is within the limits, and saturation leaves it. -/
@[simp] theorem satL40_satL40 (v : Int) : satL40 (satL40 v) = satL40 v := by
  by_cases hlo : v < l40Min
  · rw [satL40_below hlo]; rfl
  by_cases hhi : l40Max < v
  · rw [satL40_above hhi]; rfl
  rw [satL40_within hlo hhi, satL40_within hlo hhi]

/-! ## Linearisation (R127) -/

/-- The knots of R127 in the terms of its shift. -/
theorem curve_at_shift (k : Curve) (bits c : Nat) :
    k.at bits c = satL40 (roundDiv (k.knot (c >>> (bits - 10)) * 2 ^ (bits - 10) +
      (k.knot (c >>> (bits - 10) + 1) - k.knot (c >>> (bits - 10))) * ((c % 2 ^ (bits - 10) : Nat) : Int))
      (2 ^ (bits - 10))) := by
  rw [Nat.shiftRight_eq_div_pow]
  rfl

/-- A curve of which no knot was written is the straight line of R127. -/
theorem knot_unwritten (n : Nat) : ({} : Curve).knot n = n * 2 ^ 13 := by
  rw [Curve.knot, List.getD_nil]
  exact Int.natCast_mul n 8192

/-- At reset no curve of any source has been written. -/
theorem reset_curve {u : IntakeUnit} (hu : u ∈ State.reset.intake.units) {cs : List Curve} (hcs : cs ∈ u.curves) {k : Curve}
    (hk : k ∈ cs) : k = {} := by
  rw [List.eq_of_mem_replicate hu] at hcs
  rw [List.eq_of_mem_replicate hcs] at hk
  exact List.eq_of_mem_replicate hk

/-! ## White balance (R153) -/

/-- The gain of an array position: row and column parity select it, and in monochrome it is the top left one (R103). -/
theorem wbGain_at (c : MillConfig) (cfa i j : Nat) :
    [c.gainTl, c.gainTr, c.gainBl, c.gainBr].getD (arrayPos cfa i j) 0 =
      if cfa = 4 then c.gainTl else if i % 2 = 0 then (if j % 2 = 0 then c.gainTl else c.gainTr)
        else if j % 2 = 0 then c.gainBl else c.gainBr := by
  unfold arrayPos
  split
  · rfl
  rcases Nat.mod_two_eq_zero_or_one i with hi | hi <;> rcases Nat.mod_two_eq_zero_or_one j with hj | hj <;> rw [hi, hj] <;> rfl

/-! ## The Look's matrix (R168) -/

/-- A row of the Look's matrix: coefficients and offset in units of 2^-20, rounded and saturated once. -/
def lookRow (m0 m1 m2 o r g b : Int) : Int := satL40 (roundDiv (m0 * r + m1 * g + m2 * b + o * 1048576) 1048576)

/-- In scene-linear mode the matrix is the whole Look (R167). -/
theorem lookPixel_linear {c : LookConfig} (h : c.mode = 1) (b : Bank) (x y z : Int) :
    lookPixel c b x y z = (lookRow c.m00 c.m01 c.m02 c.o0 x y z, lookRow c.m10 c.m11 c.m12 c.o1 x y z,
      lookRow c.m20 c.m21 c.m22 c.o2 x y z) := if_pos h

/-- The product of a component with the coefficient 1 needs no rounding. -/
theorem roundDiv_one (u : Int) : roundDiv (1048576 * u) 1048576 = u := roundDiv_mul u (d := 1048576) (by decide)

/-- `c` with the identity as its matrix. -/
def LookConfig.identity (c : LookConfig) : LookConfig :=
  { c with
    m00 := 1048576, m01 := 0, m02 := 0, o0 := 0, m10 := 0, m11 := 1048576, m12 := 0, o1 := 0
    m20 := 0, m21 := 0, m22 := 1048576, o2 := 0 }

/-- What follows the matrix in a Look sees the matrix's results alone (R168). -/
theorem lookPixel_identity (c : LookConfig) (b : Bank) (x y z : Int) : lookPixel c b x y z =
    lookPixel c.identity b (lookRow c.m00 c.m01 c.m02 c.o0 x y z) (lookRow c.m10 c.m11 c.m12 c.o1 x y z)
      (lookRow c.m20 c.m21 c.m22 c.o2 x y z) := by
  simp only [lookPixel, LookConfig.identity, lookRow, Int.zero_mul, Int.add_zero, Int.zero_add, roundDiv_one, satL40_satL40]
  -- the rest of the chain reads no field of the matrix
  rfl

/-! ## Tone curves (R171) -/

theorem curveOut_tone (e : Nat → Int) (t : Nat) : curveOut e 4 t = if t >>> 4 ≤ 4094
    then roundDiv (e (t >>> 4) * 16 + (e (t >>> 4 + 1) - e (t >>> 4)) * ((t % 16 : Nat) : Int)) 16 else e 4095 := by
  rw [Nat.shiftRight_eq_div_pow, curveOut, Int.toNat_natCast]
  by_cases h : t / 2 ^ 4 ≤ 4094
  · rw [if_pos h, if_neg (by omega)]
    rfl
  · rw [if_neg h, if_pos (by omega)]

/-! ## Audio (R362) -/

/-- At reset every gate of a port is the default one. -/
theorem reset_audPort_gates {p : AudPort} (hp : p ∈ State.reset.audio.ports) : p.gates = List.replicate 16 {} := by
  obtain ⟨n, -, rfl⟩ := List.mem_map.1 hp
  split <;> rfl

end Sys2Proof.Machine

namespace Sys2Proof

open Machine

/-- Settles O38: rounding splits on the remainder's distance to half the divisor; the Look's clause holds since the identity
takes saturated components to themselves. -/
theorem sampleArithmetic : Obligations.SampleArithmetic := by
  unfold Obligations.SampleArithmetic
  refine ⟨?_, ?_, ?_, ?_, ?_, ?_, ?_, ?_, ?_⟩
  · -- R8's rounding
    exact fun n d hd => roundDiv_nearest n hd
  · -- linearisation
    exact fun k bits c _ => ⟨rfl, curve_at_shift k bits c⟩
  · -- the curves at reset
    intro u hu cs hcs k hk
    rw [reset_curve hu hcs hk]
    exact ⟨rfl, knot_unwritten⟩
  · -- white balance
    intro c cfa i j v
    rw [← wbGain_at]
    rfl
  · -- the Look's matrix
    rintro c b x y z u v w rfl rfl rfl
    exact ⟨fun h => lookPixel_linear h b x y z, lookPixel_identity c b x y z⟩
  · -- tone curves
    exact fun e t _ => curveOut_tone e t
  · -- audio gain
    exact fun x g => rfl
  · -- the gains of the captures at reset
    intro p hp g hg
    rw [List.eq_of_mem_replicate hp] at hg
    exact List.eq_of_mem_replicate hg
  · -- the gates of the ports at reset
    intro p hp g hg
    rw [reset_audPort_gates hp] at hg
    rw [List.eq_of_mem_replicate hg]

end Sys2Proof

/-! # The Sheaf's cores and the motion field -/

namespace Sys2Proof.Machine

section SheafCores
variable {s : State} {k : Nat} {it : ShfItem}

/-- A picture of the plan that a core can take: the core of its other tile has begun it, or its slot is READY (R216). -/
def State.itemReady (s : State) (i : FrameInfo) (it : ShfItem) : Bool :=
  (s.sheaf.pics.any fun p => p.ctx == it.ctx) || ((s.shfSlot it.ctx i.frame).1).isSome

/-! ## A core takes a picture -/

theorem corePictureStart_no_plan (late : Bool) (hp : s.sheaf.plan = none) : corePictureStart k late s = s := by
  simp only [corePictureStart, hp]

/-- A core that codes takes nothing else, with a plan or without (R216). -/
theorem corePictureStart_coding (late : Bool) (hc : (s.core k).cur.isSome = true) : corePictureStart k late s = s := by
  cases hp : s.sheaf.plan with
  | none => exact corePictureStart_no_plan late hp
  | some i => simp only [corePictureStart, hp, hc, if_true]

section Free
variable {i : FrameInfo} (hp : s.sheaf.plan = some i) (hc : (s.core k).cur = none)
include hp hc

/-- With nothing ready, what has no picture any more is abandoned, and the core waits for the rest (R216). -/
theorem corePictureStart_none_ready (late : Bool) (hr : (s.core k).list.find? (s.itemReady i) = none) :
    corePictureStart k late s =
      (((s.core k).list.filter fun it => (s.shfSlot it.ctx i.frame).2).foldl (fun s it => s.shfKill it.ctx 3) s).onCore k
        fun k => { k with st := if k.list.isEmpty then .idle else .waiting } := by
  unfold State.itemReady at hr
  simp only [corePictureStart, hp, hc, hr, Option.isSome_none, Bool.false_eq_true, if_false]

/-- With nothing ready and nothing lost, the core only waits. -/
theorem corePictureStart_waits (late : Bool) (hr : ∀ it ∈ (s.core k).list, s.itemReady i it = false)
    (hl : ∀ it ∈ (s.core k).list, (s.shfSlot it.ctx i.frame).2 = false) : corePictureStart k late s =
      s.onCore k fun k => { k with st := if k.list.isEmpty then .idle else .waiting } := by
  have hnone : (s.core k).list.find? (s.itemReady i) = none :=
    List.find?_eq_none.2 fun it h => Bool.eq_false_iff.1 (hr it h)
  have hlost : ((s.core k).list.filter fun it => (s.shfSlot it.ctx i.frame).2) = [] :=
    List.filter_eq_nil_iff.2 fun it h => Bool.eq_false_iff.1 (hl it h)
  rw [corePictureStart_none_ready hp hc late hnone, hlost, List.foldl_nil]

/-- Past the period the first item that is ready is shed as LATE (R216). -/
theorem corePictureStart_late (hr : (s.core k).list.find? (s.itemReady i) = some it) : corePictureStart k true s =
    ((s.countShf 3).shfKill it.ctx 2).onCore k fun k => { k with st := .idle } := by
  unfold State.itemReady at hr
  simp only [corePictureStart, hp, hc, hr, Option.isSome_none, Bool.false_eq_true, if_false, if_true]

end Free

/-! ## A core ends a picture -/

theorem corePictureDone_idle (hc : (s.core k).cur = none) : corePictureDone k s = s := by
  simp only [corePictureDone, hc]

theorem coreFault_idle (hc : (s.core k).cur = none) : coreFault k s = s := by
  simp only [coreFault, hc]

/-- The first of two tiles leaves the other; the last tile publishes the picture (R195). -/
theorem corePictureDone_coding {p : ShfPic} (hc : (s.core k).cur = some it)
    (hf : s.sheaf.pics.find? (fun p => p.ctx == it.ctx) = some p) {v : State}
    (hv : v = s.onCore k fun k => { k with cur := none, st := .idle, pictures := (k.pictures + 1) % 256 }) :
    corePictureDone k s = if 1 < p.tilesLeft then v.onSheaf fun x => { x with pics := x.pics.map fun y =>
        if y.ctx == it.ctx then { y with tilesLeft := y.tilesLeft - 1 } else y }
      else (v.onSheaf fun x => { x with pics := x.pics.filter fun y => y.ctx != it.ctx }).shfCoded p := by
  have hfv : v.sheaf.pics.find? (fun p => p.ctx == it.ctx) = some p := by rw [hv]; exact hf
  simp only [corePictureDone, hc, ← hv, hfv]

theorem coreFault_coding (hc : (s.core k).cur = some it) : coreFault k s =
    (((s.countShf 5).shfKill it.ctx 6).onCore k fun k => { k with st := .recovering }).faultLog 0x09 (0x0500 + k)
      (k * 256 + it.ctx) := by
  simp only [coreFault, hc]

end SheafCores

/-! ## The motion field -/

section MotionField
variable {s : State} {m : Nat} {u : MotionUnit} (hu : s.sheaf.motion[m]? = some u)
include hu

theorem motionFieldComplete_none_pending (hn : u.pending = none) : motionFieldComplete m s = s := by
  simp only [motionFieldComplete, hu, hn]

/-- A field that fits its buffer is written to its slot, and the slots alternate (R212). -/
theorem motionFieldComplete_pending {f : Frame} {valid : Bool} {bs : List Byte} {b : Buffer}
    (hn : u.pending = some (f, valid, bs)) (hb : s.buffer? u.field = some b) (hfit : 2 * bs.length ≤ b.size) :
    motionFieldComplete m s = (s.putBytes u.field (u.slot * roundUp bs.length 4096) bs).onSheaf fun x =>
      { x with motion := modAt x.motion m fun u =>
        { u with pending := none, complete := some (f, valid), slot := 1 - u.slot } } := by
  simp only [motionFieldComplete, hu, hn, hb, hfit, if_true]

end MotionField

end Sys2Proof.Machine

namespace Sys2Proof

open Machine

/-- Settles O30: each event's equation for the case that the clause describes. -/
theorem sheafCoreEvents : Obligations.SheafCoreEvents := by
  unfold Obligations.SheafCoreEvents
  refine ⟨?_, ?_, ?_, ?_, ?_, ?_, ?_, ?_, ?_⟩
  · -- CORE_PICTURE_START without a plan or while the core codes
    exact fun s k b h => runs_event rfl (h.elim (corePictureStart_no_plan b) (corePictureStart_coding b))
  · -- CORE_PICTURE_START with nothing ready
    intro s k b i hp hc hl
    refine runs_event rfl (corePictureStart_waits hp hc b (fun it h => ?_) fun it h => ?_)
    · rw [State.itemReady, (hl it h).1, (hl it h).2]
      rfl
    · rw [(hl it h).2]
  · -- CORE_PICTURE_START past the period
    intro s k i it rest hp hc hl hr
    have hready : s.itemReady i it = true := by rw [State.itemReady, hr, Bool.or_true]
    refine runs_event rfl (corePictureStart_late hp hc ?_)
    rw [hl, List.find?_cons_of_pos hready]
  · -- CORE_PICTURE_DONE and CORE_FAULT of a core that codes nothing
    exact fun s k hc => ⟨runs_event rfl (corePictureDone_idle hc), runs_event rfl (coreFault_idle hc)⟩
  · -- CORE_PICTURE_DONE
    exact fun s k it p v hc hf hv => runs_event rfl (corePictureDone_coding hc hf hv)
  · -- CORE_FAULT
    exact fun s k it hc => runs_event rfl (coreFault_coding hc)
  · -- MOTION_FIELD_COMPLETE with none pending
    exact fun s m u hu hn => runs_event rfl (motionFieldComplete_none_pending hu hn)
  · -- MOTION_FIELD_COMPLETE
    exact fun s m u f ok bs b hu hn hb hfit => runs_event rfl (motionFieldComplete_pending hu hn hb hfit)
  · -- SHF_CTRL.CNT_CLEAR
    exact fun s => runs_event rfl rfl

end Sys2Proof

/-! # The review decoder -/

namespace Sys2Proof.Machine

section Decoding
variable {s : State} {c : Nat}

/-! ## What a notice and a write of bytes leave of the decoder -/

@[simp] theorem decNotice_decoder (op : Nat) (items : List Item) (s : State) :
    (s.decNotice c op items).decoder = s.decoder := by
  rw [State.decNotice]
  split
  · exact notice_decoder ..
  · rfl

theorem decNotice_unless_decoder (b : Bool) (op : Nat) (items : List Item) (s : State) :
    (if b then s else s.decNotice c op items).decoder = s.decoder := by
  cases b
  · exact decNotice_decoder ..
  · rfl

/-- A picture's planes go to the buffer's bytes alone. -/
theorem foldl_putBytes_decoder (h : Handle) (base : Nat) (obs : List (Nat × List Byte)) (s : State) :
    (obs.foldl (fun s ob => s.putBytes h (base + ob.1) ob.2) s).decoder = s.decoder := by
  induction obs generalizing s with
  | nil => rfl
  | cons ob obs ih => rw [List.foldl_cons, ih, putBytes_decoder]

/-! ## A context that does not run (R234, R241) -/

theorem dropChunks_nil (h : (s.dec c).chunks = []) (n : Nat) : s.dropChunks c n = s := by
  cases n with
  | zero => rfl
  | succ n => simp only [State.dropChunks, h]

theorem decAdvance_stopped (h : (s.dec c).running = false) (n : Nat) : s.decAdvance c n = s := by
  cases n with
  | zero => rfl
  | succ n => simp only [State.decAdvance, h, Bool.not_false, Bool.true_or, if_true]

theorem decRead_idle (hr : (s.dec c).running = false) (hq : (s.dec c).chunks = []) : s.decRead c = s := by
  rw [State.decRead, dropChunks_nil hq, decAdvance_stopped hr]

theorem decodable_stopped (h : (s.dec c).running = false) : s.decodable c = none := by
  rw [State.decodable, h]
  rfl

/-! ## What the core takes (R229) -/

/-- If `c` alone satisfies a test, it is what the test leaves of the contexts. -/
theorem filter_contexts_single {p : Nat → Bool} (hc : c < 8) (hp : p c = true) (h : ∀ d, d < 8 → d ≠ c → p d = false) :
    (List.range 8).filter p = [c] := by
  have hpc : ∀ d ∈ List.range 8, p d = (d == c) := by
    intro d hd
    by_cases hdc : d = c
    · rw [hdc, hp, beq_self_eq_true]
    · rw [h d (List.mem_range.1 hd) hdc, beq_false_of_ne hdc]
  have heq : ∀ d, d < 8 → (List.range 8).filter (· == d) = [d] := by decide
  rw [List.filter_congr hpc, heq c hc]

theorem decPictureStart_busy (h : s.decoder.job.isSome = true) : decPictureStart s = s := if_pos h

section Free
variable {v : State} (hj : s.decoder.job = none) (hv : v = (List.range 8).foldl (fun s c => s.decRead c) s)
include hj hv

/-- Without a decodable picture the free core takes none. -/
theorem decPictureStart_none (h : ∀ d, d < 8 → v.decodable d = none) : decPictureStart s = v := by
  have hready : (List.range 8).filter (fun d => (v.decodable d).isSome) = [] :=
    List.filter_eq_nil_iff.2 fun d hd => by rw [h d (List.mem_range.1 hd)]; exact Bool.false_ne_true
  simp only [decPictureStart, hj, ← hv, hready, List.foldl_nil, Option.isSome_none, Bool.false_eq_true, if_false]

/-- The only decodable picture is the one that the free core takes. -/
theorem decPictureStart_single {p : ParsedPicture} {n f a k : Nat} {bs : List (Option Byte)} (hc : c < 8)
    (hd : v.decodable c = some (p, n, bs, f, a, k)) (h : ∀ d, d < 8 → d ≠ c → v.decodable d = none) :
    decPictureStart s = v.decBegin c p n bs f a k := by
  have hready : (List.range 8).filter (fun d => (v.decodable d).isSome) = [c] :=
    filter_contexts_single hc (by rw [hd]; rfl) fun d hd8 hdc => by rw [h d hd8 hdc]; rfl
  simp only [decPictureStart, hj, ← hv, hready, List.foldl_cons, List.foldl_nil, hd, Option.isSome_none, Bool.false_eq_true,
    if_false]

end Free

/-- The picture that the core begins is the one in it. -/
theorem decBegin_job (c : Nat) (p : ParsedPicture) (n : Nat) (bs : List (Option Byte)) (f a k : Nat) (s : State) :
    ∃ j, (s.decBegin c p n bs f a k).decoder.job = some j ∧ j.ctx = c ∧ j.slot = k ∧ j.pic = p :=
  ⟨_, rfl, rfl, rfl, rfl⟩

/-! ## How a picture ends (R236, R237) -/

theorem decEnd_idle (h : s.decoder.job = none) (more : List (Nat × List Nat)) : s.decEnd more = s := by
  rw [State.decEnd, h]

/-- What a picture that ends leaves in its context: its buffer, the other buffers as `older` changes them, and its counts. -/
def DecContext.stored (older : DecSlot → DecSlot) (k : Nat) (slot : DecSlot) (errors lost substituted : Nat) (x : DecContext) :
    DecContext :=
  { x with
    slots := modAt (x.slots.map older) k fun _ => slot
    cnt := addAt (addAt (addAt x.cnt 1 errors) 2 lost) 3 substituted }

theorem stored_slot {x : DecContext} {k : Nat} (h : k < x.slots.length) (older : DecSlot → DecSlot) (slot : DecSlot)
    (errors lost substituted : Nat) : (x.stored older k slot errors lost substituted).slots[k]? = some slot := by
  rw [DecContext.stored, modAt_same, List.getElem?_map, List.getElem?_eq_getElem h]
  rfl

theorem stored_errors (older : DecSlot → DecSlot) (k : Nat) (slot : DecSlot) (errors lost substituted : Nat) (x : DecContext) :
    (x.stored older k slot errors lost substituted).cnt[1]? = (x.cnt[1]?).map (· + BitVec.ofNat 32 errors) := by
  rw [DecContext.stored, addAt_other _ _ (by decide), addAt_other _ _ (by decide), addAt_same]

/-- The updates that end a picture are one of its context, and the core is free. -/
theorem store_decoder {w : State} (hw : w.decoder = s.decoder) (older : DecSlot → DecSlot) (k : Nat) (slot : DecSlot)
    (errors lost substituted : Nat) : ((((((w.onDec c fun x => { x with slots := x.slots.map older }).onDecSlot c k fun _ =>
      slot).onDecoder fun d => { d with job := none }).countDec c 1 errors).countDec c 2 lost).countDec c 3
        substituted).decoder =
      { s.decoder with
        job := none, ctxs := modAt s.decoder.ctxs c (DecContext.stored older k slot errors lost substituted) } := by
  simp only [State.countDec, State.onDecSlot, State.onDec, onDecoder_decoder, modAt_modAt, hw]
  rfl

section Ending
variable {j : DecJob} (hj : s.decoder.job = some j)
include hj

/-- The decoder when a picture has ended, before outputs, input and reading follow. -/
theorem decEnd_stores (more : List (Nat × List Nat)) :
    ∃ (v : State) (older : DecSlot → DecSlot) (slot : DecSlot) (lost : Nat),
      s.decEnd more = ((v.bump j.ctx (fun x => x.crowded j.pic) 32).consume j.ctx j.used).decRead j.ctx ∧
      v.decoder = { s.decoder with
        job := none
        ctxs := modAt s.decoder.ctxs j.ctx
          (DecContext.stored older j.slot slot (j.pic.errors ++ more).length lost j.substituted) } ∧
      (slot.st, slot.poc, slot.isRef) = (.reference, j.pic.poc, true) := by
  simp only [State.decEnd, hj]
  exact ⟨_, _, _, _, rfl, (decNotice_unless_decoder ..).trans (store_decoder (foldl_putBytes_decoder ..) ..), rfl⟩

/-- The core is free, the picture's buffer is a REFERENCE with its POC, and the errors are counted. -/
theorem decEnd_decoding (hc : j.ctx < s.decoder.ctxs.length) (hk : j.slot < (s.dec j.ctx).slots.length)
    (more : List (Nat × List Nat)) : ∃ v : State,
      s.decEnd more = ((v.bump j.ctx (fun x => x.crowded j.pic) 32).consume j.ctx j.used).decRead j.ctx ∧
      v.decoder.job = none ∧
      (((v.dec j.ctx).slots[j.slot]?).map fun k => (k.st, k.poc, k.isRef)) = some (.reference, j.pic.poc, true) ∧
      (v.dec j.ctx).cnt[1]? = ((s.dec j.ctx).cnt[1]?).map (· + BitVec.ofNat 32 (j.pic.errors ++ more).length) := by
  obtain ⟨v, older, slot, lost, hend, hv, hslot⟩ := decEnd_stores hj more
  have hctx : v.dec j.ctx = (s.dec j.ctx).stored older j.slot slot (j.pic.errors ++ more).length lost j.substituted := by
    rw [State.dec, hv]
    exact modAt_getD_same hc ..
  refine ⟨v, hend, by rw [hv], ?_, ?_⟩
  · rw [hctx, stored_slot hk, Option.map_some, hslot]
  · rw [hctx, stored_errors]

end Ending

theorem decCoreFault_idle (h : s.decoder.job = none) : decCoreFault s = s := by rw [decCoreFault, h]

/-- A core fault loses the CTUs from the drawn place on; the place is free (R237, log entry 9). -/
theorem decCoreFault_decoding {j : DecJob} {n : Nat} (hj : s.decoder.job = some j)
    (hn : n = ceilDiv j.pic.width j.pic.ctb * ceilDiv j.pic.height j.pic.ctb) : decCoreFault s =
      ((s.draw.2.decEnd [(7, (List.range n).filter fun a => decide (Config.freeNat s.draw.1 % n ≤ a))]).onDecoder fun x =>
        { x with recovering := true }).faultLog 0x0B (0x0600 + j.ctx) j.ctx := by
  simp only [decCoreFault, hj, ← hn]

end Decoding

/-! ## The commands (R241) -/

theorem decStart_stopped {s : State} {c : Nat} (h : (s.dec c).running = false) : s.decStart c =
    s.onDec c fun x => { x.begin_ with running := true, unsupported := false, sets := [], outputs := 0, chunks := [], pos := 0 } :=
  if_neg (by rw [h]; exact Bool.false_ne_true)

theorem decStart_running {s : State} {c : Nat} (h : (s.dec c).running = true) : s.decStart c = s := if_pos h

theorem decStop_stopped {s : State} {c : Nat} (h : (s.dec c).running = false) : s.decStop c = ([], s) :=
  if_pos (by rw [h]; rfl)

/-- A stop of a context whose picture is not in the core. -/
theorem decStop_running {s : State} {c : Nat} (h : (s.dec c).running = true)
    (hj : s.decoder.job.any (fun j => j.ctx == c) = false) : s.decStop c =
      ((s.dec c).chunks, s.onDec c fun x =>
        { x with running := false, skipping := false, chunks := [], pos := 0, annexB := false,
                 slots := x.slots.map fun k => if k.st == .ready then { k with isRef := false } else {} }) := by
  simp only [State.decStop, h, hj, Bool.not_true, Bool.false_eq_true, if_false]

end Sys2Proof.Machine

namespace Sys2Proof

open Machine

/-- Settles O32: each event's equation for the case that the clause describes. -/
theorem decoderEvents : Obligations.DecoderEvents := by
  unfold Obligations.DecoderEvents
  refine ⟨?_, ?_, ?_, ?_, ?_, ?_, ?_⟩
  · -- DEC_PICTURE_START while the core decodes
    exact fun s h => runs_event rfl (decPictureStart_busy h)
  · -- DEC_PICTURE_START with no context running
    intro s hj hidle
    have hv : s = (List.range 8).foldl (fun s c => s.decRead c) s :=
      (foldl_same _ s _ fun c hc => decRead_idle (hidle c (List.mem_range.1 hc)).1 (hidle c (List.mem_range.1 hc)).2).symm
    exact runs_event rfl (decPictureStart_none hj hv fun d hd => decodable_stopped (hidle d hd).1)
  · -- DEC_PICTURE_START with one context running
    intro s v c hj hv hc hstop
    have hother : ∀ d, d < 8 → d ≠ c → v.decodable d = none := fun d hd hdc => decodable_stopped (hstop d hd hdc)
    refine runs_event rfl ?_
    match hd : v.decodable c with
    | none =>
      refine decPictureStart_none hj hv fun d hd8 => ?_
      by_cases hdc : d = c
      · rw [hdc, hd]
      · exact hother d hd8 hdc
    | some (p, n, bs, f, a, k) =>
      have htakes := decPictureStart_single hj hv hc hd hother
      exact ⟨htakes, htakes ▸ decBegin_job c p n bs f a k v⟩
  · -- DEC_PICTURE_DONE and DEC_CORE_FAULT without a picture
    exact fun s h => ⟨runs_event rfl (decEnd_idle h []), runs_event rfl (decCoreFault_idle h)⟩
  · -- DEC_PICTURE_DONE
    intro s j hj hc hk
    refine runs_event rfl ?_
    have hdone := decEnd_decoding hj hc hk []
    rw [List.append_nil] at hdone
    exact hdone
  · -- DEC_CORE_FAULT
    exact fun s j n hj hn => runs_event rfl (decCoreFault_decoding hj hn)
  · -- DEC_CTRL.CNT_CLEAR
    exact fun s => runs_event rfl rfl

/-- Settles O33: each clause is the branch of the command that its hypotheses select. -/
theorem decoderCommands : Obligations.DecoderCommands := by
  unfold Obligations.DecoderCommands
  refine ⟨?_, ?_, ?_, ?_, ?_, ?_, ?_, ?_, ?_, ?_⟩
  · -- DEC_CONTEXT_SET
    rintro c gs s n h rfl hfit
    refine runs_accepted rfl h (its := [itemN 0x4001 8 _]) (cs := []) ?_ rfl
    simp only [cmdDecContextSet, hfit, refuseFirst_holds, orElse_none, Ans.items]
  · -- DEC_CONTEXT_GET
    exact reads_of_items (fun _ _ => rfl) fun _ _ _ => rfl
  · -- DEC_START
    exact fun c gs s h hr => runs_accepted rfl h (congrArg Ans.done (decStart_stopped hr)) rfl
  · -- DEC_START of a context that runs
    exact fun c gs s h hr => runs_accepted rfl h (congrArg Ans.done (decStart_running hr)) rfl
  · -- DEC_STOP of a context that does not run
    intro c gs s h hr
    refine runs_accepted rfl h (its := []) (cs := []) ?_ rfl
    simp only [cmdDecStop, decStop_stopped hr, List.map_nil, Ans.items]
  · -- DEC_STOP
    intro c gs s h hr hj
    refine runs_accepted rfl h (cs := []) ?_ (List.append_nil _)
    simp only [cmdDecStop, decStop_running hr hj, Ans.items]
  · -- DEC_FEED
    exact does_of_run (fun _ _ => rfl) fun _ _ _ => ⟨_, [], rfl, List.append_nil _⟩
  · -- DEC_SLOT_RELEASE
    exact does_of_done (fun _ _ => rfl) fun _ _ _ => rfl
  · -- DEC_STATUS_GET
    exact reads_of_items (fun _ _ => rfl) fun _ _ _ => rfl
  · -- DEC_COUNTERS_CLEAR
    exact does_of_done (fun _ _ => rfl) fun _ _ _ => rfl

end Sys2Proof

/-! # Cinema Compress -/

namespace Sys2Proof.Machine

theorem cmpStart_stopped {s : State} {k : Nat} (h : (s.cmp k).running = false) (f : Frame) : s.cmpStart k f =
    s.onCmp k fun x =>
      { x with running := true, startAt := f, stopAt := none, first := true, begun := none, keyReq := [] } :=
  if_neg (by rw [h]; exact Bool.false_ne_true)

/-- A session that runs keeps the frame it is to stop at, and settles (R261). -/
theorem cmpStop_running {s : State} {k : Nat} (h : (s.cmp k).running = true) (f : Frame) :
    s.cmpStop k f = (s.onCmp k fun x => { x with stopAt := some f }).cmpSettle k :=
  if_neg (by rw [h]; exact Bool.false_ne_true)

end Sys2Proof.Machine

namespace Sys2Proof

open Machine

/-- Settles O35: each clause is the branch of the command that its hypotheses select. -/
theorem compressionCommands : Obligations.CompressionCommands := by
  unfold Obligations.CompressionCommands
  refine ⟨?_, ?_, ?_, ?_, ?_, ?_, ?_, ?_, ?_⟩
  · -- CMP_SESSION_SET
    exact does_of_run (fun _ _ => rfl) fun _ _ _ => ⟨_, [], rfl, List.append_nil _⟩
  · -- CMP_SESSION_START
    intro c gs s h hr
    refine runs_accepted rfl h (cs := []) ?_ (List.append_nil _)
    simp only [cmdCmpSessionStart, hr, Bool.false_eq_true, if_false, cmpStart_stopped hr, Ans.items]
  · -- CMP_SESSION_STOP of a session that does not run
    intro c gs s h hr
    refine runs_accepted rfl h (cs := []) ?_ (List.append_nil _)
    simp only [cmdCmpSessionStop, hr, Bool.not_false, if_true, Ans.items]
  · -- CMP_SESSION_STOP with AT_FRAME
    intro c gs s f h hr hf
    refine runs_accepted rfl h (cs := []) ?_ (List.append_nil _)
    simp only [cmdCmpSessionStop, hr, hf, Bool.not_true, Bool.false_eq_true, if_false, Option.getD_some, cmpStop_running hr,
      Ans.items]
  · -- CMP_KEY_REQUEST
    exact does_of_run (fun _ _ => rfl) fun _ _ _ => ⟨_, [], rfl, List.append_nil _⟩
  · -- CMP_SESSION_GET
    exact reads_of_items (fun _ _ => rfl) fun _ _ _ => rfl
  · -- CMP_VERIFY
    intro c gs s b h hb
    refine runs_command rfl (runCommand_wait h ?_)
    simp only [cmdCmpVerify, hb]
  · -- CMP_STATUS_GET
    exact reads_of_items (fun _ _ => rfl) fun _ _ _ => rfl
  · -- CMP_COUNTERS_CLEAR
    exact does_of_done (fun _ _ => rfl) fun _ _ _ => rfl

end Sys2Proof

/-! # The raw residual transform -/

namespace Sys2Proof.Machine

/-! ## One sample (R248 to R250) -/

@[simp] theorem unzigzag_zigzag (t : Int) : unzigzag (zigzag t) = t := by
  unfold zigzag unzigzag
  by_cases ht : 0 ≤ t
  · rw [if_pos ht, if_pos (by omega)]
    omega
  · rw [if_neg ht, if_neg (by omega)]
    omega

/-- z of a signed 16-bit value fits 16 bits (R249). -/
theorem zigzag_lt {t : Int} (hlo : -32768 ≤ t) (hhi : t < 32768) : zigzag t < 65536 := by
  unfold zigzag
  split <;> omega

theorem zigzag_eq (t : Int) : (zigzag t : Int) = if 0 ≤ t then 2 * t else -2 * t - 1 := by
  unfold zigzag
  split <;> omega

/-- A difference read as a signed 16-bit value keeps its class modulo 2^16 (R249). -/
theorem signed16_spec (v : Int) : -32768 ≤ signed16 v ∧ signed16 v < 32768 ∧ (v - signed16 v) % 65536 = 0 := by
  unfold signed16
  dsimp only
  split <;> omega

theorem sat_mem {lo hi : Int} (h : lo ≤ hi) (v : Int) : lo ≤ sat lo hi v ∧ sat lo hi v ≤ hi := by
  unfold sat
  split
  · omega
  · split <;> omega

/-- Saturation moves a value no farther from a point within its limits. -/
theorem sat_near {lo hi x v d : Int} (hx : lo ≤ x ∧ x ≤ hi) (hv : x - d ≤ v ∧ v ≤ x + d) (hd : 0 ≤ d) :
    x - d ≤ sat lo hi v ∧ sat lo hi v ≤ x + d := by
  unfold sat
  split
  · omega
  · split <;> omega

/-- The lossless residual is the signed difference, and its code the source (R249). -/
theorem residual_lossless (top x p : Nat) : residual 1 top x p = (zigzag (signed16 ((x : Int) - p)), x) := if_pos rfl

/-- Decoding a lossless residual against the same prediction gives the source back (R249). -/
theorem restore_lossless (top p : Nat) {x : Nat} (hx : x < 65536) :
    restore 1 top (zigzag (signed16 ((x : Int) - p))) p = x := by
  obtain ⟨-, -, hmod⟩ := signed16_spec ((x : Int) - p)
  rw [restore, if_pos rfl, unzigzag_zigzag]
  omega

/-- The quantised difference of the closed loop (R250). -/
def quantum (q : Nat) (e : Int) : Int :=
  sat (-32768) 32767 (if e < 0 then -((e.natAbs + q / 2) / q : Nat) else ((e.natAbs + q / 2) / q : Nat))

theorem residual_lossy {q : Nat} (hq : q ≠ 1) (top x p : Nat) :
    residual q top x p = (zigzag (quantum q (x - p)), (sat 0 top (p + quantum q (x - p) * q)).toNat) := if_neg hq

theorem quantum_range (q : Nat) (e : Int) : -32768 ≤ quantum q e ∧ quantum q e < 32768 := by
  have hsat := sat_mem (lo := -32768) (hi := 32767) (by decide)
    (if e < 0 then -((e.natAbs + q / 2) / q : Nat) else ((e.natAbs + q / 2) / q : Nat))
  unfold quantum
  omega

/-- The quotient of a 16-bit magnitude needs the clamp only at Q = 2 and magnitude 65,535 (R250). -/
theorem quotient_le {q n : Nat} (hq : 2 ≤ q) (hn : n ≤ 65535) :
    (n + q / 2) / q ≤ 32767 ∨ q = 2 ∧ n = 65535 := by
  by_cases h : (n + q / 2) / q ≤ 32767
  · exact .inl h
  · have hmul : 32768 * q ≤ n + q / 2 := (Nat.le_div_iff_mul_le (by omega)).1 (by omega)
    omega

/-- Q times the rounded quotient is within ⌊Q / 2⌋ of the magnitude (R250). -/
theorem quotient_near {q : Nat} (hq : 2 ≤ q) (n : Nat) :
    (n + q / 2) / q * q ≤ n + q / 2 ∧ n ≤ (n + q / 2) / q * q + q / 2 := by
  have hdiv := Nat.div_add_mod' (n + q / 2) q
  have hmod := Nat.mod_lt (n + q / 2) (by omega : 0 < q)
  omega

/-- The quantised difference restores the difference within ⌊Q / 2⌋ (R250). -/
theorem quantum_near {q : Nat} {e : Int} (hq : 2 ≤ q) (he : e.natAbs ≤ 65535) :
    e - (q / 2 : Nat) ≤ quantum q e * q ∧ quantum q e * q ≤ e + (q / 2 : Nat) := by
  rcases quotient_le hq he with hm | ⟨rfl, hn⟩
  · have hnear := quotient_near hq e.natAbs
    unfold quantum sat
    generalize (e.natAbs + q / 2) / q = m at hm hnear
    have hcast : ((m * q : Nat) : Int) = m * q := Int.natCast_mul ..
    by_cases h0 : e < 0
    · rw [if_pos h0, if_neg (by omega), if_neg (by omega), Int.neg_mul]
      omega
    · rw [if_neg h0, if_neg (by omega), if_neg (by omega)]
      omega
  · -- the one clamped magnitude: 32,767 × 2 is one below it
    rcases Int.natAbs_eq e with h | h <;> rw [hn] at h <;> subst h <;> decide

/-- A code is in range and within ⌊Q / 2⌋ of its source. -/
def CodeNear (q top x y : Nat) : Prop := y ≤ top ∧ y ≤ x + q / 2 ∧ x ≤ y + q / 2

/-- One sample, there and back: z fits 16 bits, decoding gives the encoder's code, and this is near the source (R249, R250). -/
theorem residual_spec {q top x p : Nat} (hq : 1 ≤ q) (htop : top < 65536) (hx : x ≤ top) (hp : p ≤ top) :
    (residual q top x p).1 < 65536 ∧ restore q top (residual q top x p).1 p = (residual q top x p).2 ∧
    CodeNear q top x (residual q top x p).2 := by
  by_cases h1 : q = 1
  · subst h1
    obtain ⟨hlo, hhi, -⟩ := signed16_spec ((x : Int) - p)
    rw [residual_lossless]
    exact ⟨zigzag_lt hlo hhi, restore_lossless top p (by omega), hx, by omega, by omega⟩
  · obtain ⟨hlo, hhi⟩ := quantum_range q (x - p)
    have hnear := quantum_near (q := q) (e := x - p) (by omega) (by omega)
    have hmem := sat_mem (lo := 0) (hi := top) (by omega) (p + quantum q (x - p) * q)
    have hsat := sat_near (lo := 0) (hi := top) (x := x) (v := p + quantum q (x - p) * q) (d := (q / 2 : Nat))
      (by omega) (by omega) (by omega)
    rw [residual_lossy h1]
    refine ⟨zigzag_lt hlo hhi, ?_, ?_, ?_, ?_⟩
    · rw [restore, if_neg h1, unzigzag_zigzag]
    all_goals omega

/-- The prediction lies in the code range that its neighbours lie in (R248). -/
theorem predict_le {sv top : Nat} {a b d : Option Nat} (hsv : sv ≤ top) (ha : ∀ x ∈ a, x ≤ top) (hb : ∀ x ∈ b, x ≤ top) :
    predict sv a b d ≤ top := by
  cases a with
  | none =>
    cases b with
    | none => exact hsv
    | some b => exact hb b rfl
  | some a =>
    have hle := ha a rfl
    cases b with
    | none => exact hle
    | some b =>
      have hle' := hb b rfl
      unfold predict
      dsimp only
      split
      · omega
      · split <;> omega

end Sys2Proof.Machine

namespace Sys2Proof

open Machine

/-- Settles O36: the residual keeps its class modulo 2^16, and decoding adds it to the same prediction. -/
theorem losslessResidualIsExact : Obligations.LosslessResidualIsExact := by
  unfold Obligations.LosslessResidualIsExact
  intro top x p hx _
  obtain ⟨hlo, hhi, hmod⟩ := signed16_spec ((x : Int) - p)
  rw [residual_lossless]
  exact ⟨⟨_, hlo, hhi, hmod, zigzag_eq _⟩, zigzag_lt hlo hhi, rfl, restore_lossless top p hx⟩

end Sys2Proof

/-! # Stripes: rows, planes and transformed bytes -/

namespace Sys2Proof.Machine

/-! ## Lists that agree place by place -/

/-- Induction on the last element: the rows and planes of a stripe grow at their end. -/
theorem snoc_induction {α : Type} {motive : List α → Prop} (nil : motive [])
    (snoc : ∀ xs x, motive xs → motive (xs ++ [x])) (xs : List α) : motive xs := by
  have hrev : ∀ ys : List α, motive ys.reverse := fun ys => by
    induction ys with
    | nil => exact nil
    | cons y ys ih =>
      rw [List.reverse_cons]
      exact snoc _ _ ih
  rw [← List.reverse_reverse xs]
  exact hrev _

theorem getD_of_lt {α : Type} {l : List α} {i : Nat} (h : i < l.length) (d : α) : l.getD i d = l[i] := by
  rw [List.getD_eq_getElem?_getD, List.getElem?_eq_getElem h, Option.getD_some]

/-- Two lists of one length whose elements are related place by place. -/
def Agree {α : Type} (R : α → α → Prop) (xs ys : List α) : Prop :=
  xs.length = ys.length ∧ ∀ i (hx : i < xs.length) (hy : i < ys.length), R xs[i] ys[i]

section Agree
variable {α : Type} {R : α → α → Prop} {xs ys : List α}

theorem Agree.nil : Agree R [] [] := ⟨rfl, fun i hi => absurd hi (Nat.not_lt_zero i)⟩

theorem Agree.snoc {x y : α} (h : Agree R xs ys) (hxy : R x y) : Agree R (xs ++ [x]) (ys ++ [y]) := by
  obtain ⟨hlen, hget⟩ := h
  refine ⟨by rw [List.length_append, List.length_append, hlen]; rfl, fun i hx _ => ?_⟩
  rw [List.getElem_append, List.getElem_append]
  by_cases hi : i < xs.length
  · rw [dif_pos hi, dif_pos (hlen ▸ hi)]
    exact hget i hi _
  · rw [dif_neg hi, dif_neg (hlen ▸ hi), List.getElem_singleton, List.getElem_singleton]
    exact hxy

/-- Lists whose elements are equal place by place are equal. -/
theorem Agree.eq (h : Agree R xs ys) (hR : ∀ x y, R x y → x = y) : xs = ys :=
  List.ext_getElem h.1 fun i hx hy => hR _ _ (h.2 i hx hy)

theorem Agree.getElem? {i : Nat} {x : α} (h : Agree R xs ys) (hx : xs[i]? = some x) : ∃ y, ys[i]? = some y ∧ R x y := by
  obtain ⟨hi, rfl⟩ := List.getElem?_eq_some_iff.1 hx
  have hi' : i < ys.length := h.1 ▸ hi
  exact ⟨ys[i], List.getElem?_eq_getElem hi', h.2 i hi hi'⟩

/-- Each element on the right has its partner on the left. -/
theorem Agree.of_mem_right {y : α} (h : Agree R xs ys) (hy : y ∈ ys) : ∃ x, R x y := by
  obtain ⟨i, hi, rfl⟩ := List.mem_iff_getElem.1 hy
  exact ⟨_, h.2 i (h.1 ▸ hi) hi⟩

end Agree

/-! ## One row -/

section Row
variable (q top sv st : Nat) (up : Option (List Nat))

/-- The prediction for the next sample of a row from the codes before it. -/
def rowPredict (ys : List Nat) : Nat :=
  predict sv (nearCodes st ys.length ys up).1 (nearCodes st ys.length ys up).2.1 (nearCodes st ys.length ys up).2.2

theorem forwardRow_snoc (xs : List Nat) (x : Nat) : forwardRow q top sv st up (xs ++ [x]) =
    ((forwardRow q top sv st up xs).1 ++ [(residual q top x (rowPredict sv st up (forwardRow q top sv st up xs).2)).1],
     (forwardRow q top sv st up xs).2 ++ [(residual q top x (rowPredict sv st up (forwardRow q top sv st up xs).2)).2]) := by
  simp only [forwardRow, List.foldl_append, List.foldl_cons, List.foldl_nil]
  rfl

theorem backwardRow_snoc (zs : List Nat) (z : Nat) : backwardRow q top sv st up (zs ++ [z]) =
    backwardRow q top sv st up zs ++ [restore q top z (rowPredict sv st up (backwardRow q top sv st up zs))] := by
  simp only [backwardRow, List.foldl_append, List.foldl_cons, List.foldl_nil]
  rfl

variable {q top sv st up}

theorem rowPredict_le (hsv : sv ≤ top) (hup : ∀ u ∈ up, ∀ y ∈ u, y ≤ top) {ys : List Nat} (hys : ∀ y ∈ ys, y ≤ top) :
    rowPredict sv st up ys ≤ top := by
  refine predict_le hsv (fun y hy => ?_) fun y hy => ?_
  · rw [nearCodes, Option.mem_def, Option.ite_none_right_eq_some] at hy
    exact hys y (List.mem_of_getElem? hy.2)
  · obtain ⟨u, hu, hget⟩ := Option.bind_eq_some_iff.1 hy
    exact hup u hu y (List.mem_of_getElem? hget)

/-- A row of codes near a source row. -/
abbrev RowNear (q top : Nat) : List Nat → List Nat → Prop := Agree (CodeNear q top)

theorem RowNear.le {xs ys : List Nat} (h : RowNear q top xs ys) : ∀ y ∈ ys, y ≤ top := fun _ hy =>
  have ⟨_, hxy⟩ := Agree.of_mem_right h hy
  hxy.1

/-- One row, there and back: as many z values of 16 bits as samples, which decode to the encoder's codes (R248 to R250). -/
theorem forwardRow_spec (hq : 1 ≤ q) (htop : top < 65536) (hsv : sv ≤ top) (hup : ∀ u ∈ up, ∀ y ∈ u, y ≤ top)
    {xs : List Nat} (hxs : ∀ x ∈ xs, x ≤ top) :
    (forwardRow q top sv st up xs).1.length = xs.length ∧ (∀ z ∈ (forwardRow q top sv st up xs).1, z < 65536) ∧
    backwardRow q top sv st up (forwardRow q top sv st up xs).1 = (forwardRow q top sv st up xs).2 ∧
    RowNear q top xs (forwardRow q top sv st up xs).2 := by
  induction xs using snoc_induction with
  | nil => exact ⟨rfl, fun z hz => absurd hz List.not_mem_nil, rfl, Agree.nil⟩
  | snoc xs x ih =>
    obtain ⟨hxs, hx⟩ := List.forall_mem_append.1 hxs
    obtain ⟨hlen, hz, hback, hnear⟩ := ih hxs
    obtain ⟨hz', hback', hnear'⟩ := residual_spec (p := rowPredict sv st up (forwardRow q top sv st up xs).2) hq htop
      (hx x List.mem_cons_self) (rowPredict_le hsv hup hnear.le)
    rw [forwardRow_snoc]
    refine ⟨?_, ?_, ?_, ?_⟩
    · rw [List.length_append, List.length_append, hlen]; rfl
    · exact List.forall_mem_append.2 ⟨hz, List.forall_mem_singleton.2 hz'⟩
    · rw [backwardRow_snoc, hback, hback']
    · exact Agree.snoc hnear hnear'

end Row

/-! ## One plane -/

section Plane
variable (q top sv st : Nat) (p : List (List Nat))

/-- The codes that the encoder holds of the first `n` rows of a plane. -/
def codedRows : Nat → List (List Nat)
  | 0 => []
  | n + 1 => codedRows n ++
      [(forwardRow q top sv st (if st ≤ n then (codedRows n)[n - st]? else none) (p.getD n [])).2]

/-- The row that row `n` of a plane is predicted from. -/
def rowAbove (n : Nat) : Option (List Nat) := if st ≤ n then (codedRows q top sv st p n)[n - st]? else none

/-- The z values and codes of row `n` of a plane. -/
def codedRow (n : Nat) : List Nat × List Nat := forwardRow q top sv st (rowAbove q top sv st p n) (p.getD n [])

theorem codedRows_succ (n : Nat) :
    codedRows q top sv st p (n + 1) = codedRows q top sv st p n ++ [(codedRow q top sv st p n).2] := rfl

variable {q top sv st p}

/-- Rows near their sources hold codes in range. -/
theorem rowAbove_le {xs : List (List Nat)} {n : Nat} (h : Agree (RowNear q top) xs (codedRows q top sv st p n)) :
    ∀ u ∈ rowAbove q top sv st p n, ∀ y ∈ u, y ≤ top := by
  intro u hu
  rw [rowAbove, Option.mem_def, Option.ite_none_right_eq_some] at hu
  obtain ⟨_, hrow⟩ := h.of_mem_right (List.mem_of_getElem? hu.2)
  exact hrow.le

/-- The encoder's codes are near their sources, row by row (R250). -/
theorem codedRows_near (hq : 1 ≤ q) (htop : top < 65536) (hsv : sv ≤ top) (hp : ∀ row ∈ p, ∀ x ∈ row, x ≤ top) {n : Nat}
    (hn : n ≤ p.length) : Agree (RowNear q top) (p.take n) (codedRows q top sv st p n) := by
  induction n with
  | zero => exact Agree.nil
  | succ n ih =>
    have hrows := ih (by omega)
    have hrow : p.getD n [] = p[n] := getD_of_lt hn _
    obtain ⟨-, -, -, hnear⟩ := forwardRow_spec (st := st) hq htop hsv (rowAbove_le hrows) (hp p[n] (List.getElem_mem hn))
    rw [codedRows_succ, codedRow, hrow, List.take_succ_eq_append_getElem hn]
    exact hrows.snoc hnear

/-- The z values of a row of the plane: one of 16 bits for each sample; they decode to the row's codes. -/
theorem codedRow_spec (hq : 1 ≤ q) (htop : top < 65536) (hsv : sv ≤ top) (hp : ∀ row ∈ p, ∀ x ∈ row, x ≤ top) {n : Nat}
    (hn : n < p.length) :
    (codedRow q top sv st p n).1.length = p[n].length ∧ (∀ z ∈ (codedRow q top sv st p n).1, z < 65536) ∧
    backwardRow q top sv st (rowAbove q top sv st p n) (codedRow q top sv st p n).1 = (codedRow q top sv st p n).2 := by
  have hrow : p.getD n [] = p[n] := getD_of_lt hn _
  obtain ⟨hlen, hz, hback, -⟩ := forwardRow_spec (st := st) hq htop hsv
    (rowAbove_le (codedRows_near (st := st) hq htop hsv hp (Nat.le_of_lt hn))) (hp p[n] (List.getElem_mem hn))
  rw [codedRow, hrow]
  exact ⟨hlen, hz, hback⟩

end Plane

/-! ## A stripe of planes -/

/-- A map over the places of a list whose value at each place is that of a plain map. -/
theorem map_zipIdx_eq_map {α β : Type} {l : List α} {f : α × Nat → β} {g : α → β}
    (h : ∀ i, (hi : i < l.length) → f (l[i], i) = g l[i]) : l.zipIdx.map f = l.map g := by
  refine List.ext_getElem (by simp) fun i hi _ => ?_
  simpa using h i (by simpa using hi)

section Stripe
variable (q top sv st : Nat) (planes : List (List (List Nat)))

/-- The z values of row `n` of every plane, in sample order. -/
def rowValues (n : Nat) : List (List Nat) := planes.map fun p => (codedRow q top sv st p n).1

/-- The z values of the first `n` rows. -/
def stripeValues (n : Nat) : List Nat := ((List.range n).map fun r => (rowValues q top sv st planes r).flatten).flatten

/-- The encoder's codes of the first `n` rows of every plane. -/
def stripeCodes (n : Nat) : List (List (List Nat)) := planes.map fun p => codedRows q top sv st p n

/-- A row forwards: the step of `forwardStripe`. -/
def forwardStep (acc : List Nat × List (List (List Nat))) (r : Nat) : List Nat × List (List (List Nat)) :=
  let out := planes.zipIdx.map fun pe =>
    forwardRow q top sv st (if st ≤ r then (acc.2.getD pe.2 [])[r - st]? else none) (pe.1.getD r [])
  (acc.1 ++ out.flatMap (·.1), acc.2.zipIdx.map fun de => de.1 ++ [(out.getD de.2 ([], [])).2])

/-- A row backwards: the step of `backwardStripe`. -/
def backwardStep (width exps : Nat) (zs : List Nat) (acc : List (List (List Nat))) (r : Nat) : List (List (List Nat)) :=
  acc.zipIdx.map fun de =>
    de.1 ++ [backwardRow q top sv st (if st ≤ r then de.1[r - st]? else none)
      ((zs.drop ((r * exps + de.2) * width)).take width)]

theorem forwardStripe_eq_foldl : forwardStripe q top sv st planes =
    ((List.range ((planes.map List.length).foldl max 0)).foldl (forwardStep q top sv st planes)
      ([], stripeCodes q top sv st planes 0)).1 := rfl

theorem backwardStripe_eq_foldl (width rows exps : Nat) (zs : List Nat) : backwardStripe q top sv st width rows exps zs =
    (List.range rows).foldl (backwardStep q top sv st width exps zs) (List.replicate exps []) := rfl

theorem stripeValues_succ (n : Nat) : stripeValues q top sv st planes (n + 1) =
    stripeValues q top sv st planes n ++ (rowValues q top sv st planes n).flatten := by
  simp only [stripeValues, List.range_succ, List.map_append, List.flatten_append, List.map_cons, List.map_nil,
    List.flatten_singleton]

/-- A row is encoded plane by plane from the codes held of the rows before it. -/
theorem forwardStep_codes (zs : List Nat) (n : Nat) :
    forwardStep q top sv st planes (zs, stripeCodes q top sv st planes n) n =
      (zs ++ (rowValues q top sv st planes n).flatten, stripeCodes q top sv st planes (n + 1)) := by
  have hout : (planes.zipIdx.map fun pe => forwardRow q top sv st
      (if st ≤ n then ((stripeCodes q top sv st planes n).getD pe.2 [])[n - st]? else none) (pe.1.getD n [])) =
      planes.map fun p => codedRow q top sv st p n :=
    map_zipIdx_eq_map fun i hi => by
      simp only [stripeCodes, codedRow, rowAbove, List.getD_eq_getElem?_getD, List.getElem?_map, List.getElem?_eq_getElem hi,
        Option.map_some, Option.getD_some]
  unfold forwardStep
  dsimp only
  rw [hout]
  refine congr (congrArg Prod.mk (congrArg _ ?_)) (List.ext_getElem (by simp [stripeCodes]) fun i hi _ => ?_)
  · rw [List.flatMap_map, List.flatMap_def, rowValues]
  · have hi : i < planes.length := by simpa [stripeCodes] using hi
    simp [stripeCodes, codedRows_succ, hi]

theorem foldl_forwardStep (n : Nat) :
    (List.range n).foldl (forwardStep q top sv st planes) ([], stripeCodes q top sv st planes 0) =
      (stripeValues q top sv st planes n, stripeCodes q top sv st planes n) := by
  induction n with
  | zero => rfl
  | succ n ih => rw [List.range_succ, List.foldl_append, ih, List.foldl_cons, List.foldl_nil, forwardStep_codes,
      stripeValues_succ]

variable {q top sv st planes}

/-- Planes of one height have that as their greatest height; without planes there is no sample. -/
theorem stripeValues_height {rows : Nat} (h : ∀ p ∈ planes, p.length = rows) :
    stripeValues q top sv st planes ((planes.map List.length).foldl max 0) = stripeValues q top sv st planes rows := by
  cases planes with
  | nil => simp [stripeValues, rowValues]
  | cons p ps =>
    obtain ⟨hp, hps⟩ := List.forall_mem_cons.1 h
    rw [List.map_cons, List.foldl_cons, Nat.zero_max, hp, foldl_same max rows _ fun n hn => ?_]
    obtain ⟨p', hp', rfl⟩ := List.mem_map.1 hn
    rw [hps p' hp', Nat.max_self]

/-- The encoder goes through the rows plane by plane, predicting from the codes it holds. -/
theorem forwardStripe_eq {rows : Nat} (h : ∀ p ∈ planes, p.length = rows) :
    forwardStripe q top sv st planes = stripeValues q top sv st planes rows := by
  rw [forwardStripe_eq_foldl, foldl_forwardStep, stripeValues_height h]

/-- A cut that stays within one of several blocks of one length. -/
theorem take_drop_flatten {α : Type} {w : Nat} {L : List (List α)} (h : ∀ l ∈ L, l.length = w) {i : Nat} (hi : i < L.length)
    {j k : Nat} (hk : j + k ≤ w) : (L.flatten.drop (i * w + j)).take k = (L[i].drop j).take k := by
  induction L generalizing i with
  | nil => exact absurd hi (Nat.not_lt_zero i)
  | cons l L ih =>
    obtain ⟨hl, hL⟩ := List.forall_mem_cons.1 h
    cases i with
    | zero =>
      rw [List.flatten_cons, List.getElem_cons_zero, Nat.zero_mul, Nat.zero_add, List.drop_append_of_le_length (by omega),
        List.take_append_of_le_length (by rw [List.length_drop]; omega)]
    | succ i =>
      rw [List.flatten_cons, List.getElem_cons_succ, ← ih hL, Nat.succ_mul, Nat.add_right_comm, Nat.add_comm, ← hl,
        List.drop_length_add_append]

/-- Every plane of a stripe has `rows` rows of `width` codes in range. -/
def StripeFits (top width rows : Nat) (planes : List (List (List Nat))) : Prop :=
  ∀ p ∈ planes, p.length = rows ∧ ∀ row ∈ p, row.length = width ∧ ∀ x ∈ row, x ≤ top

section Fits
variable {width rows : Nat} (hq : 1 ≤ q) (htop : top < 65536) (hsv : sv ≤ top) (hfit : StripeFits top width rows planes)
include hq htop hsv hfit

theorem stripe_codedRow {p : List (List Nat)} (hp : p ∈ planes) {n : Nat} (hn : n < rows) :
    (codedRow q top sv st p n).1.length = width ∧ (∀ z ∈ (codedRow q top sv st p n).1, z < 65536) ∧
    backwardRow q top sv st (rowAbove q top sv st p n) (codedRow q top sv st p n).1 = (codedRow q top sv st p n).2 := by
  obtain ⟨hlen, hrow⟩ := hfit p hp
  have hn : n < p.length := hlen.symm ▸ hn
  obtain ⟨hw, hz, hback⟩ := codedRow_spec (st := st) hq htop hsv (fun row h => (hrow row h).2) hn
  exact ⟨hw.trans (hrow _ (List.getElem_mem hn)).1, hz, hback⟩

theorem rowValues_length {n : Nat} (hn : n < rows) : ∀ zs ∈ rowValues q top sv st planes n, zs.length = width :=
  List.forall_mem_map.2 fun _ hp => (stripe_codedRow hq htop hsv hfit hp hn).1

theorem rowValues_flatten_length {n : Nat} (hn : n < rows) :
    (rowValues q top sv st planes n).flatten.length = planes.length * width := by
  rw [List.length_flatten, List.map_congr_left (rowValues_length hq htop hsv hfit hn), List.map_const', List.sum_replicate_nat,
    rowValues, List.length_map]

/-- There is one z value for each sample (R251). -/
theorem stripeValues_length {n : Nat} (hn : n ≤ rows) :
    (stripeValues q top sv st planes n).length = planes.length * n * width := by
  induction n with
  | zero => rw [Nat.mul_zero, Nat.zero_mul]; rfl
  | succ n ih =>
    rw [stripeValues_succ, List.length_append, ih (by omega), rowValues_flatten_length hq htop hsv hfit hn, Nat.mul_succ,
      Nat.add_mul]

/-- Every z value of a stripe fits 16 bits (R249). -/
theorem stripeValues_lt : ∀ z ∈ stripeValues q top sv st planes rows, z < 65536 := by
  intro z hz
  obtain ⟨row, hrow, hz⟩ := List.mem_flatten.1 hz
  obtain ⟨r, hr, rfl⟩ := List.mem_map.1 hrow
  obtain ⟨zs, hzs, hz⟩ := List.mem_flatten.1 hz
  obtain ⟨p, hp, rfl⟩ := List.mem_map.1 hzs
  exact (stripe_codedRow hq htop hsv hfit hp (List.mem_range.1 hr)).2.1 z hz

/-- The z values of row `r` of exposure `e`, cut out of those of the stripe. -/
theorem stripeValues_block {r e : Nat} (hr : r < rows) (he : e < planes.length) :
    ((stripeValues q top sv st planes rows).drop ((r * planes.length + e) * width)).take width =
      (codedRow q top sv st planes[e] r).1 := by
  have hrow := rowValues_length (st := st) hq htop hsv hfit hr
  have hend : e * width + width ≤ planes.length * width := Nat.succ_mul e width ▸ Nat.mul_le_mul_right width he
  have hrows : ∀ l ∈ (List.range rows).map fun r => (rowValues q top sv st planes r).flatten,
      l.length = planes.length * width :=
    List.forall_mem_map.2 fun n hn => rowValues_flatten_length hq htop hsv hfit (List.mem_range.1 hn)
  rw [stripeValues, Nat.add_mul, Nat.mul_assoc, take_drop_flatten hrows (by simpa using hr) hend, List.getElem_map,
    List.getElem_range]
  have hcut := take_drop_flatten (j := 0) (k := width) hrow (by simpa [rowValues] using he) (Nat.le_of_eq (Nat.zero_add width))
  rw [Nat.add_zero, List.drop_zero] at hcut
  rw [hcut, List.take_of_length_le (Nat.le_of_eq (hrow _ (List.getElem_mem _)))]
  exact List.getElem_map ..

/-- A row is decoded, exposure by exposure, to the codes that the encoder holds. -/
theorem backwardStep_codes {n : Nat} (hn : n < rows) :
    backwardStep q top sv st width planes.length (stripeValues q top sv st planes rows) (stripeCodes q top sv st planes n) n =
      stripeCodes q top sv st planes (n + 1) := by
  refine List.ext_getElem (by simp [backwardStep, stripeCodes]) fun e _ he => ?_
  have he : e < planes.length := by simpa [stripeCodes] using he
  obtain ⟨-, -, hback⟩ := stripe_codedRow (st := st) hq htop hsv hfit (List.getElem_mem he) hn
  simp only [backwardStep, stripeCodes, List.getElem_map, List.getElem_zipIdx, Nat.zero_add]
  rw [stripeValues_block hq htop hsv hfit hn he, ← rowAbove, hback, codedRows_succ]

/-- A stripe decodes to the codes that the encoder predicted from (R249, R250). -/
theorem backwardStripe_codes : backwardStripe q top sv st width rows planes.length (stripeValues q top sv st planes rows) =
    stripeCodes q top sv st planes rows := by
  have hfold : ∀ n ≤ rows, (List.range n).foldl
      (backwardStep q top sv st width planes.length (stripeValues q top sv st planes rows))
      (List.replicate planes.length []) = stripeCodes q top sv st planes n := by
    intro n hn
    induction n with
    | zero => exact (List.map_const' ..).symm
    | succ n ih => rw [List.range_succ, List.foldl_append, ih (by omega), List.foldl_cons, List.foldl_nil,
        backwardStep_codes hq htop hsv hfit hn]
  rw [backwardStripe_eq_foldl, hfold rows (Nat.le_refl _)]

end Fits

end Stripe

/-! ## Transformed bytes (R251) -/

/-- A segment's high bytes, then its low bytes: the pieces of `transformed`. -/
def splitBytes (g : List Nat) : List Byte := g.map (fun z => BitVec.ofNat 8 (z / 256)) ++ g.map fun z => BitVec.ofNat 8 z

/-- The z values of a segment's bytes: the pieces of `untransformed`. -/
def joinBytes (g : List Byte) : List Nat :=
  ((g.take (g.length / 2)).zip (g.drop (g.length / 2))).map fun hl => hl.1.toNat * 256 + hl.2.toNat

theorem transformed_eq (zs : List Nat) : transformed zs = (pieces 512 zs.length zs).flatMap splitBytes := rfl

theorem untransformed_eq (bs : List Byte) : untransformed bs = (pieces 1024 bs.length bs).flatMap joinBytes := rfl

@[simp] theorem splitBytes_length (g : List Nat) : (splitBytes g).length = 2 * g.length := by
  rw [splitBytes, List.length_append, List.length_map, List.length_map, Nat.two_mul]

/-- A 16-bit value is its high byte and its low byte. -/
theorem highByte_lowByte {z : Nat} (hz : z < 65536) :
    (BitVec.ofNat 8 (z / 256)).toNat * 256 + (BitVec.ofNat 8 z).toNat = z := by
  rw [BitVec.toNat_ofNat, BitVec.toNat_ofNat]
  omega

theorem joinBytes_splitBytes {g : List Nat} (hg : ∀ z ∈ g, z < 65536) : joinBytes (splitBytes g) = g := by
  have hhalf : (splitBytes g).length / 2 = (g.map fun z => BitVec.ofNat 8 (z / 256)).length := by
    rw [splitBytes_length, List.length_map, Nat.mul_div_cancel_left _ Nat.two_pos]
  rw [joinBytes, hhalf, splitBytes, List.take_left, List.drop_left, List.zip_map', List.map_map]
  exact (List.map_congr_left (g := fun z => z) fun z hz => highByte_lowByte (hg z hz)).trans (List.map_id' g)

theorem pieces_nil {α : Type} (w n : Nat) : pieces w n ([] : List α) = [] := by
  cases n <;> rfl

/-- The pieces of a list are its first piece and those of the rest. -/
theorem pieces_succ {α : Type} (w n : Nat) {l : List α} (hl : l ≠ []) :
    pieces w (n + 1) l = l.take w :: pieces w n (l.drop w) := by
  rw [pieces, if_neg (by rwa [List.isEmpty_iff])]

/-- Two bytes for each z value (R251). -/
theorem pieces_splitBytes_length {n : Nat} {zs : List Nat} (hn : zs.length ≤ n) :
    ((pieces 512 n zs).flatMap splitBytes).length = 2 * zs.length := by
  induction n generalizing zs with
  | zero => rw [List.length_eq_zero_iff.1 (Nat.le_zero.1 hn)]; rfl
  | succ n ih =>
    by_cases hz : zs = []
    · rw [hz]; rfl
    · have hpos := List.length_pos_iff.2 hz
      rw [pieces_succ 512 n hz, List.flatMap_cons, List.length_append, ih (by rw [List.length_drop]; omega),
        splitBytes_length, List.length_take, List.length_drop]
      omega

/-- A segment's bytes are the first 1,024: a shorter segment has nothing after it. -/
theorem cut_splitBytes {zs : List Nat} {rest : List Byte} (h : zs.length ≤ 512 → rest = []) :
    (splitBytes (zs.take 512) ++ rest).take 1024 = splitBytes (zs.take 512) ∧
    (splitBytes (zs.take 512) ++ rest).drop 1024 = rest := by
  have hlen : (splitBytes (zs.take 512)).length = 2 * min 512 zs.length := by rw [splitBytes_length, List.length_take]
  by_cases hz : zs.length ≤ 512
  · rw [h hz, List.append_nil]
    exact ⟨List.take_of_length_le (by omega), List.drop_of_length_le (by omega)⟩
  · have hlen : (splitBytes (zs.take 512)).length = 1024 := by omega
    exact ⟨List.take_left' hlen, List.drop_left' hlen⟩

/-- Segment by segment the bytes give back their z values (R251). -/
theorem pieces_joinBytes {n m : Nat} {zs : List Nat} (hn : zs.length ≤ n) (hm : zs.length ≤ m) (hz : ∀ z ∈ zs, z < 65536) :
    (pieces 1024 m ((pieces 512 n zs).flatMap splitBytes)).flatMap joinBytes = zs := by
  induction n generalizing m zs with
  | zero => rw [List.length_eq_zero_iff.1 (Nat.le_zero.1 hn), pieces_nil, List.flatMap_nil, pieces_nil, List.flatMap_nil]
  | succ n ih =>
    by_cases hnil : zs = []
    · rw [hnil, pieces_nil, List.flatMap_nil, pieces_nil, List.flatMap_nil]
    · have hpos := List.length_pos_iff.2 hnil
      obtain ⟨m, rfl⟩ := Nat.exists_eq_succ_of_ne_zero (by omega : m ≠ 0)
      have hbytes := pieces_splitBytes_length hn
      have hne : (pieces 512 (n + 1) zs).flatMap splitBytes ≠ [] := List.length_pos_iff.1 (by omega)
      have hlen : (zs.drop 512).length = zs.length - 512 := List.length_drop
      rw [pieces_succ 1024 m hne, pieces_succ 512 n hnil, List.flatMap_cons, List.flatMap_cons]
      obtain ⟨hfirst, hrest⟩ := cut_splitBytes (zs := zs) (rest := (pieces 512 n (zs.drop 512)).flatMap splitBytes)
        fun hle => by rw [List.drop_of_length_le hle, pieces_nil, List.flatMap_nil]
      rw [hfirst, hrest, joinBytes_splitBytes fun z h => hz z (List.mem_of_mem_take h),
        ih (by omega) (by omega) fun z h => hz z (List.mem_of_mem_drop h), List.take_append_drop]

theorem transformed_length (zs : List Nat) : (transformed zs).length = 2 * zs.length :=
  pieces_splitBytes_length (Nat.le_refl _)

/-- The transformed bytes give back z values of 16 bits (R251). -/
theorem untransformed_transformed {zs : List Nat} (hz : ∀ z ∈ zs, z < 65536) : untransformed (transformed zs) = zs := by
  rw [untransformed_eq, transformed_length]
  exact pieces_joinBytes (Nat.le_refl _) (by omega) hz

/-! ## A whole stripe -/

/-- Decoding the transformed bytes of a stripe gives the codes that the encoder predicted from. -/
theorem backwardStripe_transformed {q top sv st width rows : Nat} {planes : List (List (List Nat))} (hq : 1 ≤ q)
    (htop : top < 65536) (hsv : sv ≤ top) (hfit : StripeFits top width rows planes) :
    backwardStripe q top sv st width rows planes.length
      (untransformed (transformed (forwardStripe q top sv st planes))) = stripeCodes q top sv st planes rows := by
  rw [forwardStripe_eq fun p hp => (hfit p hp).1, untransformed_transformed (stripeValues_lt hq htop hsv hfit),
    backwardStripe_codes hq htop hsv hfit]

/-- With Q = 1 a row near its source is its source (R249). -/
theorem RowNear.eq_of_lossless {top : Nat} {xs ys : List Nat} (h : RowNear 1 top xs ys) : xs = ys :=
  Agree.eq h fun _ _ ⟨_, hyx, hxy⟩ => by omega

end Sys2Proof.Machine

namespace Sys2Proof

open Machine

/-- Settles O37: a row decodes to the codes that the encoder holds, by induction on its samples; a stripe does by induction on
its rows; and these codes are near their sources. -/
theorem stripesRestore : Obligations.StripesRestore := by
  unfold Obligations.StripesRestore
  intro q top sv st width rows planes hq _ htop hsv _ hfit
  have hfit : StripeFits top width rows planes := hfit
  refine ⟨?_, fun e p he => ?_⟩
  · rw [transformed_length, forwardStripe_eq fun p hp => (hfit p hp).1, stripeValues_length hq htop hsv hfit (Nat.le_refl _)]
  obtain ⟨hrows, hrow⟩ := hfit p (List.mem_of_getElem? he)
  have hnear := codedRows_near (st := st) hq htop hsv (fun row h => (hrow row h).2) (Nat.le_of_eq hrows.symm)
  rw [List.take_of_length_le (Nat.le_of_eq hrows)] at hnear
  rw [backwardStripe_transformed hq htop hsv hfit]
  refine ⟨codedRows q top sv st p rows, ?_, hnear.1.symm.trans hrows, ?_, fun r row hr => ?_⟩
  · rw [stripeCodes, List.getElem?_map, he, Option.map_some]
  · rintro rfl
    exact (hnear.eq fun _ _ => RowNear.eq_of_lossless).symm
  · obtain ⟨b, hb, hcodes⟩ := hnear.getElem? hr
    refine ⟨b, hb, hcodes.1.symm.trans (hrow row (List.mem_of_getElem? hr)).1, fun c x hx => ?_⟩
    obtain ⟨y, hy, -, hyx, hxy⟩ := Agree.getElem? hcodes hx
    exact ⟨y, hy, hyx, hxy⟩

end Sys2Proof

/-! # The Granary's commands -/

namespace Sys2Proof.Machine

/-! ## Buffers: allocation and freeing (R279 to R281) -/

/-- Taking or giving back granules leaves the buffers themselves alone. -/
@[simp] theorem takeRuns_buffers (pl : Place) (random back : Bool) (rs : List Run) (s : State) :
    (s.takeRuns pl random back rs).granary.buffers = s.granary.buffers := by
  rw [State.takeRuns, onGranary_granary]
  split <;> rfl

/-- An allocation that finds room adds a new buffer behind the others, empty and still being cleared (R279, R280). -/
theorem alloc_some {role size pattern : Nat} {rt : Bool} {s v : State} {b : Buffer}
    (h : s.alloc role size pattern rt = (some b, v)) : v.granary.buffers = s.granary.buffers ++ [b] ∧ b.role = role ∧
      b.size = size ∧ b.data = [] ∧ b.clearing = true := by
  unfold State.alloc at h
  split at h
  · cases h
    exact ⟨by rw [onGranary_granary, takeRuns_buffers], rfl, rfl, rfl, rfl⟩
  · cases h

/-- An allocation that finds no room only counts in GRN_CNT_ALLOC_FAIL (R303). -/
theorem alloc_none {role size pattern : Nat} {rt : Bool} {s : State} (h : (s.alloc role size pattern rt).1 = none) :
    s.alloc role size pattern rt = (none, s.countGrn 4) := by
  unfold State.alloc at h ⊢
  split at h
  · cases h
  · rfl

/-- A buffer that is freed is no longer found (R280). -/
theorem free_buffer? (h : Handle) (s : State) : (s.free h).buffer? h = none := by
  unfold State.free
  split
  · assumption
  · exact List.find?_eq_none.2 fun x hx => by
      simpa only [bne_iff_ne, beq_iff_eq] using (List.mem_filter.1 hx).2

@[simp] theorem digested_granary (k : Cmd) (c : Call) (gs : List Got) (s : State) :
    (s.digested k c gs).granary = s.granary := by
  unfold State.digested; split <;> rfl

/-- The reply of a command without result items writes to no buffer. -/
theorem accepted_nil_granary (k : Cmd) (c : Call) (gs : List Got) (s : State) :
    (s.accepted k c gs []).granary = s.granary := by
  rw [State.accepted, answer_fits (Nat.zero_le _), post_granary, digested_granary]

/-! ## Rings: room, readers and entries (R286 to R288) -/

/-- A reservation is granted exactly when it fits beside the bytes used and reserved (R287). -/
theorem grants_iff {r : Ring} {size n : Nat} : r.grants size n = true ↔ n + r.used + r.reserved ≤ size := decide_eq_true_iff

theorem grants_eq_false {r : Ring} {size n : Nat} (hfull : size < n + r.used + r.reserved) : r.grants size n = false :=
  decide_eq_false (Nat.not_le.2 hfull)

section Ring
variable {s : State} {h : Handle} {b : Buffer} {r : Ring} (hr : s.ring? h = some (b, r))
include hr

/-- A claim of bytes at the head succeeds exactly where the ring has room. -/
theorem ringClaim_isSome_iff (n unit : Nat) :
    (s.ringClaim h n unit).1.isSome = true ↔ n + r.used + r.reserved ≤ b.size := by
  rw [← grants_iff]
  simp only [State.ringClaim, hr]
  cases r.grants b.size n <;> rfl

/-- So does a reservation of bytes that are placed at completion. -/
theorem ringOpen_isSome_iff (n : Nat) : (s.ringOpen h n).1.isSome = true ↔ n + r.used + r.reserved ≤ b.size := by
  rw [← grants_iff]
  simp only [State.ringOpen, hr]
  cases r.grants b.size n <;> rfl

/-- A claim without room only counts in GRN_CNT_RING_REFUSED (R303). -/
theorem ringClaim_full {n : Nat} (hfull : b.size < n + r.used + r.reserved) (unit : Nat) :
    s.ringClaim h n unit = (none, s.countGrn 5) := by
  simp only [State.ringClaim, hr, grants_eq_false hfull, Bool.false_eq_true, if_false]

/-- So does a reservation without room. -/
theorem ringOpen_full {n : Nat} (hfull : b.size < n + r.used + r.reserved) : s.ringOpen h n = (none, s.countGrn 5) := by
  simp only [State.ringOpen, hr, grants_eq_false hfull, Bool.false_eq_true, if_false]

/-- A reader takes the lowest free place, at the ring's start position (R288). -/
theorem ringAttach_free {k : Nat} (hk : r.readers.findIdx? (·.isNone) = some k) (unit : Nat) : s.ringAttach h unit =
    (some k, s.onRing h fun r => { r with readers := r.readers.set k (some { unit, pos := r.startPos }) }) := by
  simp only [State.ringAttach, hr, hk]

end Ring

/-- A reader's position is read off the ring that HANDLE names. -/
theorem readPos_ring {s : State} {gs : List Got} {b : Buffer} {r : Ring} (hr : s.ring? (gotH gs 1) = some (b, r)) (k : Nat) :
    readPos s gs k = (r.readers.getD k none).map (·.pos) := by
  rw [readPos, hr, Option.bind_some]

end Sys2Proof.Machine

namespace Sys2Proof

open Machine

/-- Settles O40: each clause is the branch of the command that its hypotheses select. The place of a new buffer is the model's
choice (log entry 40); no clause depends on it. -/
theorem granaryBufferCommands : Obligations.GranaryBufferCommands := by
  unfold Obligations.GranaryBufferCommands
  refine ⟨?_, ?_, ?_, ?_, ?_, ?_, ?_, ?_, ?_, ?_, ?_⟩
  · -- GRN_ALLOC with room
    intro c gs s b v h ha
    refine runs_command rfl ⟨runCommand_wait h ?_, alloc_some ha⟩
    simp only [cmdGrnAlloc, ha]
  · -- GRN_ALLOC without room
    intro c gs s h ha
    refine runs_command rfl (runCommand_kept h ?_)
    simp only [cmdGrnAlloc, alloc_none ha]
  · -- GRN_FREE
    intro c gs s h
    refine runs_command rfl ?_
    rw [runCommand_ok (items := []) (commits := []) h rfl]
    refine ⟨rfl, ?_⟩
    rw [commitItems_nil, List.append_nil, State.buffer?, accepted_nil_granary]
    exact free_buffer? ..
  · -- GRN_INFO
    intro c gs s b h hb
    refine runs_accepted rfl h (cs := []) ?_ (List.append_nil _)
    simp only [cmdGrnInfo, hb, Ans.items]
  · -- GRN_PIN
    exact does_of_done (fun _ _ => rfl) fun _ _ _ => rfl
  · -- GRN_READ
    intro c gs s b h hb
    refine runs_accepted rfl h (cs := []) ?_ (List.append_nil _)
    simp only [cmdGrnRead, hb, Ans.items, Option.map_some, Option.getD_some]
  · -- GRN_WRITE
    exact does_of_done (fun _ _ => rfl) fun _ _ _ => rfl
  · -- GRN_APERTURE_MAP
    exact does_of_run (fun _ _ => rfl) fun _ _ _ => ⟨_, [], rfl, List.append_nil _⟩
  · -- GRN_DRAM_SET
    exact does_of_done (fun _ _ => rfl) fun _ _ _ => rfl
  · -- GRN_STATUS_GET
    exact reads_of_items (fun _ _ => rfl) fun _ _ _ => rfl
  · -- GRN_COUNTERS_CLEAR
    exact does_of_done (fun _ _ => rfl) fun _ _ _ => rfl

/-- Settles O41: each clause is the branch that its hypotheses select; room is granted by one test for every reservation. -/
theorem ringCommands : Obligations.RingCommands := by
  unfold Obligations.RingCommands
  refine ⟨?_, ?_, ?_, ?_, ?_, ?_, ?_⟩
  · -- GRN_RING_ATTACH
    intro c gs s b r k h hr hk
    refine runs_accepted rfl h (cs := []) ?_ (List.append_nil _)
    simp only [cmdGrnRingAttach, hr, hk, Option.getD_some, ringAttach_free hr hk, Ans.items]
  · -- GRN_RING_DETACH
    exact does_of_done (fun _ _ => rfl) fun _ _ _ => rfl
  · -- GRN_RING_RELEASE
    intro c gs s b r p h hr hp
    refine runs_accepted rfl h (cs := []) ?_ (List.append_nil _)
    simp only [cmdGrnRingRelease, hr, readPos_ring hr, hp, Ans.items]
  · -- GRN_RING_STATUS: a place without a reader shows `maxSize`
    intro c gs s b r h hr
    refine runs_accepted rfl h (cs := []) ?_ (List.append_nil _)
    simp only [cmdGrnRingStatus, hr, Ans.items]
    rfl
  · -- GRN_RING_PUBLISH with room
    intro c gs s v id p h hclaim
    refine runs_accepted rfl h (cs := []) ?_ (List.append_nil _)
    simp only [cmdGrnRingPublish, hclaim, Ans.items]
  · -- GRN_RING_PUBLISH without room
    intro c gs s b r h hr hfull
    refine runs_command rfl (runCommand_kept h ?_)
    simp only [cmdGrnRingPublish, ringClaim_full hr hfull]
  · -- room for a reservation
    intro s h n m b r hr
    refine ⟨ringClaim_isSome_iff hr n m, ringOpen_isSome_iff hr n, fun hfull => ?_⟩
    rw [ringClaim_full hr hfull, ringOpen_full hr hfull]
    exact ⟨rfl, rfl⟩

end Sys2Proof

/-! # Recording and storage -/

namespace Sys2Proof.Machine

/-- A command that answers result items, and names no commit, replies with just those. -/
theorem runCommand_items {k : Cmd} {c : Call} {gs : List Got} {s s' : State} {items : List Item} (h : Accepts k c gs s)
    (hr : k.run c gs s = .items items s') : runCommand k c s = s'.accepted k c gs items := by
  rw [runCommand_ok h hr, commitItems_nil, List.append_nil]

/-! ## Drives and volumes (R304 to R307) -/

section Drives
variable (d : Nat)

@[simp] theorem onDrive_volume (f : Drive → Drive) (s : State) : (s.onDrive d f).record.volume = s.record.volume := rfl

/-- Commands that go out to a drive leave the volume as it is. -/
@[simp] theorem submit_volume (n : Nat) (s : State) : (s.submit d n).record.volume = s.record.volume := by
  induction n generalizing s with
  | zero => rfl
  | succ n ih =>
    rw [State.submit]
    split
    · rw [ih, send_record, onDrive_volume]
    · rfl

@[simp] theorem ask_volume (c : NvmeCmd) (s : State) : (s.ask d c).record.volume = s.record.volume := by
  rw [State.ask]
  split
  · rfl
  · rw [submit_volume, onDrive_volume]

end Drives

/-- A format takes the mounted volume away, and what it writes to the members mounts none (R307). -/
theorem volumeFormat_volume (mask layout shift blocks : Nat) (s : State) :
    (s.volumeFormat mask layout shift blocks).2.2.record.volume = none :=
  List.foldlRecOn (motive := fun t : State => t.record.volume = none) _ _ rfl fun t ht d _ => by
    simp only [ask_volume, onDrive_volume, ht]

/-- A format returns an extent count for each drive that its mask names. -/
theorem volumeFormat_sizes (mask layout shift blocks : Nat) (s : State) :
    (s.volumeFormat mask layout shift blocks).2.1.length = (membersOf mask).length := List.length_map _

theorem needVolume_some {s : State} {v : Volume} (h : s.record.volume = some v) (k : Volume → Ans) : needVolume s k = k v := by
  rw [needVolume, h]

theorem needVolume_none {s : State} (h : s.record.volume = none) (k : Volume → Ans) :
    needVolume s k = .err stNoVolume 0 0 := by
  rw [needVolume, h]

/-! ## Recording sessions (R313 to R315) -/

/-- Changes that agree on the element they meet give the same list. -/
theorem modAt_congr {α : Type} {l : List α} {i : Nat} {f g : α → α} (h : ∀ x, l[i]? = some x → f x = g x) :
    modAt l i f = modAt l i g := by
  refine List.ext_getElem? fun j => ?_
  rw [modAt_getElem?, modAt_getElem?]
  split
  · next hij =>
    subst hij
    exact Option.map_congr h
  · rfl

section Sessions
variable {s : State} {n : Nat}

theorem recSession_onRec (h : n < s.record.sessions.length) (f : RecSession → RecSession) :
    (s.onRec n f).recSession n = f (s.recSession n) := modAt_getD_same h ..

/-- What a change of a session keeps reads the same after it, whether or not the session exists. -/
theorem recSession_onRec_keeps {α : Type} {g : RecSession → α} {f : RecSession → RecSession} (hf : ∀ x, g (f x) = g x) :
    g ((s.onRec n f).recSession n) = g (s.recSession n) := by
  by_cases h : n < s.record.sessions.length
  · rw [recSession_onRec h, hf]
  · have beyond (l : List RecSession) (hl : l.length ≤ n) : l.getD n {} = {} := by
      rw [List.getD_eq_getElem?_getD, List.getElem?_eq_none hl, Option.getD_none]
    rw [State.recSession, State.recSession, beyond _ (Nat.le_of_not_lt h), beyond]
    exact Nat.le_trans (Nat.le_of_eq (modAt_length ..)) (Nat.le_of_not_lt h)

/-- New fields leave a waiting start as it is. -/
theorem onRec_cfg_startAt (cfg : RecConfig) :
    ((s.onRec n fun x => { x with cfg }).recSession n).startAt = (s.recSession n).startAt :=
  recSession_onRec_keeps (g := (·.startAt)) (f := fun x => { x with cfg }) fun _ => rfl

/-- Changes of a session that agree on it have one effect. -/
theorem onRec_congr {f g : RecSession → RecSession} (h : f (s.recSession n) = g (s.recSession n)) :
    s.onRec n f = s.onRec n g := by
  refine congrArg (fun l => { s with record := { s.record with sessions := l } }) (modAt_congr fun x hx => ?_)
  rwa [State.recSession, List.getD_eq_getElem?_getD, hx] at h

/-- Taking clip numbers leaves a session running or at rest, as it was. -/
theorem reserveClips_running : ((s.reserveClips n).2.recSession n).running = (s.recSession n).running :=
  recSession_onRec_keeps (g := (·.running)) fun _ => rfl

@[simp] theorem reserveClips_raster : (s.reserveClips n).2.raster = s.raster := rfl

theorem reserveClips_sessions_length : (s.reserveClips n).2.record.sessions.length = s.record.sessions.length :=
  modAt_length ..

/-- Taking clip numbers keeps the volume mounted, and as full as it was. -/
theorem reserveClips_volume {v : Volume} (h : s.record.volume = some v) :
    ∃ w, (s.reserveClips n).2.record.volume = some w ∧ w.full = v.full :=
  ⟨_, congrArg (Option.map _) h, rfl⟩

/-- A session that does not run starts at its frame on a volume that is not full (R315). -/
theorem recStart_runs {v : Volume} (hn : n < s.record.sessions.length) (hr : (s.recSession n).running = false)
    (hv : s.record.volume = some v) (hf : v.full = false) (f : Frame) :
    ((s.recStart n f true).recSession n).running = true ∧ ((s.recStart n f true).recSession n).first = f := by
  have idle : ¬((s.recSession n).running || s.record.volume.isNone || s.record.volume.any (·.full)) = true := by
    rw [hr, hv, Option.any_some, hf]
    exact Bool.false_ne_true
  rw [State.recStart]
  dsimp only
  rw [if_neg idle, if_pos rfl]
  split
  · exact ⟨congrArg (·.running) (recSession_onRec hn _), congrArg (·.first) (recSession_onRec hn _)⟩
  · rw [recSession_onRec hn]
    exact ⟨rfl, rfl⟩

/-- A running session that has no stop yet stops at the frame named (R315). -/
theorem recStop_runs (hr : (s.recSession n).running = true) (hs : (s.recSession n).stop = none) (f : Frame)
    (reason close : Nat) : s.recStop n f reason close =
      s.onRec n fun x => { x with stop := some (f, reason), close, stopAt := none } :=
  onRec_congr (if_pos (by rw [hr, hs]; rfl))

end Sessions

end Sys2Proof.Machine

namespace Sys2Proof

open Machine

/-- Settles O43: each clause is the branch of the command that its hypotheses select. That format, mount and read take no time
is the model's choice (log entry 43), and so is the position 0, TYPE 0 of a refusal without items (log entry 17). -/
theorem volumeCommands : Obligations.VolumeCommands := by
  unfold Obligations.VolumeCommands
  refine ⟨?_, ?_, ?_, ?_, ?_, ?_, ?_, ?_, ?_⟩
  · -- REC_VOLUME_FORMAT
    rintro c gs s r h rfl
    exact runs_command rfl ⟨runCommand_items h rfl, volumeFormat_volume .., volumeFormat_sizes ..⟩
  · -- REC_VOLUME_MOUNT
    intro c gs s v n t h hm
    refine runs_command rfl (runCommand_items h ?_)
    simp only [cmdRecVolumeMount, hm, Ans.items]
  · -- REC_VOLUME_UNMOUNT
    intro c gs s v h hr hv
    refine runs_accepted rfl h (its := []) (cs := []) ?_ rfl
    simp only [cmdRecVolumeUnmount, hr, needVolume_some hv, Ans.done, State.volumeUnmount, Bool.false_eq_true, if_false]
  · -- REC_VOLUME_UNMOUNT while a session runs
    intro c gs s h hr
    exact runs_command rfl (runCommand_err h (if_pos hr))
  · -- REC_VOLUME_UNMOUNT without a volume
    intro c gs s h hr hv
    refine runs_command rfl (runCommand_err h ?_)
    simp only [cmdRecVolumeUnmount, hr, needVolume_none hv, Bool.false_eq_true, if_false]
  · -- REC_VOLUME_INFO
    rintro c gs s v d h hv rfl
    exact runs_command rfl (runCommand_items h (needVolume_some hv _))
  · -- REC_CLIP_LIST
    intro c gs s v h hv
    exact runs_command rfl (runCommand_items h (needVolume_some hv _))
  · -- REC_CLIP_READ
    rintro c gs s x n h hx rfl
    refine runs_command rfl (runCommand_items h ?_)
    simp only [cmdRecClipRead, hx, Ans.items]
  · -- REC_DRIVE_INFO
    exact reads_of_items (fun _ _ => rfl) fun _ _ _ => rfl

/-- Settles O44: each clause is the branch of the command that its hypotheses select. Where no AT_FRAME is given, the frame is
the one in progress (log entry 20); that REC_START takes the clip numbers is the model's choice (log entry 43). -/
theorem recordingSessionCommands : Obligations.RecordingSessionCommands := by
  unfold Obligations.RecordingSessionCommands
  refine ⟨?_, ?_, ?_, ?_, ?_, ?_, ?_, ?_⟩
  · -- REC_SESSION_SET of a session that does not wait to start
    rintro c gs s n v h rfl hnamed rfl hw
    refine runs_accepted rfl h (its := []) (cs := []) ?_ rfl
    simp only [cmdRecSessionSet, hnamed, refuseFirst_holds, orElse_none, onRec_cfg_startAt, hw, Ans.done,
      Option.isSome_none, Bool.false_eq_true, if_false]
  · -- REC_START with AT_FRAME
    rintro c gs s r f h hw rfl hf hat
    refine runs_command rfl (runCommand_items h ?_)
    simp only [cmdRecStart, hw, hf, hat, Ans.items, Option.isSome_none, Option.getD_some, Bool.false_eq_true, if_false, if_true]
  · -- REC_START without AT_FRAME
    rintro c gs s r v h hw rfl hf hat hn hr hv hfull
    obtain ⟨w, hwv, hwf⟩ := reserveClips_volume (n := gotN gs 1) hv
    refine runs_command rfl ⟨?_, ?_⟩
    · refine runCommand_items h ?_
      simp only [cmdRecStart, hw, hf, hat, Ans.items, Option.isSome_none, Option.getD_none, Bool.false_eq_true, if_false,
        reserveClips_raster]
    · exact recStart_runs (Nat.lt_of_lt_of_eq hn reserveClips_sessions_length.symm) (reserveClips_running.trans hr)
        hwv (hwf.trans hfull) _
  · -- REC_STOP with AT_FRAME
    intro c gs s f h hf hr
    refine runs_command rfl (runCommand_items h ?_)
    simp only [cmdRecStop, hf, hr, Ans.items, Bool.true_or, if_true]
  · -- REC_STOP without AT_FRAME
    intro c gs s h hf hr hs
    refine runs_command rfl (runCommand_items h ?_)
    simp only [cmdRecStop, hf, hr, hs, recStop_runs hr hs, Ans.items, Option.map_none, Option.getD_none, if_true]
  · -- REC_METADATA_ADD
    intro c gs s h hone hall
    refine runs_accepted rfl h (its := []) (cs := []) ?_ rfl
    simp only [cmdRecMetadataAdd, if_neg (Nat.not_lt.2 hone), if_neg (Nat.not_lt.2 hall), Ans.done]
  · -- REC_STATUS_GET
    exact reads_of_items (fun _ _ => rfl) fun _ _ _ => rfl
  · -- REC_COUNTERS_CLEAR
    exact does_of_done (fun _ _ => rfl) fun _ _ _ => rfl

end Sys2Proof

/-! # Ports: ARP, ICMP, links and control over UDP -/

namespace Sys2Proof.Machine

/-! ## Ports and transports -/

/-- What a change keeps of every element reads the same at every index of the changed list. -/
theorem modAt_getD_keeps {α β : Type} {g : α → β} {f : α → α} (hf : ∀ x, g (f x) = g x) (l : List α) (i j : Nat) (d : α) :
    g ((modAt l i f).getD j d) = g (l.getD j d) := by
  rw [List.getD_eq_getElem?_getD, List.getD_eq_getElem?_getD, modAt_getElem?]
  split
  · cases l[j]? with
    | none => rfl
    | some x => exact hf x
  · rfl

theorem netPort?_onNetPort (p : Nat) (f : NetPort → NetPort) (s : State) :
    (s.onNetPort p f).netPort? p = (s.netPort? p).map f := modAt_same ..

/-- Counting on a port leaves its fields and its link as they are. -/
theorem netPort?_countPort {s : State} {p : Nat} {x : NetPort} (h : s.netPort? p = some x) (k : Nat) :
    (s.countPort p k).netPort? p = some { x with cnt := bumpAt x.cnt k } := by
  rw [State.countPort, netPort?_onNetPort, h, Option.map_some]

@[simp] theorem countPort_ptp (p k : Nat) (s : State) : (s.countPort p k).net.ptp = s.net.ptp := rfl
@[simp] theorem countPort_ready (p k : Nat) (s : State) : (s.countPort p k).ready = s.ready := rfl
@[simp] theorem countPort_transport (j p k : Nat) (s : State) : (s.countPort p k).transport j = s.transport j := rfl
@[simp] theorem onTransport_control (k : Nat) (f : Transport → Transport) (s : State) :
    (s.onTransport k f).control = s.control := rfl

/-- What a change of a transport keeps reads the same after it. -/
theorem transport_onTransport_keeps {β : Type} {g : Transport → β} {f : Transport → Transport} (hf : ∀ t, g (f t) = g t)
    (k : Nat) (s : State) : g ((s.onTransport k f).transport k) = g (s.transport k) := modAt_getD_keeps hf ..

section Bind
variable (k : Nat) (c : Option (Nat × Word × Nat)) (s : State)

/-- A new client finds the fills as they were. -/
@[simp] theorem onTransport_client_rx :
    ((s.onTransport k fun t => { t with client := c }).transport k).rx = (s.transport k).rx :=
  transport_onTransport_keeps (g := (·.rx)) (f := fun t => { t with client := c }) (fun _ => rfl) k s

@[simp] theorem onTransport_client_out :
    ((s.onTransport k fun t => { t with client := c }).transport k).out = (s.transport k).out :=
  transport_onTransport_keeps (g := (·.out)) (f := fun t => { t with client := c }) (fun _ => rfl) k s

end Bind

/-! ## Links, ARP and ICMP (R321 to R323) -/

section Ports
variable {s : State} {p : Nat} {x : NetPort}

/-- A link that changes on a port that is enabled, or goes down, is noted and reported (R321). -/
theorem ethLinkChange_changes (hx : s.netPort? p = some x) {up : Bool} (hl : x.linkUp ≠ up)
    (hen : up = false ∨ x.cfg.portEnable ≠ 0) : ethLinkChange p up s =
      (s.onNetPort p fun x => { x with linkUp := up }).notice 0x0A80
        [itemN 1 1 p, itemN 2 1 (bit up), itemN 3 1 x.cfg.speed, itemN 4 1 x.cfg.fec] := by
  have hno : ¬(x.linkUp == up || (up && x.cfg.portEnable == 0)) = true := by
    rw [Bool.or_eq_true, Bool.and_eq_true, beq_iff_eq, beq_iff_eq]
    rintro (h | ⟨rfl, h⟩)
    · exact hl h
    · exact hen.elim nofun fun he => he h
  simp only [ethLinkChange, hx, if_neg hno]

theorem ethLinkChange_same (hx : s.netPort? p = some x) : ethLinkChange p x.linkUp s = s := by
  simp only [ethLinkChange, hx, beq_self_eq_true, Bool.true_or, if_true]

/-- An ARP request for the port's address enters its sender in the cache and is answered (R323). -/
theorem arpPacket_request (ho : s.portOpen p = true) (hx : s.netPort? p = some x) (hip : x.cfg.ipAddr ≠ 0) {a : ArpPacket}
    (ht : a.targetIp.toNat = x.cfg.ipAddr) (hreq : a.request = true) : arpPacket p a s =
      ((s.countPort p 0).onNetPort p fun x => { x with arp := arpPut a.senderIp.toNat a.senderMac x.arp }).ipSend p
        (.arpReply a.senderIp.toNat a.senderMac) := by
  simp only [arpPacket, ho, netPort?_countPort hx, hip, ht, hreq, beq_self_eq_true, Bool.not_true, Bool.true_or,
    Bool.and_self, Bool.false_eq_true, if_false, if_true]

theorem arpPacket_closed (ho : s.portOpen p = false) (a : ArpPacket) : arpPacket p a s = s :=
  if_pos (by rw [ho]; rfl)

theorem arpRefresh_cached (hx : s.netPort? p = some x) (ip : Word) : arpRefresh p ip s =
    if x.arp.any fun e => e.1 == ip.toNat then s.ipSend p (.arpRequest ip.toNat) else s := by
  simp only [arpRefresh, hx, Option.any_some]

/-- An echo request is counted, and answered when it names the port's address (R323). -/
theorem icmpEchoRequest_open (ho : s.portOpen p = true) (hx : s.netPort? p = some x) (src dst : Word) (bs : List Byte) :
    icmpEchoRequest p src dst bs s = if x.cfg.ipAddr != 0 && x.cfg.ipAddr == dst.toNat then
      (s.countPort p 0).ipSend p (.icmpReply src bs) else s.countPort p 0 := by
  simp only [icmpEchoRequest, ho, netPort?_countPort hx, Option.any_some, Bool.not_true, Bool.false_eq_true, if_false]

end Ports

/-! ## Control datagrams (R324, R325) -/

section Datagrams
variable {table : Nat → Option Cmd} {s : State} {d : Datagram}

theorem ctlDatagram_withoutIp (h : s.portIp d.port = false) : s.ctlDatagram table d = s := if_pos (by rw [h]; rfl)

theorem ctlDatagram_unsound (h : s.portIp d.port = true) (hd : datagramSound d = false) :
    s.ctlDatagram table d = (s.countPort d.port 0).countNet 4 := by
  simp only [State.ctlDatagram, h, hd, State.ctlDrop, Bool.not_true, Bool.not_false, Bool.true_or, Bool.false_eq_true,
    if_false, if_true]

/-- A binding that has ended has no client. -/
theorem unbind_client (k : Nat) (s : State) : ((s.unbind k).transport k).client = none := by
  by_cases hk : k < s.net.transports.length
  · exact congrArg (·.client) (modAt_getD_same hk _ {})
  · exact congrArg (·.client) (List.getD_eq_default _ _ ((modAt_length ..).trans_le (Nat.le_of_not_lt hk)))

section Taken
variable (h : s.portIp d.port = true) (hd : datagramSound d = true) (hr : s.ready = true)
include h hd hr

/-- A datagram without RESET from the client of its mailbox, or at an unbound one, binds its sender and is an
acknowledgement or a fill (R325). -/
theorem ctlDatagram_bound (hreset : d.flags.testBit 2 = false)
    (hfrom : ∀ c, (s.transport (d.mailbox - 8)).client = some c → c = (d.port, d.srcIp, d.srcPort)) :
    s.ctlDatagram table d =
      (if d.flags.testBit 1 then State.ctlAck (d.mailbox - 8) d else State.ctlFill table (d.mailbox - 8) d)
        ((s.countPort d.port 0).onTransport (d.mailbox - 8) fun t =>
          { t with client := some (d.port, d.srcIp, d.srcPort) }) := by
  have hmine : ((s.transport (d.mailbox - 8)).client.any fun c => c != (d.port, d.srcIp, d.srcPort)) = false := by
    rw [Option.any_eq_false]
    intro c hc
    rw [hfrom c hc, bne_self_eq_false]
  simp only [State.ctlDatagram, h, hd, hr, hreset, hmine, countPort_ready, countPort_transport, Bool.not_true, Bool.or_self,
    Bool.false_and, Bool.false_eq_true, if_false]
  split <;> rfl

/-- A datagram with RESET and no more ends the binding of its mailbox and binds its sender (R325). -/
theorem ctlDatagram_reset (hflags : d.flags = 4) (hfill : d.fill = []) : s.ctlDatagram table d =
    ((s.countPort d.port 0).unbind (d.mailbox - 8)).onTransport (d.mailbox - 8) fun t =>
      { t with client := some (d.port, d.srcIp, d.srcPort) } := by
  have h2 : Nat.testBit 4 2 = true := rfl
  have h1 : Nat.testBit 4 1 = false := rfl
  simp only [State.ctlDatagram, h, hd, hr, hflags, hfill, h2, h1, unbind_client, countPort_ready, Option.any_none,
    List.isEmpty_nil, Bool.not_true, Bool.or_self, Bool.and_self, Bool.false_eq_true, if_false, if_true]

end Taken

/-- The acknowledgement of the outstanding fill frees it. -/
theorem ctlAck_outstanding {k : Nat} {f : OutFill} (hout : (s.transport k).out = some f) (hm : f.msgSeq = d.msgSeq)
    (hn : f.fillNo = d.fillNo) (hfill : d.fill = [])
    (hkeep : (s.control.mailboxes[8 + k]?).any (fun m => m.resetOnAck) = false) :
    s.ctlAck k d = s.onTransport k fun t => { t with out := none } := by
  simp only [State.ctlAck, hout, hm, hn, hfill, hkeep, onTransport_control, beq_self_eq_true, List.isEmpty_nil, Bool.and_self,
    Bool.false_eq_true, if_false, if_true]

/-- The final fill of a message that begins with it is acknowledged and delivered. -/
theorem ctlFill_whole {k : Nat} {x : NetPort} (hx : s.netPort? d.port = some x) (hrx : (s.transport k).rx = none)
    (hlast : d.flags.testBit 0 = true) (hmin : 1 ≤ d.fill.length) (hmax : d.fill.length ≤ x.cfg.fill) (hn : d.fillNo = 0) :
    s.ctlFill table k d = takeFill table (8 + k) d.fill true
      ((s.onTransport k fun t => { t with rx := some (d.msgSeq, d.fillNo, false) }).ipSend d.port
        (.control d.srcIp d.srcPort (8 + k) 2 d.msgSeq d.fillNo [])) := by
  simp only [State.ctlFill, hx, hrx, hlast, hn, decide_eq_true hmin, decide_eq_true hmax, Option.map_some, Option.getD_some,
    Option.any_none, beq_self_eq_true, Bool.and_self, Bool.not_true, Bool.false_eq_true, if_false, if_true]

end Datagrams

/-! ## Timers of a binding (R325) -/

section Timers
variable {s : State} {k : Nat} (hk : k < 4)
include hk

/-- Mailboxes 8 to 11 are the Ethernet ones. -/
theorem ethernetMailbox_bounds : ¬(8 + k < 8 ∨ 11 < 8 + k) := by omega

theorem controlResendTimer_resends {f : OutFill} (hout : (s.transport k).out = some f) (hf : f.resends < 5) :
    controlResendTimer (8 + k) s =
      (s.onTransport k fun t => { t with out := some { f with resends := f.resends + 1 } }).sendFill k := by
  simp only [controlResendTimer, if_neg (ethernetMailbox_bounds hk), Nat.add_sub_cancel_left, hout, if_pos hf]

theorem controlResendTimer_gives_up {f : OutFill} (hout : (s.transport k).out = some f) (hf : 5 ≤ f.resends) :
    controlResendTimer (8 + k) s = ((s.unbind k).countNet 5).notice 0x0A86 [itemN 1 1 (8 + k), itemN 2 1 0] := by
  simp only [controlResendTimer, if_neg (ethernetMailbox_bounds hk), Nat.add_sub_cancel_left, hout, if_neg (Nat.not_lt.2 hf)]

theorem controlBindTimeout_bound (hc : (s.transport k).client.isSome = true) : controlBindTimeout (8 + k) s =
    (s.unbind k).notice 0x0A86 [itemN 1 1 (8 + k), itemN 2 1 1] := by
  have hgo : ¬(8 + k < 8 ∨ (11 < 8 + k || (s.transport (8 + k - 8)).client.isNone) = true) := by
    rw [Nat.add_sub_cancel_left, Option.isNone_eq_false_iff.2 hc, Bool.or_false, decide_eq_true_eq]
    exact ethernetMailbox_bounds hk
  rw [controlBindTimeout, if_neg hgo, Nat.add_sub_cancel_left]

end Timers

theorem controlBindTimeout_unbound {s : State} {k : Nat} (hc : (s.transport k).client = none) :
    controlBindTimeout (8 + k) s = s :=
  if_pos (.inr (by rw [Nat.add_sub_cancel_left, hc, Option.isNone_none, Bool.or_true]))

end Sys2Proof.Machine

namespace Sys2Proof

open Machine

/-- Settles O45: each event's equation for the case that the clause describes. How the ARP cache is kept is the model's choice
(log entry 45). -/
theorem controlDatagramsAndIp : Obligations.ControlDatagramsAndIp := by
  unfold Obligations.ControlDatagramsAndIp
  refine ⟨?_, ?_, ?_, ?_, ?_, ?_, ?_, ?_, ?_, ?_, ?_, ?_, ?_, ?_, ?_⟩
  · -- a port without IP
    intro s d h
    exact ⟨runs_event rfl (ctlDatagram_withoutIp h), runs_event rfl (ctlDatagram_withoutIp h),
      runs_event rfl (ctlDatagram_withoutIp h)⟩
  · -- an unsound datagram
    exact fun s d h hd => runs_event rfl (ctlDatagram_unsound h hd)
  · -- a whole message in one fill
    rintro s d x k h hd hr rfl hx hc hrx hflags hmin hmax hn
    have hlast : d.flags.testBit 0 = true := by rw [hflags]; rfl
    have hreset : d.flags.testBit 2 = false := by rw [hflags]; rfl
    have hfill : d.flags.testBit 1 = false := by rw [hflags]; rfl
    refine runs_event rfl ?_
    rw [controlFillDatagram, ctlDatagram_bound h hd hr hreset (fun c hc' => nomatch hc.symm.trans hc'), hfill]
    exact ctlFill_whole (netPort?_countPort hx 0) ((onTransport_client_rx ..).trans hrx) hlast hmin hmax hn
  · -- an acknowledgement
    rintro s d k f h hd hr rfl hc hout hflags hfill hm hn hkeep
    have hreset : d.flags.testBit 2 = false := by rw [hflags]; rfl
    have hack : d.flags.testBit 1 = true := by rw [hflags]; rfl
    refine runs_event rfl ?_
    rw [controlAckDatagram, ctlDatagram_bound h hd hr hreset (fun c hc' => Option.some.inj (hc'.symm.trans hc)), hack]
    exact ctlAck_outstanding ((onTransport_client_out ..).trans hout) hm hn hfill hkeep
  · -- RESET without a fill
    rintro s d k h hd hr rfl hflags hfill
    exact runs_event rfl (ctlDatagram_reset h hd hr hflags hfill)
  · -- an unanswered fill
    exact fun s k f hk hout hf => runs_event rfl (controlResendTimer_resends hk hout hf)
  · exact fun s k f hk hout hf => runs_event rfl (controlResendTimer_gives_up hk hout hf)
  · -- BIND_TIMEOUT
    exact fun s k hk hc => runs_event rfl (controlBindTimeout_bound hk hc)
  · exact fun s k _ hc => runs_event rfl (controlBindTimeout_unbound hc)
  · -- ARP
    exact fun s p a x ho hx hip ht hreq => runs_event rfl (arpPacket_request ho hx hip ht hreq)
  · exact fun s p a ho => runs_event rfl (arpPacket_closed ho a)
  · exact fun s p i x hx => runs_event rfl (arpRefresh_cached hx i)
  · -- ICMP
    exact fun s p a b bs x ho hx => runs_event rfl (icmpEchoRequest_open ho hx a b bs)
  · -- the link
    exact fun s p b x hx hl hen => runs_event rfl (ethLinkChange_changes hx hl hen)
  · exact fun s p x hx => runs_event rfl (ethLinkChange_same hx)

end Sys2Proof

/-! # PTP -/

namespace Sys2Proof.Machine

/-! ## Messages (R326 to R328) -/

/-- A PTP message on the other port is counted and dropped (R326). -/
theorem ptpTakes_elsewhere {s : State} {p : Nat} (h : s.portIp p = true) (he : s.net.ptp.cfg.enable ≠ 0)
    (hp : p ≠ s.net.ptp.cfg.port) : s.ptpTakes p = (false, (s.countPort p 0).countPort p 3) := by
  simp only [State.ptpTakes, h, he, hp, countPort_ptp, Bool.not_true, Bool.false_eq_true, ne_eq, not_false_eq_true, if_false,
    if_true]

@[simp] theorem onPtp_ptp (f : Ptp → Ptp) (s : State) : (s.onPtp f).net.ptp = f s.net.ptp := rfl

/-- While no path delay is known a complete Sync only keeps its forward time (R328). -/
theorem syncComplete_undelayed {s : State} (hd : s.net.ptp.pathDelay = none) (forward : Int) :
    s.syncComplete forward = s.onPtp fun x => { x with lastForward := some forward } := by
  simp only [State.syncComplete, onPtp_ptp, hd]

section Messages
variable {s : State} {p : Nat} (h : s.portIp p = true) (he : s.net.ptp.cfg.enable ≠ 0) (hp : p = s.net.ptp.cfg.port)
include h he hp

/-- A PTP message on PTP_PORT is counted and taken. -/
theorem ptpTakes_here : s.ptpTakes p = (true, s.countPort p 0) := by
  simp only [State.ptpTakes, h, he, ← hp, countPort_ptp, Bool.not_true, Bool.false_eq_true, ne_eq, not_true_eq_false,
    if_false]

theorem syncReceived_foreign {m : PtpSync} (hm : s.net.ptp.master.map (·.source) ≠ some m.source) :
    syncReceived p m s = s.countPort p 0 := by
  simp only [syncReceived, ptpTakes_here h he hp]
  exact if_pos hm

/-- A two-step Sync of the master waits; a one-step Sync is complete (R327). -/
theorem syncReceived_master {m : PtpSync} (hm : s.net.ptp.master.map (·.source) = some m.source) : syncReceived p m s =
    if m.twoStep then (s.countPort p 0).onPtp fun x => { x with pendingSync := some m }
    else (s.countPort p 0).syncComplete (m.received - m.origin - m.correction) := by
  simp only [syncReceived, ptpTakes_here h he hp]
  exact if_neg (not_not_intro hm)

theorem followUpReceived_pending {m y : PtpSync} (hy : s.net.ptp.pendingSync = some y) (hsource : y.source = m.source)
    (hseq : y.seq = m.seq) : followUpReceived p m s =
      ((s.countPort p 0).onPtp fun x => { x with pendingSync := none }).syncComplete
        (y.received - m.origin - y.correction - m.correction) := by
  simp only [followUpReceived, ptpTakes_here h he hp, countPort_ptp, hy, hsource, hseq, ne_eq, not_true_eq_false, or_self,
    if_false]

theorem delayRespReceived_outstanding {m : PtpDelayResp} {t f : Int} (hreq : s.net.ptp.delayReq = some (m.seq, t))
    (hf : s.net.ptp.lastForward = some f) (hm : s.net.ptp.master.map (·.source) = some m.source) :
    delayRespReceived p m s = (s.countPort p 0).onPtp fun x =>
      { x with delayReq := none, pathDelay := some ((f + (m.received - t - m.correction)) / 2) } := by
  simp only [delayRespReceived, ptpTakes_here h he hp, countPort_ptp, hreq, hf, hm, ne_eq, not_true_eq_false, or_self, if_false]

/-- An Announce of another clock is noted before the best master is chosen (R326). -/
theorem announceReceived_foreign {a : PtpAnnounce} (hs : a.source ≠ clockIdentity) (hg : a.grandmaster ≠ clockIdentity)
    {w : State} (hw : w = ((s.countPort p 0).onPtp fun x =>
      { x with foreign := (x.foreign.filter fun f => f.1.source != a.source) ++
        [(a, min 2 (((x.foreign.find? fun f => f.1.source == a.source).map (·.2)).getD 0 + 1))] }).bmca false) :
    announceReceived p a s = if w.net.ptp.master.map (·.source) = some a.source then
      w.onPtp fun x => { x with utcOffset := if a.utcValid then a.utcOffset else x.utcOffset, tlv := a.syncTlv } else w := by
  subst hw
  simp only [announceReceived, ptpTakes_here h he hp, hs, hg, or_self, if_false]

theorem delayReqReceived_master (hm : s.net.ptp.mode = .master) (src seq : Nat) : delayReqReceived p src seq s =
    (s.countPort p 0).ipSend p (.ptpDelayResp src seq s.raster.clock) := by
  simp only [delayReqReceived, ptpTakes_here h he hp]
  exact if_neg (not_not_intro hm)

end Messages

/-! ## Timers (R326, R327, R330) -/

section Timers
variable {s : State}

/-- After the receipt timeout the master is forgotten and counted, and one is chosen anew (R330). -/
theorem announceReceiptTimeout_master (he : s.net.ptp.cfg.enable ≠ 0) {a : PtpAnnounce} (ha : s.net.ptp.master = some a) :
    announceReceiptTimeout s = ((s.countNet 2).onPtp fun y =>
      { y with foreign := y.foreign.filter fun f => some a.source != some f.1.source, master := none }).bmca true := by
  simp only [announceReceiptTimeout, if_neg he, ha, Option.isSome_some, Option.map_some, if_true]

theorem announceReceiptTimeout_disabled (he : s.net.ptp.cfg.enable = 0) : announceReceiptTimeout s = s := if_pos he

theorem delayReqTimer_disabled (he : s.net.ptp.cfg.enable = 0) : delayReqTimer s = s :=
  if_pos (by rw [he]; rfl)

theorem delayReqTimer_sends (he : s.net.ptp.cfg.enable ≠ 0) (hm : s.net.ptp.master.isSome = true)
    (h : s.portIp s.net.ptp.cfg.port = true) : delayReqTimer s =
      (s.onPtp fun y => { y with delayReq := some (y.reqSeq, Clk.units s.raster.clock)
                                 reqSeq := (y.reqSeq + 1) % 65536 }).ipSend s.net.ptp.cfg.port
        (.ptpDelayReq (s.net.ptp.cfg.delayUnicast == 1) s.net.ptp.reqSeq) := by
  have hgo : ¬(s.net.ptp.cfg.enable = 0 || s.net.ptp.master.isNone || !s.portIp s.net.ptp.cfg.port) = true := by
    rw [decide_eq_false he, Option.isNone_eq_false_iff.2 hm, h]
    exact Bool.false_ne_true
  exact if_neg hgo

end Timers

end Sys2Proof.Machine

namespace Sys2Proof

open Machine

/-- Settles O46: each event's equation for the case that the clause describes, and each command's branch. The clock's own
variance and the comparison of datasets are presumed (log entry 44); that PTP_RESTEP is refused at position 0, TYPE 0 is the
model's choice (log entry 17). -/
theorem ptpEventsAndCommands : Obligations.PtpEventsAndCommands := by
  unfold Obligations.PtpEventsAndCommands
  refine ⟨?_, ?_, ?_, ?_, ?_, ?_, ?_, ?_, ?_, ?_, ?_, ?_, ?_, ?_, ?_, ?_⟩
  · -- a Sync on the other port
    intro s p m h he hp
    refine runs_event rfl ?_
    rw [syncReceived, ptpTakes_elsewhere h he hp]
  · exact fun s p m h he hp hm => runs_event rfl (syncReceived_foreign h he hp hm)
  · -- a Sync of the master before a path delay is known
    intro s p m h he hp hm hd
    refine runs_event rfl ?_
    rw [syncReceived_master h he hp hm, syncComplete_undelayed (s := s.countPort p 0) hd]
  · exact fun s p m y h he hp hy hsource hseq => runs_event rfl (followUpReceived_pending h he hp hy hsource hseq)
  · exact fun s p m t f h he hp hreq hf hm => runs_event rfl (delayRespReceived_outstanding h he hp hreq hf hm)
  · exact fun s w p a h he hp hs hg hw => runs_event rfl (announceReceived_foreign h he hp hs hg hw)
  · exact fun s a he ha => runs_event rfl (announceReceiptTimeout_master he ha)
  · exact fun s he => ⟨runs_event rfl (announceReceiptTimeout_disabled he), runs_event rfl (delayReqTimer_disabled he)⟩
  · exact fun s he hm h => runs_event rfl (delayReqTimer_sends he hm h)
  · -- the timers of the master
    exact fun s hm => ⟨runs_event rfl (if_neg (not_not_intro hm)), runs_event rfl (if_neg (not_not_intro hm))⟩
  · exact fun s hm => ⟨runs_event rfl (if_pos hm), runs_event rfl (if_pos hm)⟩
  · exact fun s p a q h he hp hm => runs_event rfl (delayReqReceived_master h he hp hm a q)
  · -- PTP_CONFIG_SET
    exact does_of_done (fun _ _ => rfl) fun _ _ _ => rfl
  · -- PTP_STATUS_GET
    exact reads_of_items (fun _ _ => rfl) fun _ _ _ => rfl
  · -- PTP_RESTEP
    exact fun c gs s h hm => runs_accepted rfl h (its := []) (cs := []) (if_pos hm) rfl
  · intro c gs s h ht hl
    exact runs_command rfl (runCommand_err h (if_neg (not_or_intro ht hl)))

end Sys2Proof

/-! # RTP, and the commands of ports and streams -/

namespace Sys2Proof.Machine

/-! ## Packets and sender reports (R332 to R336) -/

/-- The NTP and RTP time stamps that a sender report carries now, 12 bytes of it (R336). -/
def State.reportStamps (s : State) : List Byte :=
  toBe 4 (((s.raster.clock.sec.toNat : Int) - s.net.ptp.utcOffset + 2208988800) % (2 ^ 32 : Int)).toNat ++
    toBe 4 ((s.raster.clock.ns.toNat * 65536 + s.raster.clock.frac.toNat) * 2 ^ 32 / (1000000000 * 65536)) ++
    toBe 4 (rtpStamp s.raster.clock)

theorem toLe_length (n v : Nat) : (toLe n v).length = n := by
  induction n generalizing v with
  | zero => rfl
  | succ n ih => rw [toLe, List.length_cons, ih]

theorem toBe_length (n v : Nat) : (toBe n v).length = n := by rw [toBe, List.length_reverse, toLe_length]

section Packets
variable {s : State} {n : Nat} {x : RtpStream} (hx : s.net.streams[n]? = some x)
include hx

theorem rtpPacketSend_idle (ha : x.aus = []) : rtpPacketSend n s = s := by
  simp only [rtpPacketSend, hx, ha]

theorem rtpAuLate_idle (ha : x.aus = []) : rtpAuLate n s = s := by
  simp only [rtpAuLate, hx, ha]

/-- A packet that is not the last of its AU goes out with the stream's number, and the AU stays (R335). -/
theorem rtpPacketSend_more {a : RtpAu} {rest : List RtpAu} {p q : List Byte × Bool} {ps : List (List Byte × Bool)}
    (ha : x.aus = a :: rest) (hp : a.payloads = p :: q :: ps) : rtpPacketSend n s =
      (s.ipSend x.cfg.port (.udp x.cfg.destAddr x.cfg.destPort x.cfg.ttl x.cfg.dscp (rtpPacket x.cfg x.seq a p.1 p.2))).onRtp n
        fun x => { x with seq := (x.seq + 1) % 65536, packets := (x.packets + 1) % 2 ^ 32
                          octets := (x.octets + p.1.length) % 2 ^ 32, cnt := bumpAt x.cnt 1
                          aus := { a with payloads := q :: ps, begun := true } :: rest } := by
  simp only [rtpPacketSend, hx, ha, hp, List.isEmpty_cons, Bool.false_eq_true, if_false]

/-- The oldest AU, when late, is dropped with cause 3, and the stream reads on (R335). -/
theorem rtpAuLate_drops {a : RtpAu} {rest : List RtpAu} (ha : x.aus = a :: rest) :
    rtpAuLate n s = ((s.onRtp n fun x => { x with aus := rest }).rtpDrop n a.entry 3).rtpTake n := by
  simp only [rtpAuLate, hx, ha]

theorem rtcpSenderReport_stopped (hr : x.running = false) : rtcpSenderReport n s = s := by
  simp only [rtcpSenderReport, hx, hr, Bool.not_false, if_true]

/-- A running stream's report: header and SSRC, the time stamps, and the counts of packets and octets. -/
theorem rtcpSenderReport_running (hr : x.running = true) : rtcpSenderReport n s =
    s.ipSend x.cfg.port (.udp x.cfg.destAddr (x.cfg.destPort + 1) x.cfg.ttl x.cfg.dscp
      ((toLe 1 0x80 ++ toLe 1 200 ++ toBe 2 6 ++ toBe 4 x.cfg.ssrc) ++ s.reportStamps ++
        (toBe 4 x.packets ++ toBe 4 x.octets))) := by
  simp only [rtcpSenderReport, hx, hr, State.reportStamps, Bool.not_true, Bool.false_eq_true, if_false, List.append_assoc]

end Packets

end Sys2Proof.Machine

namespace Sys2Proof

open Machine

/-- Settles O47: each event's equation for the case that the clause describes, and each command's branch. The frame of a start
without AT_FRAME is the model's choice (log entry 20). -/
theorem rtpAndNetworkCommands : Obligations.RtpAndNetworkCommands := by
  unfold Obligations.RtpAndNetworkCommands
  refine ⟨?_, ?_, ?_, ?_, ?_, ?_, ?_, ?_, ?_, ?_, ?_, ?_, ?_, ?_, ?_⟩
  · -- a stream without an AU
    exact fun s n x hx ha => ⟨runs_event rfl (rtpPacketSend_idle hx ha), runs_event rfl (rtpAuLate_idle hx ha)⟩
  · exact fun s n x a rest p q ps hx ha hp => runs_event rfl (rtpPacketSend_more hx ha hp)
  · exact fun s n x a rest hx ha => runs_event rfl (rtpAuLate_drops hx ha)
  · -- a sender report
    intro s n x hx hr
    refine runs_event rfl ⟨_, rtcpSenderReport_running hx hr, ?_, List.drop_left' ?_⟩
    · rw [List.append_assoc]
      exact List.take_left' (by simp only [List.length_append, toLe_length, toBe_length])
    · simp only [State.reportStamps, List.length_append, toLe_length, toBe_length]
  · exact fun s n x hx hr => runs_event rfl (rtcpSenderReport_stopped hx hr)
  · -- a received RTCP packet
    exact fun s p => runs_event rfl rfl
  · -- NET_PORT_SET
    rintro c gs s n h rfl hfec
    refine runs_accepted rfl h (its := []) (cs := []) ?_ rfl
    have hfits : ((putPlain 0x100 netPortFlds gs (netPortCfg gs s)).fec != 2 ||
        (putPlain 0x100 netPortFlds gs (netPortCfg gs s)).speed == 1) = true := by
      rwa [Bool.or_eq_true, bne_iff_ne, beq_iff_eq]
    simp only [cmdNetPortSet, hfits, refuseFirst_holds, orElse_none, Ans.done]
  · -- NET_PORT_GET
    intro c gs s x h hx
    refine runs_command rfl (runCommand_items h ?_)
    simp only [cmdNetPortGet, hx]
  · -- NET_CONTROL_SET
    exact does_of_done (fun _ _ => rfl) fun _ _ _ => rfl
  · -- RTP_STREAM_SET
    rintro c gs s x n h hx rfl hw hq
    refine runs_command rfl (runCommand_items h ?_)
    simp only [cmdRtpStreamSet, hx, hw, hq, refuseFirst_holds, orElse_none, Bool.not_true, Bool.false_eq_true, if_false]
  · -- RTP_START
    intro c gs s x h hx hr
    refine runs_command rfl (runCommand_items h ?_)
    simp only [cmdRtpStart, hx, hr, State.rtpStart, Bool.false_eq_true, if_false]
  · -- RTP_STOP
    intro c gs s x f h hx hf
    refine runs_command rfl (runCommand_items h ?_)
    simp only [cmdRtpStop, hx, hf, State.rtpStop, Option.getD_some]
  · -- NET_STATUS_GET
    exact reads_of_items (fun _ _ => rfl) fun _ _ _ => rfl
  · -- NET_COUNTERS_CLEAR
    exact does_of_done (fun _ _ => rfl) fun _ _ _ => rfl
  · exact fun s => runs_event rfl rfl

end Sys2Proof

/-! # Audio commands -/

namespace Sys2Proof.Machine

/-! ## The frame that a start names (R369) -/

section StartFrame
variable {gs : List Got}

theorem startFrame_now (h : gotF? gs 2 = none) (s : State) : startFrame gs s = s.raster.frame := by
  rw [startFrame, h, Option.getD_none]

theorem startFrame_at {f : Frame} (h : gotF? gs 2 = some f) (s : State) : startFrame gs s = f := by
  rw [startFrame, h, Option.getD_some]

end StartFrame

/-! ## Captures and outputs (R358, R363, R367) -/

section Captures
variable {gs : List Got} {s : State} (c : Call)

/-- AUD_CAPTURE_SET of a lead and masks that nothing speaks against writes what is named and keeps the rest. -/
theorem audCaptureSet_free {lead block : Nat} {masks : List Nat} (hl : lead = (gotN? gs 2).getD (s.capture (gotN gs 1)).lead)
    (hb : block = (gotN? gs 4).getD (s.capture (gotN gs 1)).block)
    (hm : masks = (indexed (s.capture (gotN gs 1)).maskShadow).map fun pm => (gotN? gs (5 + pm.1)).getD pm.2)
    (hfree : s.captureRefusal (gotN gs 1) lead masks = none) : cmdAudCaptureSet.run c gs s =
    .items [itemN 0x4001 1 (layoutOf masks).length, itemN 0x4002 4 (recordBytes (layoutOf masks).length block)]
      (s.onCapture (gotN gs 1) fun x =>
        { x with lead, block, maskShadow := masks, ring := if has gs 3 then gotH gs 3 else x.ring }) := by
  subst hl hb hm
  simp only [cmdAudCaptureSet, hfree, ite_self, Option.bind_none, orElse_none]

/-- AUD_CAPTURE_START at once: the capture begins unless it runs. -/
theorem audCaptureStart_now (hf : gotF? gs 2 = none) : cmdAudCaptureStart.run c gs s =
    .items [itemN 0x4001 4 s.raster.frame.toNat]
      (if (s.capture (gotN gs 1)).running then s else s.captureBegin (gotN gs 1)) := by
  simp only [cmdAudCaptureStart, startFrame_now hf, hf]

/-- AUD_CAPTURE_START with AT_FRAME: the start of a capture at rest waits for its frame. -/
theorem audCaptureStart_at {f : Frame} (hf : gotF? gs 2 = some f) (hr : (s.capture (gotN gs 1)).running = false) :
    cmdAudCaptureStart.run c gs s =
      .items [itemN 0x4001 4 f.toNat] (s.onCapture (gotN gs 1) fun x => { x with startAt := some f }) := by
  simp only [cmdAudCaptureStart, startFrame_at hf, hf, hr, Bool.false_eq_true, if_false]

/-- AUD_CAPTURE_STOP at once acts at once. -/
theorem audCaptureStop_now (hf : gotF? gs 2 = none) :
    cmdAudCaptureStop.run c gs s = .items [] (s.captureStop (gotN gs 1)) := by
  simp only [cmdAudCaptureStop, hf, Ans.done, Ans.items]

/-- AUD_CAPTURE_STOP with AT_FRAME: the stop of a running capture waits for its frame. -/
theorem audCaptureStop_at {f : Frame} (hf : gotF? gs 2 = some f) (hr : (s.capture (gotN gs 1)).running = true) :
    cmdAudCaptureStop.run c gs s = .items [] (s.onCapture (gotN gs 1) fun x => { x with stopAt := some f }) := by
  simp only [cmdAudCaptureStop, hf, hr, Bool.true_or, if_true, Ans.done, Ans.items]

/-- AUD_OUTPUT_START at once: the output begins unless it runs. -/
theorem audOutputStart_now (hf : gotF? gs 2 = none) : cmdAudOutputStart.run c gs s =
    .items [itemN 0x4001 4 s.raster.frame.toNat]
      (if (s.audPort (gotN gs 1)).running then s else s.outputBegin (gotN gs 1)) := by
  simp only [cmdAudOutputStart, startFrame_now hf, hf]

/-- AUD_OUTPUT_START with AT_FRAME: the start of an output at rest waits for its frame. -/
theorem audOutputStart_at {f : Frame} (hf : gotF? gs 2 = some f) (hr : (s.audPort (gotN gs 1)).running = false) :
    cmdAudOutputStart.run c gs s =
      .items [itemN 0x4001 4 f.toNat] (s.onAudPort (gotN gs 1) fun x => { x with startAt := some f }) := by
  simp only [cmdAudOutputStart, startFrame_at hf, hf, hr, Bool.false_eq_true, if_false]

/-- AUD_OUTPUT_STOP at once acts at once. -/
theorem audOutputStop_now (hf : gotF? gs 2 = none) :
    cmdAudOutputStop.run c gs s = .items [] (s.outputStop (gotN gs 1)) := by
  simp only [cmdAudOutputStop, hf, Ans.done, Ans.items]

/-- AUD_MASK_SET with a mask: it stands in shadow, and the reply counts the channels that the shadow names (R360). -/
theorem audMaskSet_mask {v : State} (hm : has gs 3 = true)
    (hv : v = s.onCapture (gotN gs 1) fun x => { x with maskShadow := setAt x.maskShadow (gotN gs 2) (gotN gs 3) }) :
    cmdAudMaskSet.run c gs s = .items [itemN 0x4001 1 (layoutOf (v.capture (gotN gs 1)).maskShadow).length] v := by
  simp only [cmdAudMaskSet, hm, if_true, hv]

/-- AUD_GAIN_SET of one channel of a capture (R362, R363). -/
theorem audGainSet_capture {v : Val} (hv : gotAll gs 3 = [v]) (hk : gotN gs 1 = 0) : cmdAudGainSet.run c gs s =
    .items [] (s.onCapture (gotN gs 2) fun x =>
      { x with gains := setAt x.gains (v.bytes.headD 0).toNat (leNat (v.bytes.drop 1))
               gates := modAt x.gates (v.bytes.headD 0).toNat (Gate.setGain (leNat (v.bytes.drop 1))) }) := by
  simp only [cmdAudGainSet, hv, hk, List.foldl_cons, List.foldl_nil, if_true, Ans.done, Ans.items]

/-- AUD_GAIN_SET of one slot of an output (R362, R363). -/
theorem audGainSet_output {v : Val} (hv : gotAll gs 3 = [v]) (hk : gotN gs 1 ≠ 0) : cmdAudGainSet.run c gs s =
    .items [] (s.onAudPort (gotN gs 2) fun x =>
      { x with gates := modAt x.gates (v.bytes.headD 0).toNat (Gate.setGain (leNat (v.bytes.drop 1))) }) := by
  simp only [cmdAudGainSet, hv, hk, List.foldl_cons, List.foldl_nil, if_false, Ans.done, Ans.items]

end Captures

end Sys2Proof.Machine

namespace Sys2Proof

open Machine

/-- Settles O50: each clause is the branch of the command that its hypotheses select. The frame of a start without AT_FRAME is
the one in progress (log entry 20); the form of AUD_GAIN_SET is the model's choice (log entry 48). -/
theorem audioCommands : Obligations.AudioCommands := by
  unfold Obligations.AudioCommands
  refine ⟨?_, ?_, ?_, ?_, ?_, ?_, ?_, ?_, ?_, ?_, ?_, ?_, ?_, ?_, ?_⟩
  · -- AUD_PORT_SET
    rintro c gs s cfg h rfl hj
    refine runs_command rfl (runCommand_items h ?_)
    simp only [cmdAudPortSet, hj, orElse_none]
  · -- AUD_PORT_GET
    exact reads_of_items (fun _ _ => rfl) fun _ _ _ => rfl
  · -- AUD_CAPTURE_SET
    exact fun c gs s masks h hm hfree => runs_command rfl (runCommand_items h (audCaptureSet_free c rfl rfl hm hfree))
  · -- AUD_CAPTURE_START
    exact fun c gs s h hf => runs_command rfl (runCommand_items h (audCaptureStart_now c hf))
  · exact fun c gs s f h hf hr => runs_command rfl (runCommand_items h (audCaptureStart_at c hf hr))
  · -- AUD_CAPTURE_STOP
    exact fun c gs s h hf => runs_command rfl (runCommand_items h (audCaptureStop_now c hf))
  · exact fun c gs s f h hf hr => runs_command rfl (runCommand_items h (audCaptureStop_at c hf hr))
  · -- AUD_MASK_SET
    exact fun c gs s h hm => runs_command rfl ⟨_, rfl, runCommand_items h (audMaskSet_mask c hm rfl)⟩
  · -- AUD_GAIN_SET
    exact fun c gs s v h hv hk => runs_command rfl (runCommand_items h (audGainSet_capture c hv hk))
  · exact fun c gs s v h hv hk => runs_command rfl (runCommand_items h (audGainSet_output c hv hk))
  · -- AUD_OUTPUT_START
    exact fun c gs s h hf => runs_command rfl (runCommand_items h (audOutputStart_now c hf))
  · exact fun c gs s f h hf hr => runs_command rfl (runCommand_items h (audOutputStart_at c hf hr))
  · -- AUD_OUTPUT_STOP
    exact fun c gs s h hf => runs_command rfl (runCommand_items h (audOutputStop_now c hf))
  · -- AUD_STATUS_GET
    exact reads_of_items (fun _ _ => rfl) fun _ _ _ => rfl
  · -- AUD_COUNTERS_CLEAR
    exact does_of_done (fun _ _ => rfl) fun _ _ _ => rfl

end Sys2Proof

/-! # The waves of an instant end -/

namespace Sys2Proof.Machine

/-! ## Rings and Tabsout links leave the events alone -/

section KeepsEvents
variable (s : State)

theorem ringOpen_events (h : Handle) (n : Nat) : (s.ringOpen h n).2.events = s.events := by
  unfold State.ringOpen
  split
  · rfl
  · split <;> rfl

theorem ringPlace_events (h : Handle) (id unit : Nat) (bs : List Byte) : (s.ringPlace h id unit bs).2.events = s.events := by
  unfold State.ringPlace
  split <;> rfl

theorem ringRecord_events (h : Handle) (unit : Nat) (bs : List Byte) : (s.ringRecord h unit bs).2.events = s.events := by
  have hopen := ringOpen_events s h bs.length
  unfold State.ringRecord
  split
  · next ho => rwa [ho] at hopen
  · next ho =>
    rw [ho] at hopen
    rw [← hopen]
    exact ringPlace_events ..

theorem txPump_events (t n : Nat) : (State.txPump t n s).events = s.events := by
  induction n generalizing s with
  | zero => rfl
  | succ n ih =>
    unfold State.txPump
    dsimp only
    split
    · rfl
    · split
      · rfl
      · exact ih _

theorem sendSeq_events (t : Nat) (f : Flit) : (s.sendSeq t f).events = s.events := by
  unfold State.sendSeq
  dsimp only
  split
  · rfl
  · exact txPump_events ..

theorem route_events (f : Flit) (from_ : Option Nat) : (s.route f from_).events = s.events := by
  unfold State.route
  dsimp only
  split
  · rfl
  · -- up
    split
    · rfl
    · split
      · split
        · rfl
        · exact sendSeq_events ..
      · rfl
  · -- down
    refine List.foldlRecOn (motive := fun t : State => t.events = s.events) _ _ rfl fun u hu t _ => ?_
    split
    · exact hu
    · rw [sendSeq_events, hu]
  · -- to a node
    split
    · rfl
    · split
      · exact sendSeq_events ..
      · split
        · split
          · rfl
          · exact sendSeq_events ..
        · rfl

theorem hostLog_due (e : Ev) : (s.hostLog e).events.due = s.events.due := by
  have hring := ringRecord_events s s.events.logRing logUnit (logRecord e)
  unfold State.hostLog
  split
  · next hr =>
    rw [hr] at hring
    exact (congrArg EventState.due hring :)
  · next hr =>
    rw [hr] at hring
    exact (congrArg EventState.due hring :)

theorem startPulse_due (k : Nat) (e : Ev) : (s.startPulse k e).events.due = s.events.due := by
  unfold State.startPulse
  split <;> rfl

/-- No source mirrors BELL_RUNG (R372): the notice makes nothing due. -/
theorem bellNotice_due : s.bellNotice.events.due = s.events.due := rfl

end KeepsEvents

/-! ## What a wave makes due (R374, R382, R386) -/

/-- What can be due after `g` waves: re-raises of generations `g` to 7 and the notice of a Bell that an event below generation 8
rang, but no trigger without an event. -/
def Due.late (g : Nat) : Due → Prop
  | .event e => g ≤ e.gen ∧ e.gen ≤ 7
  | .notice => g ≤ 8
  | .bell _ => False
  | .treeBell _ => False

/-- What is delivered here makes due only what is late by `g`: a re-raise stands one generation above its event, a trigger
without an event raises a fresh one, and a notice raises nothing. -/
def Due.leads (g : Nat) : Due → Prop
  | .event e => g ≤ e.gen + 1 ∧ g ≤ 8
  | .notice => True
  | .bell _ => g = 0
  | .treeBell _ => g = 0

/-- All that is due is late by `g`. -/
def State.lateDue (g : Nat) (s : State) : Prop := ∀ d ∈ s.events.due, d.late g

theorem leads_zero (d : Due) : d.leads 0 := by
  cases d with
  | event e => exact ⟨Nat.zero_le _, Nat.zero_le _⟩
  | bell c => exact rfl
  | treeBell n => exact rfl
  | notice => exact trivial

theorem leads_of_late {g : Nat} {d : Due} (h : d.late g) : d.leads (g + 1) := by
  cases d with
  | event e => exact ⟨Nat.succ_le_succ h.1, Nat.succ_le_succ (Nat.le_trans h.1 h.2)⟩
  | bell c => exact h.elim
  | treeBell n => exact h.elim
  | notice => exact trivial

/-- After nine waves nothing can be late: the generations end at 7 (R382). -/
theorem not_late {g : Nat} (hg : 9 ≤ g) (d : Due) : ¬d.late g := by
  cases d with
  | event e => rintro ⟨h1, h2⟩; omega
  | bell c => exact id
  | treeBell n => exact id
  | notice => exact fun h : g ≤ 8 => by omega

section Wave
variable {g : Nat} {s : State}

theorem lateDue_of_due {t : State} (h : t.events.due = s.events.due) (hs : s.lateDue g) : t.lateDue g := by
  rwa [State.lateDue, h]

theorem lateDue_snoc {d : Due} {t : State} (h : t.events.due = s.events.due ++ [d]) (hs : s.lateDue g) (hd : d.late g) :
    t.lateDue g := by
  rw [State.lateDue, h, List.forall_mem_append]
  exact ⟨hs, List.forall_mem_singleton.2 hd⟩

theorem reRaise_lateDue (hs : s.lateDue g) (src : Nat) {e : Ev} (he : g ≤ e.gen + 1) (b : Bool) :
    (s.reRaise src e b).lateDue g := by
  unfold State.reRaise
  split
  · exact hs
  · split
    · exact hs
    · next h7 => exact lateDue_snoc rfl hs ⟨he, by show e.gen + 1 ≤ 7; omega⟩

theorem raise_lateDue (hs : s.lateDue 0) (src : Nat) : (s.raise src).lateDue 0 :=
  lateDue_snoc rfl hs ⟨Nat.zero_le _, Nat.zero_le _⟩

/-- The generation of the event that a Bell raises: one above the event that rang it, or a fresh one. -/
def rungGen (e : Option Ev) : Nat := (e.map (·.gen + 1)).getD 0

theorem ring_lateDue (hs : s.lateDue g) (cause : Nat) (tree : Option Word) {e : Option Ev} (he : g ≤ rungGen e) (h8 : g ≤ 8) :
    (s.ring cause tree e).lateDue g := by
  have noticed (t : State) (ht : t.lateDue g) :
      (if t.events.bell.notify = 1 then t.onEvents fun v => { v with due := v.due ++ [.notice] } else t).lateDue g := by
    split
    · exact lateDue_snoc rfl ht h8
    · exact ht
  unfold State.ring
  cases e with
  | none =>
    obtain rfl : g = 0 := Nat.le_zero.1 he
    dsimp only
    refine noticed _ (raise_lateDue ?_ _)
    exact lateDue_of_due (s := s) rfl hs
  | some e =>
    dsimp only
    refine noticed _ (reRaise_lateDue ?_ _ he _)
    exact lateDue_of_due (s := s) rfl hs

theorem trigger_lateDue (hs : s.lateDue g) (cause : Nat) (tree : Option Word) {e : Option Ev} (he : g ≤ rungGen e)
    (h8 : g ≤ 8) : (s.trigger cause tree e).lateDue g := by
  unfold State.trigger
  dsimp only
  split
  · exact hs
  · split
    · exact hs
    · split
      · split <;> exact lateDue_of_due (s := s) rfl hs
      · split
        · exact hs
        · exact ring_lateDue hs cause tree he h8

theorem toTree_lateDue (hs : s.lateDue g) (tag : Nat) {e : Ev} (he : g ≤ e.gen + 1) : (s.toTree tag e).lateDue g := by
  unfold State.toTree
  dsimp only
  split
  · exact lateDue_of_due (congrArg EventState.due (route_events ..)) (reRaise_lateDue hs _ he _)
  · exact lateDue_of_due (congrArg EventState.due (route_events ..)) hs

theorem deliverTo_lateDue (hs : s.lateDue g) {e : Ev} (he : g ≤ e.gen + 1) (h8 : g ≤ 8) (c : Nat) :
    (s.deliverTo e c).lateDue g := by
  unfold State.deliverTo
  split
  · exact trigger_lateDue hs _ _ he h8
  · split
    · exact lateDue_of_due (hostLog_due ..) hs
    · split
      · exact hs
      · split
        · exact toTree_lateDue hs _ he
        · split
          · exact lateDue_of_due (startPulse_due ..) hs
          · exact hs

theorem deliver_lateDue (hs : s.lateDue g) {e : Ev} (he : g ≤ e.gen + 1) (h8 : g ≤ 8) (gate : BitVec 16) :
    (s.deliver gate e).2.lateDue g := by
  unfold State.deliver
  split
  · exact hs
  · exact List.foldlRecOn (motive := State.lateDue g) _ _ hs fun t ht c _ => deliverTo_lateDue ht he h8 c

/-- The switches that an event asks for carry the event. -/
theorem deliver_switches (gate : BitVec 16) (e : Ev) (s : State) : ∀ x ∈ (s.deliver gate e).1, x.event = e := by
  unfold State.deliver
  split
  · exact List.forall_mem_nil _
  · intro x hx
    obtain ⟨c, -, rfl⟩ := List.mem_map.1 hx
    rfl

theorem switchGroups_lateDue (hs : s.lateDue g) {sw : List Switch} (hsw : ∀ x ∈ sw, g ≤ x.event.gen + 1) :
    (s.switchGroups sw).lateDue g := by
  refine List.foldlRecOn (motive := State.lateDue g) _ _ hs fun t ht k _ => ?_
  dsimp only
  split
  · exact ht
  · next x hx =>
    have hmem : x ∈ sw := by
      rcases (Option.orElse_eq_some ..).1 hx with h | ⟨-, h⟩
      · exact List.mem_of_mem_filter (List.mem_of_find?_eq_some h)
      · exact List.mem_of_mem_filter (List.mem_of_mem_head? h)
    split
    · exact ht
    · refine reRaise_lateDue ?_ _ (hsw x hmem) _
      exact lateDue_of_due (s := t) rfl ht

theorem dueNow_lateDue (hs : s.lateDue g) {d : Due} (hd : d.leads g) : (s.dueNow d).lateDue g := by
  cases d with
  | event e => exact hs
  | bell c =>
    obtain rfl : g = 0 := hd
    exact trigger_lateDue hs _ _ (Nat.zero_le _) (Nat.zero_le _)
  | treeBell n =>
    obtain rfl : g = 0 := hd
    exact trigger_lateDue hs _ _ (Nat.zero_le _) (Nat.zero_le _)
  | notice => exact lateDue_of_due (bellNotice_due s) hs

theorem mem_insertEv {x e : Ev} {l : List Ev} (h : x ∈ insertEv e l) : x = e ∨ x ∈ l := by
  induction l with
  | nil => exact .inl (List.mem_singleton.1 h)
  | cons y l ih =>
    unfold insertEv at h
    split at h
    · rcases List.mem_cons.1 h with rfl | h
      · exact .inr List.mem_cons_self
      · exact (ih h).imp_right (List.mem_cons_of_mem _)
    · exact List.mem_cons.1 h

/-- The events that a wave puts in order were due. -/
theorem event_mem_due {ds : List Due} {f : Due → Option Ev} (hf : ∀ d e, f d = some e → d = .event e) {e : Ev}
    (he : e ∈ (ds.filterMap f).foldl (fun l e => insertEv e l) []) : .event e ∈ ds := by
  refine List.foldlRecOn (motive := fun l : List Ev => ∀ x ∈ l, Due.event x ∈ ds) _ _ (List.forall_mem_nil _)
    (fun l hl y hy x hx => ?_) e he
  rcases mem_insertEv hx with rfl | hx
  · obtain ⟨d, hd, hdx⟩ := List.mem_filterMap.1 hy
    exact hf d x hdx ▸ hd
  · exact hl x hx

/-- Part of a wave is delivered: what is due is late by `g`, and so is what the switches asked for will make due. -/
def LateStage (g : Nat) (acc : List Switch × State) : Prop := acc.2.lateDue g ∧ ∀ x ∈ acc.1, g ≤ x.event.gen + 1

theorem LateStage.deliver {acc : List Switch × State} (h : LateStage g acc) {e : Ev} (he : g ≤ e.gen + 1) (h8 : g ≤ 8)
    (gate : BitVec 16) : LateStage g (acc.1 ++ (acc.2.deliver gate e).1, (acc.2.deliver gate e).2) := by
  refine ⟨deliver_lateDue h.1 he h8 gate, List.forall_mem_append.2 ⟨h.2, fun x hx => ?_⟩⟩
  rwa [deliver_switches gate e _ x hx]

theorem LateStage.switched {acc : List Switch × State} (h : LateStage g acc) : (acc.2.switchGroups acc.1).lateDue g :=
  switchGroups_lateDue h.1 h.2

/-- A wave makes due only what its deliveries lead to. -/
theorem wave_lateDue (hd : ∀ d ∈ s.events.due, d.leads g) : s.wave.lateDue g := by
  have hnow : (s.events.due.foldl State.dueNow (s.onEvents fun v => { v with due := [] })).lateDue g :=
    List.foldlRecOn (motive := State.lateDue g) _ _ (List.forall_mem_nil _) fun t ht d hmem => dueNow_lateDue ht (hd d hmem)
  unfold State.wave
  dsimp only
  refine LateStage.switched (List.foldlRecOn (motive := LateStage g) _ _ ⟨hnow, List.forall_mem_nil _⟩
    fun acc hacc e he => ?_)
  have hev : Due.event e ∈ s.events.due := event_mem_due (fun d e hd => by split at hd <;> cases hd; rfl) he
  obtain ⟨hgen, h8⟩ : g ≤ e.gen + 1 ∧ g ≤ 8 := hd _ hev
  exact hacc.deliver hgen h8 _

theorem waves_due {n : Nat} (hn : 9 ≤ g + n) (hs : s.lateDue g) : (State.waves n s).events.due = [] := by
  induction n generalizing g s with
  | zero => exact List.eq_nil_iff_forall_not_mem.2 fun d hd => not_late hn d (hs d hd)
  | succ n ih =>
    unfold State.waves
    split
    · next h => exact List.isEmpty_iff.1 h
    · exact ih (by omega) (wave_lateDue fun d hd => leads_of_late (hs d hd))

end Wave

/-- Whatever is due, the fuel of 32 waves outlasts it. -/
theorem waves_empty (s : State) : (State.waves 32 s).events.due = [] := by
  unfold State.waves
  split
  · next h => exact List.isEmpty_iff.1 h
  · exact waves_due (g := 0) (by decide) (wave_lateDue fun d _ => leads_zero d)

theorem settled_settle (s : State) : (settle s).settled = true := by
  unfold settle
  split
  · next h => exact h
  · rw [State.settled, onEvents_events, waves_empty]
    rfl

@[simp] theorem ended_events (q : List Instr) (s : State) : (ended q s).events = (finish s).events := by rw [ended]

theorem settled_finish (s : State) : (finish s).settled = true := settled_settle _

theorem settled_ended (q : List Instr) (s : State) : (ended q s).settled = true := by
  rw [State.settled, ended_events]
  exact settled_finish s

theorem settled_tick {s : State} (h : s.settled = true) : (tick s).settled = true := by
  unfold tick
  dsimp only
  split
  · exact h
  · split
    · exact h
    · exact settled_settle _

end Sys2Proof.Machine

namespace Sys2Proof

open Machine

/-- Settles O5: the state after reset holds nothing that could be due. -/
theorem settledAtReset : Obligations.SettledAtReset := by
  unfold Obligations.SettledAtReset
  exact ⟨rfl, rfl⟩

/-- Settles O6: every command ends by delivering what is due, and so does a cycle that raises an event; each wave moves what
is due one generation on, and generation 7 is the last. That a trigger joins a Bell within the same step alone, and that all
consequences fall into the step that caused them, are the model's choices (log entries 3 and 4). -/
theorem settledIsKept : Obligations.SettledIsKept := by
  unfold Obligations.SettledIsKept
  intro s t hs hstep
  unfold step at hstep
  split at hstep
  · cases hstep
    exact settled_tick hs
  · next i rest _ =>
    obtain ⟨u, hu⟩ := exec_ended i { s with pending := rest }
    rw [hu] at hstep
    cases hstep
    exact settled_ended ..

end Sys2Proof

/-! # Links of a Tabsout tree -/

namespace Sys2Proof.Machine

section Link
variable {s : State} {t : Nat}

theorem treePort_onTreePort (h : t < s.tree.ports.length) (f : TreePort → TreePort) :
    (s.onTreePort t f).treePort t = f (s.treePort t) := modAt_getD_same h ..

theorem treePort_onTreePort_other {q : Nat} (h : q ≠ t) (f : TreePort → TreePort) (s : State) :
    (s.onTreePort t f).treePort q = s.treePort q := modAt_getD_other h ..

/-! ## A link that is down (R399) -/

theorem downLink_keeps (hd : (s.treePort t).up = false) (n : Nat) (bs : List Byte) :
    sequencedFlitReceived t bs s = s ∧ linkAckReceived t n s = s ∧ nakReceived t n s = s ∧ replayTimeout t s = s ∧
      ackFlitTimer t s = s ∧ idleFlitTimer t s = s ∧ linkDownTimeout t s = s ∧
      ∀ last, controlMessageFlit t n bs last s = s := by
  have hreplay : s.replay t = s := if_pos (by rw [hd]; rfl)
  have hack : linkAckReceived t n s = s := if_neg (by rw [hd]; decide)
  refine ⟨if_pos (by rw [hd]; rfl), hack, by rw [nakReceived, hack, hreplay], hreplay,
    if_neg (by rw [hd, Bool.false_and]; decide), if_neg (by rw [hd]; decide), if_neg (by rw [hd]; decide),
    fun last => if_pos (by rw [hd, Bool.not_false, Bool.or_true])⟩

/-! ## Acknowledgement and replay (R397 to R399) -/

/-- An ACK that names no unacknowledged flit frees none. -/
theorem ackTo_unknown {n : Nat} (h : (s.treePort t).unacked.findIdx? (fun sf => sf.1.toNat == n) = none) :
    s.ackTo t n = s := by
  simp only [State.ackTo, h]

/-- With no flit waiting, an ACK frees the flits up to the one named and nothing goes out. -/
theorem ackTo_known {n i : Nat} (h : (s.treePort t).unacked.findIdx? (fun sf => sf.1.toNat == n) = some i)
    (hw : (s.treePort t).waiting = []) : s.ackTo t n = s.onTreePort t fun p =>
      { p with unacked := p.unacked.drop (i + 1), fruitless := 0, replaying := false } := by
  simp only [State.ackTo, h, hw]
  rfl

theorem linkAckReceived_up (hu : (s.treePort t).up = true) (n : Nat) : linkAckReceived t n s = s.ackTo t n := if_pos hu

theorem replay_once (hu : (s.treePort t).up = true) {f : BitVec 12 × Flit} (hf : (s.treePort t).unacked = [f])
    (h8 : (s.treePort t).fruitless < 8) : s.replay t = ((s.countLink t 1 1).onTreePort t fun p =>
      { p with fruitless := p.fruitless + 1, replaying := true }).sendFlit t (some f.1) f.2 := by
  simp only [State.replay, hu, hf, if_neg (Nat.not_le.2 h8)]
  rfl

theorem replay_ninth (hu : (s.treePort t).up = true) (hf : (s.treePort t).unacked ≠ []) (h8 : 8 ≤ (s.treePort t).fruitless) :
    s.replay t = s.linkDown t := by
  have hsome : (s.treePort t).unacked.isEmpty = false := List.isEmpty_eq_false_iff.2 hf
  simp only [State.replay, hu, hsome, if_pos h8]
  rfl

/-! ## Sequenced flits (R397) -/

/-- What port `t` keeps of a flit that it accepts: its SEQ, an ACK to send, and the count. -/
def State.flitAccepted (t : Nat) (s : State) : State :=
  (s.onTreePort t fun p => { p with rxSeq := p.rxSeq + 1, nakSent := false, ackDue := true }).countLink t 3 1

theorem flitAccepted_same (ht : t < s.tree.ports.length) : (s.flitAccepted t).treePort t =
    { s.treePort t with
      rxSeq := (s.treePort t).rxSeq + 1, nakSent := false, ackDue := true, cnt := addAt (s.treePort t).cnt 3 1 } := by
  rw [State.flitAccepted, State.countLink, treePort_onTreePort (Nat.lt_of_lt_of_eq ht (modAt_length ..).symm),
    treePort_onTreePort ht]

theorem flitAccepted_other {q : Nat} (h : q ≠ t) (s : State) : (s.flitAccepted t).treePort q = s.treePort q := by
  rw [State.flitAccepted, State.countLink, treePort_onTreePort_other h, treePort_onTreePort_other h]

/-- The next flit in sequence, sound and with nothing to acknowledge, is accepted and passed on. -/
theorem sequencedFlitReceived_next {bs : List Byte} (hu : (s.treePort t).up = true) (hun : (s.treePort t).unacked = [])
    (hlen : bs.length = 256) (hcrc : crc32c (bs.take 252) = BitVec.ofNat 32 (leNat (bs.drop 252)))
    (hseq : leNat (bs.take 2) % 4096 = ((s.treePort t).rxSeq + 1).toNat) : sequencedFlitReceived t bs s =
      (s.flitAccepted t).route (flitOf bs) (some t) := by
  have hack (n : Nat) : s.ackTo t n = s := ackTo_unknown (by rw [hun]; rfl)
  simp only [sequencedFlitReceived, hu, hlen, hcrc, hseq, hack, beq_self_eq_true, Bool.and_self, Bool.not_true,
    Bool.false_eq_true, if_false, if_true]
  rfl

/-- A flit cut short is counted; the first after an acceptance sends NAK. -/
theorem sequencedFlitReceived_cut {bs : List Byte} (hu : (s.treePort t).up = true) (hlen : bs.length ≠ 256) :
    sequencedFlitReceived t bs s = if (s.treePort t).nakSent then s.countLink t 0 1 else
      ((s.countLink t 0 1).sendUnseq t ((s.countLink t 0 1).ownFlit .link .link 0 .nak)).onTreePort t fun p =>
        { p with nakSent := true } := by
  have hbad : (bs.length == 256) = false := beq_false_of_ne hlen
  simp only [sequencedFlitReceived, hu, hbad, Bool.false_and, Bool.not_true, Bool.false_eq_true, if_false]

/-! ## Exchange (R394, R400) -/

/-- A standalone device, and one without a version in common, refuses the link. -/
theorem exchangeFlitReceived_refused {x : ExchangeInfo} (he : (s.treePort t).exchanging = true)
    (h : s.tree.cfg.role = 0 ∨ linkVersions.filter (fun v => x.versions.contains v) = []) : exchangeFlitReceived t x s =
      (s.onTreePort t fun p => { p with exchanging := false }).portToDetect (2 + t) := by
  simp only [exchangeFlitReceived, he, Bool.not_true, Bool.false_eq_true, if_false]
  split
  · next v hv =>
    refine if_pos (h.resolve_right fun hnone => ?_)
    rw [hnone] at hv
    cases hv
  · rfl

/-- The link comes up with the highest common version and starts its sequence anew. -/
theorem exchangeFlitReceived_up {x : ExchangeInfo} {v : Nat} {w : State} (he : (s.treePort t).exchanging = true)
    (hr : s.tree.cfg.role = 1) (hv : (linkVersions.filter fun v => x.versions.contains v).getLast? = some v)
    (hw : w = (s.sendUnseq t s.exchangeFlit).portToActive (2 + t)) (ht : t < w.tree.ports.length) :
    ∃ use, (exchangeFlitReceived t x s).treePort t =
      { w.treePort t with
        exchanging := false, up := true, version := v, partnerSerial := x.serial, txSeq := 0, rxSeq := 0xFFF, unacked := []
        waiting := [], nakSent := false, ackDue := false, fruitless := 0, replaying := false, use } := by
  have hrole : ¬s.tree.cfg.role = 0 := by rw [hr]; decide
  simp only [exchangeFlitReceived, he, hv, ← hw, if_neg hrole, Bool.not_true, Bool.false_eq_true, if_false]
  rw [State.treePort, notice_tree]
  exact ⟨_, treePort_onTreePort ht _⟩

/-! ## Messages (R404) -/

/-- A whole message of a link that leads to no head is refused, and nothing of it stays behind. -/
theorem controlMessageFlit_denied {bs : List Byte} {m : Mailbox} (ht : t < 4) (hu : (s.treePort t).up = true)
    (hm : s.isMember = false) (hmb : s.control.mailboxes[12 + t]? = some m) (hp : m.partialMsg = []) :
    controlMessageFlit t 0 bs true s =
      let v := s.onMbx (12 + t) fun m => { m with partialMsg := [] }
      v.post (12 + t) (replyPost (leNat ((bs.drop 2).take 2))
        { mb := 12 + t, major := if (bs.headD 0).toNat = 2 then 2 else 3, minor := 0, tag := leNat ((bs.drop 4).take 2),
          byHandle := false, items := [] } stDenied (errItems 0 0) v) := by
  have hopen : (decide (4 ≤ t) || !(s.treePort t).up) = false := by rw [hu, decide_eq_false (by omega)]; rfl
  simp only [controlMessageFlit, hopen, hm, hmb, hp, Option.map_some, Option.getD_some, List.length_nil, Nat.zero_mod,
    List.nil_append, Bool.false_and, Bool.not_true, Bool.false_eq_true, ne_eq, not_true_eq_false, and_self, if_true, if_false]

end Link

end Sys2Proof.Machine

namespace Sys2Proof

open Machine

/-- Settles O53: each event's equation for the case that the clause describes. That SEQ restarts at link up, and that DENIED
stands at position 0, are the model's choices (log entry 50). -/
theorem treeLinkEvents : Obligations.TreeLinkEvents := by
  unfold Obligations.TreeLinkEvents
  refine ⟨?_, ?_, ?_, ?_, ?_, ?_, ?_, ?_, ?_, ?_, ?_, ?_, ?_, ?_⟩
  · -- a link that is down
    intro s t n bs hd
    obtain ⟨hseq, hack, hnak, hreplay, hackTimer, hidle, hloss, hmessage⟩ := downLink_keeps hd n bs
    exact ⟨runs_event rfl hseq, runs_event rfl hack, runs_event rfl hnak, runs_event rfl hreplay, runs_event rfl hackTimer,
      runs_event rfl hidle, runs_event rfl hloss, fun last => runs_event rfl (hmessage last)⟩
  · -- SEQUENCED_FLIT_RECEIVED, the next one
    intro s t n bs ht hu hun hn hlen hcrc hseq
    refine runs_event rfl ⟨s.flitAccepted t, sequencedFlitReceived_next hu hun hlen hcrc (hn ▸ hseq), ?_⟩
    rw [flitAccepted_same ht]
    exact ⟨rfl, rfl, rfl, addAt_same .., fun q hq => flitAccepted_other hq s⟩
  · -- SEQUENCED_FLIT_RECEIVED, a later discard
    intro s t bs hu hlen hnak
    refine runs_event rfl ?_
    rw [sequencedFlitReceived_cut hu hlen, hnak, if_pos rfl]
  · -- SEQUENCED_FLIT_RECEIVED, the first discard
    rintro s v t bs hu hlen hnak rfl
    refine runs_event rfl ?_
    rw [sequencedFlitReceived_cut hu hlen, hnak]
    rfl
  · -- LINK_ACK_RECEIVED
    intro s t i n hu hw hi ht
    refine runs_event rfl ?_
    rw [linkAckReceived_up hu, ackTo_known hi hw, treePort_onTreePort ht]
    exact ⟨rfl, rfl, rfl, fun q hq => treePort_onTreePort_other hq ..⟩
  · -- an ACK that names no flit
    intro s t n hu hnone
    have hack : linkAckReceived t n s = s := by rw [linkAckReceived_up hu, ackTo_unknown hnone]
    exact ⟨runs_event rfl hack, runs_event rfl (congrArg (State.replay t) hack)⟩
  · exact fun s t f hu hf h8 => runs_event rfl (replay_once hu hf h8)
  · exact fun s t hu hf h8 => runs_event rfl (replay_ninth hu hf h8)
  · -- the timers of a link that is up
    intro s t hu
    refine ⟨runs_event rfl rfl, runs_event rfl (if_pos hu), runs_event rfl (if_pos hu), fun hn => runs_event rfl (if_neg ?_),
      fun hd => runs_event rfl (if_pos ?_)⟩
    · rw [hn, Bool.and_false]
      exact Bool.false_ne_true
    · rw [hu, hd]
      rfl
  · exact fun s t he => runs_event rfl (if_pos he)
  · -- outside exchange
    intro s t x he
    exact ⟨runs_event rfl (if_neg (by rw [he]; decide)), runs_event rfl (if_pos (by rw [he]; rfl))⟩
  · exact fun s t x he h => runs_event rfl (exchangeFlitReceived_refused he h)
  · -- EXCHANGE_FLIT_RECEIVED with a version in common
    intro s w t v x he hr hv hw ht
    refine runs_event rfl ?_
    obtain ⟨use, hport⟩ := exchangeFlitReceived_up he hr hv hw ht
    rw [hport]
    exact ⟨rfl, rfl, rfl, rfl, rfl, rfl, rfl⟩
  · -- CONTROL_MESSAGE_FLIT
    rintro s t bs m c ht hu hm hmb hp rfl
    exact runs_event rfl ⟨_, rfl, controlMessageFlit_denied ht hu hm hmb hp⟩

end Sys2Proof

/-! # The board-bus commands -/

namespace Sys2Proof

open Machine

/-- Settles O57: each command has only an accepted part, but for the two that wait for their transfer. That RX_RING 0 stops a
UART, and that a stopped UART sends, are the model's choices (log entry 42). -/
theorem boardBusCommands : Obligations.BoardBusCommands := by
  unfold Obligations.BoardBusCommands
  refine ⟨?_, ?_, ?_, ?_, ?_, ?_, ?_, ?_, ?_, ?_⟩
  · -- BUS_I2C_SET
    exact does_of_done (fun _ _ => rfl) fun _ _ _ => rfl
  · -- BUS_I2C_XFER
    exact fun c gs s h => runs_command rfl (runCommand_wait h rfl)
  · -- BUS_I2C_CLEAR
    exact fun c gs s h => runs_command rfl (runCommand_wait h rfl)
  · -- BUS_TARGET_SET
    exact does_of_done (fun _ _ => rfl) fun _ _ _ => rfl
  · -- BUS_UART_SET
    exact does_of_done (fun _ _ => rfl) fun _ _ _ => rfl
  · -- BUS_UART_SEND
    exact does_of_done (fun _ _ => rfl) fun _ _ _ => rfl
  · -- BUS_LENS_SET
    exact does_of_done (fun _ _ => rfl) fun _ _ _ => rfl
  · -- BUS_GPIO_SET
    exact does_of_done (fun _ _ => rfl) fun _ _ _ => rfl
  · -- BUS_STATUS_GET
    exact reads_of_items (fun _ _ => rfl) fun _ _ _ => rfl
  · -- BUS_COUNTERS_CLEAR
    exact does_of_done (fun _ _ => rfl) fun _ _ _ => rfl

end Sys2Proof

/-! # Resets and the boot -/

namespace Sys2Proof.Machine

/-! ## Resets (R448 to R450, R458, R459) -/

section Resets
variable {s : State}

theorem powerOnReset_resetCause (s : State) : (powerOnReset s).control.resetCause =
    if s.power.held = .hardStop then 0x21 else 1 := by
  simp only [powerOnReset, onPower_control, onControl_control, beq_iff_eq]

theorem resetBall_held (h : s.power.held = .thermal ∨ s.power.held = .hardStop) : resetBall s = s := by
  refine if_pos ?_
  rcases h with h | h <;> rw [h] <;> rfl

theorem resetBall_free (ht : s.power.held ≠ .thermal) (hh : s.power.held ≠ .hardStop) : resetBall s =
    (s.enterReset (some 1) .no false []).onControl fun c => { c with sincePowerGood := 0 } := by
  refine if_neg ?_
  rw [beq_false_of_ne ht, beq_false_of_ne hh]
  decide

theorem hardStop_held (h : s.power.held = .hardStop) : hardStop s = s := if_pos (by rw [h]; rfl)

theorem hardStop_first (h : s.power.held ≠ .hardStop) : hardStop s =
    ((s.enterReset (some 5) .hardStop false []).onPower fun p => { p with faultN := true }).send .powerFault :=
  if_neg (by rw [beq_false_of_ne h]; decide)

end Resets

/-! ## The boot (R434, R451 to R453) -/

section Boot
variable {s : State}

theorem resetEnd_ignored (h : s.power.inReset = false ∨ s.power.held ≠ .no) (a b : Nat) : resetEnd a b s = s := by
  refine if_pos ?_
  rcases h with h | h
  · rw [State.awake, h]; rfl
  · rw [bne_iff_ne.2 h, Bool.or_true]

/-- What the end of a reset samples: the splits of BOOT_STRAP, the data rate and the target address (R423, R451). -/
def State.strapped (a b : Nat) (s : State) : State :=
  ((((s.onPower fun p => { p with inReset := false, bifurcation := a % 4 }).onControl fun c =>
    { c with pcie0Ep := a / 4 % 2 == 1 }).onGranary fun g => { g with dataRate := [6400, 7500, 8533].getD (a / 8 % 4) 6400 }).onBus
      fun x => { x with target := { x.target with strap := b % 8 } }).targetRevert

theorem resetEnd_sampled (hr : s.power.inReset = true) (hh : s.power.held = .no) (a b : Nat) : resetEnd a b s =
    if a % 4 = 3 ∨ a / 8 % 4 = 3 ∨ (a / 4 % 2 = 1 ∧ a % 4 ≠ 2) then (s.strapped a b).bootFail 0x20 else s.strapped a b := by
  simp only [resetEnd, State.awake, hr, hh, beq_iff_eq]
  rfl

/-- A boot stage is out of turn in reset, and while another stage stands (R452). -/
theorem outOfTurn {n : Nat} (h : s.power.inReset = true ∨ s.control.stage ≠ n) :
    (!s.awake || s.control.stage != n) = true := by
  rcases h with h | h
  · rw [State.awake, h]; rfl
  · rw [bne_iff_ne.2 h, Bool.or_true]

theorem bootRomDone_ignored (h : s.power.inReset = true ∨ s.control.stage ≠ 0) (a b : Bool) : bootRomDone a b s = s :=
  if_pos (outOfTurn h)

/-- The boot ROM ends the boot at the first of reference and NVM that fails, and otherwise goes on with the fused code. -/
theorem bootRomDone_taken (hr : s.power.inReset = false) (hs : s.control.stage = 0) (a b : Bool) : bootRomDone a b s =
    if !a then s.bootFail 0x10 else if !b then s.bootFail 0x11
    else (s.onPower fun p => { p with avsTarget := min 80 Config.avsFuse }).onControl fun c => { c with stage := 1 } := by
  simp only [bootRomDone, State.awake, hr, hs]
  rfl

theorem firmwareVerified_ignored (h : s.power.inReset = true ∨ s.control.stage ≠ 1) : firmwareVerified s = s :=
  if_pos (outOfTurn h)

/-- The firmware of slot `k` runs. -/
def State.boots (k : Nat) (second : Bool) (s : State) : State :=
  let img := s.sec.flash.getD k []
  ((s.onSec fun x => { x with booted := k, svn := imageSvn img, fwDigest := shake256 (imageBody img) }).onControl fun c =>
    { c with stage := 2, fwVersion := BitVec.ofNat 32 (imageVersion img) }).onPower fun p => { p with slotFailed := second }

/-- The slot in force comes first, then the other (R434). -/
theorem firmwareVerified_taken (hr : s.power.inReset = false) (hs : s.control.stage = 1) : firmwareVerified s =
    if s.slotCheck s.sec.nvm.bootSlot = 0 then s.boots s.sec.nvm.bootSlot false
    else if s.slotCheck (1 - s.sec.nvm.bootSlot) = 0 then s.boots (1 - s.sec.nvm.bootSlot) true
    else s.bootFail (s.slotCheck (1 - s.sec.nvm.bootSlot)) := by
  simp only [firmwareVerified, State.awake, hr, hs]
  rfl

theorem indexed_getElem? {α : Type} (l : List α) (k : Nat) : (indexed l)[k]? = (l[k]?).map fun x => (k, x) := by
  rw [indexed, List.getElem?_map, List.getElem?_zipIdx, Option.map_map, Nat.zero_add]
  rfl

/-- Twenty-four channels that train alike come up together (R276, R453). -/
theorem dramTrainingDone_alike {x : ChannelInfo} (hr : s.power.inReset = false) (hs : s.control.stage ≤ 2)
    (hd : s.granary.dramReady = false) (hx : x.trained = true) : ∃ cs,
      dramTrainingDone (List.replicate 24 x) s = (s.onGranary fun g => { g with dramReady := true, channels := cs }) ∧
      ∀ k < 24, (cs[k]?).map (fun c => (c.up, c.capacity)) =
        (s.granary.channels[k]?).map fun _ => (true, x.capacity % 4) := by
  have hget (d : ChannelInfo) (k : Nat) (hk : k < 24) : (List.replicate 24 x).getD k d = x := List.getD_replicate _ hk
  simp only [dramTrainingDone, State.awake, hr, hd, decide_eq_false (Nat.not_lt.2 hs), Bool.not_false, Bool.not_true,
    Bool.or_self, Bool.false_eq_true, if_false]
  split
  · next code hcode =>
    obtain ⟨n, hn, hbad⟩ := List.exists_of_findSome?_eq_some hcode
    simp only [hget _ n (List.mem_range.1 hn), hget _ 0 (by decide), hx, Bool.not_true, Bool.false_eq_true, ne_eq,
      not_true_eq_false, or_self, if_false, reduceCtorEq] at hbad
  · refine ⟨_, rfl, fun k hk => ?_⟩
    rw [List.getElem?_map, indexed_getElem?, Option.map_map, Option.map_map]
    refine Option.map_congr fun c _ => ?_
    simp only [Function.comp_apply, hget _ k hk]

theorem dramTrainingDone_none (hr : s.power.inReset = false) (hs : s.control.stage ≤ 2)
    (hd : s.granary.dramReady = false) : dramTrainingDone [] s = s.bootFail 0x100 := by
  simp only [dramTrainingDone, State.awake, hr, hd, decide_eq_false (Nat.not_lt.2 hs)]
  rfl

theorem dramTrainingDone_ready (hd : s.granary.dramReady = true) (cs : List ChannelInfo) : dramTrainingDone cs s = s :=
  if_pos (by rw [hd, Bool.or_true])

theorem becomeReady_early (h : s.power.inReset = true ∨ s.control.stage ≠ 2 ∨ s.granary.dramReady = false) :
    becomeReady s = s := by
  have hearly : mailboxReady s = s := by
    refine if_pos ?_
    rcases or_assoc.2 h with h | h
    · rw [outOfTurn h, Bool.true_or]
    · rw [h, Bool.not_false, Bool.or_true]
  rw [becomeReady, hearly]
  exact if_neg (by rw [Bool.not_and_self]; decide)

theorem bootStageTimeout_early (hr : s.power.inReset = false) (hs : s.control.stage < 3) :
    bootStageTimeout s = s.bootFail 0x50 := if_pos (by rw [State.awake, hr, decide_eq_true hs]; rfl)

theorem bootStageTimeout_done (hs : 3 ≤ s.control.stage) : bootStageTimeout s = s :=
  if_neg (by rw [decide_eq_false (Nat.not_lt.2 hs), Bool.and_false]; decide)

end Boot

end Sys2Proof.Machine

namespace Sys2Proof

open Machine

/-- Settles O59: each event's equation for the case that the clause describes. That HARD_STOP stands beside POWER_ON after the
power-on reset that ends a hard stop is deduced from R459 (log entry 53). -/
theorem resetAndBootEvents : Obligations.ResetAndBootEvents := by
  unfold Obligations.ResetAndBootEvents
  refine ⟨?_, ?_, ?_, ?_, ?_, ?_, ?_, ?_, ?_, ?_, ?_, ?_, ?_, ?_, ?_, ?_, ?_, ?_⟩
  · exact fun s => ⟨runs_event rfl rfl, runs_event rfl rfl, runs_event rfl rfl⟩
  · -- what a power-on reset leaves
    exact fun s => ⟨rfl, rfl, rfl, rfl, rfl, rfl, rfl, powerOnReset_resetCause s, rfl⟩
  · exact fun s h => runs_event rfl (resetBall_held h)
  · -- RESET_BALL
    intro s ht hh
    refine runs_event rfl ?_
    rw [resetBall_free ht hh]
    exact ⟨rfl, rfl, rfl, rfl, rfl, rfl, rfl, rfl, rfl, rfl⟩
  · -- HARD_STOP
    intro s h
    refine runs_event rfl ?_
    rw [hardStop_first h]
    exact ⟨rfl, rfl, rfl, rfl, rfl, rfl⟩
  · exact fun s h => runs_event rfl (hardStop_held h)
  · exact fun s a b h => runs_event rfl (resetEnd_ignored h a b)
  · -- RESET_END
    intro s a b hr hh
    refine runs_event rfl ?_
    rw [resetEnd_sampled hr hh]
    split
    · next hbad =>
      refine ⟨rfl, rfl, rfl, rfl, rfl, fun _ => ⟨rfl, rfl⟩, fun h3 h8 h4 => ?_⟩
      exfalso
      omega
    · next hgood => exact ⟨rfl, rfl, rfl, rfl, rfl, fun hbad => absurd hbad hgood, fun _ _ _ => rfl⟩
  · exact fun s a b h => runs_event rfl (bootRomDone_ignored h a b)
  · -- BOOT_ROM_DONE
    intro s b hr hs
    refine ⟨runs_event rfl (bootRomDone_taken hr hs false b), runs_event rfl (bootRomDone_taken hr hs true false),
      runs_event rfl ?_⟩
    rw [bootRomDone_taken hr hs]
    exact ⟨rfl, rfl, rfl⟩
  · exact fun s h => runs_event rfl (firmwareVerified_ignored h)
  · -- FIRMWARE_VERIFIED
    intro s hr hs
    refine runs_event rfl ?_
    rw [firmwareVerified_taken hr hs]
    split
    · exact ⟨rfl, rfl, rfl, rfl, rfl⟩
    · split
      · exact ⟨rfl, rfl, rfl⟩
      · rfl
  · -- DRAM_TRAINING_DONE
    intro s x hr hs hd hx
    obtain ⟨cs, hcs, hk⟩ := dramTrainingDone_alike hr hs hd hx
    refine runs_event rfl ?_
    rw [hcs]
    refine ⟨rfl, rfl, fun k hlt h24 => ?_⟩
    rw [onGranary_granary, hk k h24, List.getElem?_eq_getElem hlt, Option.map_some]
  · exact fun s hr hs hd => runs_event rfl (dramTrainingDone_none hr hs hd)
  · exact fun s hd => runs_event rfl (dramTrainingDone_ready hd [])
  · exact fun s h => runs_event rfl (becomeReady_early h)
  · exact fun s hr hs => runs_event rfl (bootStageTimeout_early hr hs)
  · exact fun s hs => runs_event rfl (bootStageTimeout_done hs)

end Sys2Proof
